-- ==== Sys2Proof/Word.lean ====
section
/-!
DEFINITION. The plain value types of the model: bytes, byte strings, the header vector and the metadata block
(spec/00_scope.md R6 to R9, spec/03_parsing.md R87, spec/04_match_action.md R111).

Numbers the manual never adds bit by bit (counts, indexes, register values with a stated range, times in
nanoseconds) are natural numbers; what it treats as a block of bits is a bit vector.
-/

namespace Sys2Proof

/-- One byte. -/
abbrev Byte := BitVec 8

/-- Bytes in order, the first at the lowest address (R9) or first on the wire (R8). -/
abbrev Bytes := List Byte

/-- The 512-byte header vector of one packet; byte 0 holds the most significant bits (R92, R113). -/
abbrev Hv := BitVec 4096

/-- The 128-byte metadata block as one 1,024-bit little-endian number: bit b of word w is bit 64 w + b (R113). -/
abbrev Md := BitVec 1024

/-- The value at which every counter saturates (R13). -/
def u64Max : Nat := 0xFFFFFFFFFFFFFFFF

end Sys2Proof
end

