-- ==== Sys2Proof/Types.lean ====
section
/-!
DEFINITION. The compound values that commands carry and the state keeps: the content of a pipeline image and of a
pattern set (spec/03 R91 to R107, spec/04 R113 to R136, spec/05 R145, spec/06 R176 and R187 to R189), of a firmware
container (spec/15), and the small enumerations that name agents, places and findings.
-/

namespace Sys2Proof

/-- The content of a pipeline image (R142), each memory as a list of (number, word) pairs; an entry that is not
listed is 0. The words have the layouts of the manual's tables: node entries are 256-bit numbers with word 0 in the
low bits (Table 03-2), declarations are 128-bit numbers (Tables 05-1 and 06-1). -/
structure PipeImage where
  /-- image version, read as PIPE_IMAGE_VERSION -/
  version : Nat
  /-- parse node entries by node number, Table 03-2 -/
  nodes : List (Nat × Nat)
  /-- transition entries, Table 03-4 -/
  trans : List (Nat × Nat)
  /-- assist instructions, Table 03-5 -/
  assist : List (Nat × Nat)
  /-- assist-program table: (first instruction, length), R107 -/
  programs : List (Nat × Nat)
  /-- key profiles: position × 64 + profile ↦ its selectors in index order, Table 04-2 -/
  profiles : List (Nat × List Nat)
  /-- lookup slots: position × 4 + slot ↦ descriptor, Table 04-3 -/
  slots : List (Nat × Nat)
  /-- action entries: position × 4096 + index ↦ primitive words, Table 04-5 -/
  actions : List (Nat × List Nat)
  /-- counter banks: bank ↦ declared pairs, R128 -/
  banks : List (Nat × Nat)
  /-- table declarations, Table 05-1 -/
  tables : List Nat
  /-- trie table ↦ longest prefix length L it accepts, R154 -/
  trieLen : List (Nat × Nat)
  /-- learnable table ↦ learn-context selector, R145 -/
  learnCtx : List (Nat × Nat)
  /-- ternary table declarations, Table 06-1 -/
  tern : List Nat
  /-- deparser emit entries 0 to 31, Table 04-8 -/
  emits : List (Nat × Nat)
  /-- carry map: runs of header-vector bytes (start, length), R201 -/
  carry : List (Nat × Nat)
  deriving DecidableEq, Repr

/-- Regular expressions over bytes (R188). Repetition counts and POSIX bracket forms are written out with these. -/
inductive Re where
  /-- matches nothing -/
  | none
  /-- matches the empty string -/
  | eps
  /-- one byte in one of the inclusive ranges -/
  | cls (ranges : List (Nat × Nat))
  /-- one after the other -/
  | cat (a b : Re)
  /-- either -/
  | alt (a b : Re)
  /-- any number of times -/
  | star (a : Re)
  deriving DecidableEq, Repr

/-- One pattern of a set, with the flags of R188. -/
structure Pattern where
  id : Nat
  re : Re
  /-- the case-insensitive flag -/
  icase : Bool
  /-- the start anchor -/
  anchored : Bool
  deriving DecidableEq, Repr

/-- A pattern set (R187): its patterns, the image's version and the compiled size in bytes. -/
structure PatSet where
  version : Nat
  patterns : List Pattern
  compiled : Nat
  deriving DecidableEq, Repr

end Sys2Proof

namespace Sys2Proof.Machine

/-- A created queue pair (R330 to R342). -/
structure Qp where
  ctrl : Nat
  sqBase : Nat
  cqBase : Nat
  headAddr : Nat
  aux : Nat
  /-- latest producer index accepted -/
  prod : Nat
  /-- descriptors taken up -/
  taken : Nat
  /-- descriptors consumed (HX_SQ) -/
  cons : Nat
  /-- HX_CQ -/
  cq : Nat
  /-- latest consumer index accepted -/
  ccons : Nat
  /-- completion staging, oldest first: entry, and HX_SQ once it is written -/
  staged : List (Bytes × Nat)
  /-- takes no work until staging falls to 16 entries (R341) -/
  stop : Bool
  /-- entries published since the last interrupt, and the device clock of the first (R342) -/
  pend : Nat
  pendAt : Nat
  /-- page for which the pair waits for a page request (R300) -/
  page : Option Nat
  /-- producer index at which the descriptors seen held no whole packet (R336) -/
  short : Option Nat
  /-- the page that its descriptor in front needs was refused (R300) -/
  fail : Bool
  deriving DecidableEq, Repr

/-- An NVMe controller's registers (R377). -/
structure Nvme where
  cc : Nat
  csts : Nat
  aqa : Nat
  asq : Nat
  acq : Nat
  /-- aggregation of interrupts: threshold and time as the feature gives them -/
  thr : Nat
  time : Nat
  deriving DecidableEq, Repr

/-- An NVMe submission queue. -/
structure NvSq where
  base : Nat
  size : Nat
  head : Nat
  tail : Nat
  cqid : Nat
  deriving DecidableEq, Repr

/-- An NVMe completion queue; its interrupt stands in the queue pair of its number. -/
structure NvCq where
  base : Nat
  size : Nat
  head : Nat
  tail : Nat
  phase : Bool
  /-- entries that wait for room, without phase tag -/
  wait : List Nat
  deriving DecidableEq, Repr

/-- What a state image holds of a function beside its header (R354). -/
structure MigBody where
  /-- local index, context -/
  qps : List (Nat × Qp)
  msix : List (Nat × Nat × Nat × Nat)
  pba : List (Nat × Option Nat)
  pend : List (Nat × Option Nat)
  steer : List (Nat × Nat)
  page : List (Nat × Nat)
  isr : Nat
  /-- NVMe: the controller's registers, and its queues by number -/
  nvme : Option Nvme
  sq : List (Nat × NvSq)
  cq : List (Nat × NvCq)
  deriving DecidableEq, Repr

end Sys2Proof.Machine

namespace Sys2Proof

/-- How a write that has a command of its own reaches the device: an OMP request of a session, or the function's own
register. -/
inductive Via where
  /-- port 0 MA, 1 MB; session; plaintext of the record -/
  | omp (port sess : Nat) (req : Bytes)
  | page
  deriving DecidableEq, Repr

/-- A frame on an Ethernet management port that is no record of a session (R388). -/
structure MgmtFrame where
  /-- length in bytes -/
  len : Nat
  /-- VLAN identifier of an IEEE 802.1Q tag -/
  tag : Option Nat
  /-- 0 ARP request, 1 neighbour solicitation, 2 ICMP echo request, 3 ICMPv6 echo request; anything else otherwise -/
  ask : Nat
  /-- IPv4 or IPv6 address asked for -/
  addr : Nat
  /-- the port has taken that address by DHCPv4 or SLAAC -/
  auto : Bool
  deriving DecidableEq, Repr

/-- What a handshake brings (R389 to R391). -/
structure Hello where
  /-- cipher suites, key exchange groups and signature algorithms offered, by their registered numbers -/
  suites : List Nat
  groups : List Nat
  sigs : List Nat
  /-- last certificate of the client's chain, as MGMT_TRUST_ANCHOR holds one -/
  root : Nat
  /-- the handshake completes: cookie, signatures and the client's chain verify -/
  sound : Bool
  /-- every certificate is within its validity dates -/
  dated : Bool
  /-- peer address, and first 8 B of the SHA-384 of the client's certificate -/
  peer : Nat
  cert : Nat
  /-- own address it is sent to: 0 link-local or the mailbox, 1 static IPv6, 2 static IPv4, 3 by SLAAC, 4 by DHCPv4 -/
  at_ : Nat
  /-- number that the session takes, where it is free -/
  num : Nat
  deriving DecidableEq, Repr

/-- Bits of an entry of a ternary bank that are no longer as they were written (R183, R185): masks over what it holds. -/
structure TernFlip where
  bank : Nat
  entry : Nat
  /-- its four valid bits, one for each epoch stamp -/
  valid : Nat
  key : Nat
  mask : Nat
  action : Nat
  data : Nat
  deriving DecidableEq, Repr

/-- What happens to the lookups of one half of a pipeline that the tables themselves do not say. -/
structure Look where
  /-- a far result does not arrive in time (R121) -/
  late : Bool
  /-- corruption of the region's ternary banks that begins now, and lasts until it is repaired (R185) -/
  soft : List TernFlip
  deriving DecidableEq, Repr

/-- What the scrubber finds at a unit. -/
inductive ScrubFind where
  | same
  /-- bank and shadow differ, by bits that no lookup has met -/
  | differs
  /-- both shadow copies are uncorrectable -/
  | lost
  deriving DecidableEq, Repr

/-- Where an ECC error lies (R31, R465, R468). -/
inductive EccAt where
  /-- a cell of a block with nothing to repair it from -/
  | cell
  /-- device state in a bank of an HBM stack; `both`: the copy in the other stack fails as well -/
  | device (stack bank : Nat) (both : Bool)
  /-- application memory in a bank of an HBM stack, by byte offset; `both` likewise -/
  | app (stack bank off : Nat) (both : Bool)
  /-- a dirty line of a core's L1 or L2, or of the L3, by byte offset in application memory -/
  | dirty (off : Nat)
  deriving DecidableEq, Repr

/-- Instructions of the test access port (R502). -/
inductive TapInst where
  | bypass | idcode | samplePreload | extest | extestPulse | extestTrain | clamp | highz
  deriving DecidableEq, Repr

/-- How a read of the host's memory failed (R312, R313): its completion carries EP, or UR or CA status, or none comes in
time. -/
inductive ReadFail where
  | poisoned | error | timeout
  deriving DecidableEq, Repr

/-- What the host's memory answered to the reads of a command (R296): the bytes in order, or the failure of one. -/
inductive HostRead where
  | data (b : Bytes)
  | failed (why : ReadFail)
  deriving DecidableEq, Repr

/-- The bytes that an answer of the host's memory holds. -/
def HostRead.bytes : HostRead → Option Bytes
  | .data b => some b
  | .failed _ => none

/-- A request of the host that reaches a function: 0 a read, 1 a write, 2 an AtomicOp; with its ordering attributes (R298). -/
structure HostTlp where
  kind : Nat
  ro : Bool
  ido : Bool
  deriving DecidableEq, Repr

end Sys2Proof
end

