-- ==== Sys2Proof/Syntax.lean ====
section
/-!
DEFINITION. The commands of the block, one constructor for each row of spec/opcode_table.json, in its order. A command is what
happens at the device from outside (a frame, a write, a pin) or inside it by time (a decision, an expiry); it names what its
rule needs and the device cannot know otherwise.

Operands that recur: `dt` is the time in ns since the command before (log entry 1); `port` is a management or host port (0 MA or
HA, 1 MB or HB), `sess` a session of it and `req` the plaintext of a record of that session; `n` a network port, `l` a Weave or
host link, `pn` a port node (0 to 15 network ports, 16 to 23 Weave links, 24 to 26 functions), `f` a function ID or a frame's
bytes, `q` a queue of the function, `c` the controlling function of a migration, `id` a packet of the device, `region` 0 for PKA
and 1 for PKB; `given`, `param` and `data` are what reads of host memory returned.
-/

namespace Sys2Proof

/-- A command. -/
inductive Instr where
  /-- NET_FRAME_RECEIVE (R483): port, frame without FCS, FCS right, FIFO overrun -/
  | netFrameReceive (dt n : Nat) (f : Bytes) (fcsOk overrun : Bool)
  /-- PAUSE_EXPIRY (R212) -/
  | pauseExpiry (dt n : Nat)
  /-- CUT_THROUGH_FRAME_BAD (R138): packet; the frame is too long -/
  | cutThroughFrameBad (dt id : Nat) (tooLong : Bool)
  /-- INGRESS_PASS (R130): packet; what happens to its lookups -/
  | ingressPass (dt id : Nat) (look : Look)
  /-- DEFERRED_METERING (R240) -/
  | deferredMetering (dt id : Nat)
  /-- BRIDGE_CROSSING (R25) -/
  | bridgeCrossing (dt region : Nat)
  /-- TM_ADMISSION (R205): packet; the write path of the carve-out is saturated -/
  | tmAdmission (dt id : Nat) (saturated : Bool)
  /-- CARVE_OUT_FETCH (R203): queue; a cell is uncorrectable -/
  | carveOutFetch (dt eqid : Nat) (bad : Bool)
  /-- SCHEDULING_DECISION (R219): region, port node; what happens to the lookups of the egress stages -/
  | schedulingDecision (dt region pn : Nat) (look : Look)
  /-- INLINE_CIPHER_OP (R374) -/
  | inlineCipherOp (dt id : Nat)
  /-- OVERDUE_CHECK (R221) -/
  | overdueCheck (dt region : Nat)
  /-- MAX_AGE_CHECK (R70) -/
  | maxAgeCheck (dt : Nat)
  /-- STAGE_AGE_CHECK (R290) -/
  | stageAgeCheck (dt : Nat)
  /-- DIVERT_SCAN_START (R193) -/
  | divertScanStart (dt region : Nat)
  /-- DIVERT_SCAN_END (R194) -/
  | divertScanEnd (dt id : Nat)
  /-- SCRUB_VISIT (R184): region, bank, unit, what is found there -/
  | scrubVisit (dt region bank u : Nat) (found : ScrubFind)
  /-- AGE_SCAN (R165): region, table, key -/
  | ageScan (dt region table key : Nat)
  /-- GATE_EVENT (R241) -/
  | gateEvent (dt pn : Nat)
  /-- GATE_LIST_SWITCH (R242) -/
  | gateListSwitch (dt pn : Nat)
  /-- CENSUS_SWEEP_START (R248) -/
  | censusSweepStart (dt region : Nat)
  /-- CENSUS_SAMPLE (R249): queue -/
  | censusSample (dt eqid : Nat)
  /-- IPFIX_EXPORT (R255): a collector can be reached -/
  | ipfixExport (dt : Nat) (sent : Bool)
  /-- IPFIX_TEMPLATE (R255): a collector can be reached -/
  | ipfixTemplate (dt : Nat) (sent : Bool)
  /-- NET_LINK_UP (R46): port; the partner auto-negotiates, the mode codes it offers, whether it agrees to Low Power
  Idle -/
  | netLinkUp (dt n : Nat) (an : Bool) (techs : List Nat) (lpi : Bool)
  /-- NET_LINK_DOWN (R211) -/
  | netLinkDown (dt n : Nat)
  /-- QUIESCE_APPLY (R50) -/
  | quiesceApply (dt : Nat)
  /-- READ (R396): a request -/
  | read (dt port sess : Nat) (req : Bytes)
  /-- WRITE (R396): a request -/
  | write (dt port sess : Nat) (req : Bytes)
  /-- STAGE (R56): a request -/
  | stage (dt port sess : Nat) (req : Bytes)
  /-- COMMIT (R65): a request -/
  | commit (dt port sess : Nat) (req : Bytes)
  /-- SCHEDULED_COMMIT (R79): a request -/
  | scheduledCommit (dt port sess : Nat) (req : Bytes)
  /-- EPOCH_SWITCH (R66) -/
  | epochSwitch (dt : Nat)
  /-- QUEUED_COMMIT_RUN (R67) -/
  | queuedCommitRun (dt : Nat)
  /-- EPOCH_RETIRE (R69) -/
  | epochRetire (dt : Nat)
  /-- EPOCH_DISCARD (R58): a request -/
  | epochDiscard (dt port sess : Nat) (req : Bytes)
  /-- EPOCH_AT_ARM (R78): a request -/
  | epochAtArm (dt port sess : Nat) (req : Bytes)
  /-- EPOCH_AT_CANCEL (R81): a request -/
  | epochAtCancel (dt port sess : Nat) (req : Bytes)
  /-- EPOCH_AT_RESYNC (R86): a request -/
  | epochAtResync (dt port sess : Nat) (req : Bytes)
  /-- PREPARE (R80) -/
  | prepare (dt l : Nat) (f : Bytes)
  /-- PREPARE_RESEND (R281) -/
  | prepareResend (dt : Nat)
  /-- ACK (R81) -/
  | ack (dt l : Nat) (f : Bytes)
  /-- NAK (R81) -/
  | nak (dt l : Nat) (f : Bytes)
  /-- ACK_DEADLINE (R81) -/
  | ackDeadline (dt : Nat)
  /-- CANCEL (R81) -/
  | cancel (dt l : Nat) (f : Bytes)
  /-- SCHEDULED_SWITCH (R82) -/
  | scheduledSwitch (dt : Nat)
  /-- OUTCOME_FLOOD (R281) -/
  | outcomeFlood (dt : Nat)
  /-- OUTCOME (R85) -/
  | outcome (dt l : Nat) (f : Bytes)
  /-- INSERT (R160) -/
  | insert (dt f q : Nat) (given payload : HostRead)
  /-- DELETE (R160) -/
  | delete (dt f q : Nat) (given payload : HostRead)
  /-- MODIFY (R160) -/
  | modify (dt f q : Nat) (given payload : HostRead)
  /-- CLEAR_HIT (R160) -/
  | clearHit (dt f q : Nat) (given payload : HostRead)
  /-- SHUTTLE_BRIDGE (R171) -/
  | shuttleBridge (dt region : Nat)
  /-- SHUTTLE (R283) -/
  | shuttle (dt l : Nat) (f : Bytes)
  /-- HELLO_SEND (R265) -/
  | helloSend (dt l : Nat)
  /-- HELLO (R265) -/
  | hello (dt l : Nat) (f : Bytes)
  /-- HELLO_TIMEOUT (R265) -/
  | helloTimeout (dt l : Nat)
  /-- WEAVE_LANE_LOCK (R265) -/
  | weaveLaneLock (dt l : Nat)
  /-- WEAVE_LINK_LOSS (R265) -/
  | weaveLinkLoss (dt l : Nat)
  /-- WEAVE_FRAME_RECEIVE (R275) -/
  | weaveFrameReceive (dt l : Nat) (f : Bytes) (overrun : Bool)
  /-- LINK_STATE (R267) -/
  | linkState (dt l : Nat) (f : Bytes)
  /-- LINK_STATE_ORIGINATE (R267) -/
  | linkStateOriginate (dt : Nat)
  /-- LSDB_EXPIRY (R267) -/
  | lsdbExpiry (dt : Nat)
  /-- ROUTE_RECOMPUTE (R268) -/
  | routeRecompute (dt : Nat)
  /-- CALENDAR_WINDOW (R271) -/
  | calendarWindow (dt l : Nat)
  /-- CALENDAR_SWITCH (R274) -/
  | calendarSwitch (dt : Nat)
  /-- TIME_SET (R247): a request -/
  | timeSet (dt port sess : Nat) (req : Bytes)
  /-- PPS_IN_EDGE (R482) -/
  | ppsInEdge (dt : Nat)
  /-- PPS_MISSING (R482) -/
  | ppsMissing (dt : Nat)
  /-- PERST_ASSERT (R289) -/
  | perstAssert (dt port : Nat)
  /-- PERST_DEASSERT (R289) -/
  | perstDeassert (dt port : Nat)
  /-- HOT_RESET (R289) -/
  | hotReset (dt l : Nat)
  /-- HOST_LINK_DOWN (R289) -/
  | hostLinkDown (dt l : Nat)
  /-- HOST_LINK_UP (R286): link, speed code, lanes, FLIT mode -/
  | hostLinkUp (dt l speed width : Nat) (flit : Bool)
  /-- MMIO_WRITE (R294): function, BAR (7: a field of configuration space), offset, size, value of a write, the
  request -/
  | mmioWrite (dt f bar off size val : Nat) (tlp : HostTlp)
  /-- SUBMISSION_DOORBELL (R333): function, queue, value -/
  | submissionDoorbell (dt f q v : Nat)
  /-- COMPLETION_DOORBELL (R333): function, queue, value -/
  | completionDoorbell (dt f q v : Nat)
  /-- COMPLETION_ARRIVAL (R312): link, tag, status, poisoned, data -/
  | completionArrival (dt l tag status : Nat) (ep : Bool) (data : Bytes)
  /-- COMPLETION_TIMEOUT (R312): link, tag -/
  | completionTimeout (dt l tag : Nat)
  /-- MALFORMED_TLP (R313) -/
  | malformedTlp (dt l : Nat)
  /-- PEER_TLP (R309): port, the request, operation of an AtomicOp, offset, requester, bytes, poisoned, data -/
  | peerTlp (dt port : Nat) (tlp : HostTlp) (op off rid n : Nat) (ep : Bool) (data : Bytes)
  /-- ATS_INVALIDATION (R299): function, identifier, PASID (none: all), first page, pages -/
  | atsInvalidation (dt f id : Nat) (pasid : Option Nat) (page n : Nat)
  /-- ATS_INVALIDATION_DONE (R299): function, identifier -/
  | atsInvalidationDone (dt f id : Nat)
  /-- PAGE_REQUEST_RESPONSE (R300): function, page, code -/
  | pageRequestResponse (dt f page code : Nat)
  /-- PRI_TIMEOUT (R300): function, page -/
  | priTimeout (dt f page : Nat)
  /-- L1_ENTRY (R305): link, 0 L1, 1 L1.1 or 2 L1.2, idle time in ns -/
  | l1Entry (dt l sub idleNs : Nat)
  /-- L0P_WIDTH_CHANGE (R304): link, new width, bytes sent in the last 20 µs, bytes waiting -/
  | l0pWidthChange (dt l width sent waiting : Nat)
  /-- PORT_RELEASE_RESUME (R315): how the write comes, port -/
  | portReleaseResume (dt : Nat) (via : Via) (p : Nat)
  /-- PORT_RELEASE_RESET (R315): how the write comes, port -/
  | portReleaseReset (dt : Nat) (via : Via) (p : Nat)
  /-- BME_CLEAR (R316) -/
  | bmeClear (dt f : Nat)
  /-- BME_SET (R316) -/
  | bmeSet (dt f : Nat)
  /-- FLR (R346) -/
  | flr (dt f : Nat)
  /-- D_STATE_CHANGE (R307): function; to D3hot -/
  | dStateChange (dt f : Nat) (d3 : Bool)
  /-- MSIX_UNMASK (R343): function, vector (none: the function mask) -/
  | msixUnmask (dt f : Nat) (vec : Option Nat)
  /-- QPC_CREATE (R331) -/
  | qpcCreate (dt f : Nat)
  /-- QPC_MODIFY (R330) -/
  | qpcModify (dt f : Nat)
  /-- QPC_QUERY (R330) -/
  | qpcQuery (dt f : Nat)
  /-- FN_SELF_RESET (R346): function, value -/
  | fnSelfReset (dt f v : Nat)
  /-- TX_PACKET_FETCH (R336): function, queue, descriptors or chain read -/
  | txPacketFetch (dt f q : Nat) (given : HostRead)
  /-- TX_DATA_COMPLETE (R337): function, queue -/
  | txDataComplete (dt f q : Nat)
  /-- RX_PACKET_DELIVERY (R339): function, buffer descriptors or chain read -/
  | rxPacketDelivery (dt f : Nat) (given : HostRead)
  /-- MODERATION_TIMER (R342): function, queue -/
  | moderationTimer (dt f q : Nat)
  /-- SQUASH_RESET (R346): a request -/
  | squashReset (dt port sess : Nat) (req : Bytes)
  /-- DRAIN_RESET (R347): a request -/
  | drainReset (dt port sess : Nat) (req : Bytes)
  /-- DRAIN_LIMIT (R347) -/
  | drainLimit (dt f : Nat)
  /-- FUNCTION_RESET_COMPLETE (R317) -/
  | functionResetComplete (dt f : Nat)
  /-- START_LOG (R352) -/
  | startLog (dt c : Nat)
  /-- SYNC (R350) -/
  | sync (dt c : Nat)
  /-- STOP_LOG (R352) -/
  | stopLog (dt c : Nat)
  /-- HOLD (R353) -/
  | hold (dt c : Nat)
  /-- HOLD_COMPLETE (R353) -/
  | holdComplete (dt f : Nat)
  /-- SAVE (R354) -/
  | save (dt c : Nat)
  /-- RESTORE (R355): controlling function, header and body of the state image, how a read failed -/
  | restore (dt c : Nat) (hdr : Bytes) (b : Machine.MigBody) (fail : Option ReadFail)
  /-- RELEASE (R355) -/
  | release (dt c : Nat)
  /-- CORE_INT_ENTRY_WRITE (R344): function, entry, value -/
  | coreIntEntryWrite (dt f e v : Nat)
  /-- KEY_KEK (R361): a request -/
  | keyKek (dt port sess : Nat) (req : Bytes)
  /-- KEY_SLOT_WRITE (R362): a request -/
  | keySlotWrite (dt port sess : Nat) (req : Bytes)
  /-- KEY_SLOT_ERASE (R365): a request -/
  | keySlotErase (dt port sess : Nat) (req : Bytes)
  /-- KEY_ZEROISE (R365): slot -/
  | keyZeroise (dt n : Nat)
  /-- SA_CHECKPOINT (R373) -/
  | saCheckpoint (dt : Nat)
  /-- ENCRYPT (R376) -/
  | encrypt (dt f q : Nat) (given param data : HostRead)
  /-- DECRYPT (R376) -/
  | decrypt (dt f q : Nat) (given param data : HostRead)
  /-- MAC (R376) -/
  | mac (dt f q : Nat) (given param data : HostRead)
  /-- VERIFY (R376) -/
  | verify (dt f q : Nat) (given param data : HostRead)
  /-- TLS_SEAL (R376) -/
  | tlsSeal (dt f q : Nat) (given param data : HostRead)
  /-- TLS_OPEN (R376) -/
  | tlsOpen (dt f q : Nat) (given param data : HostRead)
  /-- XTS_ENC (R376) -/
  | xtsEnc (dt f q : Nat) (given param data : HostRead)
  /-- XTS_DEC (R376) -/
  | xtsDec (dt f q : Nat) (given param data : HostRead)
  /-- SA_WRITE (R371) -/
  | saWrite (dt f q : Nat) (given param data : HostRead)
  /-- SA_READ (R375) -/
  | saRead (dt f q : Nat) (given param data : HostRead)
  /-- PATTERN_SCAN (R196): function, queue, descriptor, bytes to scan -/
  | patternScan (dt f q : Nat) (given data : HostRead)
  /-- STORAGE_COMMAND_ARRIVAL (R379): function, queue, free context, entry, descriptor chain (address, length,
  writable) -/
  | storageCommandArrival (dt f q ctx : Nat) (entry : HostRead) (chain : List (Nat × Nat × Bool))
  /-- POST (R379): function, queue -/
  | post (dt f q : Nat)
  /-- XFER (R381): function, queue, host memory read (address, bytes), how a read failed -/
  | xfer (dt f q : Nat) (mem : List (Nat × Bytes)) (fail : Option ReadFail)
  /-- RESPOND (R381): function, queue -/
  | respond (dt f q : Nat)
  /-- CONTROLLER_ENABLE (R377): function, value of CC -/
  | controllerEnable (dt f cc : Nat)
  /-- CONTROLLER_RESET (R377): function, value of CC -/
  | controllerReset (dt f cc : Nat)
  /-- CONTROLLER_SHUTDOWN (R377): function, value of CC -/
  | controllerShutdown (dt f cc : Nat)
  /-- CREATE_IO_SUBMISSION_QUEUE (R377) -/
  | createIoSubmissionQueue (dt f : Nat) (entry : Bytes)
  /-- DELETE_IO_SUBMISSION_QUEUE (R377) -/
  | deleteIoSubmissionQueue (dt f : Nat) (entry : Bytes)
  /-- CREATE_IO_COMPLETION_QUEUE (R377) -/
  | createIoCompletionQueue (dt f : Nat) (entry : Bytes)
  /-- DELETE_IO_COMPLETION_QUEUE (R377) -/
  | deleteIoCompletionQueue (dt f : Nat) (entry : Bytes)
  /-- BULK_OPEN (R400): a request -/
  | bulkOpen (dt port sess : Nat) (req : Bytes)
  /-- BULK_DATA (R401): a request -/
  | bulkData (dt port sess : Nat) (req : Bytes)
  /-- BULK_CLOSE_FINISH (R401): a request -/
  | bulkCloseFinish (dt port sess : Nat) (req : Bytes)
  /-- BULK_CLOSE_ABORT (R401): a request -/
  | bulkCloseAbort (dt port sess : Nat) (req : Bytes)
  /-- BULK_IDLE_TIMEOUT (R402): port, session, channel -/
  | bulkIdleTimeout (dt port sess n : Nat)
  /-- SUBSCRIBE (R403): a request -/
  | subscribe (dt port sess : Nat) (req : Bytes)
  /-- UNKNOWN_OPERATION (R394): a request -/
  | unknownOperation (dt port sess : Nat) (req : Bytes)
  /-- SEM_ACQUIRE (R406): a request -/
  | semAcquire (dt port sess : Nat) (req : Bytes)
  /-- SEM_RELEASE (R411): a request -/
  | semRelease (dt port sess : Nat) (req : Bytes)
  /-- MGMT_SEM_HEARTBEAT (R408): a request -/
  | mgmtSemHeartbeat (dt port sess : Nat) (req : Bytes)
  /-- LEASE_LAPSE (R409) -/
  | leaseLapse (dt : Nat)
  /-- CLIENT_HELLO (R389): port, handshake -/
  | clientHello (dt port : Nat) (h : Hello)
  /-- SESSION_CLOSE (R389): port, session -/
  | sessionClose (dt port sess : Nat)
  /-- SESSION_IDLE_TIMEOUT (R389): port, session -/
  | sessionIdleTimeout (dt port sess : Nat)
  /-- MGMT_FRAME_RECEIVE (R388): port, frame -/
  | mgmtFrameReceive (dt port : Nat) (f : MgmtFrame)
  /-- MBX_H2D_LEN (R392): value written -/
  | mbxH2dLen (dt v : Nat)
  /-- MBX_D2H_ACK (R392): value written -/
  | mbxD2hAck (dt v : Nat)
  /-- CSM_CLUSTER_CLOCK (R420): request written (none: the reply goes out) -/
  | csmClusterClock (dt : Nat) (req : Option Nat)
  /-- CSM_TIME_STATE (R420): request written (none: the reply goes out) -/
  | csmTimeState (dt : Nat) (req : Option Nat)
  /-- CSM_MODE (R420): request written (none: the reply goes out) -/
  | csmMode (dt : Nat) (req : Option Nat)
  /-- ERR_LOG_CLEAR (R476): a request -/
  | errLogClear (dt port sess : Nat) (req : Bytes)
  /-- CORE_RUN_RELEASE (R38): a request -/
  | coreRunRelease (dt port sess : Nat) (req : Bytes)
  /-- CORE_RUN_RESET (R38): a request -/
  | coreRunReset (dt port sess : Nat) (req : Bytes)
  /-- CORE_MEMORY_ACCESS (R36): hart, address, bytes, data of a store (none: a load) -/
  | coreMemoryAccess (dt h a n : Nat) (data : Option Bytes)
  /-- COLD_START (R421): strap samples; RESET_N rose; input removed since; input dipped below 10.2 V; a comparator is
  at 125 °C -/
  | coldStart (dt : Nat) (straps : List Nat) (rose removed dipped hot : Bool)
  /-- RESET_N_ASSERT (R421) -/
  | resetNAssert (dt : Nat)
  /-- VIGIL_FIRMWARE_START (R456): strap samples, images that fail a check, readable copies of the settings store,
  corrupt log records -/
  | vigilFirmwareStart (dt : Nat) (samples : List Nat) (bad : List (Nat × Nat)) (copies : Nat) (corrupt : List Nat)
  /-- HBM_TRAINING_COMPLETE (R429): each stack trained -/
  | hbmTrainingComplete (dt : Nat) (ok0 ok1 : Bool)
  /-- SERVICE_IMAGE_RUNNING (R429): images that fail a check -/
  | serviceImageRunning (dt : Nat) (bad : List (Nat × Nat))
  /-- EPOCH_ONE_COMMIT (R429) -/
  | epochOneCommit (dt : Nat)
  /-- RESCUE_FRAME_RECEIVE (R427): frame without FCS, FCS right, buffer descriptors read -/
  | rescueFrameReceive (dt : Nat) (f : Bytes) (fcsOk : Bool) (given : HostRead)
  /-- DRAIN_REQUEST (R432): a request -/
  | drainRequest (dt port sess : Nat) (req : Bytes)
  /-- VIGIL_REQUEST (R431): a request -/
  | vigilRequest (dt port sess : Nat) (req : Bytes)
  /-- HIBERNATE_REQUEST (R439): a request -/
  | hibernateRequest (dt port sess : Nat) (req : Bytes)
  /-- OFF_WAKE_REQUEST (R439): a request -/
  | offWakeRequest (dt port sess : Nat) (req : Bytes)
  /-- SERVICE_REQUEST (R440): a request -/
  | serviceRequest (dt port sess : Nat) (req : Bytes)
  /-- DRAIN_DONE (R433) -/
  | drainDone (dt : Nat)
  /-- MODE_DRAIN_LIMIT (R433) -/
  | modeDrainLimit (dt : Nat)
  /-- DORMANT_ENTRY_COMPLETE (R439) -/
  | dormantEntryComplete (dt : Nat)
  /-- DORMANT_EXIT_COMPLETE (R440) -/
  | dormantExitComplete (dt : Nat)
  /-- IDLE_ENTRY (R437): every hart waits for interrupt -/
  | idleEntry (dt : Nat) (wfi : Bool)
  /-- QUIET_ENTRY (R438) -/
  | quietEntry (dt : Nat)
  /-- LPI_WAKE (R438): network port -/
  | lpiWake (dt n : Nat)
  /-- WAKE_TIMER (R441) -/
  | wakeTimer (dt : Nat)
  /-- GPIO_WAKE_EDGE (R441): GPIO -/
  | gpioWakeEdge (dt g : Nat)
  /-- SENSOR_READ (R442): 48 readings in m°C -/
  | sensorRead (dt : Nat) (readings : List Int)
  /-- SUPPLY_MEASURE (R443): mV, mA, mW -/
  | supplyMeasure (dt mv ma mw : Nat)
  /-- THERMTRIP (R444) -/
  | thermtrip (dt : Nat)
  /-- UNDERVOLTAGE (R445) -/
  | undervoltage (dt : Nat)
  /-- OVERVOLTAGE (R445) -/
  | overvoltage (dt : Nat)
  /-- FW_WRITE_COMPLETE (R455): slot -/
  | fwWriteComplete (dt k : Nat)
  /-- HANDOVER_NOW (R459): a request -/
  | handoverNow (dt port sess : Nat) (req : Bytes)
  /-- HANDOVER_AT (R459): a request -/
  | handoverAt (dt port sess : Nat) (req : Bytes)
  /-- RESTART_AT (R462): a request -/
  | restartAt (dt port sess : Nat) (req : Bytes)
  /-- IMG_ACTIVATE_CANCEL (R463): a request -/
  | imgActivateCancel (dt port sess : Nat) (req : Bytes)
  /-- HANDOVER_PREPARED (R460): 0, or why it failed -/
  | handoverPrepared (dt code : Nat)
  /-- HANDOVER_START (R460) -/
  | handoverStart (dt : Nat)
  /-- HANDOVER_COMPLETE (R460) -/
  | handoverComplete (dt : Nat)
  /-- HANDOVER_DEFERRAL_EXPIRY (R460) -/
  | handoverDeferralExpiry (dt : Nat)
  /-- RESTART_INSTANT (R462) -/
  | restartInstant (dt : Nat)
  /-- IMG_SVN_RAISE (R453): a request -/
  | imgSvnRaise (dt port sess : Nat) (req : Bytes)
  /-- IMG_SIGNER_REVOKE (R453): a request -/
  | imgSignerRevoke (dt port sess : Nat) (req : Bytes)
  /-- SETTINGS_STORE_WRITE (R415) -/
  | settingsStoreWrite (dt : Nat)
  /-- IMAGE_STORE_WRITE (R454) -/
  | imageStoreWrite (dt : Nat)
  /-- ECC_ERROR (R465): kind of place, region, block, instance, address, correctable -/
  | eccError (dt : Nat) (at_ : EccAt) (region block inst addr : Nat) (correctable : Bool)
  /-- PARITY_ERROR (R465): region, block, instance, address, retries, the last one succeeded -/
  | parityError (dt region block inst addr retries : Nat) (ok : Bool)
  /-- BLOCK_STALL (R465): region, block, instance, found by a self-check, reset slow -/
  | blockStall (dt region block inst : Nat) (selfCheck slow : Bool)
  /-- HOLD_OUT_RETEST (R467): place; passed -/
  | holdOutRetest (dt place : Nat) (pass : Bool)
  /-- CLOCK_LOSS (R465): 0 CLK25, 1 REFCLK_NET, 2 REFCLK_HA, 3 REFCLK_HB -/
  | clockLoss (dt which : Nat)
  /-- WATCHDOG_MISS (R479): the active pair -/
  | watchdogMiss (dt : Nat) (active : Bool)
  /-- LOCKSTEP_MISMATCH (R40): the active pair -/
  | lockstepMismatch (dt : Nat) (active : Bool)
  /-- REGION_RETEST (R471) -/
  | regionRetest (dt : Nat)
  /-- FLT_REGION_TEST (R471): a request -/
  | fltRegionTest (dt port sess : Nat) (req : Bytes)
  /-- REGION_TEST_COMPLETE (R471): passed -/
  | regionTestComplete (dt : Nat) (pass : Bool)
  /-- CELL_LOG_WINDOW (R477): place, cell address -/
  | cellLogWindow (dt place addr : Nat)
  /-- DIAG_INJECT_CORRECTABLE (R484): a request -/
  | diagInjectCorrectable (dt port sess : Nat) (req : Bytes)
  /-- DIAG_INJECT_UNCORRECTABLE (R484): a request -/
  | diagInjectUncorrectable (dt port sess : Nat) (req : Bytes)
  /-- DIAG_INJECT_BLOCK_RESET (R484): a request -/
  | diagInjectBlockReset (dt port sess : Nat) (req : Bytes)
  /-- DIAG_INJECT_REGION_FAULT (R484): a request -/
  | diagInjectRegionFault (dt port sess : Nat) (req : Bytes)
  /-- JTAG_INSTRUCTION (R502): instruction -/
  | jtagInstruction (dt : Nat) (i : TapInst)
  /-- TEST_LOGIC_RESET (R502) -/
  | testLogicReset (dt : Nat)
  /-- OUTPUT_OVERLOAD (R495): 0 VIO18_OUT, 1 VFLASH_OUT -/
  | outputOverload (dt which : Nat)
  /-- OUTPUT_RETRY (R495): 0 VIO18_OUT, 1 VFLASH_OUT -/
  | outputRetry (dt which : Nat)
  /-- HBM_TRAINING_LOSS (R470): stack -/
  | hbmTrainingLoss (dt k : Nat)
  /-- INTERNAL_RAIL_FAULT (R465): packet region; a clock of it -/
  | internalRailFault (dt r : Nat) (clock : Bool)
  /-- TAKEOVER_COMPLETE (R40) -/
  | takeoverComplete (dt : Nat)
  /-- STANDBY_RELOAD_COMPLETE (R460) -/
  | standbyReloadComplete (dt : Nat)
  /-- HOST_L2_ENTRY (R307) -/
  | hostL2Entry (dt l : Nat)
  /-- VF_ENABLE (R323): function, enable, number -/
  | vfEnable (dt f : Nat) (en : Bool) (n : Nat)
  /-- HART_TIMER_EVENT (R437): hart -/
  | hartTimerEvent (dt h : Nat)
  deriving DecidableEq, Repr

end Sys2Proof
end

