-- ==== Sys2Proof/Decode.lean ====
section
/-!
DEFINITION. The command that a word spells. The command table gives no row any bits (its lists of fields are empty), so no word
spells a command: commands reach the block as what happens at its ports, pins and clocks.
-/

namespace Sys2Proof

/-- None, for every word. -/
def decodeTableWord (_nbits _w : Nat) : Option Instr := none

end Sys2Proof
end

