-- ==== Sys2Proof/Machine/Bits.lean ====
section
/-!
DEFINITION. Bit fields, byte order, lookups in sparse lists and the CRCs: the helpers every other file of the
machine reads and writes fields with (spec/00_scope.md R5 to R9, spec/05_tables_learning.md R149).
-/

namespace Sys2Proof.Machine

/-- The w-bit field of x whose least significant bit is bit lo (R6). -/
def fld (x lo w : Nat) : Nat := (x >>> lo) % 2 ^ w

/-- Bit b of x as a truth value. -/
def bit (x b : Nat) : Bool := x.testBit b

/-- x with its w-bit field at lo replaced by v (cut to w bits). -/
def setFld (x lo w v : Nat) : Nat := x - (fld x lo w) * 2 ^ lo + (v % 2 ^ w) * 2 ^ lo

/-- 1 for true, 0 for false. -/
def b2n (b : Bool) : Nat := if b then 1 else 0

/-- Bytes read as one big-endian number (R8). -/
def beNat (bs : Bytes) : Nat := bs.foldl (fun a b => a * 256 + b.toNat) 0

/-- Bytes read as one little-endian number (R7). -/
def leNat : Bytes → Nat
  | [] => 0
  | b :: bs => b.toNat + 256 * leNat bs

/-- x as n little-endian bytes. -/
def toLe : Nat → Nat → Bytes
  | 0, _ => []
  | n + 1, x => BitVec.ofNat 8 (x % 256) :: toLe n (x / 256)

/-- x as n big-endian bytes. -/
def toBe (n x : Nat) : Bytes := (toLe n x).reverse

/-- n bytes of bs from offset o; bytes beyond the end are left out. -/
def slice (bs : Bytes) (o n : Nat) : Bytes := (bs.drop o).take n

/-- bs with the bytes from offset o replaced by vs; a gap before o is filled with zeros. -/
def splice (bs : Bytes) (o : Nat) (vs : Bytes) : Bytes :=
  bs.take o ++ List.replicate (o - bs.length) 0 ++ vs ++ bs.drop (o + vs.length)

/-- bs cut or padded with zeros to n bytes. -/
def padTo (n : Nat) (bs : Bytes) : Bytes := bs.take n ++ List.replicate (n - bs.length) 0

/-- Bytes cut into entries of one size. -/
def entries (size : Nat) (b : Bytes) : List Bytes := (List.range (b.length / size)).map fun i => slice b (size * i) size

/-- Word w (8 bytes, little-endian) of a record (R7, R9). -/
def leWord (bs : Bytes) (w : Nat) : Nat := leNat (slice bs (8 * w) 8)

/-- The value listed for k, or d. -/
def lookupD {α : Type} (l : List (Nat × α)) (k : Nat) (d : α) : α :=
  match l with
  | [] => d
  | (k', v) :: t => if k' == k then v else lookupD t k d

/-- The value listed for k. -/
def lookup? {α : Type} (l : List (Nat × α)) (k : Nat) : Option α :=
  match l with
  | [] => none
  | (k', v) :: t => if k' == k then some v else lookup? t k

/-- l with the pair for k set to v; the list stays ordered by its keys. -/
def assoc {α : Type} (l : List (Nat × α)) (k : Nat) (v : α) : List (Nat × α) :=
  match l with
  | [] => [(k, v)]
  | (k', v') :: t =>
    if k' == k then (k, v) :: t
    else if k < k' then (k, v) :: (k', v') :: t
    else (k', v') :: assoc t k v

/-- l without the pair for k. -/
def dissoc {α : Type} (l : List (Nat × α)) (k : Nat) : List (Nat × α) := l.filter (fun p => p.1 != k)

/-- A sum over a list. -/
def sumBy {α : Type} (f : α → Nat) (l : List α) : Nat := l.foldl (fun a x => a + f x) 0

/-- The least element of a list, or d where it is empty. -/
def minD (d : Nat) (l : List Nat) : Nat :=
  match l with
  | [] => d
  | x :: t => t.foldl Nat.min x

/-- The first of the numbers lo, …, lo + n − 1 for which p holds. -/
def findFrom (p : Nat → Bool) (lo : Nat) : Nat → Option Nat
  | 0 => none
  | n + 1 => if p lo then some lo else findFrom p (lo + 1) n

/-! ### The header vector and the metadata block -/

/-- A run of w bits of the header vector, first bit most significant, beginning at bit `first` counted from the most
significant bit of byte b (R113, Table 04-6). -/
def hvGet (h : Hv) (b first w : Nat) : Nat := fld h.toNat (4096 - 8 * b - first - w) w

/-- The header vector with that run replaced. -/
def hvSet (h : Hv) (b first w v : Nat) : Hv := BitVec.ofNat 4096 (setFld h.toNat (4096 - 8 * b - first - w) w v)

/-- The header vector with bytes copied to it from byte b on (R92). -/
def hvPut (h : Hv) (b : Nat) (bs : Bytes) : Hv := hvSet h b 0 (8 * bs.length) (beNat bs)

/-- n bytes of the header vector from byte b on. -/
def hvBytes (h : Hv) (b n : Nat) : Bytes := toBe n (hvGet h b 0 (8 * n))

/-- The w-bit metadata field with least significant bit lo of the 1,024-bit block. -/
def mdGet (m : Md) (lo w : Nat) : Nat := fld m.toNat lo w

/-- The metadata block with that field replaced. -/
def mdSet (m : Md) (lo w v : Nat) : Md := BitVec.ofNat 1024 (setFld m.toNat lo w v)

/-! ### CRCs of R149: reflected, the initial value loaded into the register as written -/

/-- One bit step of a reflected CRC with reversed polynomial p. -/
def crcBit (p c : Nat) : Nat := if c % 2 == 1 then (c / 2) ^^^ p else c / 2

/-- One byte of a reflected CRC. -/
def crcByte (p c : Nat) (b : Byte) : Nat :=
  let c0 := c ^^^ b.toNat
  crcBit p (crcBit p (crcBit p (crcBit p (crcBit p (crcBit p (crcBit p (crcBit p c0)))))))

/-- CRC-32C of R149 with initial value s. -/
def crc32c (s : Nat) (bs : Bytes) : Nat := (bs.foldl (crcByte 0x82F63B78) (s % 2 ^ 32)) ^^^ 0xFFFFFFFF

/-- CRC-32 (hB of R149) with seed s: the initial value is s XOR 0xFFFF_FFFF. -/
def crc32 (s : Nat) (bs : Bytes) : Nat :=
  (bs.foldl (crcByte 0xEDB88320) ((s ^^^ 0xFFFFFFFF) % 2 ^ 32)) ^^^ 0xFFFFFFFF

/-- The one's-complement sum of 16-bit big-endian words, as the IPv4 header checksum uses it (R136). -/
def onesSum (bs : Bytes) : Nat :=
  match bs with
  | [] => 0
  | [a] => a.toNat * 256
  | a :: b :: t => a.toNat * 256 + b.toNat + onesSum t

/-- The sum folded to 16 bits. -/
def fold16 (x : Nat) : Nat :=
  let a := x % 65536 + x / 65536
  let b := a % 65536 + a / 65536
  b % 65536 + b / 65536

end Sys2Proof.Machine
end

