-- ==== Sys2Proof/Machine/Crypto.lean ====
section
/-!
DEFINITION. The standard algorithms that spec/12 names by their standards: AES (FIPS 197), GCM and GMAC (SP 800-38D), CMAC
(SP 800-38B), key wrap (SP 800-38F), the counter-mode KDF (SP 800-108), XTS (IEEE 1619) and ChaCha20-Poly1305 (RFC 8439).
The manual gives their names only; the algorithms are PRESUMED from the standards (log entry 21).
-/

namespace Sys2Proof.Machine

def natsOf (bs : Bytes) : List Nat := bs.map BitVec.toNat
def bytesOf (l : List Nat) : Bytes := l.map fun x => BitVec.ofNat 8 x

/-- Byte-wise exclusive or, as long as the shorter. -/
def xorL (a b : List Nat) : List Nat := List.zipWith (fun x y => x ^^^ y) a b

/-! ### AES -/

/-- Doubling in the field of AES. -/
def xtime (x : Nat) : Nat := if x < 128 then 2 * x else (2 * x - 256) ^^^ 0x1B

/-- Product in the field of AES, over n bits of b. -/
def gmul : Nat → Nat → Nat → Nat
  | 0, _, _ => 0
  | n + 1, a, b => (if b % 2 == 1 then a else 0) ^^^ gmul n (xtime a) (b / 2)

def gmul8 (a b : Nat) : Nat := gmul 8 a b

/-- Inverse in the field: the 254th power. -/
def ginv (x : Nat) : Nat :=
  let x2 := gmul8 x x
  let x3 := gmul8 x2 x
  let x6 := gmul8 x3 x3
  let x12 := gmul8 x6 x6
  let x15 := gmul8 x12 x3
  let x30 := gmul8 x15 x15
  let x60 := gmul8 x30 x30
  let x120 := gmul8 x60 x60
  let x126 := gmul8 x120 x6
  let x127 := gmul8 x126 x
  gmul8 x127 x127

def rotl8 (x n : Nat) : Nat := (x * 2 ^ n) % 256 + x / 2 ^ (8 - n)

/-- The substitution box by its definition: the inverse, then the affine map. -/
def sboxDef (x : Nat) : Nat :=
  let i := ginv x
  i ^^^ rotl8 i 1 ^^^ rotl8 i 2 ^^^ rotl8 i 3 ^^^ rotl8 i 4 ^^^ 0x63

/-- The substitution box as FIPS 197 prints it: row x / 16, byte x % 16 from the left. -/
def sboxRows : List Nat :=
  [0x637c777bf26b6fc53001672bfed7ab76, 0xca82c97dfa5947f0add4a2af9ca472c0,
   0xb7fd9326363ff7cc34a5e5f171d83115, 0x04c723c31896059a071280e2eb27b275,
   0x09832c1a1b6e5aa0523bd6b329e32f84, 0x53d100ed20fcb15b6acbbe394a4c58cf,
   0xd0efaafb434d338545f9027f503c9fa8, 0x51a3408f929d38f5bcb6da2110fff3d2,
   0xcd0c13ec5f974417c4a77e3d645d1973, 0x60814fdc222a908846eeb814de5e0bdb,
   0xe0323a0a4906245cc2d3ac629195e479, 0xe7c8376d8dd54ea96c56f4ea657aae08,
   0xba78252e1ca6b4c6e8dd741f4bbd8b8a, 0x703eb5664803f60e613557b986c11d9e,
   0xe1f8981169d98e949b1e87e9ce5528df, 0x8ca1890dbfe6426841992d0fb054bb16]

def sbox (x : Nat) : Nat := sboxRows.getD (x / 16) 0 / 256 ^ (15 - x % 16) % 256

def sboxInv (x : Nat) : Nat := ginv (rotl8 x 1 ^^^ rotl8 x 3 ^^^ rotl8 x 6 ^^^ 0x05)

/-- Key words of AES, newest first, grown by n words; nk: words of the key. -/
def expandKey (nk : Nat) : Nat → Nat → Nat → List (List Nat) → List (List Nat)
  | 0, _, _, ws => ws
  | n + 1, i, rc, ws =>
    let prev := ws.headD []
    let t := if i % nk == 0 then xorL ((prev.drop 1 ++ prev.take 1).map sbox) [rc, 0, 0, 0]
      else if nk > 6 && i % nk == 4 then prev.map sbox else prev
    let rc' := if i % nk == 0 then xtime rc else rc
    expandKey nk n (i + 1) rc' (xorL (ws.getD (nk - 1) []) t :: ws)

/-- A list cut into parts of n. -/
def partsOf {α : Type} (n : Nat) : Nat → List α → List (List α)
  | 0, _ => []
  | fuel + 1, l => if l.isEmpty then [] else l.take n :: partsOf n fuel (l.drop n)

/-- Parts of n elements, the last one shorter. -/
def parts {α : Type} (n : Nat) (l : List α) : List (List α) := partsOf n l.length l

/-- Round keys of a 16 or 32 B key. -/
def roundKeys (key : List Nat) : List (List Nat) :=
  let nk := key.length / 4
  let ws := (expandKey nk (4 * (nk + 7) - nk) nk 1 (parts 4 key).reverse).reverse
  (parts 4 ws).map List.flatten

def shiftRows (st : List Nat) : List Nat := (List.range 16).map fun i => st.getD ((i + 4 * (i % 4)) % 16) 0
def shiftRowsInv (st : List Nat) : List Nat := (List.range 16).map fun i => st.getD ((i + 12 * (i % 4)) % 16) 0

/-- Columns multiplied by the circulant matrix with first row m. -/
def mixColumns (m : List Nat) (st : List Nat) : List Nat :=
  (parts 4 st).flatMap fun c =>
    (List.range 4).map fun r => (List.range 4).foldl (fun a k => a ^^^ gmul8 (c.getD k 0) (m.getD ((k + 4 - r) % 4) 0)) 0

/-- AES encryption of one block under expanded keys. -/
def aesRounds : List (List Nat) → List Nat → List Nat
  | [], st => st
  | [k], st => xorL (shiftRows (st.map sbox)) k
  | k :: ks, st => aesRounds ks (xorL (mixColumns [2, 3, 1, 1] (shiftRows (st.map sbox))) k)

def aesEnc (ks : List (List Nat)) (block : List Nat) : List Nat :=
  match ks with
  | k :: t => aesRounds t (xorL block k)
  | [] => block

def aesRoundsInv : List (List Nat) → List Nat → List Nat
  | [], st => st
  | [k], st => xorL ((shiftRowsInv st).map sboxInv) k
  | k :: ks, st => aesRoundsInv ks (mixColumns [14, 11, 13, 9] (xorL ((shiftRowsInv st).map sboxInv) k))

/-- AES decryption of one block. -/
def aesDec (ks : List (List Nat)) (block : List Nat) : List Nat :=
  match ks.reverse with
  | k :: t => aesRoundsInv t (xorL block k)
  | [] => block

/-! ### Numbers and blocks -/

def natOf (l : List Nat) : Nat := l.foldl (fun a b => a * 256 + b) 0

def listOf : Nat → Nat → List Nat
  | 0, _ => []
  | n + 1, x => listOf n (x / 256) ++ [x % 256]

def pad16 (l : List Nat) : List Nat := l ++ List.replicate ((16 - l.length % 16) % 16) 0

/-! ### GCM -/

/-- Product in the field of GHASH: n bits of x are left, the next one being bit n − 1. -/
def ghashMul : Nat → Nat → Nat → Nat → Nat
  | 0, _, _, z => z
  | n + 1, x, v, z =>
    ghashMul n x (if v % 2 == 1 then (v / 2) ^^^ (0xE1 * 2 ^ 120) else v / 2) (if x.testBit n then z ^^^ v else z)

def ghash (h : Nat) (l : List Nat) : Nat := (parts 16 l).foldl (fun y b => ghashMul 128 (y ^^^ natOf b) h 0) 0

/-- Counter mode from a counter block, its low 32 bits counted. -/
def ctr32 (ks : List (List Nat)) (j0 : Nat) (data : List Nat) : List Nat :=
  (parts 16 data).zipIdx.flatMap fun b =>
    let ctr := j0 / 2 ^ 32 * 2 ^ 32 + (j0 + b.2) % 2 ^ 32
    xorL b.1 (aesEnc ks (listOf 16 ctr))

/-- GCM tag over AAD and ciphertext, 96-bit nonce. -/
def gcmTag (ks : List (List Nat)) (nonce aad c : List Nat) : List Nat :=
  let h := natOf (aesEnc ks (List.replicate 16 0))
  let s := ghash h (pad16 aad ++ pad16 c ++ listOf 8 (8 * aad.length) ++ listOf 8 (8 * c.length))
  xorL (listOf 16 s) (aesEnc ks (nonce ++ [0, 0, 0, 1]))

def gcmCrypt (ks : List (List Nat)) (nonce data : List Nat) : List Nat := ctr32 ks (natOf (nonce ++ [0, 0, 0, 2])) data

/-! ### CMAC, KDF, key wrap -/

def cmacDouble (x : Nat) : Nat := (2 * x) % 2 ^ 128 ^^^ (if x ≥ 2 ^ 127 then 0x87 else 0)

def cmacRun (ks : List (List Nat)) : List (List Nat) → Nat → Nat
  | [], c => c
  | b :: t, c => cmacRun ks t (natOf (aesEnc ks (listOf 16 (c ^^^ natOf b))))

def cmac (key data : List Nat) : List Nat :=
  let ks := roundKeys key
  let k1 := cmacDouble (natOf (aesEnc ks (List.replicate 16 0)))
  let k2 := cmacDouble k1
  let full := !data.isEmpty && data.length % 16 == 0
  let n := if full then data.length - 16 else data.length / 16 * 16
  let last := if full then natOf (data.drop n) ^^^ k1 else natOf (pad16 (data.drop n ++ [0x80])) ^^^ k2
  listOf 16 (cmacRun ks (parts 16 (data.take n) ++ [listOf 16 last]) 0)

/-- Working key of len bits (R363). -/
def kdf (root label : List Nat) (slot alg len : Nat) : List Nat :=
  (List.range (len / 128)).flatMap fun i => cmac root ([i + 1] ++ label ++ [0] ++ listOf 2 slot ++ [alg] ++ listOf 2 len)

/-- One step of key unwrap: register A and the other registers, with counter t. -/
def unwrapStep (ks : List (List Nat)) (n : Nat) (st : Nat × List Nat) (t : Nat) : Nat × List Nat :=
  let i := (t - 1) % n
  let b := natOf (aesDec ks (listOf 16 ((st.1 ^^^ t) * 2 ^ 64 + st.2.getD i 0)))
  (b / 2 ^ 64, st.2.set i (b % 2 ^ 64))

/-- AES key unwrap under a KEK; none where the integrity check fails. -/
def keyUnwrap (kek wrapped : List Nat) : Option (List Nat) :=
  let ks := roundKeys kek
  let regs := (parts 8 wrapped).map natOf
  let n := regs.length - 1
  let r := ((List.range (6 * n)).reverse.map fun t => t + 1).foldl (unwrapStep ks n) (regs.headD 0, regs.drop 1)
  if r.1 == 0xA6A6A6A6A6A6A6A6 then some (r.2.flatMap (listOf 8)) else none

/-! ### XTS -/

/-- Next tweak: the product with x, little-endian. -/
def xtsNext (t : Nat) : Nat := (2 * t) % 2 ^ 128 ^^^ (if t ≥ 2 ^ 127 then 0x87 else 0)

def leList (n x : Nat) : List Nat := (listOf n x).reverse

/-- Blocks of one data unit under a tweak (as a little-endian number). -/
def xtsBlocks (enc : List Nat → List Nat) : List (List Nat) → Nat → List Nat
  | [], _ => []
  | b :: t, tw => xorL (enc (xorL b (leList 16 tw))) (leList 16 tw) ++ xtsBlocks enc t (xtsNext tw)

/-- XTS of data units of `unit` bytes from number `first` on; key halves as IEEE 1619 orders them. -/
def xts (dec : Bool) (key data : List Nat) (unit first : Nat) : List Nat :=
  let half := key.length / 2
  let k1 := roundKeys (key.take half)
  let k2 := roundKeys (key.drop half)
  (parts unit data).zipIdx.flatMap fun u =>
    let tw := natOf (aesEnc k2 (leList 16 ((first + u.2) % 2 ^ 128))).reverse
    xtsBlocks (if dec then aesDec k1 else aesEnc k1) (parts 16 u.1) tw

/-! ### ChaCha20-Poly1305 -/

def rotl32 (x n : Nat) : Nat := (x * 2 ^ n) % 2 ^ 32 + x / 2 ^ (32 - n)

/-- A quarter round on words a, b, c, d of a state. -/
def quarter (st : List Nat) (a b c d : Nat) : List Nat :=
  let g := fun (s : List Nat) i => s.getD i 0
  let add := fun (s : List Nat) i j => s.set i ((g s i + g s j) % 2 ^ 32)
  let mix := fun (s : List Nat) i j n => s.set i (rotl32 (g s i ^^^ g s j) n)
  let s := mix (add st a b) d a 16
  let s := mix (add s c d) b c 12
  let s := mix (add s a b) d a 8
  mix (add s c d) b c 7

def doubleRound (s : List Nat) : List Nat :=
  let s := quarter (quarter (quarter (quarter s 0 4 8 12) 1 5 9 13) 2 6 10 14) 3 7 11 15
  quarter (quarter (quarter (quarter s 0 5 10 15) 1 6 11 12) 2 7 8 13) 3 4 9 14

def leWords (l : List Nat) : List Nat := (parts 4 l).map fun w => natOf w.reverse

def chachaBlock (key : List Nat) (ctr : Nat) (nonce : List Nat) : List Nat :=
  let s0 := [0x61707865, 0x3320646E, 0x79622D32, 0x6B206574] ++ leWords key ++ [ctr % 2 ^ 32] ++ leWords nonce
  let s := (List.range 10).foldl (fun s _ => doubleRound s) s0
  (List.zipWith (fun x y => (x + y) % 2 ^ 32) s s0).flatMap (leList 4)

def chacha (key nonce data : List Nat) : List Nat :=
  (parts 64 data).zipIdx.flatMap fun b => xorL b.1 (chachaBlock key (b.2 + 1) nonce)

def poly1305 (key data : List Nat) : List Nat :=
  let r := natOf (key.take 16).reverse &&& 0x0FFFFFFC0FFFFFFC0FFFFFFC0FFFFFFF
  let acc := (parts 16 data).foldl (fun a b => ((a + natOf (b ++ [1]).reverse) * r) % (2 ^ 130 - 5)) 0
  leList 16 ((acc + natOf ((key.drop 16).take 16).reverse) % 2 ^ 128)

def chachaTag (key nonce aad c : List Nat) : List Nat :=
  poly1305 (chachaBlock key 0 nonce) (pad16 aad ++ pad16 c ++ leList 8 aad.length ++ leList 8 c.length)

/-! ### AEAD and MAC by algorithm code (Table 12-3) -/

/-- Key length in bits. -/
def algBits (alg : Nat) : Nat :=
  match alg with
  | 1 | 3 | 7 => 128
  | 6 => 512
  | _ => 256

/-- Ciphertext and tag; for GMAC the data is authenticated only. -/
def aeadSeal (alg : Nat) (key nonce aad data : List Nat) : List Nat × List Nat :=
  if alg == 9 then
    let c := chacha key nonce data
    (c, chachaTag key nonce aad c)
  else
    let ks := roundKeys key
    let c := gcmCrypt ks nonce data
    (c, gcmTag ks nonce aad c)

/-- Plaintext, and whether the tag holds. -/
def aeadOpen (alg : Nat) (key nonce aad c tag : List Nat) : List Nat × Bool :=
  if alg == 9 then (chacha key nonce c, chachaTag key nonce aad c == tag)
  else
    let ks := roundKeys key
    (gcmCrypt ks nonce c, gcmTag ks nonce aad c == tag)

/-- A 16 B authentication tag: GMAC under a nonce, or CMAC. -/
def macTag (alg : Nat) (key nonce data : List Nat) : List Nat :=
  if alg == 7 || alg == 8 then cmac key data else gcmTag (roundKeys key) nonce data []

end Sys2Proof.Machine
end

