-- ==== Sys2Proof/Config.lean ====
section
/-!
DEFINITION. What the manual leaves to the implementation: free values. A constant here has no body, so that a claim
holds whatever the value is.
-/

namespace Sys2Proof.Config

/-- A fresh free value of w bits: the n-th one a run asks for. -/
opaque freeValue (n w : Nat) : Nat

/-- The internal layout of a state image after its header (R354). -/
opaque stateImage (b : Machine.MigBody) : Bytes

/-- The distributor's hash over the fixed outer fields (R20, R89). -/
opaque distHash (fields : Bytes) : Nat

/-- The choice among the four pipelines of a region that the distributor makes for a hash of a source (R20). -/
opaque distPipe (srcKind srcId hash : Nat) : Nat

/-- The pipeline image in the plaintext body of a container of type 3, whose layout the manual does not give; none where the
bytes are none. -/
opaque pipeBody (plain : Bytes) : Option PipeImage

/-- The pattern set in the plaintext body of a container of type 4. -/
opaque patBody (plain : Bytes) : Option PatSet

/-- ECDSA P-384 with SHA-384: the signature verifies under a public key (R448). -/
opaque ecdsaOk (pub msg sig : Bytes) : Bool

/-- ML-DSA-87 in its pure form with an empty context string (R448). -/
opaque mldsaOk (pub msg sig : Bytes) : Bool

/-- Public keys of Gorost key pair k, in the boot ROM (R448). -/
opaque gorostEcdsa (k : Nat) : Bytes
opaque gorostMldsa (k : Nat) : Bytes

/-- The image root: 32 bytes of fuses (R450). -/
opaque imageRoot : Bytes

/-- ID_CERT_CHAIN: the DeviceID certificate, then the Alias certificate, in DER (R390). -/
opaque certChain : Bytes

/-- CENSUS_IPFIX_PEN: the private enterprise number of the templates (R255). -/
opaque ipfixPen : Nat

/-- Registers that NVMe and virtio give a function and whose value the manual does not state: 0 CAP, 24 the largest size of a
virtqueue, 0x3000 + n byte n of a virtio device configuration (log entry 78). -/
opaque standardReg (f n : Nat) : Nat

end Sys2Proof.Config
end

