-- ==== Sys2Proof/Machine/Objects.lean ====
section
/-!
DEFINITION. The names of the dictionary objects, as the object tables of spec/01 to spec/17 give them. The number of an
object is index × 256 + subindex; where a table row spans several subindexes the name is that of the first, and the
others follow it (Obj.NET_PORT_BIND + n is the object of Nn). For the per-table objects of Table 05-9 the name is that
of table 0, and table t adds 256 t.
-/

namespace Sys2Proof.Machine.Obj

def NET_PORT_BIND : Nat := 0x201001
def NET_PORT_BIND_EFFECTIVE : Nat := 0x201101
def WV_LINK_BIND : Nat := 0x241001
def WV_LINK_BIND_EFFECTIVE : Nat := 0x241101
def HST_PORT_BIND_HA : Nat := 0x301001
def HST_PORT_BIND_HB : Nat := 0x301002
def MEM_APP_MODE : Nat := 0x701001
def MEM_RESERVE_GIB : Nat := 0x701002
def MEM_APP_SIZE : Nat := 0x701003
def MEM_MIRROR_FIX : Nat := 0x701101
def MEM_RESERVE_USED : Nat := 0x701201
def CORE_RESET_VECTOR : Nat := 0x701004
def CORE_RUN : Nat := 0x701005
def CORE_FREQ_MAX_MHZ : Nat := 0x701006
def CORE_LOAD : Nat := 0x702000
def NET_PORT_MODE : Nat := 0x200001
def NET_PORT_ENABLE : Nat := 0x200101
def NET_PORT_AN : Nat := 0x200201
def NET_PORT_LPI : Nat := 0x200301
def NET_LINK_STATE : Nat := 0x200401
def NET_LINK_DOWNS : Nat := 0x200501
def EPOCH_CURRENT : Nat := 0x120001
def EPOCH_OLDEST_LIVE : Nat := 0x120002
def EPOCH_LIVE_COUNT : Nat := 0x120003
def EPOCH_OPEN : Nat := 0x120004
def EPOCH_COMMIT_STATE : Nat := 0x120005
def EPOCH_DISCARD : Nat := 0x120006
def EPOCH_LAST_STATUS : Nat := 0x120007
def EPOCH_REJECT_INDEX : Nat := 0x120008
def EPOCH_STAGED_COUNT : Nat := 0x120009
def EPOCH_STAGED_BYTES : Nat := 0x12000A
def EPOCH_SWITCHED_AT : Nat := 0x12000B
def EPOCH_COMMITS : Nat := 0x120101
def EPOCH_COMMITS_QUEUED : Nat := 0x120102
def EPOCH_STAGE_DISCARDS : Nat := 0x120103
def EPOCH_STAGE_FULL : Nat := 0x120104
def EPOCH_JOURNAL_FULL : Nat := 0x120105
def EPOCH_STALE_OPS : Nat := 0x120106
def EPOCH_RETIRE_MAX_NS : Nat := 0x120107
def EPOCH_AT_ID : Nat := 0x121001
def EPOCH_AT_TIME : Nat := 0x121002
def EPOCH_AT_MEMBERS : Nat := 0x121003
def EPOCH_AT_ARM : Nat := 0x121004
def EPOCH_AT_STATE : Nat := 0x121005
def EPOCH_AT_ACKED : Nat := 0x121006
def EPOCH_AT_CANCEL : Nat := 0x121007
def EPOCH_AT_RESYNC : Nat := 0x121008
def EPOCH_AT_MIN_LEAD_US : Nat := 0x121009
def EPOCH_AT_EXECUTED : Nat := 0x121101
def EPOCH_AT_CANCELLED : Nat := 0x121102
def EPOCH_AT_MISSED : Nat := 0x121103
def EPOCH_AT_DIVERGED : Nat := 0x121104
def PARSE_START_NET : Nat := 0x400001
def PARSE_START_WEAVE : Nat := 0x400011
def PARSE_START_HOST : Nat := 0x400019
def PARSE_START_CORE : Nat := 0x40001A
def PARSE_NODES_USED : Nat := 0x400101
def PARSE_TRANS_USED : Nat := 0x400102
def PARSE_ASSIST_USED : Nat := 0x400103
def PARSE_ERR_LAST : Nat := 0x400201
def PARSE_ERR_NODE_LIMIT : Nat := 0x401001
def PARSE_ERR_DEPTH : Nat := 0x401101
def PARSE_ERR_TRUNCATED : Nat := 0x401201
def PARSE_ERR_NO_TRANSITION : Nat := 0x401301
def PARSE_ERR_INVALID_NODE : Nat := 0x401401
def PARSE_ERR_ASSIST_LIMIT : Nat := 0x401501
def PARSE_ERR_ASSIST_VISITS : Nat := 0x401601
def PARSE_ERR_ASSIST_CODE : Nat := 0x401701
def PARSE_ASSIST_CALLS : Nat := 0x401801
def PIPE_IMAGE : Nat := 0x440000
def PIPE_IMAGE_VERSION : Nat := 0x440101
def PIPE_FAR_SLOTS : Nat := 0x440102
def PIPE_MIRROR_EN : Nat := 0x441001
def PIPE_MIRROR_EQID : Nat := 0x441101
def PIPE_MIRROR_TRUNC : Nat := 0x441201
def PIPE_PACKETS : Nat := 0x442001
def PIPE_RECIRC_PASSES : Nat := 0x442101
def PIPE_DROP_ACTION : Nat := 0x442201
def PIPE_DROP_PASS_LIMIT : Nat := 0x442301
def PIPE_DROP_RECIRC_FULL : Nat := 0x442401
def PIPE_DROP_NO_DECISION : Nat := 0x442501
def PIPE_DROP_BAD_TARGET : Nat := 0x442601
def PIPE_DROP_LOOKUP_LATE : Nat := 0x442701
def PIPE_DROP_RX_BAD : Nat := 0x442801
def PIPE_DROP_OVERSIZE : Nat := 0x442901
def PIPE_DROP_MAX_AGE : Nat := 0x442A01
def PIPE_POLICER_FOREIGN : Nat := 0x442B01
def PIPE_NEXT_TABLE_BAD : Nat := 0x442C01
def PIPE_COUNT_RANGE : Nat := 0x442D01
def PIPE_MIRROR_COPIES : Nat := 0x442E01
def PIPE_COUNTER_BANK : Nat := 0x443001
def NET_TX_STOMPED : Nat := 0x202001
def TBL_OPS : Nat := 0x480001
def TBL_OP_FULL : Nat := 0x480101
def TBL_OP_DENIED : Nat := 0x480201
def TBL_OP_BAD : Nat := 0x480301
def TBL_OP_NOCHANGE : Nat := 0x480401
def TBL_OVF_INSERTS : Nat := 0x480501
def TBL_OP_BUSY : Nat := 0x480601
def LRN_RECORDS : Nat := 0x4A0001
def LRN_SUPPRESSED : Nat := 0x4A0101
def LRN_SUPPRESS_DISPLACED : Nat := 0x4A0201
def LRN_DROP_RING_FULL : Nat := 0x4A0301
def LRN_DROP_RATE : Nat := 0x4A0401
def LRN_DROP_RING_DOWN : Nat := 0x4A0501
def LRN_AGE_RECORDS : Nat := 0x4A0601
def LRN_SHUTTLES_OUT : Nat := 0x4A0701
def LRN_SHUTTLES_IN : Nat := 0x4A0801
def LRN_SHUTTLE_DROP : Nat := 0x4A0901
def TBL_WRITER_FID : Nat := 0x481001
def TBL_WRITER_TABLES : Nat := 0x481101
def LRN_SUPPRESS_MS : Nat := 0x4A1001
def LRN_RING_FID : Nat := 0x4A1101
def LRN_RATE_MAX : Nat := 0x4A1201
def LRN_CHANNEL_RING : Nat := 0x4A1301
def LRN_SHUTTLE_PEERS : Nat := 0x4A1401
def TBL_KIND : Nat := 0x490001
def TBL_PLACEMENT : Nat := 0x490002
def TBL_CLASS : Nat := 0x490003
def TBL_SIZE : Nat := 0x490004
def TBL_LEVELS : Nat := 0x490005
def TBL_USED_PKA : Nat := 0x490006
def TBL_USED_PKB : Nat := 0x490007
def TBL_OVF_USED_PKA : Nat := 0x490008
def TBL_OVF_USED_PKB : Nat := 0x490009
def TBL_AGE_PERIOD_S : Nat := 0x49000A
def TBL_LEARN_RING : Nat := 0x49000B
def TBL_SHUTTLE_CHANNEL : Nat := 0x49000C
def TBL_SHUTTLE_FLAGS : Nat := 0x49000D
def TCAM_BANK_UNITS : Nat := 0x4C0001
def TCAM_BANK_TABLE : Nat := 0x4C0101
def TCAM_BANK_POSITION : Nat := 0x4C0201
def TCAM_SCRUB_FIX : Nat := 0x4C1001
def TCAM_SCRUB_PASSES : Nat := 0x4C1101
def TCAM_SHADOW_LOST : Nat := 0x4C1201
def TCAM_INDEX_HELD : Nat := 0x4C1301
def TCAM_SCRUB_LAST : Nat := 0x4C1401
def TCAM_SCRUB_LAST_TIME : Nat := 0x4C1402
def PAT_SET_IMAGE : Nat := 0x4E0001
def PAT_SET_PATTERNS : Nat := 0x4E0101
def PAT_SET_VERSION : Nat := 0x4E0201
def PAT_MEM_USED : Nat := 0x4E0301
def PAT_DIVERT_MAX_KIB : Nat := 0x4E1001
def PAT_WEIGHT : Nat := 0x4E1101
def PAT_SCANS : Nat := 0x4E2001
def PAT_BYTES : Nat := 0x4E2101
def PAT_MATCHES : Nat := 0x4E2201
def PAT_DROP_DIVERT_FULL : Nat := 0x4E2301
def PAT_REPORT_TRUNC : Nat := 0x4E2401
def PAT_REQ_BAD : Nat := 0x4E2501
def PAT_DIVERT_LOST : Nat := 0x4E2601
def TM_MAX_AGE : Nat := 0x500001
def TM_FRONT_Q_CELLS : Nat := 0x500002
def TM_FRONT_KEEP_CELLS : Nat := 0x500003
def TM_QUANTUM_UNIT : Nat := 0x500004
def TM_HBM_BUF_MIB : Nat := 0x500101
def TM_TOPOLOGY : Nat := 0x501001
def TM_WEIGHT : Nat := 0x501101
def TM_OVERDUE_US : Nat := 0x501201
def TM_ADM_PROFILE : Nat := 0x501301
def TM_CLASS_MAP : Nat := 0x501401
def TM_PFC_HONOUR : Nat := 0x501501
def TM_PAUSE_HONOUR : Nat := 0x501601
def TM_FRONT_USED : Nat := 0x502001
def TM_HBM_USED : Nat := 0x502101
def TM_SHARED_FREE : Nat := 0x502201
def TM_MIN_RESERVED : Nat := 0x502301
def TM_ENQUEUED : Nat := 0x503001
def TM_SPILLED : Nat := 0x503101
def TM_CUT_THROUGH : Nat := 0x503201
def TM_DROP_THRESHOLD : Nat := 0x503301
def TM_DROP_QUEUE_MAX : Nat := 0x503401
def TM_DROP_BUFFER_FULL : Nat := 0x503501
def TM_DROP_UNATTACHED : Nat := 0x503601
def TM_DROP_PORT_DOWN : Nat := 0x503701
def TM_DROP_BUF_ECC : Nat := 0x503801
def TM_DROP_MAX_AGE : Nat := 0x503901
def TM_OVERDUE : Nat := 0x503A01
def TM_OVERDUE_LAST : Nat := 0x503B01
def SHP_NODE : Nat := 0x540001
def POL_CONFIG : Nat := 0x541001
def POL_STATS : Nat := 0x541101
def POL_DROP_RED : Nat := 0x542001
def POL_REMARKED_RED : Nat := 0x542101
def POL_INVALID : Nat := 0x542201
def POL_TWIN_USED : Nat := 0x542301
def GATE_ENABLE : Nat := 0x580001
def GATE_BASE_TIME : Nat := 0x580101
def GATE_CYCLE_NS : Nat := 0x580201
def GATE_LIST : Nat := 0x580301
def GATE_GROWTH : Nat := 0x580401
def GATE_PENDING : Nat := 0x581001
def GATE_SWITCH_AT : Nat := 0x581101
def GATE_LONGEST_NS : Nat := 0x581201
def TM_DROP_GATE_OVERSIZE : Nat := 0x582001
def GATE_DROP_OVERRUN : Nat := 0x582101
def CENSUS_EN : Nat := 0x5C1001
def CENSUS_PERIOD : Nat := 0x5C1002
def CENSUS_SKIP_IDLE : Nat := 0x5C1003
def CENSUS_RING_FID : Nat := 0x5C1101
def CENSUS_SWEEP : Nat := 0x5C1201
def CENSUS_RECORDS : Nat := 0x5C2001
def CENSUS_DROP_RING_FULL : Nat := 0x5C2101
def SMP_CONFIG : Nat := 0x5C3001
def SMP_RING_FID : Nat := 0x5C3101
def SMP_RATE_MAX : Nat := 0x5C3201
def SMP_RECORDS : Nat := 0x5C4001
def SMP_DROP_RING_FULL : Nat := 0x5C4101
def SMP_DROP_RATE : Nat := 0x5C4201
def CENSUS_IPFIX_EN : Nat := 0x5C5001
def CENSUS_IPFIX_PORT : Nat := 0x5C5002
def CENSUS_IPFIX_DEST : Nat := 0x5C5003
def CENSUS_IPFIX_UDP : Nat := 0x5C5004
def CENSUS_IPFIX_INTERVAL_S : Nat := 0x5C5005
def CENSUS_IPFIX_DOMAIN : Nat := 0x5C5006
def CENSUS_IPFIX_PEN : Nat := 0x5C5007
def CENSUS_IPFIX_MSGS : Nat := 0x5C5101
def CENSUS_IPFIX_DROPS : Nat := 0x5C5102
def WV_ADDR_SRC : Nat := 0x240001
def WV_ADDR : Nat := 0x240002
def WV_ADDR_EFFECTIVE : Nat := 0x240003
def WV_FABRIC_ID : Nat := 0x240004
def WV_LINK_ENABLE : Nat := 0x240101
def WV_LINK_COST : Nat := 0x240201
def WV_LINK_ASYM_NS : Nat := 0x240301
def WV_LINK_STATE : Nat := 0x240401
def WV_LINK_PEER : Nat := 0x240501
def WV_LINK_PEER_ID : Nat := 0x240601
def WV_CAL_CYCLE_NS : Nat := 0x242001
def WV_CAL_WINDOWS : Nat := 0x242002
def WV_TC_CLASS : Nat := 0x242003
def WV_CAL_DIGEST : Nat := 0x242101
def WV_CAL_PENDING : Nat := 0x242102
def WV_CAL_SWITCH_AT : Nat := 0x242103
def WV_DEST_TABLE : Nat := 0x243001
def WV_ROUTE_RECOMPUTES : Nat := 0x243101
def WV_LSDB_DEVICES : Nat := 0x243102
def WV_TIME_PRIO : Nat := 0x244001
def WV_TIME_SOURCE : Nat := 0x244002
def WV_TIME_HOPS : Nat := 0x244003
def WV_TIME_PARENT : Nat := 0x244004
def WV_TIME_OFFSET_NS : Nat := 0x244005
def WV_RX_FRAMES : Nat := 0x245001
def WV_TX_FRAMES : Nat := 0x245101
def WV_RX_FCS_ERR : Nat := 0x245201
def WV_DROP_HEADER : Nat := 0x245301
def WV_DROP_LINK_STATE : Nat := 0x245401
def WV_DROP_WINDOW : Nat := 0x245501
def WV_DROP_OUT_OF_STEP : Nat := 0x245601
def WV_DROP_UNKNOWN_SRC : Nat := 0x245701
def WV_DROP_HOP_LIMIT : Nat := 0x245801
def WV_RX_DROP_OVERRUN : Nat := 0x245901
def WV_TX_STOMPED : Nat := 0x245A01
def WV_RELAYED : Nat := 0x245B01
def WV_CTL_DROP : Nat := 0x245C01
def WV_SHUTTLE_DROP : Nat := 0x245D01
def WV_LINK_DOWNS : Nat := 0x245E01
def WV_ADDR_DUP : Nat := 0x245F01
def WV_FLOOD_DUPS : Nat := 0x246001
def WV_DROP_NO_ROUTE : Nat := 0x247001
def WV_ADDR_CONFLICT : Nat := 0x247101
def HST_LINK_STATE : Nat := 0x300001
def HST_LINK_SPEED : Nat := 0x300101
def HST_LINK_WIDTH : Nat := 0x300201
def HST_BIFURCATE : Nat := 0x300301
def HST_SPEED_MAX : Nat := 0x300401
def HST_CLKREQ_GPIO : Nat := 0x300501
def HST_L1_IDLE_US : Nat := 0x300601
def HST_L0P_EN : Nat := 0x300701
def HST_PRI_TIMEOUT_MS : Nat := 0x300801
def HST_CTO_FREEZE_COUNT : Nat := 0x300901
def HST_PEER_BAR_LOG2 : Nat := 0x300A01
def HST_PEER_WIN : Nat := 0x301201
def HST_TAG_QUOTA : Nat := 0x301301
def HST_TAG_QUOTA_EFFECTIVE : Nat := 0x301401
def HST_PORT_FROZEN : Nat := 0x302001
def HST_FREEZE_CAUSE : Nat := 0x302101
def HST_PORT_RELEASE : Nat := 0x302201
def HST_FREEZES : Nat := 0x303001
def HST_CPL_TIMEOUT : Nat := 0x303101
def HST_CPL_UNEXPECTED : Nat := 0x303201
def HST_CPL_ERROR : Nat := 0x303301
def HST_POISONED_RX : Nat := 0x303401
def HST_MALFORMED_RX : Nat := 0x303501
def HST_DROP_FROZEN : Nat := 0x303601
def HST_DROP_BME_OFF : Nat := 0x303701
def HST_DROP_LINK_DOWN : Nat := 0x303801
def HST_MMIO_DISCARD : Nat := 0x303901
def HST_PEER_UR : Nat := 0x303A01
def HST_ATS_INVALIDATIONS : Nat := 0x303B01
def HST_PRI_REQUESTS : Nat := 0x303C01
def HST_PRI_TIMEOUTS : Nat := 0x303D01
def HST_LINK_DOWNS : Nat := 0x303E01
def HST_L1_ENTRIES : Nat := 0x303F01
def HST_DROP_STAGE_AGE : Nat := 0x304001
def FN_PF_CONFIG : Nat := 0x340001
def FN_ENABLE : Nat := 0x340101
def FN_QP_COUNT : Nat := 0x340201
def FN_VECTORS : Nat := 0x340301
def FN_QP_MAP : Nat := 0x340401
def FN_QP_FREE : Nat := 0x340501
def FN_BIND : Nat := 0x340601
def FN_RX_QUEUE : Nat := 0x340701
def FN_TX_WEIGHT : Nat := 0x340801
def FN_TX_RATE : Nat := 0x340901
def FN_RESET_CMD : Nat := 0x340A01
def FN_RESET_STATE : Nat := 0x340B01
def FN_DRAIN_LIMIT_MS : Nat := 0x340C01
def MIG_CTL_FID : Nat := 0x341001
def MIG_HOLD_LIMIT_MS : Nat := 0x341003
def HST_TX_PACKETS : Nat := 0x380001
def HST_RX_PACKETS : Nat := 0x380101
def HST_DOORBELL_BAD : Nat := 0x380201
def HST_DESC_BAD : Nat := 0x380301
def HST_DROP_CQ_FULL : Nat := 0x380401
def HST_DROP_NO_BUFFER : Nat := 0x380501
def HST_DROP_NO_RXQ : Nat := 0x380601
def HST_DROP_XLATE : Nat := 0x380701
def HST_DROP_D3HOT : Nat := 0x380801
def HST_DROP_FN_RESET : Nat := 0x380901
def HST_DROP_FN_HELD : Nat := 0x380A01
def HST_DROP_FN_DISABLED : Nat := 0x380B01
def HST_CQ_STAGE_STOPS : Nat := 0x380C01
def FN_CMD_OVERLAP : Nat := 0x380D01
def FN_DRAIN_SQUASHED : Nat := 0x380E01
def MIG_LOG_STALLS : Nat := 0x380F01
def KEY_KEK : Nat := 0x600001
def KEY_KEK_KCV : Nat := 0x600002
def KEY_SLOT_WRITE : Nat := 0x600101
def KEY_SLOT_ERASE : Nat := 0x600102
def KEY_SLOT_STATE : Nat := 0x600201
def KEY_UNWRAP_FAIL : Nat := 0x600301
def KEY_ERASES : Nat := 0x600302
def CIPH_SA_WRITER : Nat := 0x601001
def CIPH_SA_TABLE : Nat := 0x601101
def CIPH_OPS : Nat := 0x602001
def CIPH_DROP_SA_INVALID : Nat := 0x602101
def CIPH_DROP_SA_REGION : Nat := 0x602201
def CIPH_DROP_KEY : Nat := 0x602301
def CIPH_DROP_FORMAT : Nat := 0x602401
def CIPH_DROP_SEQ : Nat := 0x602501
def CIPH_DROP_REPLAY : Nat := 0x602601
def CIPH_DROP_AUTH : Nat := 0x602701
def CIPH_DROP_LENGTH : Nat := 0x602801
def CIPH_DROP_BUSY : Nat := 0x602901
def CIPH_SA_SOFT : Nat := 0x602A01
def CIPH_SA_FAILOVERS : Nat := 0x602B01
def CIPH_KDF_MISSES : Nat := 0x602C01
def CIPH_LA_OPS : Nat := 0x602D01
def CIPH_LA_AUTH_FAIL : Nat := 0x602E01
def CIPH_LA_BAD : Nat := 0x602F01
def STG_SVC : Nat := 0x640001
def STG_CMDS : Nat := 0x641001
def STG_CMD_NO_SVC : Nat := 0x641002
def STG_CMD_ABORTED : Nat := 0x641003
def STG_PI_ERRORS : Nat := 0x641004
def STG_NO_POST : Nat := 0x641005
def STG_CTX_FREE : Nat := 0x641006
def STG_DESC_BAD : Nat := 0x641007
def ID_VENDOR : Nat := 0x100001
def ID_PRODUCT : Nat := 0x100002
def ID_FAMILY : Nat := 0x100003
def ID_PART : Nat := 0x100004
def ID_STEPPING : Nat := 0x100005
def ID_SERIAL : Nat := 0x100006
def ID_BASE_MAC : Nat := 0x100007
def ID_PCI_VENDOR : Nat := 0x100008
def ID_PCI_DEV_NET : Nat := 0x100009
def ID_PCI_DEV_NVME : Nat := 0x10000A
def ID_CERT_CHAIN : Nat := 0x100100
def MODE_CURRENT : Nat := 0x130001
def MODE_POWER_STEP : Nat := 0x130002
def MODE_FENCED : Nat := 0x130003
def MODE_SINCE : Nat := 0x130004
def MODE_REASON : Nat := 0x130005
def MODE_REQUEST : Nat := 0x130006
def MODE_CHANGES : Nat := 0x130101
def TIME_NOW : Nat := 0x140001
def TIME_DISCIPLINE : Nat := 0x140002
def TIME_LOCK_STATE : Nat := 0x140003
def TIME_SET : Nat := 0x140004
def TIME_PTP_PORT : Nat := 0x140005
def TIME_PTP_DOMAIN : Nat := 0x140006
def TIME_PTP_TRANSPORT : Nat := 0x140007
def TIME_PTP_DELAY : Nat := 0x140008
def TIME_OFFSET_NS : Nat := 0x140009
def TIME_UTC_OFFSET_S : Nat := 0x14000A
def TIME_PPS_OUT_EN : Nat := 0x14000B
def TIME_PPS_OUT_WIDTH_US : Nat := 0x14000C
def TIME_STEPS : Nat := 0x140101
def TIME_PPS_REJECTS : Nat := 0x140102
def ERR_LOG : Nat := 0x150001
def ERR_LOG_COUNT : Nat := 0x150002
def ERR_LOG_TOTAL : Nat := 0x150003
def ERR_LOG_CLEAR : Nat := 0x150004
def ERR_LOG_LAST : Nat := 0x150005
def ERR_LOG_OVERWRITTEN : Nat := 0x150101
def MGMT_SEM_HOLDER : Nat := 0x110001
def MGMT_SEM_LEASE_S : Nat := 0x110002
def MGMT_SEM_HEARTBEAT : Nat := 0x110003
def MGMT_SEM_WAITERS : Nat := 0x110004
def MGMT_SEM_REMAINING_MS : Nat := 0x110005
def MGMT_OPEN : Nat := 0x110006
def MGMT_MB_TRANSPORT : Nat := 0x110007
def MGMT_PHY : Nat := 0x111001
def MGMT_VLAN : Nat := 0x111101
def MGMT_AUTOCONF : Nat := 0x111201
def MGMT_IPV6_ADDR : Nat := 0x111301
def MGMT_IPV6_PLEN : Nat := 0x111401
def MGMT_IPV6_GW : Nat := 0x111501
def MGMT_IPV4_ADDR : Nat := 0x111601
def MGMT_IPV4_PLEN : Nat := 0x111701
def MGMT_IPV4_GW : Nat := 0x111801
def MGMT_TRUST_ANCHOR : Nat := 0x112001
def MGMT_SESSIONS : Nat := 0x113001
def MGMT_EVENT_LOG : Nat := 0x115001
def MGMT_RX_MSGS : Nat := 0x114001
def MGMT_RX_BAD : Nat := 0x114003
def MGMT_RX_DISCARD : Nat := 0x114005
def MGMT_DTLS_FAIL : Nat := 0x114007
def MGMT_RESENT : Nat := 0x114009
def MGMT_EVENTS_SENT : Nat := 0x11400A
def MGMT_SEM_GRANTS : Nat := 0x11400B
def MGMT_SEM_LAPSES : Nat := 0x11400C
def MGMT_MBX_OVERLAP : Nat := 0x11400D
def MGMT_MBX_DROP : Nat := 0x11400E
def MGMT_CSM_OVERLAP : Nat := 0x11400F
def MODE_DRAIN_RX_DROPS : Nat := 0x130102
def MODE_DRAIN_DOORBELLS : Nat := 0x130103
def MODE_DRAIN_FORCED : Nat := 0x130104
def MODE_DRAIN_LIMIT_MS : Nat := 0x130201
def MODE_DRAIN_DONE : Nat := 0x130202
def STRAP_VALUES : Nat := 0x130301
def STRAP_UNSTABLE : Nat := 0x130302
def PWR_AUTO_MAX : Nat := 0x131001
def PWR_IDLE_US : Nat := 0x131002
def PWR_QUIET_US : Nat := 0x131003
def PWR_STEP2_BLOCKERS : Nat := 0x131004
def PWR_WAKE_SRC : Nat := 0x131005
def PWR_WAKE_GPIO : Nat := 0x131006
def PWR_WAKE_AT : Nat := 0x131007
def PWR_STEP_ENTRIES : Nat := 0x131101
def RESCUE_PORT_SRC : Nat := 0x132001
def RESCUE_PORT : Nat := 0x132002
def RESCUE_PORT_EFFECTIVE : Nat := 0x132003
def RESCUE_TX_FRAMES : Nat := 0x132101
def RESCUE_RX_FRAMES : Nat := 0x132102
def RESCUE_RX_DROPS : Nat := 0x132103
def THERM_TJ_MC : Nat := 0x170001
def THERM_LEVEL : Nat := 0x170002
def THERM_THROTTLE_START_C : Nat := 0x170003
def THERM_TJ_PEAK_MC : Nat := 0x170004
def THERM_SENSORS : Nat := 0x170101
def THERM_LEVEL_CHANGES : Nat := 0x170201
def THERM_SENSOR_FAULTS : Nat := 0x170202
def THERM_TRIPS : Nat := 0x170203
def SUPPLY_VIN_MV : Nat := 0x171001
def SUPPLY_IIN_MA : Nat := 0x171002
def SUPPLY_POWER_MW : Nat := 0x171003
def SUPPLY_POWER_PEAK_MW : Nat := 0x171004
def SUPPLY_UV_EVENTS : Nat := 0x171101
def SUPPLY_OV_EVENTS : Nat := 0x171102
def IMG_RUNNING : Nat := 0x160001
def IMG_BOOT_BANK : Nat := 0x160002
def IMG_FLASH_BYTES : Nat := 0x160003
def IMG_BANK_STATE : Nat := 0x160101
def IMG_BANK_VERSION : Nat := 0x160201
def IMG_BANK_SVN : Nat := 0x160301
def IMG_SETTINGS_MAJOR : Nat := 0x160401
def IMG_SETTINGS_MINOR : Nat := 0x160402
def IMG_FW_WRITE_A : Nat := 0x161001
def IMG_FW_WRITE_B : Nat := 0x161002
def IMG_FW_WRITE_STATUS : Nat := 0x161003
def IMG_ACTIVATE : Nat := 0x162001
def IMG_ACTIVATE_AT : Nat := 0x162002
def IMG_ACTIVATE_STATE : Nat := 0x162003
def IMG_ACTIVATE_CANCEL : Nat := 0x162004
def IMG_AT_MIN_LEAD_MS : Nat := 0x162005
def IMG_ACTIVATE_STATUS : Nat := 0x162006
def IMG_SVN_FUSED : Nat := 0x163001
def IMG_SVN_RAISE : Nat := 0x163003
def IMG_SIGNER_REVOKED : Nat := 0x163004
def IMG_SIGNER_REVOKE : Nat := 0x163005
def IMG_OWNER_KEY : Nat := 0x164001
def IMG_OWNER_SVN_MIN : Nat := 0x164002
def IMG_REJECT_CODE : Nat := 0x165001
def IMG_REJECT_OBJECT : Nat := 0x165002
def IMG_REJECTS : Nat := 0x165101
def IMG_FALLBACKS : Nat := 0x165102
def IMG_SETTINGS_RESETS : Nat := 0x165103
def IMG_HANDOVERS : Nat := 0x165104
def FLT_CELL_CORRECTED : Nat := 0x150201
def FLT_CELL_RETRIES : Nat := 0x150202
def FLT_CELL_UNCORRECTED : Nat := 0x150203
def FLT_BLOCK_RESETS : Nat := 0x150204
def FLT_BLOCK_HOLDS : Nat := 0x150205
def FLT_REGION_FENCES : Nat := 0x150206
def FLT_FATAL : Nat := 0x150207
def FLT_LOG_SUPPRESSED : Nat := 0x150208
def FLT_LOG_CORRUPT : Nat := 0x150209
def FLT_STARTS : Nat := 0x15020A
def FLT_SETTINGS_FALLBACK : Nat := 0x15020B
def FLT_REGION_RETEST : Nat := 0x150301
def FLT_REGION_RETEST_S : Nat := 0x150302
def FLT_REGION_TEST : Nat := 0x150303
def FLT_REGION_TEST_STATE : Nat := 0x150304
def FLT_FAULTN_FENCE : Nat := 0x150305
def FLT_CELL_LOG_MAX : Nat := 0x150306
def DIAG_INJECT_EN : Nat := 0x7F0001
def DIAG_INJECT : Nat := 0x7F0002
def DIAG_INJECTIONS : Nat := 0x7F0003
def NET_RX_FCS_ERR : Nat := 0x202101
def NET_RX_RUNT : Nat := 0x202201
def NET_RX_TOO_LONG : Nat := 0x202301
def NET_RX_DROP_OVERRUN : Nat := 0x202401
def NET_RX_MAC_CONTROL : Nat := 0x202501
def NET_RX_MAX_FRAME : Nat := 0x203001

end Sys2Proof.Machine.Obj
end

