-- ==== Sys2Proof/Machine/Catalog.lean ====
section
/-!
DEFINITION. The object dictionary as the object tables state it: for every object its subindexes, type, access code,
apply class, reset default, persistence and the range its own table row gives (spec/13_management_dictionary.md R412
to R418 and the object tables of every chapter).
-/

namespace Sys2Proof.Machine

/-- Access codes of Table 13-8. -/
inductive Acc where
  | ro | rw | rws | wo | rc
  deriving DecidableEq, Repr

/-- Apply classes of R47; `none` for objects nobody writes. -/
inductive Apply where
  | none | live | epoch | quiesce
  deriving DecidableEq, Repr

/-- The check a written value must pass on its own (R56): a range, a range or one further value, the bits that may be
set, a signed range, a FID that is no unused code (or 0xFFFF), or a rule of its own in the chapter. -/
inductive Rng where
  | any
  | range (lo hi : Nat)
  | rangeOr (lo hi v : Nat)
  | mask (m : Nat)
  | signed (bound : Nat)
  | fid
  | own
  deriving DecidableEq, Repr

/-- One row of an object table. -/
structure ObjRow where
  idx : Nat
  lo : Nat
  hi : Nat
  /-- type code of Table 13-7 -/
  typ : Nat
  /-- value bytes; 0 for TABLE and IMAGE -/
  len : Nat
  acc : Acc
  app : Apply
  /-- reset default as one big-endian number -/
  dflt : Nat
  stored : Bool
  /-- member of the keep set -/
  keep : Bool
  rng : Rng
  /-- TABLE: elements, type code and bytes of one element -/
  elem : Option (Nat × Nat × Nat)
  deriving DecidableEq, Repr

/-- The row with the given columns. -/
def row (idx lo hi typ len : Nat) (acc : Acc) (app : Apply) (dflt : Nat) (stored keep : Bool) (rng : Rng)
    (elem : Option (Nat × Nat × Nat)) : ObjRow :=
  { idx, lo, hi, typ, len, acc, app, dflt, stored, keep, rng, elem }

/-- Object rows, part 1. -/
def catalog1 : List ObjRow := [
  row 0x2010 1 16 2 1 .rws .epoch 0 true false (.range 0 1) (.none),  -- NET_PORT_BIND
  row 0x2011 1 16 2 1 .ro .none 0 false false (.any) (.none),  -- NET_PORT_BIND_EFFECTIVE
  row 0x2410 1 8 2 1 .rws .epoch 0 true false (.range 0 1) (.none),  -- WV_LINK_BIND
  row 0x2411 1 8 2 1 .ro .none 0 false false (.any) (.none),  -- WV_LINK_BIND_EFFECTIVE
  row 0x3010 1 1 2 1 .rws .epoch 0 true false (.range 0 1) (.none),  -- HST_PORT_BIND_HA
  row 0x3010 2 2 2 1 .rws .epoch 1 true false (.range 0 1) (.none),  -- HST_PORT_BIND_HB
  row 0x7010 1 1 2 1 .rw .quiesce 0 true false (.range 0 1) (.none),  -- MEM_APP_MODE
  row 0x7010 2 2 2 1 .rw .quiesce 6 true false (.range 2 16) (.none),  -- MEM_RESERVE_GIB
  row 0x7010 3 3 5 8 .ro .none 0 false false (.any) (.none),  -- MEM_APP_SIZE
  row 0x7011 1 1 5 8 .rc .none 0 false false (.any) (.none),  -- MEM_MIRROR_FIX
  row 0x7012 1 2 5 8 .ro .none 0 false false (.any) (.none),  -- MEM_RESERVE_USED
  row 0x7010 4 4 5 8 .rw .quiesce 68719476736 true false (.own) (.none),  -- CORE_RESET_VECTOR
  row 0x7010 5 5 2 1 .rw .live 0 false false (.range 0 1) (.none),  -- CORE_RUN
  row 0x7010 6 6 3 2 .rw .live 3000 true false (.range 800 3000) (.none),  -- CORE_FREQ_MAX_MHZ
  row 0x7020 0 0 13 0 .wo .live 0 false false (.any) (.none),  -- CORE_LOAD
  row 0x2000 1 2 2 1 .rw .quiesce 3 true false (.range 0 3) (.none),  -- NET_PORT_MODE
  row 0x2001 1 16 1 1 .rw .live 1 true false (.range 0 1) (.none),  -- NET_PORT_ENABLE
  row 0x2002 1 16 1 1 .rw .live 0 true false (.range 0 1) (.none),  -- NET_PORT_AN
  row 0x2003 1 16 1 1 .rw .live 1 true false (.range 0 1) (.none),  -- NET_PORT_LPI
  row 0x2004 1 16 2 1 .ro .none 0 false false (.any) (.none),  -- NET_LINK_STATE
  row 0x2005 1 16 5 8 .rc .none 0 false false (.any) (.none),  -- NET_LINK_DOWNS
  row 0x1200 1 1 4 4 .ro .none 0 false false (.any) (.none),  -- EPOCH_CURRENT
  row 0x1200 2 2 4 4 .ro .none 0 false false (.any) (.none),  -- EPOCH_OLDEST_LIVE
  row 0x1200 3 3 2 1 .ro .none 0 false false (.any) (.none),  -- EPOCH_LIVE_COUNT
  row 0x1200 4 4 4 4 .ro .none 1 false false (.any) (.none),  -- EPOCH_OPEN
  row 0x1200 5 5 2 1 .ro .none 0 false false (.any) (.none),  -- EPOCH_COMMIT_STATE
  row 0x1200 6 6 2 1 .wo .live 0 false false (.range 1 1) (.none),  -- EPOCH_DISCARD
  row 0x1200 7 7 2 1 .ro .none 0 false false (.any) (.none),  -- EPOCH_LAST_STATUS
  row 0x1200 8 8 4 4 .ro .none 0 false false (.any) (.none),  -- EPOCH_REJECT_INDEX
  row 0x1200 9 9 3 2 .ro .none 0 false false (.any) (.none),  -- EPOCH_STAGED_COUNT
  row 0x1200 10 10 4 4 .ro .none 0 false false (.any) (.none),  -- EPOCH_STAGED_BYTES
  row 0x1200 11 11 8 8 .ro .none 0 false false (.any) (.none),  -- EPOCH_SWITCHED_AT
  row 0x1201 1 1 5 8 .rc .none 0 false false (.any) (.none),  -- EPOCH_COMMITS
  row 0x1201 2 2 5 8 .rc .none 0 false false (.any) (.none),  -- EPOCH_COMMITS_QUEUED
  row 0x1201 3 3 5 8 .rc .none 0 false false (.any) (.none),  -- EPOCH_STAGE_DISCARDS
  row 0x1201 4 4 5 8 .rc .none 0 false false (.any) (.none),  -- EPOCH_STAGE_FULL
  row 0x1201 5 5 5 8 .rc .none 0 false false (.any) (.none),  -- EPOCH_JOURNAL_FULL
  row 0x1201 6 6 5 8 .rc .none 0 false false (.any) (.none),  -- EPOCH_STALE_OPS
  row 0x1201 7 7 5 8 .rc .none 0 false false (.any) (.none),  -- EPOCH_RETIRE_MAX_NS
  row 0x1210 1 1 4 4 .rw .live 0 false false (.any) (.none)  -- EPOCH_AT_ID
  ]

/-- Object rows, part 2. -/
def catalog2 : List ObjRow := [
  row 0x1210 2 2 8 8 .rw .live 0 false false (.any) (.none),  -- EPOCH_AT_TIME
  row 0x1210 3 3 10 128 .rw .live 0 false false (.any) (.none),  -- EPOCH_AT_MEMBERS
  row 0x1210 4 4 2 1 .rw .live 0 false false (.range 0 1) (.none),  -- EPOCH_AT_ARM
  row 0x1210 5 5 2 1 .ro .none 0 false false (.any) (.none),  -- EPOCH_AT_STATE
  row 0x1210 6 6 10 128 .ro .none 0 false false (.any) (.none),  -- EPOCH_AT_ACKED
  row 0x1210 7 7 2 1 .wo .live 0 false false (.range 1 1) (.none),  -- EPOCH_AT_CANCEL
  row 0x1210 8 8 2 1 .wo .live 0 false false (.range 1 1) (.none),  -- EPOCH_AT_RESYNC
  row 0x1210 9 9 4 4 .rw .live 500 true false (.range 100 1000000) (.none),  -- EPOCH_AT_MIN_LEAD_US
  row 0x1211 1 1 5 8 .rc .none 0 false false (.any) (.none),  -- EPOCH_AT_EXECUTED
  row 0x1211 2 2 5 8 .rc .none 0 false false (.any) (.none),  -- EPOCH_AT_CANCELLED
  row 0x1211 3 3 5 8 .rc .none 0 false false (.any) (.none),  -- EPOCH_AT_MISSED
  row 0x1211 4 4 5 8 .rc .none 0 false false (.any) (.none),  -- EPOCH_AT_DIVERGED
  row 0x4000 1 16 3 2 .rws .epoch 0 true false (.range 0 511) (.none),  -- PARSE_START_NET
  row 0x4000 17 24 3 2 .rws .epoch 0 true false (.range 0 511) (.none),  -- PARSE_START_WEAVE
  row 0x4000 25 25 3 2 .rws .epoch 0 true false (.range 0 511) (.none),  -- PARSE_START_HOST
  row 0x4000 26 26 3 2 .rws .epoch 0 true false (.range 0 511) (.none),  -- PARSE_START_CORE
  row 0x4001 1 1 3 2 .ro .none 0 false false (.any) (.none),  -- PARSE_NODES_USED
  row 0x4001 2 2 3 2 .ro .none 0 false false (.any) (.none),  -- PARSE_TRANS_USED
  row 0x4001 3 3 3 2 .ro .none 0 false false (.any) (.none),  -- PARSE_ASSIST_USED
  row 0x4002 1 1 5 8 .ro .none 0 false false (.any) (.none),  -- PARSE_ERR_LAST
  row 0x4010 1 8 5 8 .rc .none 0 false false (.any) (.none),  -- PARSE_ERR_NODE_LIMIT
  row 0x4011 1 8 5 8 .rc .none 0 false false (.any) (.none),  -- PARSE_ERR_DEPTH
  row 0x4012 1 8 5 8 .rc .none 0 false false (.any) (.none),  -- PARSE_ERR_TRUNCATED
  row 0x4013 1 8 5 8 .rc .none 0 false false (.any) (.none),  -- PARSE_ERR_NO_TRANSITION
  row 0x4014 1 8 5 8 .rc .none 0 false false (.any) (.none),  -- PARSE_ERR_INVALID_NODE
  row 0x4015 1 8 5 8 .rc .none 0 false false (.any) (.none),  -- PARSE_ERR_ASSIST_LIMIT
  row 0x4016 1 8 5 8 .rc .none 0 false false (.any) (.none),  -- PARSE_ERR_ASSIST_VISITS
  row 0x4017 1 8 5 8 .rc .none 0 false false (.any) (.none),  -- PARSE_ERR_ASSIST_CODE
  row 0x4018 1 8 5 8 .rc .none 0 false false (.any) (.none),  -- PARSE_ASSIST_CALLS
  row 0x4400 0 0 13 0 .rws .epoch 0 true false (.any) (.none),  -- PIPE_IMAGE
  row 0x4401 1 1 4 4 .ro .none 0 false false (.any) (.none),  -- PIPE_IMAGE_VERSION
  row 0x4401 2 2 2 1 .ro .none 0 false false (.any) (.none),  -- PIPE_FAR_SLOTS
  row 0x4410 1 16 1 1 .rws .epoch 0 true false (.range 0 1) (.none),  -- PIPE_MIRROR_EN
  row 0x4411 1 16 4 4 .rws .epoch 0 true false (.range 0 131071) (.none),  -- PIPE_MIRROR_EQID
  row 0x4412 1 16 3 2 .rws .epoch 0 true false (.rangeOr 64 16383 0) (.none),  -- PIPE_MIRROR_TRUNC
  row 0x4420 1 8 5 8 .rc .none 0 false false (.any) (.none),  -- PIPE_PACKETS
  row 0x4421 1 8 5 8 .rc .none 0 false false (.any) (.none),  -- PIPE_RECIRC_PASSES
  row 0x4422 1 8 5 8 .rc .none 0 false false (.any) (.none),  -- PIPE_DROP_ACTION
  row 0x4423 1 8 5 8 .rc .none 0 false false (.any) (.none),  -- PIPE_DROP_PASS_LIMIT
  row 0x4424 1 8 5 8 .rc .none 0 false false (.any) (.none)  -- PIPE_DROP_RECIRC_FULL
  ]

/-- Object rows, part 3. -/
def catalog3 : List ObjRow := [
  row 0x4425 1 8 5 8 .rc .none 0 false false (.any) (.none),  -- PIPE_DROP_NO_DECISION
  row 0x4426 1 8 5 8 .rc .none 0 false false (.any) (.none),  -- PIPE_DROP_BAD_TARGET
  row 0x4427 1 8 5 8 .rc .none 0 false false (.any) (.none),  -- PIPE_DROP_LOOKUP_LATE
  row 0x4428 1 8 5 8 .rc .none 0 false false (.any) (.none),  -- PIPE_DROP_RX_BAD
  row 0x4429 1 8 5 8 .rc .none 0 false false (.any) (.none),  -- PIPE_DROP_OVERSIZE
  row 0x442A 1 8 5 8 .rc .none 0 false false (.any) (.none),  -- PIPE_DROP_MAX_AGE
  row 0x442B 1 8 5 8 .rc .none 0 false false (.any) (.none),  -- PIPE_POLICER_FOREIGN
  row 0x442C 1 8 5 8 .rc .none 0 false false (.any) (.none),  -- PIPE_NEXT_TABLE_BAD
  row 0x442D 1 8 5 8 .rc .none 0 false false (.any) (.none),  -- PIPE_COUNT_RANGE
  row 0x442E 1 8 5 8 .rc .none 0 false false (.any) (.none),  -- PIPE_MIRROR_COPIES
  row 0x4430 1 32 12 0 .ro .none 0 false false (.any) (.some (0, 10, 32)),  -- PIPE_COUNTER_BANK
  row 0x2020 1 16 5 8 .rc .none 0 false false (.any) (.none),  -- NET_TX_STOMPED
  row 0x4800 1 2 5 8 .rc .none 0 false false (.any) (.none),  -- TBL_OPS
  row 0x4801 1 2 5 8 .rc .none 0 false false (.any) (.none),  -- TBL_OP_FULL
  row 0x4802 1 2 5 8 .rc .none 0 false false (.any) (.none),  -- TBL_OP_DENIED
  row 0x4803 1 2 5 8 .rc .none 0 false false (.any) (.none),  -- TBL_OP_BAD
  row 0x4804 1 2 5 8 .rc .none 0 false false (.any) (.none),  -- TBL_OP_NOCHANGE
  row 0x4805 1 2 5 8 .rc .none 0 false false (.any) (.none),  -- TBL_OVF_INSERTS
  row 0x4806 1 2 5 8 .rc .none 0 false false (.any) (.none),  -- TBL_OP_BUSY
  row 0x4A00 1 2 5 8 .rc .none 0 false false (.any) (.none),  -- LRN_RECORDS
  row 0x4A01 1 2 5 8 .rc .none 0 false false (.any) (.none),  -- LRN_SUPPRESSED
  row 0x4A02 1 2 5 8 .rc .none 0 false false (.any) (.none),  -- LRN_SUPPRESS_DISPLACED
  row 0x4A03 1 2 5 8 .rc .none 0 false false (.any) (.none),  -- LRN_DROP_RING_FULL
  row 0x4A04 1 2 5 8 .rc .none 0 false false (.any) (.none),  -- LRN_DROP_RATE
  row 0x4A05 1 2 5 8 .rc .none 0 false false (.any) (.none),  -- LRN_DROP_RING_DOWN
  row 0x4A06 1 2 5 8 .rc .none 0 false false (.any) (.none),  -- LRN_AGE_RECORDS
  row 0x4A07 1 1 5 8 .rc .none 0 false false (.any) (.none),  -- LRN_SHUTTLES_OUT
  row 0x4A08 1 1 5 8 .rc .none 0 false false (.any) (.none),  -- LRN_SHUTTLES_IN
  row 0x4A09 1 1 5 8 .rc .none 0 false false (.any) (.none),  -- LRN_SHUTTLE_DROP
  row 0x4810 1 16 3 2 .rw .live 65535 true false (.fid) (.none),  -- TBL_WRITER_FID
  row 0x4811 1 16 10 32 .rw .live 0 true false (.any) (.none),  -- TBL_WRITER_TABLES
  row 0x4A10 1 1 3 2 .rw .live 100 true false (.range 1 10000) (.none),  -- LRN_SUPPRESS_MS
  row 0x4A11 1 64 3 2 .rw .live 65535 true false (.fid) (.none),  -- LRN_RING_FID
  row 0x4A12 1 64 4 4 .rw .live 1000000 true false (.range 1000 32000000) (.none),  -- LRN_RATE_MAX
  row 0x4A13 1 255 2 1 .rw .live 255 true false (.rangeOr 0 63 255) (.none),  -- LRN_CHANNEL_RING
  row 0x4A14 1 255 10 128 .rw .live 0 true false (.any) (.none),  -- LRN_SHUTTLE_PEERS
  row 0x4900 1 1 2 1 .ro .none 255 false false (.any) (.none),  -- TBL_KIND
  row 0x4900 2 2 2 1 .ro .none 0 false false (.any) (.none),  -- TBL_PLACEMENT
  row 0x4900 3 3 2 1 .ro .none 0 false false (.any) (.none),  -- TBL_CLASS
  row 0x4900 4 4 4 4 .ro .none 0 false false (.any) (.none)  -- TBL_SIZE
  ]

/-- Object rows, part 4. -/
def catalog4 : List ObjRow := [
  row 0x4900 5 5 2 1 .ro .none 0 false false (.any) (.none),  -- TBL_LEVELS
  row 0x4900 6 6 4 4 .ro .none 0 false false (.any) (.none),  -- TBL_USED_PKA
  row 0x4900 7 7 4 4 .ro .none 0 false false (.any) (.none),  -- TBL_USED_PKB
  row 0x4900 8 8 3 2 .ro .none 0 false false (.any) (.none),  -- TBL_OVF_USED_PKA
  row 0x4900 9 9 3 2 .ro .none 0 false false (.any) (.none),  -- TBL_OVF_USED_PKB
  row 0x4900 10 10 4 4 .rw .live 300 true false (.range 0 86400) (.none),  -- TBL_AGE_PERIOD_S
  row 0x4900 11 11 2 1 .rw .live 255 true false (.rangeOr 0 63 255) (.none),  -- TBL_LEARN_RING
  row 0x4900 12 12 2 1 .rw .live 0 true false (.range 0 255) (.none),  -- TBL_SHUTTLE_CHANNEL
  row 0x4900 13 13 2 1 .rw .live 0 true false (.mask 3) (.none),  -- TBL_SHUTTLE_FLAGS
  row 0x4C00 1 8 2 1 .ro .none 0 false false (.any) (.none),  -- TCAM_BANK_UNITS
  row 0x4C01 1 8 2 1 .ro .none 255 false false (.any) (.none),  -- TCAM_BANK_TABLE
  row 0x4C02 1 8 2 1 .ro .none 0 false false (.any) (.none),  -- TCAM_BANK_POSITION
  row 0x4C10 1 2 5 8 .rc .none 0 false false (.any) (.none),  -- TCAM_SCRUB_FIX
  row 0x4C11 1 2 5 8 .rc .none 0 false false (.any) (.none),  -- TCAM_SCRUB_PASSES
  row 0x4C12 1 2 5 8 .rc .none 0 false false (.any) (.none),  -- TCAM_SHADOW_LOST
  row 0x4C13 1 2 5 8 .rc .none 0 false false (.any) (.none),  -- TCAM_INDEX_HELD
  row 0x4C14 1 1 5 8 .ro .none 0 false false (.any) (.none),  -- TCAM_SCRUB_LAST
  row 0x4C14 2 2 8 8 .ro .none 0 false false (.any) (.none),  -- TCAM_SCRUB_LAST_TIME
  row 0x4E00 1 16 13 0 .rws .epoch 0 true false (.any) (.none),  -- PAT_SET_IMAGE
  row 0x4E01 1 16 4 4 .ro .none 0 false false (.any) (.none),  -- PAT_SET_PATTERNS
  row 0x4E02 1 16 4 4 .ro .none 0 false false (.any) (.none),  -- PAT_SET_VERSION
  row 0x4E03 1 1 5 8 .ro .none 0 false false (.any) (.none),  -- PAT_MEM_USED
  row 0x4E10 1 2 4 4 .rw .live 8192 true false (.range 256 65536) (.none),  -- PAT_DIVERT_MAX_KIB
  row 0x4E11 1 3 2 1 .rw .live 1 true false (.range 1 64) (.none),  -- PAT_WEIGHT
  row 0x4E20 1 3 5 8 .rc .none 0 false false (.any) (.none),  -- PAT_SCANS
  row 0x4E21 1 3 5 8 .rc .none 0 false false (.any) (.none),  -- PAT_BYTES
  row 0x4E22 1 3 5 8 .rc .none 0 false false (.any) (.none),  -- PAT_MATCHES
  row 0x4E23 1 2 5 8 .rc .none 0 false false (.any) (.none),  -- PAT_DROP_DIVERT_FULL
  row 0x4E24 1 1 5 8 .rc .none 0 false false (.any) (.none),  -- PAT_REPORT_TRUNC
  row 0x4E25 1 1 5 8 .rc .none 0 false false (.any) (.none),  -- PAT_REQ_BAD
  row 0x4E26 1 2 5 8 .rc .none 0 false false (.any) (.none),  -- PAT_DIVERT_LOST
  row 0x5000 1 1 4 4 .rw .live 20 true false (.range 1 500) (.none),  -- TM_MAX_AGE
  row 0x5000 2 2 3 2 .rw .live 64 true false (.range 8 4096) (.none),  -- TM_FRONT_Q_CELLS
  row 0x5000 3 3 3 2 .rw .live 4096 true false (.range 1024 16384) (.none),  -- TM_FRONT_KEEP_CELLS
  row 0x5000 4 4 3 2 .rw .live 512 true false (.range 64 4096) (.none),  -- TM_QUANTUM_UNIT
  row 0x5001 1 2 4 4 .rw .quiesce 2048 true false (.range 256 8192) (.none),  -- TM_HBM_BUF_MIB
  row 0x5010 1 2 12 0 .rws .epoch 0 true false (.own) (.some (86272, 5, 8)),  -- TM_TOPOLOGY
  row 0x5011 1 2 12 0 .rw .live 1 true false (.range 1 1024) (.some (86272, 3, 2)),  -- TM_WEIGHT
  row 0x5012 1 2 12 0 .rw .live 2000 true false (.range 50 1000000) (.some (86272, 4, 4)),  -- TM_OVERDUE_US
  row 0x5013 1 64 5 8 .rws .epoch 0 true false (.own) (.none)  -- TM_ADM_PROFILE
  ]

/-- Object rows, part 5. -/
def catalog5 : List ObjRow := [
  row 0x5014 1 24 10 16 .rws .epoch 0 true false (.any) (.none),  -- TM_CLASS_MAP
  row 0x5015 1 16 2 1 .rw .live 0 true false (.any) (.none),  -- TM_PFC_HONOUR
  row 0x5016 1 16 1 1 .rw .live 0 true false (.range 0 1) (.none),  -- TM_PAUSE_HONOUR
  row 0x5020 1 2 4 4 .ro .none 0 false false (.any) (.none),  -- TM_FRONT_USED
  row 0x5021 1 2 4 4 .ro .none 0 false false (.any) (.none),  -- TM_HBM_USED
  row 0x5022 1 2 4 4 .ro .none 0 false false (.any) (.none),  -- TM_SHARED_FREE
  row 0x5023 1 2 4 4 .ro .none 0 false false (.any) (.none),  -- TM_MIN_RESERVED
  row 0x5030 1 2 5 8 .rc .none 0 false false (.any) (.none),  -- TM_ENQUEUED
  row 0x5031 1 2 5 8 .rc .none 0 false false (.any) (.none),  -- TM_SPILLED
  row 0x5032 1 2 5 8 .rc .none 0 false false (.any) (.none),  -- TM_CUT_THROUGH
  row 0x5033 1 2 5 8 .rc .none 0 false false (.any) (.none),  -- TM_DROP_THRESHOLD
  row 0x5034 1 2 5 8 .rc .none 0 false false (.any) (.none),  -- TM_DROP_QUEUE_MAX
  row 0x5035 1 2 5 8 .rc .none 0 false false (.any) (.none),  -- TM_DROP_BUFFER_FULL
  row 0x5036 1 2 5 8 .rc .none 0 false false (.any) (.none),  -- TM_DROP_UNATTACHED
  row 0x5037 1 2 5 8 .rc .none 0 false false (.any) (.none),  -- TM_DROP_PORT_DOWN
  row 0x5038 1 2 5 8 .rc .none 0 false false (.any) (.none),  -- TM_DROP_BUF_ECC
  row 0x5039 1 2 5 8 .rc .none 0 false false (.any) (.none),  -- TM_DROP_MAX_AGE
  row 0x503A 1 2 5 8 .rc .none 0 false false (.any) (.none),  -- TM_OVERDUE
  row 0x503B 1 2 4 4 .ro .none 0 false false (.any) (.none),  -- TM_OVERDUE_LAST
  row 0x5400 1 2 12 0 .rw .live 0 true false (.own) (.some (86272, 10, 16)),  -- SHP_NODE
  row 0x5410 1 1 12 0 .rws .epoch 0 true false (.own) (.some (262144, 10, 32)),  -- POL_CONFIG
  row 0x5411 1 1 12 0 .ro .none 0 false false (.any) (.some (262144, 10, 48)),  -- POL_STATS
  row 0x5420 1 2 5 8 .rc .none 0 false false (.any) (.none),  -- POL_DROP_RED
  row 0x5421 1 2 5 8 .rc .none 0 false false (.any) (.none),  -- POL_REMARKED_RED
  row 0x5422 1 2 5 8 .rc .none 0 false false (.any) (.none),  -- POL_INVALID
  row 0x5423 1 2 5 8 .rc .none 0 false false (.any) (.none),  -- POL_TWIN_USED
  row 0x5800 1 24 1 1 .rws .epoch 0 true false (.range 0 1) (.none),  -- GATE_ENABLE
  row 0x5801 1 24 8 8 .rws .epoch 0 true false (.any) (.none),  -- GATE_BASE_TIME
  row 0x5802 1 24 4 4 .rws .epoch 1000000 true false (.range 100 1000000000) (.none),  -- GATE_CYCLE_NS
  row 0x5803 1 24 12 0 .rws .epoch 0 true false (.own) (.some (1024, 5, 8)),  -- GATE_LIST
  row 0x5804 1 24 3 2 .rw .live 64 true false (.range 0 512) (.none),  -- GATE_GROWTH
  row 0x5810 1 24 2 1 .ro .none 0 false false (.any) (.none),  -- GATE_PENDING
  row 0x5811 1 24 8 8 .ro .none 0 false false (.any) (.none),  -- GATE_SWITCH_AT
  row 0x5812 1 24 10 32 .ro .none 115792089237316195423570985008687907853269984665640564039457584007913129639935 false false (.any) (.none),  -- GATE_LONGEST_NS
  row 0x5820 1 2 5 8 .rc .none 0 false false (.any) (.none),  -- TM_DROP_GATE_OVERSIZE
  row 0x5821 1 24 5 8 .rc .none 0 false false (.any) (.none),  -- GATE_DROP_OVERRUN
  row 0x5C10 1 1 1 1 .rw .live 1 true false (.range 0 1) (.none),  -- CENSUS_EN
  row 0x5C10 2 2 4 4 .rw .live 1000 true false (.range 1000 100000) (.none),  -- CENSUS_PERIOD
  row 0x5C10 3 3 1 1 .rw .live 0 true false (.range 0 1) (.none),  -- CENSUS_SKIP_IDLE
  row 0x5C11 1 16 3 2 .rw .live 65535 true false (.fid) (.none)  -- CENSUS_RING_FID
  ]

/-- Object rows, part 6. -/
def catalog6 : List ObjRow := [
  row 0x5C12 1 1 4 4 .ro .none 0 false false (.any) (.none),  -- CENSUS_SWEEP
  row 0x5C20 1 16 5 8 .rc .none 0 false false (.any) (.none),  -- CENSUS_RECORDS
  row 0x5C21 1 16 5 8 .rc .none 0 false false (.any) (.none),  -- CENSUS_DROP_RING_FULL
  row 0x5C30 1 1 12 0 .rw .live 0 true false (.own) (.some (256, 5, 8)),  -- SMP_CONFIG
  row 0x5C31 1 16 3 2 .rw .live 65535 true false (.fid) (.none),  -- SMP_RING_FID
  row 0x5C32 1 16 4 4 .rw .live 100000 true false (.range 1000 10000000) (.none),  -- SMP_RATE_MAX
  row 0x5C40 1 16 5 8 .rc .none 0 false false (.any) (.none),  -- SMP_RECORDS
  row 0x5C41 1 16 5 8 .rc .none 0 false false (.any) (.none),  -- SMP_DROP_RING_FULL
  row 0x5C42 1 16 5 8 .rc .none 0 false false (.any) (.none),  -- SMP_DROP_RATE
  row 0x5C50 1 1 1 1 .rw .live 0 true false (.range 0 1) (.none),  -- CENSUS_IPFIX_EN
  row 0x5C50 2 2 2 1 .rw .live 0 true false (.range 0 1) (.none),  -- CENSUS_IPFIX_PORT
  row 0x5C50 3 3 10 16 .rw .live 0 true false (.any) (.none),  -- CENSUS_IPFIX_DEST
  row 0x5C50 4 4 3 2 .rw .live 4739 true false (.range 1 65535) (.none),  -- CENSUS_IPFIX_UDP
  row 0x5C50 5 5 3 2 .rw .live 10 true false (.range 1 60) (.none),  -- CENSUS_IPFIX_INTERVAL_S
  row 0x5C50 6 6 4 4 .rw .live 0 true false (.any) (.none),  -- CENSUS_IPFIX_DOMAIN
  row 0x5C50 7 7 4 4 .ro .none 0 false false (.any) (.none),  -- CENSUS_IPFIX_PEN
  row 0x5C51 1 1 5 8 .rc .none 0 false false (.any) (.none),  -- CENSUS_IPFIX_MSGS
  row 0x5C51 2 2 5 8 .rc .none 0 false false (.any) (.none),  -- CENSUS_IPFIX_DROPS
  row 0x2400 1 1 2 1 .rw .quiesce 0 true false (.range 0 1) (.none),  -- WV_ADDR_SRC
  row 0x2400 2 2 3 2 .rw .quiesce 0 true false (.range 0 1023) (.none),  -- WV_ADDR
  row 0x2400 3 3 3 2 .ro .none 0 false false (.any) (.none),  -- WV_ADDR_EFFECTIVE
  row 0x2400 4 4 4 4 .rw .quiesce 0 true false (.any) (.none),  -- WV_FABRIC_ID
  row 0x2401 1 8 1 1 .rw .live 1 true false (.range 0 1) (.none),  -- WV_LINK_ENABLE
  row 0x2402 1 8 3 2 .rw .live 1 true false (.range 1 500) (.none),  -- WV_LINK_COST
  row 0x2403 1 8 6 4 .rw .live 0 true false (.signed 10000) (.none),  -- WV_LINK_ASYM_NS
  row 0x2404 1 8 2 1 .ro .none 0 false false (.any) (.none),  -- WV_LINK_STATE
  row 0x2405 1 8 3 2 .ro .none 0 false false (.any) (.none),  -- WV_LINK_PEER
  row 0x2406 1 8 5 8 .ro .none 0 false false (.any) (.none),  -- WV_LINK_PEER_ID
  row 0x2420 1 1 4 4 .rws .epoch 10000 true false (.own) (.none),  -- WV_CAL_CYCLE_NS
  row 0x2420 2 2 12 0 .rws .epoch 0 true false (.own) (.some (64, 4, 4)),  -- WV_CAL_WINDOWS
  row 0x2420 3 3 3 2 .rws .epoch 45055 true false (.own) (.none),  -- WV_TC_CLASS
  row 0x2421 1 1 4 4 .ro .none 0 false false (.any) (.none),  -- WV_CAL_DIGEST
  row 0x2421 2 2 2 1 .ro .none 0 false false (.any) (.none),  -- WV_CAL_PENDING
  row 0x2421 3 3 8 8 .ro .none 0 false false (.any) (.none),  -- WV_CAL_SWITCH_AT
  row 0x2430 1 1 12 0 .ro .none 0 false false (.any) (.some (1024, 4, 4)),  -- WV_DEST_TABLE
  row 0x2431 1 1 5 8 .rc .none 0 false false (.any) (.none),  -- WV_ROUTE_RECOMPUTES
  row 0x2431 2 2 3 2 .ro .none 0 false false (.any) (.none),  -- WV_LSDB_DEVICES
  row 0x2440 1 1 2 1 .rw .live 128 true false (.range 0 255) (.none),  -- WV_TIME_PRIO
  row 0x2440 2 2 3 2 .ro .none 0 false false (.any) (.none),  -- WV_TIME_SOURCE
  row 0x2440 3 3 2 1 .ro .none 0 false false (.any) (.none)  -- WV_TIME_HOPS
  ]

/-- Object rows, part 7. -/
def catalog7 : List ObjRow := [
  row 0x2440 4 4 2 1 .ro .none 255 false false (.any) (.none),  -- WV_TIME_PARENT
  row 0x2440 5 5 7 8 .ro .none 0 false false (.any) (.none),  -- WV_TIME_OFFSET_NS
  row 0x2450 1 8 5 8 .rc .none 0 false false (.any) (.none),  -- WV_RX_FRAMES
  row 0x2451 1 8 5 8 .rc .none 0 false false (.any) (.none),  -- WV_TX_FRAMES
  row 0x2452 1 8 5 8 .rc .none 0 false false (.any) (.none),  -- WV_RX_FCS_ERR
  row 0x2453 1 8 5 8 .rc .none 0 false false (.any) (.none),  -- WV_DROP_HEADER
  row 0x2454 1 8 5 8 .rc .none 0 false false (.any) (.none),  -- WV_DROP_LINK_STATE
  row 0x2455 1 8 5 8 .rc .none 0 false false (.any) (.none),  -- WV_DROP_WINDOW
  row 0x2456 1 8 5 8 .rc .none 0 false false (.any) (.none),  -- WV_DROP_OUT_OF_STEP
  row 0x2457 1 8 5 8 .rc .none 0 false false (.any) (.none),  -- WV_DROP_UNKNOWN_SRC
  row 0x2458 1 8 5 8 .rc .none 0 false false (.any) (.none),  -- WV_DROP_HOP_LIMIT
  row 0x2459 1 8 5 8 .rc .none 0 false false (.any) (.none),  -- WV_RX_DROP_OVERRUN
  row 0x245A 1 8 5 8 .rc .none 0 false false (.any) (.none),  -- WV_TX_STOMPED
  row 0x245B 1 8 5 8 .rc .none 0 false false (.any) (.none),  -- WV_RELAYED
  row 0x245C 1 8 5 8 .rc .none 0 false false (.any) (.none),  -- WV_CTL_DROP
  row 0x245D 1 8 5 8 .rc .none 0 false false (.any) (.none),  -- WV_SHUTTLE_DROP
  row 0x245E 1 8 5 8 .rc .none 0 false false (.any) (.none),  -- WV_LINK_DOWNS
  row 0x245F 1 8 5 8 .rc .none 0 false false (.any) (.none),  -- WV_ADDR_DUP
  row 0x2460 1 8 5 8 .rc .none 0 false false (.any) (.none),  -- WV_FLOOD_DUPS
  row 0x2470 1 2 5 8 .rc .none 0 false false (.any) (.none),  -- WV_DROP_NO_ROUTE
  row 0x2471 1 1 5 8 .rc .none 0 false false (.any) (.none),  -- WV_ADDR_CONFLICT
  row 0x3000 1 4 2 1 .ro .none 0 false false (.any) (.none),  -- HST_LINK_STATE
  row 0x3001 1 4 2 1 .ro .none 0 false false (.any) (.none),  -- HST_LINK_SPEED
  row 0x3002 1 4 2 1 .ro .none 0 false false (.any) (.none),  -- HST_LINK_WIDTH
  row 0x3003 1 2 2 1 .rw .quiesce 0 true false (.range 0 1) (.none),  -- HST_BIFURCATE
  row 0x3004 1 2 2 1 .rw .quiesce 7 true false (.range 1 7) (.none),  -- HST_SPEED_MAX
  row 0x3005 1 2 1 1 .rw .quiesce 0 true false (.range 0 1) (.none),  -- HST_CLKREQ_GPIO
  row 0x3006 1 2 3 2 .rw .live 16 true false (.range 2 1000) (.none),  -- HST_L1_IDLE_US
  row 0x3007 1 2 1 1 .rw .live 1 true false (.range 0 1) (.none),  -- HST_L0P_EN
  row 0x3008 1 2 3 2 .rw .live 100 true false (.range 1 10000) (.none),  -- HST_PRI_TIMEOUT_MS
  row 0x3009 1 2 2 1 .rw .live 3 true false (.range 1 255) (.none),  -- HST_CTO_FREEZE_COUNT
  row 0x300A 1 2 2 1 .rw .quiesce 0 true false (.rangeOr 20 40 0) (.none),  -- HST_PEER_BAR_LOG2
  row 0x3012 1 2 12 0 .rws .epoch 0 true false (.own) (.some (64, 10, 32)),  -- HST_PEER_WIN
  row 0x3013 1 2 12 0 .rw .live 0 true false (.rangeOr 16 7936 0) (.some (4104, 3, 2)),  -- HST_TAG_QUOTA
  row 0x3014 1 2 12 0 .ro .none 0 false false (.any) (.some (4104, 3, 2)),  -- HST_TAG_QUOTA_EFFECTIVE
  row 0x3020 1 2 2 1 .ro .none 0 false false (.any) (.none),  -- HST_PORT_FROZEN
  row 0x3021 1 2 4 4 .ro .none 0 false false (.any) (.none),  -- HST_FREEZE_CAUSE
  row 0x3022 1 2 2 1 .wo .live 0 false false (.own) (.none),  -- HST_PORT_RELEASE
  row 0x3030 1 2 5 8 .rc .none 0 false false (.any) (.none),  -- HST_FREEZES
  row 0x3031 1 2 5 8 .rc .none 0 false false (.any) (.none)  -- HST_CPL_TIMEOUT
  ]

/-- Object rows, part 8. -/
def catalog8 : List ObjRow := [
  row 0x3032 1 2 5 8 .rc .none 0 false false (.any) (.none),  -- HST_CPL_UNEXPECTED
  row 0x3033 1 2 5 8 .rc .none 0 false false (.any) (.none),  -- HST_CPL_ERROR
  row 0x3034 1 2 5 8 .rc .none 0 false false (.any) (.none),  -- HST_POISONED_RX
  row 0x3035 1 2 5 8 .rc .none 0 false false (.any) (.none),  -- HST_MALFORMED_RX
  row 0x3036 1 2 5 8 .rc .none 0 false false (.any) (.none),  -- HST_DROP_FROZEN
  row 0x3037 1 2 5 8 .rc .none 0 false false (.any) (.none),  -- HST_DROP_BME_OFF
  row 0x3038 1 2 5 8 .rc .none 0 false false (.any) (.none),  -- HST_DROP_LINK_DOWN
  row 0x3039 1 2 5 8 .rc .none 0 false false (.any) (.none),  -- HST_MMIO_DISCARD
  row 0x303A 1 2 5 8 .rc .none 0 false false (.any) (.none),  -- HST_PEER_UR
  row 0x303B 1 2 5 8 .rc .none 0 false false (.any) (.none),  -- HST_ATS_INVALIDATIONS
  row 0x303C 1 2 5 8 .rc .none 0 false false (.any) (.none),  -- HST_PRI_REQUESTS
  row 0x303D 1 2 5 8 .rc .none 0 false false (.any) (.none),  -- HST_PRI_TIMEOUTS
  row 0x303E 1 4 5 8 .rc .none 0 false false (.any) (.none),  -- HST_LINK_DOWNS
  row 0x303F 1 4 5 8 .rc .none 0 false false (.any) (.none),  -- HST_L1_ENTRIES
  row 0x3040 1 2 5 8 .rc .none 0 false false (.any) (.none),  -- HST_DROP_STAGE_AGE
  row 0x3400 1 2 12 0 .rw .quiesce 0 true false (.own) (.some (8, 5, 8)),  -- FN_PF_CONFIG
  row 0x3401 1 3 12 0 .rw .live 0 true false (.range 0 1) (.some (4104, 1, 1)),  -- FN_ENABLE
  row 0x3402 1 3 12 0 .rw .live 0 true false (.own) (.some (4104, 4, 4)),  -- FN_QP_COUNT
  row 0x3403 1 3 12 0 .rw .quiesce 0 true false (.range 1 2048) (.some (4104, 3, 2)),  -- FN_VECTORS
  row 0x3404 1 3 12 0 .ro .none 0 false false (.any) (.some (0, 4, 4)),  -- FN_QP_MAP
  row 0x3405 1 1 4 4 .ro .none 262144 false false (.any) (.none),  -- FN_QP_FREE
  row 0x3406 1 3 12 0 .rws .epoch 255 true false (.rangeOr 0 1 255) (.some (4104, 2, 1)),  -- FN_BIND
  row 0x3407 1 3 12 0 .rws .epoch 65535 true false (.any) (.some (4104, 3, 2)),  -- FN_RX_QUEUE
  row 0x3408 1 3 12 0 .rw .live 1 true false (.range 1 1024) (.some (4104, 3, 2)),  -- FN_TX_WEIGHT
  row 0x3409 1 3 12 0 .rw .live 0 true false (.any) (.some (4104, 9, 8)),  -- FN_TX_RATE
  row 0x340A 1 1 4 4 .wo .live 0 false false (.own) (.none),  -- FN_RESET_CMD
  row 0x340B 1 3 12 0 .ro .none 0 false false (.any) (.some (4104, 2, 1)),  -- FN_RESET_STATE
  row 0x340C 1 1 3 2 .rw .live 1000 true false (.range 10 10000) (.none),  -- FN_DRAIN_LIMIT_MS
  row 0x3410 1 2 3 2 .rw .live 0 true false (.fid) (.none),  -- MIG_CTL_FID
  row 0x3410 3 3 3 2 .rw .live 500 true false (.range 10 10000) (.none),  -- MIG_HOLD_LIMIT_MS
  row 0x3800 1 3 5 8 .rc .none 0 false false (.any) (.none),  -- HST_TX_PACKETS
  row 0x3801 1 3 5 8 .rc .none 0 false false (.any) (.none),  -- HST_RX_PACKETS
  row 0x3802 1 3 5 8 .rc .none 0 false false (.any) (.none),  -- HST_DOORBELL_BAD
  row 0x3803 1 3 5 8 .rc .none 0 false false (.any) (.none),  -- HST_DESC_BAD
  row 0x3804 1 3 5 8 .rc .none 0 false false (.any) (.none),  -- HST_DROP_CQ_FULL
  row 0x3805 1 3 5 8 .rc .none 0 false false (.any) (.none),  -- HST_DROP_NO_BUFFER
  row 0x3806 1 3 5 8 .rc .none 0 false false (.any) (.none),  -- HST_DROP_NO_RXQ
  row 0x3807 1 3 5 8 .rc .none 0 false false (.any) (.none),  -- HST_DROP_XLATE
  row 0x3808 1 3 5 8 .rc .none 0 false false (.any) (.none),  -- HST_DROP_D3HOT
  row 0x3809 1 3 5 8 .rc .none 0 false false (.any) (.none)  -- HST_DROP_FN_RESET
  ]

/-- Object rows, part 9. -/
def catalog9 : List ObjRow := [
  row 0x380A 1 3 5 8 .rc .none 0 false false (.any) (.none),  -- HST_DROP_FN_HELD
  row 0x380B 1 3 5 8 .rc .none 0 false false (.any) (.none),  -- HST_DROP_FN_DISABLED
  row 0x380C 1 3 5 8 .rc .none 0 false false (.any) (.none),  -- HST_CQ_STAGE_STOPS
  row 0x380D 1 3 5 8 .rc .none 0 false false (.any) (.none),  -- FN_CMD_OVERLAP
  row 0x380E 1 3 5 8 .rc .none 0 false false (.any) (.none),  -- FN_DRAIN_SQUASHED
  row 0x380F 1 2 5 8 .rc .none 0 false false (.any) (.none),  -- MIG_LOG_STALLS
  row 0x6000 1 1 10 32 .wo .live 0 true false (.any) (.none),  -- KEY_KEK
  row 0x6000 2 2 10 8 .ro .none 0 true false (.any) (.none),  -- KEY_KEK_KCV
  row 0x6001 1 1 10 80 .wo .live 0 true false (.any) (.none),  -- KEY_SLOT_WRITE
  row 0x6001 2 2 3 2 .wo .live 0 true false (.range 0 8191) (.none),  -- KEY_SLOT_ERASE
  row 0x6002 1 1 12 0 .ro .none 0 true false (.any) (.some (8192, 2, 1)),  -- KEY_SLOT_STATE
  row 0x6003 1 1 5 8 .rc .none 0 false false (.any) (.none),  -- KEY_UNWRAP_FAIL
  row 0x6003 2 2 5 8 .rc .none 0 false false (.any) (.none),  -- KEY_ERASES
  row 0x6010 1 1 12 0 .rw .live 0 true false (.own) (.some (16, 10, 16)),  -- CIPH_SA_WRITER
  row 0x6011 1 1 12 0 .ro .none 0 true false (.any) (.some (524288, 10, 128)),  -- CIPH_SA_TABLE
  row 0x6020 1 2 5 8 .rc .none 0 false false (.any) (.none),  -- CIPH_OPS
  row 0x6021 1 2 5 8 .rc .none 0 false false (.any) (.none),  -- CIPH_DROP_SA_INVALID
  row 0x6022 1 2 5 8 .rc .none 0 false false (.any) (.none),  -- CIPH_DROP_SA_REGION
  row 0x6023 1 2 5 8 .rc .none 0 false false (.any) (.none),  -- CIPH_DROP_KEY
  row 0x6024 1 2 5 8 .rc .none 0 false false (.any) (.none),  -- CIPH_DROP_FORMAT
  row 0x6025 1 2 5 8 .rc .none 0 false false (.any) (.none),  -- CIPH_DROP_SEQ
  row 0x6026 1 2 5 8 .rc .none 0 false false (.any) (.none),  -- CIPH_DROP_REPLAY
  row 0x6027 1 2 5 8 .rc .none 0 false false (.any) (.none),  -- CIPH_DROP_AUTH
  row 0x6028 1 2 5 8 .rc .none 0 false false (.any) (.none),  -- CIPH_DROP_LENGTH
  row 0x6029 1 2 5 8 .rc .none 0 false false (.any) (.none),  -- CIPH_DROP_BUSY
  row 0x602A 1 2 5 8 .rc .none 0 false false (.any) (.none),  -- CIPH_SA_SOFT
  row 0x602B 1 2 5 8 .rc .none 0 false false (.any) (.none),  -- CIPH_SA_FAILOVERS
  row 0x602C 1 3 5 8 .rc .none 0 false false (.any) (.none),  -- CIPH_KDF_MISSES
  row 0x602D 1 1 5 8 .rc .none 0 false false (.any) (.none),  -- CIPH_LA_OPS
  row 0x602E 1 1 5 8 .rc .none 0 false false (.any) (.none),  -- CIPH_LA_AUTH_FAIL
  row 0x602F 1 1 5 8 .rc .none 0 false false (.any) (.none),  -- CIPH_LA_BAD
  row 0x6400 1 2 12 0 .rw .live 0 true false (.own) (.some (4104, 4, 4)),  -- STG_SVC
  row 0x6410 1 1 5 8 .rc .none 0 false false (.any) (.none),  -- STG_CMDS
  row 0x6410 2 2 5 8 .rc .none 0 false false (.any) (.none),  -- STG_CMD_NO_SVC
  row 0x6410 3 3 5 8 .rc .none 0 false false (.any) (.none),  -- STG_CMD_ABORTED
  row 0x6410 4 4 5 8 .rc .none 0 false false (.any) (.none),  -- STG_PI_ERRORS
  row 0x6410 5 5 5 8 .rc .none 0 false false (.any) (.none),  -- STG_NO_POST
  row 0x6410 6 6 4 4 .ro .none 65536 false false (.any) (.none),  -- STG_CTX_FREE
  row 0x6410 7 7 5 8 .rc .none 0 false false (.any) (.none),  -- STG_DESC_BAD
  row 0x1000 1 1 11 19 .ro .none 1593061313167705607041789787284264607761657203 true false (.any) (.none)  -- ID_VENDOR
  ]

/-- Object rows, part 10. -/
def catalog10 : List ObjRow := [
  row 0x1000 2 2 11 6 .ro .none 98235451847728 true false (.any) (.none),  -- ID_PRODUCT
  row 0x1000 3 3 3 2 .ro .none 1 true false (.any) (.none),  -- ID_FAMILY
  row 0x1000 4 4 3 2 .ro .none 38464 true false (.any) (.none),  -- ID_PART
  row 0x1000 5 5 2 1 .ro .none 0 true false (.any) (.none),  -- ID_STEPPING
  row 0x1000 6 6 5 8 .ro .none 0 true false (.any) (.none),  -- ID_SERIAL
  row 0x1000 7 7 10 6 .ro .none 0 true false (.any) (.none),  -- ID_BASE_MAC
  row 0x1000 8 8 3 2 .ro .none 8115 true false (.any) (.none),  -- ID_PCI_VENDOR
  row 0x1000 9 9 3 2 .ro .none 38464 true false (.any) (.none),  -- ID_PCI_DEV_NET
  row 0x1000 10 10 3 2 .ro .none 38465 true false (.any) (.none),  -- ID_PCI_DEV_NVME
  row 0x1001 0 0 13 0 .ro .none 0 true false (.any) (.none),  -- ID_CERT_CHAIN
  row 0x1300 1 1 2 1 .ro .none 0 false false (.any) (.none),  -- MODE_CURRENT
  row 0x1300 2 2 2 1 .ro .none 0 false false (.any) (.none),  -- MODE_POWER_STEP
  row 0x1300 3 3 2 1 .ro .none 0 false false (.any) (.none),  -- MODE_FENCED
  row 0x1300 4 4 8 8 .ro .none 0 false false (.any) (.none),  -- MODE_SINCE
  row 0x1300 5 5 2 1 .ro .none 0 false false (.any) (.none),  -- MODE_REASON
  row 0x1300 6 6 2 1 .wo .live 0 false false (.range 1 5) (.none),  -- MODE_REQUEST
  row 0x1301 1 1 5 8 .rc .none 0 false false (.any) (.none),  -- MODE_CHANGES
  row 0x1400 1 1 8 8 .ro .none 0 false false (.any) (.none),  -- TIME_NOW
  row 0x1400 2 2 2 1 .rw .live 0 true false (.range 0 4) (.none),  -- TIME_DISCIPLINE
  row 0x1400 3 3 2 1 .ro .none 0 false false (.any) (.none),  -- TIME_LOCK_STATE
  row 0x1400 4 4 8 8 .wo .live 0 false false (.any) (.none),  -- TIME_SET
  row 0x1400 5 5 2 1 .rw .live 0 true false (.range 0 15) (.none),  -- TIME_PTP_PORT
  row 0x1400 6 6 2 1 .rw .live 0 true false (.range 0 127) (.none),  -- TIME_PTP_DOMAIN
  row 0x1400 7 7 2 1 .rw .live 0 true false (.range 0 2) (.none),  -- TIME_PTP_TRANSPORT
  row 0x1400 8 8 2 1 .rw .live 0 true false (.range 0 1) (.none),  -- TIME_PTP_DELAY
  row 0x1400 9 9 7 8 .ro .none 0 false false (.any) (.none),  -- TIME_OFFSET_NS
  row 0x1400 10 10 6 4 .rw .live 37 true false (.range 0 255) (.none),  -- TIME_UTC_OFFSET_S
  row 0x1400 11 11 1 1 .rw .live 0 true false (.range 0 1) (.none),  -- TIME_PPS_OUT_EN
  row 0x1400 12 12 4 4 .rw .live 100 true false (.range 1 500000) (.none),  -- TIME_PPS_OUT_WIDTH_US
  row 0x1401 1 1 5 8 .rc .none 0 false false (.any) (.none),  -- TIME_STEPS
  row 0x1401 2 2 5 8 .rc .none 0 false false (.any) (.none),  -- TIME_PPS_REJECTS
  row 0x1500 1 1 12 0 .ro .none 0 true false (.any) (.some (4096, 10, 64)),  -- ERR_LOG
  row 0x1500 2 2 4 4 .ro .none 0 true false (.any) (.none),  -- ERR_LOG_COUNT
  row 0x1500 3 3 5 8 .ro .none 0 true false (.any) (.none),  -- ERR_LOG_TOTAL
  row 0x1500 4 4 2 1 .wo .live 0 false false (.range 1 1) (.none),  -- ERR_LOG_CLEAR
  row 0x1500 5 5 10 64 .ro .none 0 false false (.any) (.none),  -- ERR_LOG_LAST
  row 0x1501 1 1 5 8 .rc .none 0 false false (.any) (.none),  -- ERR_LOG_OVERWRITTEN
  row 0x1100 1 1 2 1 .ro .none 0 false false (.any) (.none),  -- MGMT_SEM_HOLDER
  row 0x1100 2 2 2 1 .rw .live 5 true true (.range 1 60) (.none),  -- MGMT_SEM_LEASE_S
  row 0x1100 3 3 2 1 .wo .live 0 false false (.any) (.none)  -- MGMT_SEM_HEARTBEAT
  ]

/-- Object rows, part 11. -/
def catalog11 : List ObjRow := [
  row 0x1100 4 4 2 1 .ro .none 0 false false (.any) (.none),  -- MGMT_SEM_WAITERS
  row 0x1100 5 5 4 4 .ro .none 0 false false (.any) (.none),  -- MGMT_SEM_REMAINING_MS
  row 0x1100 6 6 1 1 .ro .none 1 false false (.range 0 1) (.none),  -- MGMT_OPEN
  row 0x1100 7 7 2 1 .ro .none 0 false false (.any) (.none),  -- MGMT_MB_TRANSPORT
  row 0x1110 1 2 2 1 .rw .live 0 true false (.range 0 2) (.none),  -- MGMT_PHY
  row 0x1111 1 2 3 2 .rw .live 0 true false (.range 0 4094) (.none),  -- MGMT_VLAN
  row 0x1112 1 2 2 1 .rw .live 1 true false (.mask 3) (.none),  -- MGMT_AUTOCONF
  row 0x1113 1 2 10 16 .rw .live 0 true false (.any) (.none),  -- MGMT_IPV6_ADDR
  row 0x1114 1 2 2 1 .rw .live 64 true false (.range 1 128) (.none),  -- MGMT_IPV6_PLEN
  row 0x1115 1 2 10 16 .rw .live 0 true false (.any) (.none),  -- MGMT_IPV6_GW
  row 0x1116 1 2 10 4 .rw .live 0 true false (.any) (.none),  -- MGMT_IPV4_ADDR
  row 0x1117 1 2 2 1 .rw .live 24 true false (.range 1 32) (.none),  -- MGMT_IPV4_PLEN
  row 0x1118 1 2 10 4 .rw .live 0 true false (.any) (.none),  -- MGMT_IPV4_GW
  row 0x1120 1 4 10 2048 .rw .live 0 true false (.any) (.none),  -- MGMT_TRUST_ANCHOR
  row 0x1130 1 1 12 0 .ro .none 0 false false (.any) (.some (17, 10, 32)),  -- MGMT_SESSIONS
  row 0x1150 1 1 12 0 .ro .none 0 false false (.any) (.some (256, 10, 48)),  -- MGMT_EVENT_LOG
  row 0x1140 1 2 5 8 .rc .none 0 false false (.any) (.none),  -- MGMT_RX_MSGS
  row 0x1140 3 4 5 8 .rc .none 0 false false (.any) (.none),  -- MGMT_RX_BAD
  row 0x1140 5 6 5 8 .rc .none 0 false false (.any) (.none),  -- MGMT_RX_DISCARD
  row 0x1140 7 8 5 8 .rc .none 0 false false (.any) (.none),  -- MGMT_DTLS_FAIL
  row 0x1140 9 9 5 8 .rc .none 0 false false (.any) (.none),  -- MGMT_RESENT
  row 0x1140 10 10 5 8 .rc .none 0 false false (.any) (.none),  -- MGMT_EVENTS_SENT
  row 0x1140 11 11 5 8 .rc .none 0 false false (.any) (.none),  -- MGMT_SEM_GRANTS
  row 0x1140 12 12 5 8 .rc .none 0 false false (.any) (.none),  -- MGMT_SEM_LAPSES
  row 0x1140 13 13 5 8 .rc .none 0 false false (.any) (.none),  -- MGMT_MBX_OVERLAP
  row 0x1140 14 14 5 8 .rc .none 0 false false (.any) (.none),  -- MGMT_MBX_DROP
  row 0x1140 15 15 5 8 .rc .none 0 false false (.any) (.none),  -- MGMT_CSM_OVERLAP
  row 0x1301 2 2 5 8 .rc .none 0 false false (.any) (.none),  -- MODE_DRAIN_RX_DROPS
  row 0x1301 3 3 5 8 .rc .none 0 false false (.any) (.none),  -- MODE_DRAIN_DOORBELLS
  row 0x1301 4 4 5 8 .rc .none 0 false false (.any) (.none),  -- MODE_DRAIN_FORCED
  row 0x1302 1 1 4 4 .rw .live 5000 true false (.range 100 60000) (.none),  -- MODE_DRAIN_LIMIT_MS
  row 0x1302 2 2 1 1 .ro .none 0 false false (.range 0 1) (.none),  -- MODE_DRAIN_DONE
  row 0x1303 1 1 4 4 .ro .none 0 false false (.any) (.none),  -- STRAP_VALUES
  row 0x1303 2 2 4 4 .ro .none 0 false false (.any) (.none),  -- STRAP_UNSTABLE
  row 0x1310 1 1 2 1 .rw .live 2 true false (.range 0 2) (.none),  -- PWR_AUTO_MAX
  row 0x1310 2 2 4 4 .rw .live 20 true false (.range 5 10000) (.none),  -- PWR_IDLE_US
  row 0x1310 3 3 4 4 .rw .live 1000 true false (.range 100 1000000) (.none),  -- PWR_QUIET_US
  row 0x1310 4 4 2 1 .ro .none 0 false false (.any) (.none),  -- PWR_STEP2_BLOCKERS
  row 0x1310 5 5 2 1 .rw .live 3 true false (.mask 15) (.none),  -- PWR_WAKE_SRC
  row 0x1310 6 6 2 1 .rw .live 255 true false (.rangeOr 0 15 255) (.none)  -- PWR_WAKE_GPIO
  ]

/-- Object rows, part 12. -/
def catalog12 : List ObjRow := [
  row 0x1310 7 7 8 8 .rw .live 0 false false (.any) (.none),  -- PWR_WAKE_AT
  row 0x1311 1 5 5 8 .rc .none 0 false false (.any) (.none),  -- PWR_STEP_ENTRIES
  row 0x1320 1 1 2 1 .rw .live 0 true true (.range 0 1) (.none),  -- RESCUE_PORT_SRC
  row 0x1320 2 2 2 1 .rw .live 0 true true (.range 0 15) (.none),  -- RESCUE_PORT
  row 0x1320 3 3 2 1 .ro .none 0 false false (.any) (.none),  -- RESCUE_PORT_EFFECTIVE
  row 0x1321 1 1 5 8 .rc .none 0 false false (.any) (.none),  -- RESCUE_TX_FRAMES
  row 0x1321 2 2 5 8 .rc .none 0 false false (.any) (.none),  -- RESCUE_RX_FRAMES
  row 0x1321 3 3 5 8 .rc .none 0 false false (.any) (.none),  -- RESCUE_RX_DROPS
  row 0x1700 1 1 6 4 .ro .none 0 false false (.any) (.none),  -- THERM_TJ_MC
  row 0x1700 2 2 2 1 .ro .none 0 false false (.any) (.none),  -- THERM_LEVEL
  row 0x1700 3 3 2 1 .rw .live 110 true false (.range 90 110) (.none),  -- THERM_THROTTLE_START_C
  row 0x1700 4 4 6 4 .rc .none 0 false false (.any) (.none),  -- THERM_TJ_PEAK_MC
  row 0x1701 1 1 12 0 .ro .none 0 false false (.any) (.some (48, 6, 4)),  -- THERM_SENSORS
  row 0x1702 1 1 5 8 .rc .none 0 false false (.any) (.none),  -- THERM_LEVEL_CHANGES
  row 0x1702 2 2 5 8 .rc .none 0 false false (.any) (.none),  -- THERM_SENSOR_FAULTS
  row 0x1702 3 3 5 8 .ro .none 0 true false (.any) (.none),  -- THERM_TRIPS
  row 0x1710 1 1 4 4 .ro .none 0 false false (.any) (.none),  -- SUPPLY_VIN_MV
  row 0x1710 2 2 4 4 .ro .none 0 false false (.any) (.none),  -- SUPPLY_IIN_MA
  row 0x1710 3 3 4 4 .ro .none 0 false false (.any) (.none),  -- SUPPLY_POWER_MW
  row 0x1710 4 4 4 4 .rc .none 0 false false (.any) (.none),  -- SUPPLY_POWER_PEAK_MW
  row 0x1711 1 1 5 8 .ro .none 0 true false (.any) (.none),  -- SUPPLY_UV_EVENTS
  row 0x1711 2 2 5 8 .ro .none 0 true false (.any) (.none),  -- SUPPLY_OV_EVENTS
  row 0x1600 1 1 2 1 .ro .none 0 false false (.any) (.none),  -- IMG_RUNNING
  row 0x1600 2 2 2 1 .rw .live 0 true false (.range 0 1) (.none),  -- IMG_BOOT_BANK
  row 0x1600 3 3 5 8 .ro .none 0 false false (.any) (.none),  -- IMG_FLASH_BYTES
  row 0x1601 1 2 2 1 .ro .none 0 false false (.any) (.none),  -- IMG_BANK_STATE
  row 0x1602 1 4 4 4 .ro .none 0 false false (.any) (.none),  -- IMG_BANK_VERSION
  row 0x1603 1 4 2 1 .ro .none 0 false false (.any) (.none),  -- IMG_BANK_SVN
  row 0x1604 1 1 3 2 .ro .none 0 true false (.any) (.none),  -- IMG_SETTINGS_MAJOR
  row 0x1604 2 2 3 2 .ro .none 0 true false (.any) (.none),  -- IMG_SETTINGS_MINOR
  row 0x1610 1 1 13 0 .wo .live 0 true false (.any) (.none),  -- IMG_FW_WRITE_A
  row 0x1610 2 2 13 0 .wo .live 0 true false (.any) (.none),  -- IMG_FW_WRITE_B
  row 0x1610 3 3 2 1 .ro .none 0 false false (.any) (.none),  -- IMG_FW_WRITE_STATUS
  row 0x1620 1 1 2 1 .wo .live 0 false false (.range 1 3) (.none),  -- IMG_ACTIVATE
  row 0x1620 2 2 8 8 .rw .live 0 false false (.any) (.none),  -- IMG_ACTIVATE_AT
  row 0x1620 3 3 2 1 .ro .none 0 false false (.any) (.none),  -- IMG_ACTIVATE_STATE
  row 0x1620 4 4 2 1 .wo .live 0 false false (.range 1 1) (.none),  -- IMG_ACTIVATE_CANCEL
  row 0x1620 5 5 4 4 .rw .live 5000 true false (.range 3000 600000) (.none),  -- IMG_AT_MIN_LEAD_MS
  row 0x1620 6 6 2 1 .ro .none 0 false false (.any) (.none),  -- IMG_ACTIVATE_STATUS
  row 0x1630 1 2 2 1 .ro .none 0 true false (.any) (.none)  -- IMG_SVN_FUSED
  ]

/-- Object rows, part 13. -/
def catalog13 : List ObjRow := [
  row 0x1630 3 3 2 1 .wo .live 0 true false (.range 1 2) (.none),  -- IMG_SVN_RAISE
  row 0x1630 4 4 2 1 .ro .none 0 true false (.any) (.none),  -- IMG_SIGNER_REVOKED
  row 0x1630 5 5 2 1 .wo .live 0 true false (.range 0 3) (.none),  -- IMG_SIGNER_REVOKE
  row 0x1640 1 1 10 2704 .rw .live 0 true false (.any) (.none),  -- IMG_OWNER_KEY
  row 0x1640 2 2 2 1 .rw .live 0 true false (.range 0 63) (.none),  -- IMG_OWNER_SVN_MIN
  row 0x1650 1 1 2 1 .ro .none 0 false false (.any) (.none),  -- IMG_REJECT_CODE
  row 0x1650 2 2 4 4 .ro .none 0 false false (.any) (.none),  -- IMG_REJECT_OBJECT
  row 0x1651 1 1 5 8 .rc .none 0 false false (.any) (.none),  -- IMG_REJECTS
  row 0x1651 2 2 5 8 .ro .none 0 true false (.any) (.none),  -- IMG_FALLBACKS
  row 0x1651 3 3 5 8 .ro .none 0 true false (.any) (.none),  -- IMG_SETTINGS_RESETS
  row 0x1651 4 4 5 8 .rc .none 0 false false (.any) (.none),  -- IMG_HANDOVERS
  row 0x1502 1 1 5 8 .rc .none 0 false false (.any) (.none),  -- FLT_CELL_CORRECTED
  row 0x1502 2 2 5 8 .rc .none 0 false false (.any) (.none),  -- FLT_CELL_RETRIES
  row 0x1502 3 3 5 8 .rc .none 0 false false (.any) (.none),  -- FLT_CELL_UNCORRECTED
  row 0x1502 4 4 5 8 .rc .none 0 false false (.any) (.none),  -- FLT_BLOCK_RESETS
  row 0x1502 5 5 5 8 .rc .none 0 false false (.any) (.none),  -- FLT_BLOCK_HOLDS
  row 0x1502 6 6 5 8 .ro .none 0 true false (.any) (.none),  -- FLT_REGION_FENCES
  row 0x1502 7 7 5 8 .ro .none 0 true false (.any) (.none),  -- FLT_FATAL
  row 0x1502 8 8 5 8 .rc .none 0 false false (.any) (.none),  -- FLT_LOG_SUPPRESSED
  row 0x1502 9 9 5 8 .rc .none 0 false false (.any) (.none),  -- FLT_LOG_CORRUPT
  row 0x1502 10 10 5 8 .ro .none 0 true false (.any) (.none),  -- FLT_STARTS
  row 0x1502 11 11 5 8 .ro .none 0 true false (.any) (.none),  -- FLT_SETTINGS_FALLBACK
  row 0x1503 1 1 2 1 .rw .live 1 true false (.range 0 1) (.none),  -- FLT_REGION_RETEST
  row 0x1503 2 2 3 2 .rw .live 10 true false (.range 1 3600) (.none),  -- FLT_REGION_RETEST_S
  row 0x1503 3 3 2 1 .wo .live 0 false false (.range 1 2) (.none),  -- FLT_REGION_TEST
  row 0x1503 4 4 2 1 .ro .none 0 false false (.any) (.none),  -- FLT_REGION_TEST_STATE
  row 0x1503 5 5 1 1 .rw .live 0 true false (.range 0 1) (.none),  -- FLT_FAULTN_FENCE
  row 0x1503 6 6 3 2 .rw .live 64 true false (.range 1 1000) (.none),  -- FLT_CELL_LOG_MAX
  row 0x7F00 1 1 1 1 .rw .live 0 false false (.range 0 1) (.none),  -- DIAG_INJECT_EN
  row 0x7F00 2 2 5 8 .wo .live 0 false false (.own) (.none),  -- DIAG_INJECT
  row 0x7F00 3 3 5 8 .rc .none 0 false false (.any) (.none),  -- DIAG_INJECTIONS
  row 0x2021 1 16 5 8 .rc .none 0 false false (.any) (.none),  -- NET_RX_FCS_ERR
  row 0x2022 1 16 5 8 .rc .none 0 false false (.any) (.none),  -- NET_RX_RUNT
  row 0x2023 1 16 5 8 .rc .none 0 false false (.any) (.none),  -- NET_RX_TOO_LONG
  row 0x2024 1 16 5 8 .rc .none 0 false false (.any) (.none),  -- NET_RX_DROP_OVERRUN
  row 0x2025 1 16 5 8 .rc .none 0 false false (.any) (.none),  -- NET_RX_MAC_CONTROL
  row 0x2030 1 16 3 2 .rw .live 9600 true false (.range 64 16383) (.none)  -- NET_RX_MAX_FRAME
  ]

/-- Every object row of the manual. -/
def catalog : List ObjRow :=
  catalog1 ++ catalog2 ++ catalog3 ++ catalog4 ++ catalog5 ++ catalog6 ++ catalog7 ++ catalog8 ++ catalog9 ++ catalog10 ++ catalog11 ++ catalog12 ++ catalog13

end Sys2Proof.Machine
end

