-- ==== Sys2Proof/Machine/State.lean ====
section
/-!
DEFINITION. The state of the device as plain data: every register, table, queue, buffer, counter and mode the manual
names, the queue of commands that wait, and the model's own fields (device clock, free-value counter, outputs).
Register values of the dictionary stand in stores keyed by their object numbers (Machine/Objects.lean); everything
else has a field of its own.
-/

namespace Sys2Proof.Machine

/-- A settings store: object key ↦ value, keys strictly rising, no pair that holds the reset default (log entry 3). The
key of element e of object o (index × 256 + subindex) is o × 2^32 + e; values are big-endian numbers. -/
abbrev Store := List (Nat × Nat)

/-! ### The object dictionary (spec/13) -/

/-- The values behind the dictionary. -/
structure Dict where
  /-- LIVE and QUIESCE settings in effect, and read-only objects that latch a value -/
  val : Store
  /-- counters (R13) and other clear-on-read objects -/
  ctr : Store
  /-- the settings store in flash, its newer copy (R415) -/
  flash : Store
  /-- the older of its two alternating copies (R454, R480) -/
  flashOld : Store
  /-- stored values written but not yet in flash, oldest first (R415) -/
  toFlash : List (Nat × Nat)
  /-- accepted QUIESCE values that have not taken effect yet (R50) -/
  qui : List (Nat × Nat)
  deriving DecidableEq, Repr

/-- A staged bulk object (R55, R401). -/
inductive BulkVal where
  /-- PIPE_IMAGE with its container; none removes the image -/
  | pipe (img : Option (PipeImage × Bytes))
  /-- PAT_SET_IMAGE of a set with its container; none removes the set -/
  | pat (set : Nat) (img : Option (PatSet × Bytes))
  /-- a TABLE: element ↦ value -/
  | table (obj : Nat) (elems : List (Nat × Nat))
  deriving DecidableEq, Repr

/-- The image store of the flash (R454). -/
structure ImgStore where
  /-- stored images -/
  held : List BulkVal
  /-- images of switched commits on their way, oldest first, each with its device clock of arrival at the latest -/
  coming : List (BulkVal × Nat)
  deriving DecidableEq, Repr

/-- A staging area (R54, R55): element and object values by key, and bulk objects. -/
structure Staging where
  vals : List (Nat × Nat)
  bulk : List BulkVal
  deriving DecidableEq, Repr

/-- A bulk channel of a session (R400 to R402). -/
structure Chan where
  num : Nat
  obj : Nat
  /-- true: a write channel -/
  wr : Bool
  /-- reads: OH_STAGED_VIEW -/
  staged : Bool
  first : Nat
  len : Nat
  /-- chunks that have arrived, latest first -/
  chunks : List (Nat × Bytes)
  /-- image objects: the header and the signature block have passed their checks (R451); the slot of a firmware write, else 0 -/
  passed : Option Nat
  /-- device clock at the latest message on the channel -/
  last : Nat
  deriving DecidableEq, Repr

/-- An OMP session (R389). -/
structure Session where
  /-- 0 MA, 1 MB -/
  port : Nat
  num : Nat
  /-- device clock at the latest valid record -/
  last : Nat
  /-- event class mask (R403) -/
  mask : Nat
  /-- events sent so far to this session (R404) -/
  evSeq : Nat
  /-- (operation, request id, response) of the latest 64 requests, newest first (R397) -/
  kept : List (Nat × Nat × Bytes)
  stage : Staging
  chans : List Chan
  /-- peer address and first 8 B of the certificate hash, as MGMT_SESSIONS shows them -/
  peer : Nat
  /-- address it was opened at: 0 link-local or the mailbox, 1 static IPv6, 2 static IPv4, 3 by SLAAC, 4 by DHCPv4 (R388) -/
  local_ : Nat
  cert : Nat
  deriving DecidableEq, Repr

/-- Management ports, semaphore, events and mailboxes (spec/13). -/
structure Mgmt where
  sessions : List Session
  /-- (port, session) that holds the semaphore -/
  holder : Option (Nat × Nat)
  /-- device clock at which the lease runs out (R408) -/
  leaseEnd : Nat
  /-- sessions waiting for the semaphore, first in front (R406) -/
  waiting : List (Nat × Nat)
  /-- EV_NUMBER: events raised (R404) -/
  evNumber : Nat
  /-- latest 256 event bodies, oldest first -/
  evLog : List Bytes
  /-- the dictionary is unavailable (R399) since this instant of the device clock -/
  unavail : Option Nat
  /-- requests taken while it is (port, session, plaintext), oldest first -/
  deferred : List (Nat × Nat × Bytes)
  /-- requests of the control-clock cycle in progress (port, session, plaintext), in the order they will be taken in (R407) -/
  cycle : List (Nat × Nat × Bytes)
  /-- events raised while it is, as (class, only to, body) -/
  evHeld : List (Nat × Option (Nat × Nat) × Bytes)
  /-- management mailbox of PF0 on HA (Table 13-1): datagram buffer towards the device -/
  h2dBuf : Bytes
  h2dBusy : Bool
  /-- outgoing datagrams; the first lies in MBX_D2H_BUF while `d2hReady` -/
  d2h : List Bytes
  d2hReady : Bool
  mbxVector : Nat
  /-- control service mailbox (Table 13-15): the request in progress, and CSM_REPLY -/
  csmReq : Option Nat
  csmReply : Nat
  deriving DecidableEq, Repr

/-! ### Epochs and commits (spec/02) -/

/-- The version of every EPOCH object that one epoch runs under (R62). -/
structure Ver where
  num : Nat
  objs : Store
  pipe : Option PipeImage
  pats : List (Nat × PatSet)
  /-- image object ↦ its container, as a bulk read returns it (R401) -/
  conts : List (Nat × Bytes)
  /-- declared table ↦ epoch that brought its present declaration (R147) -/
  inc : List (Nat × Nat)
  /-- device clock and time base at the switch instant -/
  swClock : Nat
  swTime : Nat
  deriving DecidableEq, Repr

/-- A sealed commit (R59): the version it makes, what was staged for it, and the session that sealed it. -/
structure Sealed where
  ver : Ver
  stage : Staging
  sess : Nat × Nat
  deriving DecidableEq, Repr

/-- The initiator's record of a scheduled commit (R79, R81, R281). -/
structure Initiated where
  id : Nat
  t : Nat
  /-- 1,024-bit member set -/
  members : Nat
  acked : Nat
  /-- MSG_SEQ of its PREPARE -/
  seq : Nat
  /-- PREPARE last sent (device clock) -/
  sentAt : Nat
  /-- 0 open, 1 executed, 2 cancelled -/
  verdict : Nat
  /-- its outcome has been flooded -/
  flooded : Bool
  deriving DecidableEq, Repr

/-- A member's record of the scheduled commit it is prepared for (R80, R83). -/
structure Member where
  id : Nat
  t : Nat
  /-- address of the initiator -/
  initiator : Nat
  contents : Sealed
  /-- device clock from which version N is complete in every block; a block reset moves it (R84) -/
  wholeAt : Nat
  deriving DecidableEq, Repr

/-- Epoch numbering, live epochs, commits in flight. -/
structure Epochs where
  /-- EPOCH_CURRENT -/
  current : Nat
  /-- EPOCH_OPEN -/
  openNum : Nat
  /-- live epochs, oldest first (R69) -/
  live : List Ver
  /-- commits that have taken their numbers and not switched (R66), oldest first, with their latest switch instants -/
  applying : List (Sealed × Nat)
  /-- a queued commit (R67) -/
  queued : Option Sealed
  /-- EPOCH_AT_ID with which the device was armed (R78) -/
  armed : Option Nat
  /-- EPOCH_AT_STATE -/
  atState : Nat
  initiated : Option Initiated
  /-- earlier scheduled commits of this initiator that were cancelled and whose T has not passed: id, T (R85) -/
  untold : List (Nat × Nat)
  member : Option Member
  /-- the answer given to the latest PREPARE: id, initiator, code; code 0 is an ACK (R281) -/
  answer : Option (Nat × Nat × Nat)
  /-- own outcome of the last scheduled commit: id, 1 executed or 2 cancelled (R85) -/
  own : Option (Nat × Nat)
  /-- last outcome known here: id, outcome, initiator (R85) -/
  known : Option (Nat × Nat × Nat)
  deriving DecidableEq, Repr

/-! ### Tables (spec/05, spec/06) -/

/-- A scrub pass of a region (R184). -/
structure ScrubPass where
  /-- device clock of its start -/
  start : Nat
  /-- bank and unit visited last in it -/
  last : Option (Nat × Nat)
  /-- bank and entry repaired last in it: counted once -/
  fixed : Option (Nat × Nat)
  deriving DecidableEq, Repr

/-- The ternary banks against their shadows, and the table engines. The entries of `State.tbl` are the shadow copies. -/
structure Tern where
  /-- region and flipped bits: what the banks hold other than their shadows (R183, R185) -/
  flips : List (Nat × TernFlip)
  /-- region, bank and entry, end of its repair on the device clock (R184) -/
  repair : List (Nat × (Nat × Nat) × Nat)
  /-- region ↦ scrub pass -/
  pass : List (Nat × ScrubPass)
  /-- region ↦ device clock until which its table engine works (R164, R182) -/
  engine : List (Nat × Nat)
  deriving DecidableEq, Repr

/-- After reset nothing has been scrubbed or corrupted, and the engines rest. -/
def Tern.reset : Tern := { flips := [], repair := [], pass := [], engine := [] }

/-- A region's part of the banks begins anew. -/
def Tern.without (t : Tern) (region : Nat) : Tern :=
  { flips := t.flips.filter fun f => f.1 != region, repair := t.repair.filter fun r => r.1 != region,
    pass := t.pass.filter fun p => p.1 != region, engine := t.engine.filter fun e => e.1 != region }

/-- One entry of one copy of a table. For a trie the key is VRF and address; for a ternary table the key is the value
V and `mask` is M. -/
structure TEntry where
  table : Nat
  /-- epoch that brought the table's declaration -/
  inc : Nat
  /-- region of this copy: 0 PKA, 1 PKB -/
  region : Nat
  key : Nat
  mask : Nat
  plen : Nat
  action : Nat
  data : Nat
  static : Bool
  hit : Bool
  reported : Bool
  /-- device clock of the ageing scanner's latest visit -/
  visit : Option Nat
  /-- 0 bucket A, 1 bucket B, 2 overflow store, 3 other kinds (TOC_WHERE) -/
  place : Nat
  /-- way number (bucket × 4 + way), overflow entry, index, or 0 -/
  slot : Nat
  /-- first epoch that holds the entry; none in a LIVE table -/
  born : Option Nat
  /-- first epoch that no longer holds it -/
  died : Option Nat
  /-- takes an entry of the region's epoch journal (R76) -/
  journal : Bool
  /-- superseded by a modify: its location is its successor's -/
  super : Bool
  deriving DecidableEq, Repr

/-- Learning (spec/05 R166 to R172). -/
structure Learn where
  /-- suppression filters: (region, table, key, expiry on the device clock), oldest first -/
  filter : List (Nat × Nat × Nat × Nat)
  /-- LR_SEQ of each ring -/
  seq : List (Nat × Nat)
  /-- LR_SEQ of each shuttle channel -/
  chSeq : List (Nat × Nat)
  /-- ring ↦ instants of the records written within the latest 1 ms (R169) -/
  win : List (Nat × List Nat)
  /-- records on the bridge to the region of their ring: (region of the ring, ring, table, key, record) (R171) -/
  bridge : List (Nat × Nat × Nat × Nat × Bytes)
  /-- table ↦ ageing pass in progress when its period was last changed: device clock of its start, its period in ns (R174) -/
  agePass : List (Nat × Nat × Nat)
  deriving DecidableEq, Repr

/-! ### Packets -/

/-- Where a packet waits. -/
inductive Loc where
  /-- receive FIFO of its network port or Weave link in PRT -/
  | rxFifo
  /-- host or core-side packet, read and waiting for the pipelines -/
  | txReady
  /-- input queue of an inline cipher engine -/
  | cipher
  /-- through its inline engine, until device clock `readyAt` and behind its pipeline's earlier packets (R358, R359) -/
  | ciphered
  /-- recirculation buffer of pipeline `pipe` -/
  | recirc
  /-- divert queue of its region -/
  | divert
  /-- a lane of the pattern engine, until the scan's end on the device clock -/
  | lane (n endAt : Nat)
  /-- front buffer, for its length before the policers (R240) -/
  | meter
  /-- left ingress for the traffic manager -/
  | atTm
  /-- front buffer of its source region, for bridge credit (R207) -/
  | bridge
  /-- crossed the bridge, not admitted yet -/
  | crossed
  /-- its egress queue, in the front buffer -/
  | front
  /-- its egress queue: placed in the carve-out, whose write path is saturated, so still in the front buffer (R203) -/
  | spill
  /-- its egress queue, in the carve-out -/
  | carve
  /-- receive staging of HST or CMP -/
  | staged
  /-- transmission begun before its frame was wholly received -/
  | cutting
  deriving DecidableEq, Repr

/-- What a packet is (R135, R276). -/
inductive PktKind where
  | data | mirror | relay
  deriving DecidableEq, Repr

/-- What follows a packet's stay in an inline cipher engine (R130, R134). -/
inductive After where
  /-- recirculation buffer -/
  | recirc
  /-- divert queue -/
  | divert
  /-- its port, link or function -/
  | egress
  deriving DecidableEq, Repr

/-- One packet inside the device. -/
structure Pkt where
  id : Nat
  kind : PktKind
  loc : Loc
  /-- bytes as they stood at the start of this pass, without FCS -/
  bytes : Bytes
  /-- length known when the packet entered the parser (R97) -/
  lenKnown : Bool
  /-- instant of the device clock at which the whole frame has been received -/
  rxEnd : Nat
  /-- MD_SRC_KIND: 0 network port, 1 Weave link, 2 host function, 3 core-side function -/
  srcKind : Nat
  srcId : Nat
  /-- receive timestamp (MD_RX_TIME) -/
  rxTime : Nat
  wvSrc : Nat
  wvHops : Nat
  md : Md
  hv : Hv
  /-- stamp: the number of its epoch (R61); none before the first pass -/
  epoch : Option Nat
  /-- device clock when it was stamped -/
  stampAt : Nat
  /-- region that processes it now -/
  region : Nat
  /-- pipeline of its latest pass -/
  pipe : Nat
  /-- egress queue -/
  eqid : Nat
  /-- device clock when it reached the traffic manager, and then when it was enqueued -/
  enqAt : Nat
  /-- device clock from which it may be scheduled (R224) -/
  readyAt : Nat
  after : After
  /-- diverted packet: bytes before the scanned ones (R193) -/
  scanFrom : Nat
  /-- destination function, or Weave address, of the forward decision -/
  dest : Nat
  /-- port node that dequeued it, and its gate length there (R244) -/
  portNode : Nat
  gateLen : Nat
  deriving DecidableEq, Repr

/-! ### Traffic managers, rates, gates, census (spec/07, spec/08) -/

/-- Token buckets of a node, in units of 1/8,000,000 byte (kb/s × ns), at an instant of the device clock. -/
structure Bucket where
  c : Int
  p : Int
  at_ : Nat
  deriving DecidableEq, Repr

/-- A gate list in effect or pending (R241). -/
structure Gate where
  enable : Bool
  base : Nat
  cycle : Nat
  entries : List Nat
  deriving DecidableEq, Repr

/-- What the census has gathered for one queue since its last record (R249). -/
structure CensQ where
  maxSojourn : Nat
  dropAdmit : Nat
  dropQueued : Nat
  overdue : Nat
  /-- maximum sojourn and drops since its last sample (R255) -/
  nowSojourn : Nat
  nowAdmit : Nat
  nowQueued : Nat
  deriving DecidableEq, Repr

/-- A census sweep in progress (R248, R250): start on the time base and on the device clock, number, period in ns, the lowest
queue not sampled yet, and the owners of the region's eight rings at its start. -/
structure Sweep where
  start : Nat
  at_ : Nat
  num : Nat
  period : Nat
  next : Nat
  owners : List Nat
  deriving DecidableEq, Repr

/-- Both traffic managers. Node keys are region × 2^17 + node; queue keys are EQIDs. -/
structure Tm where
  /-- (node key × 2 + tier) ↦ deficit; tier 0 committed, 1 excess (R219) -/
  deficit : List (Nat × Int)
  /-- ((node key × 2 + tier) × 8 + strict level) ↦ child the round robin stands at -/
  pointer : List (Nat × Nat)
  /-- EQID ↦ device clock since which the leaf waits (R221) -/
  wait : List (Nat × Nat)
  /-- EQID ↦ (promotion instant, bytes sent since) (R222) -/
  promo : List (Nat × Nat × Nat)
  bucket : List (Nat × Bucket)
  /-- region × 32 + port node ↦ instant until which its wire is occupied, in units of 5 ps of the device clock, in which a byte
takes a whole number at every port rate (R214) -/
  busy : List (Nat × Nat)
  /-- port × 16 + class (8: PAUSE) ↦ device clock at which the pause ends (R212, R213) -/
  pause : List (Nat × Nat)
  /-- port node ↦ region whose queues still drain (R24) -/
  drainOld : List (Nat × Nat)
  /-- port 0 to 23 ↦ running gate list -/
  gate : List (Nat × Gate)
  /-- port ↦ gates open since its latest gate event, bit t for class t (R241) -/
  gateNow : List (Nat × Nat)
  /-- port ↦ (pending list, switch instant on the time base) (R242) -/
  gatePend : List (Nat × Gate × Nat)
  cens : List (Nat × CensQ)
  /-- census ring ↦ records lost since its last loss marker (R251) -/
  censLost : List (Nat × Nat)
  /-- region ↦ sweep in progress -/
  sweep : List (Nat × Sweep)
  /-- policer ↦ buckets (c: Tc, p: Tp) (R235) -/
  pol : List (Nat × Bucket)
  /-- policer × 8 + i ↦ POL_STATS word i -/
  polStat : Store
  /-- (((region × 32) + bank) × 2^20 + pair) × 2 + (0 packets, 1 bytes) ↦ count (R128) -/
  count : Store
  /-- byte counts of packets whose length is not known yet: device clock when it is, key of the pair's packet count, bytes -/
  countLate : List (Nat × Nat × Nat)
  /-- pipeline ↦ device clock at which a recirculated packet last entered its parser (R131) -/
  recircAt : List (Nat × Nat)
  /-- region × 256 + sampler ↦ candidates since its previous sample (R253) -/
  smpPool : List (Nat × Nat)
  smpSeq : List (Nat × Nat)
  smpWin : List (Nat × List Nat)
  /-- IPFIX: per EQID of the interval (largest depth, largest sojourn, admission drops, queued drops) (R255) -/
  ipfix : List (Nat × Nat × Nat × Nat × Nat)
  /-- sequence number of the next IPFIX message -/
  ipfixSeq : Nat
  /-- device clock at which the latest interval ended, and of the latest templates -/
  ipfixAt : Nat
  /-- the interval in progress is exported: CENSUS_IPFIX_EN at its start, and no HANDOVER since -/
  ipfixOn : Bool
  ipfixTpl : Option Nat
  /-- pattern engine: source (0 PKA, 1 PKB, 2 lookaside) ↦ deficit, and the source its round robin stands at (R191) -/
  patDef : List (Nat × Int)
  patAt : Nat
  /-- lookaside ring that scanned last, as its pair key -/
  patRing : Nat
  deriving DecidableEq, Repr

/-! ### Modes -/

/-- Operating modes (Table 01-15), in the order MODE_CURRENT numbers them. -/
inductive Mode where
  | vigil | service | handover | degraded | drain | dormant
  deriving DecidableEq, Repr

/-- Mode and fence. -/
structure ModeSt where
  mode : Mode
  /-- power step 0 to 4 -/
  step : Nat
  /-- fenced packet region (MODE_FENCED) -/
  fenced : Option Nat
  deriving DecidableEq, Repr

/-! ### Outputs -/

/-- Attributes of a request of a function (R298, R301, R303). -/
structure Attr where
  /-- Relaxed Ordering, ID-Based Ordering -/
  ro : Bool
  ido : Bool
  pasid : Option Nat
  /-- steering: (processing hint, steering tag) -/
  tph : Option (Nat × Nat)
  /-- the address is a translated one (R299) -/
  xl : Bool := false
  deriving DecidableEq, Repr

/-- What the device has sent, newest last; the model's own record of its outputs (log entry 5). -/
inductive Output where
  /-- a frame begins on a network port -/
  | net (port : Nat) (bytes : Bytes)
  /-- a frame begins on a Weave link, Weave header first -/
  | weave (link : Nat) (bytes : Bytes)
  /-- the frame in transmission on a port node is ended with an inverted FCS (R138) -/
  | stomp (portNode : Nat)
  /-- an OMP message to a session -/
  | omp (port sess : Nat) (msg : Bytes)
  /-- an answer of a management port to a request for one of its addresses: kind as `MgmtFrame.ask` (R388) -/
  | mgmtAnswer (port ask addr : Nat)
  /-- a posted write of a host function: FID, address, translated where `xl` says so, bytes -/
  | hostWrite (fid : Nat) (attr : Attr) (addr : Nat) (bytes : Bytes)
  /-- a non-posted request on a host link: kind as `Req.kind` -/
  | hostReq (link tag kind fid : Nat) (attr : Attr) (addr len : Nat)
  /-- an MSI-X write of a host function: address and data of the table entry -/
  | msix (fid vec : Nat) (pasid : Option Nat) (addr data : Nat)
  /-- an MSI write of a core-side function to an IMSIC file: level 0 M, 1 S -/
  | msi (hart level identity : Nat)
  /-- a UART frame of an error record (R501): port 0 one line for the record, 1 the record itself -/
  | uart (port : Nat) (bytes : Bytes)
  /-- UART0's line for a start stage (R501): 1 VIGIL firmware, 2 HBM, 3 SERVICE image, 4 epoch 1 and SERVICE (log entry 8) -/
  | stage (n : Nat)
  /-- an IPFIX message on management port 0 MA or 1 MB: collector address (16 B, network order) and UDP port, observation
  domain, sequence number, observation time (ms of UTC), and its data records (EQID, largest depth, largest sojourn, drops
  at admission, drops of queued packets); none: templates (log entry 16) -/
  | ipfix (port dest udp domain seq time : Nat) (records : List (Nat × Nat × Nat × Nat × Nat))
  /-- PME message of a function -/
  | pme (fid : Nat)
  /-- WAKE_HA_N or WAKE_HB_N asserted -/
  | wake (port : Nat)
  /-- used buffers returned on a virtqueue (Table 11-3) -/
  | virtioUsed (fid queue len : Nat)
  /-- page request group, with the PASID of its pair (R301) -/
  | pageReq (fid page : Nat) (pasid : Option Nat)
  /-- invalidation completion -/
  | invDone (fid id : Nat)
  /-- completion returned to the host on a link: status 0 successful, 1 UR, 2 Request Retry Status; the ordering attributes of
  the request (R298); data -/
  | hostCpl (link status : Nat) (ro ido : Bool) (data : Bytes)
  /-- error message of a function: 0 ERR_COR, 1 ERR_NONFATAL, 2 ERR_FATAL (R313, R319) -/
  | errMsg (fid level : Nat)
  /-- a load or store access fault in a hart; data of a load otherwise -/
  | coreFault (hart : Nat)
  | coreData (hart : Nat) (data : Bytes)
  deriving DecidableEq, Repr

/-! ### The Weave (spec/09) -/

/-- A calendar (R271): cycle, 64 window entries, Weave class of each traffic class. -/
structure Cal where
  cycle : Nat
  wins : List Nat
  tcClass : Nat
  deriving DecidableEq, Repr

/-- One Weave link. Its state and peer stand in the latched objects WV_LINK_STATE, WV_LINK_PEER and WV_LINK_PEER_ID. -/
structure WvLink where
  /-- lane locked -/
  locked : Bool
  /-- device clock of the latest hello sent (R265) -/
  sentAt : Option Nat
  /-- device clock of the latest valid hello -/
  helloAt : Option Nat
  /-- device clock since which every hello has carried a differing digest (R265) -/
  digestBad : Option Nat
  /-- HLO_T_TX and arrival time of the latest hello, and the device clock then (for the echo, R278) -/
  echoTx : Nat
  echoRx : Nat
  /-- time offered by the peer: (class, priority, source, hops) (R279) -/
  offer : Option (Nat × Nat × Nat × Nat)
  /-- latest measured offset in ns -/
  offset : Int
  deriving DecidableEq, Repr

/-- An entry of the link-state database (R266, R267). -/
structure LsEntry where
  origin : Nat
  identity : Nat
  /-- (link, peer address, peer link, cost) -/
  links : List (Nat × Nat × Nat × Nat)
  /-- device clock of the latest refresh -/
  at_ : Nat
  deriving DecidableEq, Repr

/-- An offset that the time base is being slewed by (R279). -/
structure Slew where
  /-- device clock at which it was measured -/
  at_ : Nat
  /-- ns, positive when the parent is ahead -/
  off : Int
  /-- ppm, at most 200 (log entry 18) -/
  rate : Nat
  deriving DecidableEq, Repr

/-- A frame in a link's control or shuttle queue (R263). -/
structure LinkFrame where
  link : Nat
  /-- device clock of the arrival of a relayed frame (R276) -/
  at_ : Option Nat
  bytes : Bytes
  deriving DecidableEq, Repr

/-- The Weave link layer and its control firmware. -/
structure Weave where
  link : List (Nat × WvLink)
  /-- control queues, first in front (R263) -/
  ctlQ : List LinkFrame
  shuttleQ : List LinkFrame
  /-- copies of a CANCEL still to be sent: device clock from which, and the frame (R281) -/
  again : List (Nat × Bytes)
  /-- message type ↦ last MSG_SEQ used (R261) -/
  msgSeq : List (Nat × Nat)
  /-- origin × 256 + type ↦ newest MSG_SEQ (R262) -/
  newest : List (Nat × Nat)
  lsdb : List LsEntry
  /-- destination table: address ↦ entry of Table 09-8 (R268) -/
  dest : List (Nat × Nat)
  cal : Cal
  /-- a pending calendar and its switch instant on the time base (R274) -/
  calPend : Option (Cal × Nat)
  /-- the calendar before the latest switch, and the device clock of that switch -/
  calOld : Option (Cal × Nat)
  /-- device clock at which LINK_STATE was last originated, and a change since then that is to be told (R267) -/
  lsAt : Nat
  lsDirty : Bool
  /-- the destination table does not reflect the database yet (R268) -/
  routeDirty : Bool
  slew : Option Slew
  deriving DecidableEq, Repr

/-- PPS_IN (R482). -/
structure Pps where
  /-- device clock of the latest edge that kept the interval, or of a first edge -/
  ref : Option Nat
  /-- consecutive accepted pulses -/
  good : Nat
  /-- phases of the latest consecutive pulses that failed only the phase test, newest first -/
  off : List Int
  deriving DecidableEq, Repr

/-! ### Host ports and functions (spec/10, spec/11) -/

/-- A memory write or interrupt of a function, in the order the function issues them (R334, R351). -/
inductive HWrite where
  /-- posted write of a function: address before translation, bytes -/
  | mem (attr : Attr) (addr : Nat) (bytes : Bytes)
  /-- interrupt of a vector, with the PASID of its ring -/
  | int (vec : Nat) (pasid : Option Nat)
  /-- used buffers returned on a virtqueue -/
  | used (queue len : Nat)
  deriving DecidableEq, Repr

/-- A function: the registers of its pages and of its configuration space, and its reset and migration state. Its
settings (FN_ENABLE, FN_QP_COUNT and so on) stand in the dictionary. -/
structure Fn where
  /-- FN_RESET_STATE -/
  reset : Nat
  /-- device clock when the reset began -/
  resetAt : Nat
  held : Bool
  /-- HOLD in progress: controlling function and the device clock when it began (R353) -/
  holding : Option (Nat × Nat)
  /-- Bus Master Enable -/
  bme : Bool
  /-- D3hot -/
  d3 : Bool
  pmeEn : Bool
  pmeStatus : Bool
  msixEn : Bool
  /-- function mask of MSI-X -/
  msixMask : Bool
  /-- MSI-X table: vector ↦ (address, data, vector control) -/
  msix : List (Nat × Nat × Nat × Nat)
  /-- Pending Bits: vector, PASID of the interrupt -/
  pba : List (Nat × Option Nat)
  /-- vectors held pending (Table 11-12) -/
  pend : List (Nat × Option Nat)
  ats : Bool
  pri : Bool
  /-- PRI stopped after Response Failure (R300) -/
  priStopped : Bool
  pasidEn : Bool
  atomicEn : Bool
  tphEn : Bool
  tphIv : Bool
  roEn : Bool
  idoEn : Bool
  /-- 10-Bit Tag Requester Enable -/
  tag10 : Bool
  /-- Max_Payload_Size and Max_Read_Request_Size in bytes -/
  mps : Nat
  mrrs : Nat
  /-- Completion Timeout Value of Device Control 2, and Completion Timeout Disable -/
  ctoVal : Nat
  ctoDis : Bool
  aspmL1 : Bool
  /-- SR-IOV of a PF: VF Enable and NumVFs -/
  vfEn : Bool
  numVfs : Nat
  /-- steering table: index ↦ entry (R329) -/
  steer : List (Nat × Nat)
  /-- core-side interrupt table: entry ↦ value (Table 11-13) -/
  coreInt : List (Nat × Nat)
  qpcSel : Nat
  qpcCtrl : Nat
  qpcSq : Nat
  qpcCq : Nat
  qpcHead : Nat
  qpcAux : Nat
  qpcStatus : Nat
  qpcSqIndex : Nat
  qpcCqIndex : Nat
  migFid : Nat
  migArg0 : Nat
  migArg1 : Nat
  /-- MIG_STATUS -/
  migStatus : Nat
  /-- 8 B registers of a VNET or VBLK persona page, and other standard registers: offset ↦ value -/
  page : List (Nat × Nat)
  /-- QPID of each local index, in order (R325) -/
  qpids : List Nat
  /-- dirty log active, and with 2 MiB pages -/
  logOn : Bool
  log2m : Bool
  /-- writes and interrupts that wait: for the log ring (R351), a frozen port or Bus Master Enable (R314, R316) -/
  wq : List HWrite
  /-- the wait of `wq` for the log ring has been counted -/
  stalled : Bool
  /-- transmit arbiter: deficit, and the pair served last (R327) -/
  txDeficit : Int
  txLast : Nat
  /-- token bucket of FN_TX_RATE in units of 1/8,000,000,000 byte, and its instant -/
  txBucket : Option (Int × Nat)
  /-- AER Uncorrectable and advisory error status bits -/
  aer : Nat
  /-- AER: severity and mask bits, as the host programs them, and the enables of error messages in Device Control: [0]
  correctable, [1] non-fatal, [2] fatal, [3] unsupported request (R319) -/
  aerSev : Nat
  aerMask : Nat
  errEn : Nat
  /-- AER: status bit of the first error, its header log and its TLP prefix log (Table 10-2) -/
  aerHdr : Option (Nat × Nat × Nat)
  /-- ISR status of a virtio function (R329) -/
  isr : Nat
  /-- L1 PM Substates enabled by the host: [0] PCI-PM L1.2, [1] PCI-PM L1.1, [2] ASPM L1.2, [3] ASPM L1.1 (R306) -/
  l1ss : Nat
  deriving DecidableEq, Repr

/-- An outstanding non-posted request (R297): kind 0 memory read, 1 AtomicOp, 2 translation request. -/
structure Req where
  /-- 0 to 3 for HA0, HA1, HB0, HB1 -/
  link : Nat
  tag : Nat
  kind : Nat
  fid : Nat
  /-- work and piece it serves -/
  work : Nat
  piece : Nat
  addr : Nat
  len : Nat
  pasid : Option Nat
  at_ : Nat
  /-- its completion is to be discarded (R314, R316) -/
  dead : Bool
  /-- bytes that completions have brought (R296) -/
  got : Bytes
  deriving DecidableEq, Repr

/-- A transmit packet whose data is being read (R336, R337). -/
structure Work where
  id : Nat
  fid : Nat
  q : Nat
  /-- submission index of its first descriptor, and descriptors -/
  first : Nat
  n : Nat
  /-- reads of the packet, in order: (address, length, ordering bits of its descriptor) -/
  pieces : List (Nat × Nat × Nat)
  /-- pieces not yet requested -/
  todo : List Nat
  got : List (Nat × Bytes)
  /-- status it completes with -/
  status : Nat
  /-- data came back poisoned (R315) -/
  poisoned : Bool
  /-- time of descriptor fetch (MD_RX_TIME) -/
  rxTime : Nat
  deriving DecidableEq, Repr

/-- A cached translation (R299). -/
structure Xl where
  port : Nat
  fid : Nat
  pasid : Option Nat
  page : Nat
  /-- the translated page -/
  to_ : Nat
  /-- reads and writes allowed; neither: the translation was denied -/
  rd : Bool
  wr : Bool
  deriving DecidableEq, Repr

/-- An ATS invalidation in progress (R299): the requests that must end first. -/
structure Inval where
  id : Nat
  fid : Nat
  waits : List (Nat × Nat)
  deriving DecidableEq, Repr

/-- A page request group (R300); q is 65,536 for a write of the function that waits. -/
structure PageReq where
  fid : Nat
  q : Nat
  page : Nat
  pasid : Option Nat
  at_ : Nat
  /-- transmit work it serves, or none for receive buffers, of which `n` end with it where it fails -/
  work : Option Nat
  n : Nat
  deriving DecidableEq, Repr

/-- A lookaside scan that has been taken up (R190, R195 to R197). -/
structure LookScan where
  fid : Nat
  q : Nat
  desc : Bytes
  lane : Nat
  /-- device clock at which its lane is done with it -/
  ends : Nat
  /-- bytes scanned -/
  len : Nat
  /-- its matches, as end offset and pattern ID; none for a descriptor or a fetch that failed -/
  found : Option (List (Nat × Nat))
  deriving DecidableEq, Repr

/-- Result of a lookaside operation (Table 12-11): bytes for the destination, verdict, inner content type where one was found,
and whether its failed tag is counted. -/
structure LaRes where
  out : Bytes
  verdict : Nat
  tls : Option Nat
  authFail : Bool
  deriving DecidableEq, Repr

/-- A LOOKASIDE descriptor that an engine has taken up (R357, R375). -/
structure LaRun where
  fid : Nat
  q : Nat
  desc : Bytes
  /-- instant at which its operation ends, in units of the engines -/
  ends : Nat
  /-- slot whose key it holds (R365) -/
  slot : Option Nat
  /-- status it completes with -/
  status : Nat
  res : LaRes
  deriving DecidableEq, Repr

/-- The host side. Queue pair keys are FID × 65,536 + local index; ports are 0 HA, 1 HB; links 0 to 3. -/
structure HostSide where
  fn : List (Nat × Fn)
  qp : List (Nat × Qp)
  reqs : List Req
  works : List Work
  /-- lookaside scans taken up, oldest first -/
  scans : List LookScan
  /-- lookaside operations taken up, oldest first -/
  runs : List LaRun
  nextWork : Nat
  /-- link ↦ function served last by the tag round robin (R297) -/
  tagLast : List (Nat × Nat)
  /-- arbiter (0 HA, 1 HB, 2 core side) ↦ function the transmit round robin stands at (R327) -/
  txLast : List (Nat × Nat)
  xl : List Xl
  inv : List Inval
  pri : List PageReq
  /-- PERST inputs asserted -/
  perst : List Nat
  /-- port ↦ instants of the completion timeouts of the latest 1 s (R313) -/
  ctos : List (Nat × Nat)
  /-- links with L0p enabled by the host, and links in FLIT mode -/
  l0p : List Nat
  flit : List Nat
  /-- link ↦ lanes it trained to (R304) -/
  width : List (Nat × Nat)
  /-- link ↦ its own bus number, and how many bus numbers the host has assigned to it (R287, R292) -/
  bus : List (Nat × Nat × Nat)
  /-- port ↦ device clock from which its configuration space is ready (R424) -/
  upAt : List (Nat × Nat)
  /-- (link, tag) of requests that timed out ↦ the function that made them (R319) -/
  late : List ((Nat × Nat) × Nat)
  /-- dirty-log filters: (region, FID, page), oldest first (R350) -/
  logFilter : List (Nat × Nat × Nat)
  deriving DecidableEq, Repr

/-! ### Application cores (spec/01 R35 to R39) -/

/-- A hart (R38). -/
inductive Hart where
  | held | waitIpi | running
  deriving DecidableEq, Repr

/-- Application memory, harts, timers and interrupt controllers. -/
structure Cores where
  /-- application memory by byte offset, canonical: offsets rising, no byte 0 listed -/
  mem : List Host.Cell
  /-- contents usable: set up at the passage to SERVICE, lost with interleaved memory (R39) -/
  memUp : Bool
  /-- lost by a fence, and not reloaded since (R39) -/
  reload : Bool
  /-- application memory in effect is interleaved (R33) -/
  interleaved : Bool
  harts : List Hart
  /-- latest clock request of each cluster in MHz -/
  clocks : List Nat
  /-- hart ↦ mtimecmp -/
  mtimecmp : List (Nat × Nat)
  /-- hart × 2 + level (0 M, 1 S) ↦ pending identities as a bit mask -/
  imsic : List (Nat × Nat)
  /-- APLIC sources asserted, as a bit mask (Table 01-11) -/
  aplic : Nat
  deriving DecidableEq, Repr

/-! ### Faults (spec/16) -/

/-- The error log and what containment remembers. A place is region code × 65,536 + block code × 256 + instance. -/
structure Faults where
  /-- ERR_LOG, oldest first (R476) -/
  log : List Bytes
  /-- cell windows in progress: (place, cell address, start on the device clock, errors that have had no record) (R477) -/
  cells : List (Nat × Nat × Nat × Nat)
  /-- instants of the cell-level records of the latest 1 s (R477) -/
  cellRec : List Nat
  /-- place ↦ instants of its block resets within the latest 1 s (R465) -/
  resets : List (Nat × List Nat)
  /-- blocks held out: (place, instant of the hold; none: until the next chip reset) (R467) -/
  held : List (Nat × Option Nat)
  /-- (place, instant) of every hold of the latest hour -/
  holds : List (Nat × Nat)
  /-- (region, instant) of every fence of the latest 24 h (R471) -/
  fences : List (Nat × Nat)
  /-- uncorrectable reads of the latest 1 ms: (stack, bank, instant) (R470) -/
  hbmReads : List (Nat × Nat × Nat)
  /-- faulty stacks -/
  stackBad : List Nat
  /-- a region is fenced and is tested automatically: instant from which `FLT_REGION_RETEST_S` counts (R471) -/
  retestFrom : Option Nat
  /-- records that may not be in flash yet: (instant, record) (R476) -/
  unwritten : List (Nat × Bytes)
  /-- poisoned lines of application memory, by line number (64 B) (R468) -/
  poison : List Nat
  /-- FAULT_N asserted because of a fatal error; by a fence it follows from MODE_FENCED (R473) -/
  faultN : Bool
  deriving DecidableEq, Repr


/-! ### Power, straps, heat (spec/14) -/

/-- Where the device stands between no power and running firmware. -/
inductive Rails where
  /-- every rail but the always-on island is off -/
  | off
  /-- held in reset: RESET_N low, the supply outside its window, or a test instruction (R421, R502) -/
  | held
  /-- a cold start or chip reset runs; no firmware yet -/
  | boot
  /-- VIGIL firmware or later -/
  | run
  /-- step 4: the always-on island alone -/
  | island
  deriving DecidableEq, Repr

/-- Start-up, power steps, thermal protection and supply. -/
structure Power where
  rails : Rails
  /-- RESET_N is high -/
  resetN : Bool
  /-- the 12 V input has been above 10.8 V for 1 ms -/
  vin : Bool
  /-- thermal trip latched -/
  tripped : Bool
  /-- overvoltage: off until the input has been below 10.2 V -/
  ovLatch : Bool
  /-- trips and supply events to log at the next start -/
  tripToLog : Bool
  supplyToLog : Nat
  /-- samples of the straps, once taken since the reset (R422) -/
  straps : List Nat
  /-- MODE_REASON of the VIGIL that follows the reset, and the mode before it (none: a cold start) -/
  reason : Nat
  before : Option Mode
  /-- start-up stages passed: both stacks handled, SERVICE image running -/
  hbmDone : Bool
  svcRunning : Bool
  /-- HBM stacks in use -/
  stackOk : List Bool
  /-- device clock of the latest activity that R437 names, and of the entry to step 1 -/
  busyAt : Nat
  idleAt : Nat
  /-- DRAIN: device clock of entry, and the limit taken then, ms -/
  drainAt : Nat
  drainLimit : Nat
  drainForced : Bool
  /-- DORMANT: step aimed at, while its entry runs, and a wake source taken meanwhile -/
  aim : Nat
  entering : Bool
  wakePending : Bool
  /-- an exit from step 3 runs, with the MODE_REASON it ends with -/
  exit : Option Nat
  /-- network ports that use Low Power Idle with their partners, as a bit mask (R438) -/
  lpi : Nat
  /-- the time base was locked at entry to step 4 -/
  lockedAtEntry : Bool
  /-- latest sensor readings in m°C, and which are excluded -/
  sensors : List Int
  excluded : List Nat
  /-- Tj in m°C, and device clock since when it has been more than 5 °C below the current level's threshold -/
  tj : Int
  /-- highest Tj since THERM_TJ_PEAK_MC was read; none before the first reading -/
  peak : Option Int
  coolSince : Option Nat
  /-- levels above what Tj asks for, raised by current, and device clock since when it has been below 35 A -/
  byCurrent : Nat
  currentLow : Option Nat
  /-- device clock of the latest reading of the sensors, and of the latest measurement of the supply (R442, R445) -/
  sensorAt : Option Nat
  supplyAt : Option Nat
  deriving DecidableEq, Repr


/-! ### Cipher engines and keys (spec/12) -/

/-- A loaded or revoking key slot (R360). -/
structure Slot where
  /-- DIRECT -/
  direct : Bool
  /-- algorithm of a DIRECT slot -/
  alg : Nat
  key : Bytes
  gen : Nat
  revoking : Bool
  deriving DecidableEq, Repr

/-- A security association (R369): its entry and mutable state. -/
structure Sa where
  /-- Table 12-5, 128 B -/
  ent : Bytes
  /-- outbound: next sequence number; inbound: highest one accepted -/
  seq : Nat
  /-- inbound: bit i stands for `seq` − i, set where it has been accepted -/
  map : Nat
  soft : Bool
  exhausted : Bool
  /-- checkpoint of `seq` and `map` (R373) -/
  ckSeq : Nat
  ckMap : Nat
  /-- served from its checkpoint since its region was fenced, and counted -/
  moved : Bool
  deriving DecidableEq, Repr

/-- A key that an operation in front of a ring holds while it waits (R365). -/
structure KeyHold where
  /-- pair key of the ring -/
  ring : Nat
  slot : Nat
  gen : Nat
  /-- the working key -/
  key : Bytes
  deriving DecidableEq, Repr

/-- What a derived key is found by (R364). -/
structure KdfKey where
  slot : Nat
  gen : Nat
  alg : Nat
  label : Bytes
  deriving DecidableEq, Repr

/-- Key store, security associations, engines. -/
structure Crypt where
  kek : Option Bytes
  slots : List (Nat × Slot)
  /-- generation that the next slot write takes -/
  nextGen : Nat
  sas : List (Nat × Sa)
  /-- device clock of the latest checkpoint -/
  ckAt : Nat
  held : List KeyHold
  /-- domain (0 PKA, 1 PKB, 2 CMP) ↦ derived keys cached, latest used first -/
  kdf : List (Nat × List KdfKey)
  /-- region ↦ SAs in its cache, latest used first (R359) -/
  saCache : List (Nat × List Nat)
  /-- engine ↦ instant at which its operation ends, in units of the engines: region × 8 + n inline, 16 + n lookaside -/
  busy : List (Nat × Nat)
  /-- lookaside ring served last, as its pair key -/
  ring : Nat
  deriving DecidableEq, Repr

/-! ### Storage personas (spec/12) -/

/-- A command that the device has fetched and that has not been answered (R378, R379). -/
structure StgCmd where
  gen : Nat
  fid : Nat
  queue : Nat
  /-- command record, Table 12-13 -/
  record : Bytes
  /-- descriptor chain of a virtio request: address, length, device-writable -/
  chain : List (Nat × Nat × Bool)
  /-- pair key of its service pair -/
  svc : Nat
  /-- passed to core software -/
  passed : Bool
  deriving DecidableEq, Repr

/-- Storage personas. Queue keys are FID × 65,536 + number. -/
structure Stg where
  nvme : List (Nat × Nvme)
  sq : List (Nat × NvSq)
  cq : List (Nat × NvCq)
  /-- context ↦ command -/
  cmds : List (Nat × StgCmd)
  /-- context ↦ generation of its latest command -/
  gens : List (Nat × Nat)
  /-- contexts of commands that wait for a POST, oldest first -/
  waiting : List Nat
  /-- pair key ↦ unused POSTs, oldest first: buffer address and cookie -/
  posts : List (Nat × List (Nat × Nat))
  /-- XFERs in front of a ring that wait for the host: pair key ↦ (command tag, cookie) -/
  xfer : List (Nat × Nat × Nat)
  deriving DecidableEq, Repr

/-! ### Firmware images and activation (spec/15) -/

/-- A firmware slot of a bank: what its image's header says (R447, R455). -/
structure FwSlot where
  valid : Bool
  version : Nat
  svn : Nat
  signer : Nat
  major : Nat
  minor : Nat
  deriving DecidableEq, Repr

/-- A firmware write in progress (R455). -/
structure FwWrite where
  /-- bank × 2 + (0 VIGIL, 1 SERVICE) -/
  slot : Nat
  /-- the container, once its channel has been closed -/
  closed : Option Bytes
  deriving DecidableEq, Repr

/-- A pending activation, or one that switches (R459 to R463). -/
structure Activ where
  /-- 1 HANDOVER_NOW, 2 HANDOVER_AT, 3 RESTART_AT -/
  form : Nat
  t : Nat
  target : Nat
  /-- preparation has ended -/
  ready : Bool
  /-- the start instant has come -/
  started : Bool
  deriving DecidableEq, Repr

/-- One-time programmable fuses (R453): minimum security version of VIGIL and SERVICE firmware, and revoked Gorost keys as a
bit mask. -/
structure Fuses where
  svnVigil : Nat
  svnService : Nat
  revoked : Nat
  deriving DecidableEq, Repr

/-- Firmware banks, the activation and the control pairs. -/
structure Images where
  /-- slot ↦ image: 0 A VIGIL, 1 A SERVICE, 2 B VIGIL, 3 B SERVICE -/
  slots : List (Nat × FwSlot)
  /-- firmware writes in progress, the latest begun first -/
  writes : List FwWrite
  /-- bytes that their buffer holds at most, and the device clock of that reckoning (R455) -/
  buf : Nat
  bufAt : Nat
  act : Option Activ
  /-- the standby pair is healthy and holds the running image (R40) -/
  standby : Bool
  /-- the standby takes control after a mismatch of the active pair -/
  takeover : Bool
  /-- CTL_LOCKSTEP_MISMATCH (R40) -/
  mismatches : Nat
  deriving DecidableEq, Repr

/-! ### The package (spec/17) -/

/-- Test access and switched supplies. -/
structure Package where
  /-- a test instruction holds the chip in reset (R502) -/
  jtag : Bool
  /-- VIO18_OUT and VFLASH_OUT: device clock since which each is off after an overload (R495) -/
  vioOff : Option Nat
  vflashOff : Option Nat
  deriving DecidableEq, Repr

/-- The whole machine. -/
structure State where
  /-- time base (TIME_NOW), ns -/
  now : Nat
  /-- device clock: ns since power-up, never stepped -/
  clock : Nat
  /-- commands that wait, first in front -/
  pending : List Instr
  dict : Dict
  store : ImgStore
  mgmt : Mgmt
  ep : Epochs
  tbl : List TEntry
  tern : Tern
  lrn : Learn
  pkts : List Pkt
  nextPkt : Nat
  /-- free values taken so far; the model's own field (log entry 4) -/
  free : Nat
  tm : Tm
  mode : ModeSt
  wv : Weave
  pps : Pps
  hs : HostSide
  core : Cores
  flt : Faults
  pwr : Power
  cry : Crypt
  stg : Stg
  img : Images
  fuse : Fuses
  pkg : Package
  /-- device clock and output, oldest first -/
  out : List (Nat × Output)
  deriving DecidableEq, Repr

/-- Why the machine could stop with a fault: no command does (every stop of the device is a state of it), so there is no
reason. Safe. -/
inductive Fault where
  deriving DecidableEq, Repr

/-- Why a command is turned away by the model. -/
inductive Refusal where
  /-- raised by an arm of `exec` whose command has no meaning yet; safe -/
  | notModelled (mnemonic : String)
  deriving DecidableEq, Repr

/-! ### The machine right after reset: held in reset, nothing in flash -/

def Dict.reset : Dict := { val := [], ctr := [], flash := [], flashOld := [], toFlash := [], qui := [] }

def Mgmt.reset : Mgmt :=
  { sessions := [], holder := none, leaseEnd := 0, waiting := [], evNumber := 0, evLog := [], unavail := none,
    deferred := [], cycle := [], evHeld := [], h2dBuf := [], h2dBusy := false, d2h := [], d2hReady := false, mbxVector := 0,
    csmReq := none, csmReply := 0 }

/-- Epochs: EPOCH_OPEN is 1 (R60). -/
def Epochs.reset : Epochs :=
  { current := 0, openNum := 1, live := [], applying := [], queued := none, armed := none, atState := 0,
    initiated := none, untold := [], member := none, answer := none, own := none, known := none }

def Learn.reset : Learn := { filter := [], seq := [], chSeq := [], win := [], bridge := [], agePass := [] }

def Tm.reset : Tm :=
  { deficit := [], pointer := [], wait := [], promo := [], bucket := [], busy := [], pause := [], drainOld := [],
    gate := [], gateNow := [], gatePend := [], cens := [], censLost := [], sweep := [], pol := [], polStat := [],
    count := [], countLate := [], recircAt := [], smpPool := [], smpSeq := [], smpWin := [], ipfix := [], ipfixSeq := 0, ipfixAt := 0, ipfixOn := false, ipfixTpl := none,
    patDef := [], patAt := 0, patRing := 0 }

def ModeSt.reset : ModeSt := { mode := .vigil, step := 0, fenced := none }

/-- The calendar is that of the default settings (R271). -/
def Weave.reset : Weave :=
  { link := [], ctlQ := [], shuttleQ := [], again := [], msgSeq := [], newest := [], lsdb := [], dest := [],
    cal := { cycle := 10000, wins := 0x00049C03 :: List.replicate 63 0x00008C0D, tcClass := 45055 }, calPend := none, calOld := none, lsAt := 0, lsDirty := false,
    routeDirty := false, slew := none }

def HostSide.reset : HostSide :=
  { fn := [], qp := [], reqs := [], works := [], scans := [], runs := [], nextWork := 1, tagLast := [], txLast := [], xl := [], inv := [], pri := [],
    perst := [0, 1], ctos := [], l0p := [], flit := [], width := [], bus := [], upAt := [], late := [], logFilter := [] }

/-- Application cores: all held; a cluster's clock request before the first one is 3,000 MHz. DESIGN CHOICE (log entry 22). -/
def Cores.reset : Cores :=
  { mem := [], memUp := false, reload := false, interleaved := false, harts := List.replicate 32 .held, clocks := List.replicate 4 3000,
    mtimecmp := [], imsic := [], aplic := 0 }

def Faults.reset : Faults :=
  { log := [], cells := [], cellRec := [], resets := [], held := [], holds := [], fences := [], hbmReads := [],
    stackBad := [], retestFrom := none, unwritten := [], poison := [], faultN := false }

/-- Power: RESET_N low and no input. Sensor readings before the first reading are 0. DESIGN CHOICE (log entry 22). -/
def Power.reset : Power :=
  { rails := .held, resetN := false, vin := false, tripped := false, ovLatch := false, tripToLog := false, supplyToLog := 0,
    straps := [], reason := 0, before := none, hbmDone := false, svcRunning := false, stackOk := [false, false],
    busyAt := 0, idleAt := 0, drainAt := 0, drainLimit := 0, drainForced := false, aim := 0, entering := false,
    wakePending := false, exit := none, lpi := 0, lockedAtEntry := false, sensors := List.replicate 48 0, excluded := [], tj := 0, peak := none, coolSince := none,
    byCurrent := 0, currentLow := none, sensorAt := none, supplyAt := none }

def Crypt.reset : Crypt :=
  { kek := none, slots := [], nextGen := 0, sas := [], ckAt := 0, held := [], kdf := [], saCache := [], busy := [], ring := 0 }

def Stg.reset : Stg := { nvme := [], sq := [], cq := [], cmds := [], gens := [], waiting := [], posts := [], xfer := [] }

/-- No fuse is burned. -/
def Fuses.reset : Fuses := { svnVigil := 0, svnService := 0, revoked := 0 }

/-- Firmware banks: no image written (IMG_BANK_STATE and IMG_BANK_VERSION 0). -/
def Images.reset : Images :=
  { slots := [], writes := [], buf := 0, bufAt := 0, act := none, standby := false,
    takeover := false, mismatches := 0 }

def Package.reset : Package := { jtag := false, vioOff := none, vflashOff := none }

/-- The machine right after reset. -/
def State.reset : State :=
  { now := 0, clock := 0, pending := [], dict := Dict.reset, store := { held := [], coming := [] }, mgmt := Mgmt.reset,
    ep := Epochs.reset, tbl := [], tern := Tern.reset, lrn := Learn.reset, pkts := [], nextPkt := 0, free := 0, tm := Tm.reset,
    mode := ModeSt.reset, wv := Weave.reset, pps := { ref := none, good := 0, off := [] }, hs := HostSide.reset,
    core := Cores.reset, flt := Faults.reset, pwr := Power.reset, cry := Crypt.reset, stg := Stg.reset, img := Images.reset,
    fuse := Fuses.reset,
    pkg := Package.reset, out := [] }

end Sys2Proof.Machine
end

