-- ==== Sys2Proof/Machine/Tables.lean ====
section
/-!
DEFINITION. What a table declaration says, and the lookups of the stages (spec/05_tables_learning.md R145 to R156,
spec/06_search_patterns.md R175 to R178). A lookup is a function of the entries of one copy, the packet's epoch and the key.
-/

namespace Sys2Proof.Machine

/-- Serial-number order of epoch numbers: a is before b (R60). -/
def epochBefore (a b : Nat) : Bool :=
  let d := (b + 2 ^ 32 - a) % 2 ^ 32
  1 ≤ d && d ≤ 2 ^ 31 - 1

/-- What a declaration of Table 05-1 or Table 06-1 says. -/
structure TInfo where
  id : Nat
  /-- 0 direct-index, 1 near hash, 2 far hash, 3 trie, 4 ternary -/
  kind : Nat
  local_ : Bool
  epoch : Bool
  learn : Bool
  age : Bool
  keyWidth : Nat
  /-- width of the action data in bits -/
  dataBits : Nat
  seed : Nat
  /-- capacity: entries, prefix units or table indexes -/
  size : Nat
  learnProfile : Nat
  /-- ternary: units per entry, bank mask, stage position -/
  units : Nat
  banks : Nat
  position : Nat
  /-- trie: longest prefix length accepted -/
  maxLen : Nat
  deriving DecidableEq, Repr

/-- Action data width of a data class (Tables 05-1, 06-1). -/
def dataBitsOf (c : Nat) : Nat :=
  match c with
  | 1 => 64
  | 2 => 128
  | 3 => 256
  | 4 => 48
  | _ => 0

/-- The banks of a bank mask, ascending (R177). -/
def banksOf (m : Nat) : List Nat := (List.range 8).filter (fun b => bit m b)

/-- A declaration of Table 05-1 read. -/
def tinfoOf (img : PipeImage) (d : Nat) : TInfo :=
  { id := fld d 0 8, kind := fld d 8 3, local_ := bit d 11, epoch := bit d 12, learn := bit d 13, age := bit d 14,
    keyWidth := fld d 16 10, dataBits := dataBitsOf (fld d 26 3), seed := fld d 32 32, size := fld d 64 28,
    learnProfile := fld d 92 6, units := 0, banks := 0, position := 0,
    maxLen := if fld d 16 10 == 44 then 32 else lookupD img.trieLen (fld d 0 8) 128 }

/-- A declaration of Table 06-1 read: capacity is banks × 4,096 / units (R175, R177). -/
def ternInfoOf (d : Nat) : TInfo :=
  let units := 2 ^ fld d 10 2
  { id := fld d 0 8, kind := 4, local_ := bit d 8, epoch := bit d 9, learn := false, age := false,
    keyWidth := 160 * units, dataBits := dataBitsOf (fld d 12 3), seed := 0,
    size := (banksOf (fld d 16 8)).length * (4096 / units),
    learnProfile := 0, units := units, banks := fld d 16 8, position := fld d 24 5, maxLen := 0 }

/-- Every table an image declares. -/
def tinfos (img : PipeImage) : List TInfo := img.tables.map (tinfoOf img) ++ img.tern.map ternInfoOf

/-- The table with a given ID. -/
def tinfo? (img : PipeImage) (id : Nat) : Option TInfo := (tinfos img).find? (fun t => t.id == id)

/-- Levels of a trie (R154, `TBL_LEVELS`). -/
def trieLevels (t : TInfo) : Nat :=
  if t.kind != 3 then 0 else if t.keyWidth == 44 then 3 else 1 + (t.maxLen - 20 + 11) / 12

/-- Length of the key area in bytes (R146). -/
def keyAreaLen (t : TInfo) : Nat := 4 * ((t.keyWidth + 31) / 32)

/-- The key area of a key (R149). -/
def keyArea (t : TInfo) (key : Nat) : Bytes := toBe (keyAreaLen t) key

def hashA (t : TInfo) (key : Nat) : Nat := crc32c t.seed (keyArea t key)
def hashB (t : TInfo) (key : Nat) : Nat := crc32 t.seed (keyArea t key)
def hashC (t : TInfo) (key : Nat) : Nat := crc32c (t.seed ^^^ 0x5A5A5A5A) (keyArea t key)

/-- Buckets of a hash table. -/
def bucketCount (t : TInfo) : Nat := t.size / 4

def bucketA (t : TInfo) (key : Nat) : Nat := hashA t key % bucketCount t

/-- Bucket B of a near table (R149). -/
def bucketB (t : TInfo) (key : Nat) : Nat :=
  let b := hashB t key % bucketCount t
  if b == bucketA t key then b ^^^ 1 else b

/-- The check value of a far entry (R152). -/
def farCheck (t : TInfo) (key : Nat) : Nat := hashB t key * 2 ^ 32 + hashC t key

/-- An entry exists in an epoch: always in a LIVE table, from `born` and before `died` in an EPOCH table (R62, R74). -/
def TEntry.visible (e : TEntry) (epoch : Nat) : Bool :=
  (match e.born with | none => true | some b => b == epoch || epochBefore b epoch) &&
  (match e.died with | none => true | some d => epochBefore epoch d)

/-- An entry belongs to one copy of one declaration of a table. -/
def TEntry.ofCopy (e : TEntry) (table inc region : Nat) : Bool :=
  e.table == table && e.inc == inc && e.region == region

/-- The entry with the greatest value of f, the earlier one of equals. -/
def bestBy (f : TEntry → Nat) : List TEntry → Option TEntry
  | [] => none
  | e :: t => match bestBy f t with
    | none => some e
    | some b => if f b > f e then some b else some e

/-- A prefix of length `plen` covers a key of VRF and address (R155). -/
def covers (t : TInfo) (e : TEntry) (key : Nat) : Bool :=
  let drop := t.keyWidth - 12 - e.plen
  key >>> drop == e.key >>> drop

/-- A lookup of a key in one copy, among the entries that exist for the packet (R148, R150, R152, R155, R177, R178). -/
def lookupIn (t : TInfo) (es : List TEntry) (key : Nat) : Option TEntry :=
  match t.kind with
  | 0 => if key ≥ t.size then none else es.find? (fun e => e.key == key)
  | 1 => es.find? (fun e => e.key == key)
  | 2 => match es.find? (fun e => e.place == 2 && e.key == key) with
    | some e => some e
    | none =>
      let b := bucketA t key
      bestBy (fun e => 3 - e.slot % 4)
        (es.filter fun e => e.place == 0 && e.slot / 4 == b && farCheck t e.key == farCheck t key)
  | 3 => bestBy (fun e => e.plen + 1) (es.filter fun e => covers t e key)
  | _ => bestBy (fun e => t.size - e.slot) (es.filter fun e => (key &&& e.mask) == (e.key &&& e.mask))

/-! ### Ternary banks (R175, R177, R183 to R185) -/

/-- Table index of unit u of a bank (R177). -/
def unitIndex (t : TInfo) (bank u : Nat) : Nat :=
  ((banksOf t.banks).findIdx fun b => b == bank) * (4096 / t.units) + u / t.units

/-- Bank and entry in it of a table index (R177). -/
def bankPlace (t : TInfo) (idx : Nat) : Nat × Nat :=
  let per := 4096 / t.units
  ((banksOf t.banks).getD (idx / per) 0, idx % per)

/-- What a region's banks show other than their shadows hold: flipped bits, and entries under repair as bank and entry. -/
structure TernView where
  flips : List TernFlip
  repair : List (Nat × Nat)

/-- An entry with flipped bits (R185). -/
def TEntry.flipped (e : TEntry) (f : TernFlip) : TEntry :=
  { e with key := e.key ^^^ f.key, mask := e.mask ^^^ f.mask, action := (e.action ^^^ f.action) % 4096, data := e.data ^^^ f.data }

/-- What stands in a unit that nothing was written to. -/
def blankEntry (t : TInfo) (inc region idx : Nat) : TEntry :=
  { table := t.id, inc := inc, region := region, key := 0, mask := 0, plen := 0, action := 0, data := 0, static := false,
    hit := false, reported := false, visit := none, place := 3, slot := idx, born := none, died := none, journal := false,
    super := false }

/-- The entry of a corrupted cell as lookups of an epoch see it, none where its valid bit is clear. -/
def flippedAt (fs : List TernFlip) (t : TInfo) (es : List TEntry) (inc region epoch : Nat) (at_ : Nat × Nat) : Option TEntry :=
  let idx := unitIndex t at_.1 (at_.2 * t.units)
  let mine := fs.filter fun f => f.bank == at_.1 && f.entry == at_.2
  let here := es.find? fun e => e.slot == idx && e.visible epoch
  let valid := mine.foldl (fun (a : Bool) f => a != bit f.valid (epoch % 4)) here.isSome
  let base := (here.or (es.find? fun e => e.slot == idx && !e.super)).getD (blankEntry t inc region idx)
  if valid then some (mine.foldl TEntry.flipped base) else none

/-- The entries of a ternary copy that a packet of an epoch meets: none under repair, and corrupted ones as they are (R184,
R185). -/
def ternSeen (v : TernView) (t : TInfo) (es : List TEntry) (inc region epoch : Nat) : List TEntry :=
  let bad := (v.flips.map fun f => (f.bank, f.entry)).eraseDups.filter fun c => bit t.banks c.1 && decide (c.2 < 4096 / t.units)
  let clean := es.filter fun e =>
    e.visible epoch && !bad.contains (bankPlace t e.slot) && !v.repair.contains (bankPlace t e.slot)
  clean ++ (bad.filter fun c => !v.repair.contains c).filterMap (flippedAt v.flips t es inc region epoch)

/-- A lookup by a packet of an epoch in a region. -/
def tableLookup (v : TernView) (tbl : List TEntry) (t : TInfo) (inc region epoch key : Nat) : Option TEntry :=
  let es := tbl.filter fun e => e.ofCopy t.id inc region
  lookupIn t (if t.kind == 4 then ternSeen v t es inc region epoch else es.filter fun e => e.visible epoch) key

end Sys2Proof.Machine
end

