-- ==== Sys2Proof/Machine/Ops.lean ====
section
/-!
DEFINITION. The named operations that every meaning is written with: reading and writing the dictionary's values,
counters, the epoch versions, outputs, the passing of time.
-/

namespace Sys2Proof.Machine

/-! ### Stores -/

/-- The value of a key, or its default. -/
def Store.get (st : Store) (k d : Nat) : Nat := lookupD st k d

/-- The store with a key's value set; a default value is not listed. -/
def Store.put (st : Store) (k d v : Nat) : Store := if v == d then dissoc st k else assoc st k v

/-- The canonical form: keys strictly rising. -/
def Store.sorted : Store → Bool
  | [] => true
  | [_] => true
  | (a, _) :: (b, x) :: t => decide (a < b) && Store.sorted ((b, x) :: t)

/-- Place of object o among those that follow a first one of the same index. -/
def nth (o first : Nat) : Nat := o % 256 - first % 256

/-- Key of element e of object o. -/
def okey (o e : Nat) : Nat := o * 2 ^ 32 + e

/-- Object and element of a store key. -/
def keyObj (k : Nat) : Nat := k / 2 ^ 32
def keyElem (k : Nat) : Nat := k % 2 ^ 32

/-! ### The catalog -/

/-- Object tables give per-table objects once, at index 0x4900. -/
def rowIndex (o : Nat) : Nat := if o / 256 / 256 == 0x49 then 0x4900 else o / 256

/-- The object table row of object o. -/
def objRow? (o : Nat) : Option ObjRow :=
  catalog.find? fun r => r.idx == rowIndex o && r.lo ≤ o % 256 && o % 256 ≤ r.hi

/-- Default node word of the default tree (R217), by node number. -/
def defaultNode (n : Nat) : Nat :=
  if n < 20736 then 0
  else
    let q := n - 20736
    let port := if q < 128 then q / 8 else 16 + (q - 128) / 8
    if q < 192 then 1 + port * 2 ^ 4 + (7 - q % 8) * 2 ^ 18 + (q % 8) * 2 ^ 21 else 0

/-- Default class map of a port or link at a subindex from 1 (R217): eight big-endian queue numbers in 16 bytes. -/
def defaultClassMap (sub : Nat) : Nat :=
  (List.range 8).foldl (fun a t => a * 65536 + (8 * (sub - 1) + t)) 0

/-- The Default column of an object's row. -/
def rowDefault (o : Nat) : Nat :=
  match objRow? o with
  | some r => r.dflt
  | none => 0

/-- Reset default of element e of object o (the Default column, and the rules it names: R22, R204, R217, R231, R253,
R271, Table 11-2, R326). -/
def objDefault (o e : Nat) : Nat :=
  let sub := o % 256
  match o / 256 with
  | 0x2010 => if sub ≥ 9 then 1 else 0
  | 0x2410 => if sub ≥ 5 then 1 else 0
  | 0x5010 => defaultNode e
  | 0x5013 => 16 + 65536 * 2 ^ 20 + 4 * 2 ^ 44 + 2 * 2 ^ 48
  | 0x5014 => defaultClassMap sub
  | 0x5400 => 24 * 2 ^ 56
  | 0x5C30 => if sub == 1 then 128 * 2 ^ 25 else 0
  | 0x2420 => if sub == 2 then (if e == 0 then 0x00049C03 else 0x00008C0D) else rowDefault o
  | 0x3400 => 0x020000 * 2 ^ 24 + (if e == 0 then 1 else 0)
  | 0x3401 => if sub ≤ 2 then 1 else 0
  | 0x3403 => if sub ≤ 2 && e < 8 then 64 else 8
  | 0x3410 => if sub == 2 then 0x2000 else if sub == 3 then 500 else 0
  | _ => rowDefault o

/-! ### Settings, versions and counters -/

/-- The value in effect of a LIVE or QUIESCE object, or a latched read-only one. -/
def State.cfg (s : State) (o : Nat) (e : Nat := 0) : Nat := s.dict.val.get (okey o e) (objDefault o e)

/-- The state with that value set. -/
def State.setCfg (s : State) (o e v : Nat) : State :=
  { s with dict := { s.dict with val := s.dict.val.put (okey o e) (objDefault o e) v } }

/-- The state with a latched scalar object set. -/
def State.latch (s : State) (o v : Nat) : State := s.setCfg o 0 v

/-- The value of an EPOCH object in a version. -/
def Ver.cfg (v : Ver) (o : Nat) (e : Nat := 0) : Nat := v.objs.get (okey o e) (objDefault o e)

/-- Accepted QUIESCE values that satisfy a test of their object take effect (R50). -/
def State.applyQui (s : State) (p : Nat → Bool) : State :=
  let now := s.dict.qui.filter fun x => p (x.1 / 2 ^ 32)
  let s1 := { s with dict := { s.dict with qui := s.dict.qui.filter fun x => !p (x.1 / 2 ^ 32) } }
  now.foldl (fun a x => a.setCfg (x.1 / 2 ^ 32) (x.1 % 2 ^ 32) x.2) s1

/-- A counter (R13). -/
def State.ctr (s : State) (o : Nat) : Nat := s.dict.ctr.get (okey o 0) 0

/-- The state with a counter raised by n, saturating (R13). -/
def State.bumpN (s : State) (o n : Nat) : State :=
  { s with dict := { s.dict with ctr := s.dict.ctr.put (okey o 0) 0 (Nat.min u64Max (s.ctr o + n)) } }

/-- The state with a counter raised by one. -/
def State.bump (s : State) (o : Nat) : State := s.bumpN o 1

/-- A clear-on-read value that holds a maximum. -/
def State.ctrMax (s : State) (o v : Nat) : State :=
  { s with dict := { s.dict with ctr := s.dict.ctr.put (okey o 0) 0 (Nat.max (s.ctr o) v) } }

/-- An output at the present instant. -/
def State.emit (s : State) (o : Output) : State := { s with out := s.out ++ [(s.clock, o)] }

/-- A fresh free value below 2^w, and the state that has taken it (log entry 4). -/
def State.fresh (s : State) (w : Nat) : Nat × State :=
  (Config.freeValue s.free w % 2 ^ w, { s with free := s.free + 1 })

/-- How far a slew has moved the time base when the device clock reads c (R279; log entry 18). -/
def Slew.done (x : Slew) (c : Nat) : Int :=
  let n : Nat := Nat.min x.off.natAbs ((c - x.at_) * x.rate / 1000000)
  if x.off < 0 then -n else n

/-- The time base dt ns later: with a slew in progress it gains or loses what the slew moves it by. -/
def State.nowAfter (s : State) (dt : Nat) : Nat :=
  match s.wv.slew with
  | none => s.now + dt
  | some x => ((s.now : Int) + dt + x.done (s.clock + dt) - x.done s.clock).toNat

/-- A slew in progress ends where it stands. -/
def State.endSlew (s : State) : State := { s with wv := { s.wv with slew := none } }

/-- Time passes: every command says how many ns after the one before it comes (log entry 1). -/
def State.tick (s : State) (dt : Nat) : State := { s with now := s.nowAfter dt, clock := s.clock + dt }

/-! ### Versions of live epochs -/

/-- The version of a live epoch. -/
def State.ver? (s : State) (n : Nat) : Option Ver := s.ep.live.find? (fun v => v.num == n)

/-- The version of EPOCH_CURRENT, where an epoch is live. -/
def State.curVer? (s : State) : Option Ver := s.ver? s.ep.current

/-- A version with no value set, for readings where no epoch is live. -/
def Ver.empty : Ver := { num := 0, objs := [], pipe := none, pats := [], conts := [], inc := [], swClock := 0, swTime := 0 }

/-- The version of EPOCH_CURRENT; an empty one in VIGIL before epoch 1. -/
def State.curVer (s : State) : Ver := (s.curVer?).getD Ver.empty

/-- The version a packet runs under (R62). -/
def State.pktVer (s : State) (p : Pkt) : Ver :=
  match p.epoch with
  | some n => (s.ver? n).getD Ver.empty
  | none => s.curVer

/-! ### Regions and bindings (R22 to R28) -/

/-- The region that carries what is bound to r, after any failover (R26). -/
def State.eff (s : State) (r : Nat) : Nat := if s.mode.fenced == some r then 1 - r else r

/-- Region of network port n under a version. -/
def State.netRegion (s : State) (v : Ver) (n : Nat) : Nat := s.eff (v.cfg (Obj.NET_PORT_BIND + n))

/-- Region of Weave link n under a version. -/
def State.wvRegion (s : State) (v : Ver) (n : Nat) : Nat := s.eff (v.cfg (Obj.WV_LINK_BIND + n))

/-! ### Packets -/

/-- The packet with an id. -/
def State.pkt? (s : State) (id : Nat) : Option Pkt := s.pkts.find? (fun p => p.id == id)

/-- The state with a packet replaced, in place. -/
def State.setPkt (s : State) (p : Pkt) : State :=
  { s with pkts := s.pkts.map fun q => if q.id == p.id then p else q }

/-- The state with a packet moved behind every other, as an arrival at a queue is. -/
def State.requeue (s : State) (p : Pkt) : State :=
  { s with pkts := s.pkts.filter (fun q => q.id != p.id) ++ [p] }

/-- The state without a packet. -/
def State.dropPkt (s : State) (id : Nat) : State := { s with pkts := s.pkts.filter fun q => q.id != id }

/-- The state with a new packet behind every other; its id is the next unused one. -/
def State.addPkt (s : State) (p : Pkt) : State :=
  { s with pkts := s.pkts ++ [{ p with id := s.nextPkt }], nextPkt := s.nextPkt + 1 }

/-- Packet length without FCS. -/
def Pkt.len (p : Pkt) : Nat := p.bytes.length

/-- Length at the traffic manager, without FCS, as shapers, gates and the census take it: that of the Ethernet frame, so a
relayed frame counts without its 16 B Weave header, which the gate length adds (R232, R244, R249; log entry 67). -/
def Pkt.tmLen (p : Pkt) : Nat := if p.kind == .relay then p.bytes.length - 16 else p.bytes.length

/-- Bytes of the stored form (R201): metadata block, carried header-vector bytes and the bytes from MD_CURSOR; a mirror
copy or a relayed frame is its metadata block and its bytes (R25). -/
def storedLen (v : Ver) (p : Pkt) : Nat :=
  match p.kind with
  | .data => 128 + (match v.pipe with | some i => i.carry.foldl (fun a r => a + r.2) 0 | none => 0) +
      (p.bytes.length - mdGet p.md 256 14)
  | _ => 128 + p.bytes.length


end Sys2Proof.Machine
end

