-- ==== Sys2Proof/Machine/Mem.lean ====
section
/-!
DEFINITION. Application memory (spec/01 R33 to R39): a list of cells in one canonical form. A byte that is not listed reads
as 0 (log entry 7).
-/

namespace Sys2Proof.Machine

/-- What an unlisted byte reads as. -/
def unlistedByte : Byte := 0

/-- The byte at an offset. -/
def memGet (m : List Host.Cell) (a : Nat) : Byte :=
  match m with
  | [] => unlistedByte
  | (a', b) :: t => if a' == a then b else memGet t a

/-- Memory with one byte written, in canonical form. -/
def memSet (m : List Host.Cell) (a : Nat) (b : Byte) : List Host.Cell :=
  match m with
  | [] => if b == unlistedByte then [] else [(a, b)]
  | (a', b') :: t =>
    if a' < a then (a', b') :: memSet t a b
    else
      let rest := if a' == a then t else (a', b') :: t
      if b == unlistedByte then rest else (a, b) :: rest

/-- Memory with consecutive bytes written. -/
def memWrite (m : List Host.Cell) (a : Nat) : Bytes → List Host.Cell
  | [] => m
  | b :: t => memWrite (memSet m a b) (a + 1) t

/-- n bytes from an offset. -/
def memRead (m : List Host.Cell) (a n : Nat) : Bytes := (List.range n).map fun i => memGet m (a + i)

/-- The canonical form: offsets strictly rising, no entry that equals what an unlisted byte reads as. -/
def Memory.wf : List Host.Cell → Bool
  | [] => true
  | [(_, b)] => b != unlistedByte
  | (a, b) :: (a', b') :: t => b != unlistedByte && decide (a < a') && Memory.wf ((a', b') :: t)

/-! ### The core address map (Table 01-10) -/

/-- Base of application memory. -/
def appBase : Nat := 0x1000000000

/-- Size of application memory in effect (`MEM_APP_SIZE`); 0 while it is unavailable (R39, R311). -/
def State.appSize (s : State) : Nat := if s.core.memUp then s.cfg Obj.MEM_APP_SIZE else 0

/-- n bytes at a core physical address lie inside application memory. -/
def State.inApp (s : State) (addr n : Nat) : Bool := appBase ≤ addr && addr + n ≤ appBase + s.appSize

/-- A poisoned line lies among n bytes at an offset of application memory (R468). -/
def State.poisoned (s : State) (off n : Nat) : Bool := s.flt.poison.any fun l => off < 64 * l + 64 && 64 * l < off + n

/-- n bytes of application memory at a core address, as a core-side function reads them; none outside it (R332) or where a
line is poisoned (R468). -/
def State.appRead (s : State) (addr n : Nat) : Option Bytes :=
  if s.inApp addr n && !s.poisoned (addr - appBase) n then some (memRead s.core.mem (addr - appBase) n) else none

/-- Application memory with bytes written at a core address; unchanged outside it. -/
def State.appWrite (s : State) (addr : Nat) (bs : Bytes) : State :=
  if s.inApp addr bs.length then { s with core := { s.core with mem := memWrite s.core.mem (addr - appBase) bs } }
  else s

end Sys2Proof.Machine
end

