-- ==== Sys2Proof/Machine/Fns.lean ====
section
/-!
DEFINITION. Functions as the host sees them, states of ports and links, and interrupts (spec/10 R287 to R289, R305 to R318,
spec/11 R321 to R326, R342 to R344, spec/01 R37).
-/

namespace Sys2Proof.Machine

/-! ### APLIC and IMSIC (spec/01 R37) -/

/-- An APLIC source is asserted (Table 01-11). -/
def State.aplic (s : State) (src : Nat) : State := { s with core := { s.core with aplic := setFld s.core.aplic src 1 1 } }

/-- An MSI write of an identity to an IMSIC file (R37, R344). -/
def State.msi (s : State) (hart level identity : Nat) : State :=
  let k := hart * 2 + level
  let v := setFld (lookupD s.core.imsic k 0) identity 1 1
  ({ s with core := { s.core with imsic := assoc s.core.imsic k v } }).emit (.msi hart level identity)


/-! ### FIDs (Table 00-5) and per-function objects (R356) -/

/-- A FID code of Table 00-5 that is in use. -/
def fidUsed (f : Nat) : Bool :=
  if bit f 12 then f < 16384
  else if fld f 0 12 < 8 then f < 16384 else (0x800 ≤ f && f ≤ 0x8FF)

/-- A core-side function. -/
def coreFid (f : Nat) : Bool := 0x800 ≤ f && f ≤ 0x8FF
/-- Host port of a FID. -/
def fidPort (f : Nat) : Nat := fld f 13 1
/-- The FID is a VF's. -/
def fidVf (f : Nat) : Bool := bit f 12
/-- FID_NUM. -/
def fidNum (f : Nat) : Nat := fld f 0 12
/-- Subindex of a function's per-function objects, counted from 0. -/
def fnSub (f : Nat) : Nat := if coreFid f then 2 else fidPort f
/-- Element of a function in them. -/
def fnIdx (f : Nat) : Nat := if coreFid f then f - 0x800 else if fidVf f then 8 + fidNum f else fidNum f
/-- The FID of an element at a subindex counted from 0; none past the table. -/
def fidAt (sub e : Nat) : Option Nat :=
  if sub == 2 then (if e < 256 then some (0x800 + e) else none)
  else if e < 8 then some (sub * 8192 + e) else if e < 4104 then some (sub * 8192 + 4096 + (e - 8)) else none
/-- A function's element of a LIVE or QUIESCE per-function table. -/
def State.fnCfg (s : State) (o f : Nat) : Nat := s.cfg (o + fnSub f) (fnIdx f)
/-- Key of a queue pair. -/
def qpKey (f q : Nat) : Nat := f * 65536 + q

/-! ### PFs, VFs, links (R287, R322, R323) -/

/-- The PF configuration element of PF n of a port. -/
def State.pfc (s : State) (port n : Nat) : Nat := s.cfg (Obj.FN_PF_CONFIG + port) n
def pfcEnable (v : Nat) : Bool := bit v 0
def pfcPersona (v : Nat) : Nat := fld v 1 2
def pfcVfPersona (v : Nat) : Nat := fld v 3 2
def pfcTotalVfs (v : Nat) : Nat := fld v 5 13

/-- First VF number of PF n of a port (R323). -/
def State.vfBase (s : State) (port n : Nat) : Nat :=
  sumBy (fun m => if pfcEnable (s.pfc port m) then pfcTotalVfs (s.pfc port m) else 0) (List.range n)

/-- The PF of VF number v of a port, and the VF's place k under it. -/
def State.vfOwner (s : State) (port v : Nat) : Option (Nat × Nat) :=
  (List.range 8).findSome? fun n =>
    let b := s.vfBase port n
    if pfcEnable (s.pfc port n) && b ≤ v && v < b + pfcTotalVfs (s.pfc port n) then some (n, v - b) else none

/-- PF of a host function. -/
def State.pfOf (s : State) (f : Nat) : Nat :=
  if fidVf f then ((s.vfOwner (fidPort f) (fidNum f)).map fun x => x.1).getD 0 else fidNum f

/-- Link of a host function (R287): 0 to 3 for HA0, HA1, HB0, HB1. -/
def State.linkOf (s : State) (f : Nat) : Nat :=
  fidPort f * 2 + (if s.cfg (Obj.HST_BIFURCATE + fidPort f) == 1 && 4 ≤ s.pfOf f then 1 else 0)

/-- A function with nothing written: its registers after reset, no completion expected (R348; log entry 9 for values the
PCI Express specification gives). -/
def Fn.fresh : Fn :=
  { reset := 0, resetAt := 0, held := false, holding := none, bme := false, d3 := false, pmeEn := false,
    pmeStatus := false, msixEn := false, msixMask := false, msix := [], pba := [], pend := [], ats := false,
    pri := false, priStopped := false, pasidEn := false, atomicEn := false, tphEn := false, tphIv := false,
    roEn := true, idoEn := false, tag10 := false, mps := 128, mrrs := 512, ctoVal := 0, ctoDis := false,
    aspmL1 := false, vfEn := false, numVfs := 0, steer := [], coreInt := [], qpcSel := 0, qpcCtrl := 0, qpcSq := 0,
    qpcCq := 0, qpcHead := 0, qpcAux := 0, qpcStatus := 0, qpcSqIndex := 0, qpcCqIndex := 0, migFid := 0,
    migArg0 := 0, migArg1 := 0, migStatus := 0, page := [], qpids := [], logOn := false, log2m := false, wq := [],
    stalled := false, txDeficit := 0, txLast := 0, txBucket := none, aer := 0,
    aerSev := 0x00462030, aerMask := 0, errEn := 0, aerHdr := none, isr := 0, l1ss := 0 }

/-- The registers of a function. -/
def State.fn (s : State) (f : Nat) : Fn := lookupD s.hs.fn f Fn.fresh

def State.setFn (s : State) (f : Nat) (x : Fn) : State := { s with hs := { s.hs with fn := assoc s.hs.fn f x } }

/-- MIG_STATUS of function c: status and result (R352). -/
def State.setMig (s : State) (c status result : Nat) : State :=
  s.setFn c { s.fn c with migStatus := status + result * 2 ^ 32 }

/-- A created queue pair. -/
def State.qp? (s : State) (f q : Nat) : Option Qp := lookup? s.hs.qp (qpKey f q)

def State.setQp (s : State) (f q : Nat) (x : Qp) : State := { s with hs := { s.hs with qp := assoc s.hs.qp (qpKey f q) x } }

/-- Pairs of a function that are created: (local index, context). -/
def State.qpsOf (s : State) (f : Nat) : List (Nat × Qp) :=
  (s.hs.qp.filter fun x => x.1 / 65536 == f).map fun x => (x.1 % 65536, x.2)

/-- The function exists (R321 to R323). -/
def State.fnExists (s : State) (f : Nat) : Bool :=
  if coreFid f then s.fnCfg Obj.FN_ENABLE f == 1
  else if !fidUsed f then false
  else if fidVf f then
    match s.vfOwner (fidPort f) (fidNum f) with
    | some (n, k) => let p := s.fn (fidPort f * 8192 + n); p.vfEn && k < p.numVfs
    | none => false
  else pfcEnable (s.pfc (fidPort f) (fidNum f))

/-- Persona: 0 NET, 1 VNET, 2 VBLK, 3 NVME (R322). -/
def State.persona (s : State) (f : Nat) : Nat :=
  if coreFid f then 0
  else if fidVf f then pfcVfPersona (s.pfc (fidPort f) (s.pfOf f))
  else pfcPersona (s.pfc (fidPort f) (fidNum f))

/-- The function is fenced (R318). -/
def State.fnFenced (s : State) (f : Nat) : Bool :=
  s.fnCfg Obj.FN_ENABLE f == 0 || (s.fn f).held || (s.mode.mode == .vigil && f != 0)

/-- Region a function is bound to under a version (R328 step 1). -/
def fnBound (v : Ver) (f : Nat) : Nat :=
  let b := v.cfg (Obj.FN_BIND + fnSub f) (fnIdx f)
  if b != 0xFF then b
  else if coreFid f then (f - 0x800) % 2
  else if fidPort f == 0 then v.cfg Obj.HST_PORT_BIND_HA else v.cfg Obj.HST_PORT_BIND_HB

/-- Region that carries a function under a version, after any failover (R26). -/
def State.fnRegion (s : State) (v : Ver) (f : Nat) : Nat := s.eff (fnBound v f)

/-! ### States of ports and links (R289, R314) -/

def State.frozen (s : State) (port : Nat) : Bool := s.cfg (Obj.HST_PORT_FROZEN + port) == 1
/-- HST_LINK_STATE. -/
def State.linkState (s : State) (l : Nat) : Nat := s.cfg (Obj.HST_LINK_STATE + l)
/-- The link carries TLPs, at once or after a wake from L1 (R305). -/
def State.linkUp (s : State) (l : Nat) : Bool := 2 ≤ s.linkState l && s.linkState l ≤ 6
/-- Configuration space of a port is ready (R292, R424): its firmware runs, PERST is not asserted, and the time to get ready has
passed. -/
def State.cfgReady (s : State) (port : Nat) : Bool :=
  s.pwr.rails == .run && !s.hs.perst.contains port && lookupD s.hs.upAt port 0 ≤ s.clock

/-- Function number of PF n on its link (R323). -/
def State.pfFn (s : State) (port n : Nat) : Nat := if s.cfg (Obj.HST_BIFURCATE + port) == 1 then n % 4 else n

/-- TotalVFs of the enabled PFs below PF n on its link: base′(n) of R323. -/
def State.vfBaseLink (s : State) (port n : Nat) : Nat :=
  s.vfBase port n - (if s.cfg (Obj.HST_BIFURCATE + port) == 1 && 4 ≤ n then s.vfBase port 4 else 0)

/-- First VF Offset of PF n (R323); VF Stride is 1. -/
def State.firstVf (s : State) (port n : Nat) : Nat := 8 + s.vfBaseLink port n - s.pfFn port n

/-- Routing ID of a host function, counted from function 0 of its link's own bus (R323). -/
def State.routeId (s : State) (f : Nat) : Nat :=
  let port := fidPort f
  if fidVf f then
    match s.vfOwner port (fidNum f) with
    | some (n, k) => s.pfFn port n + s.firstVf port n + k
    | none => 0
  else s.pfFn port (fidNum f)

/-- The function's routing ID lies in the bus numbers that the host has assigned to its link (R292); 256 until it has told
(log entry 72). -/
def State.reached (s : State) (f : Nat) : Bool :=
  s.routeId f / 256 < (lookupD s.hs.bus (s.linkOf f) (0, 256)).2

/-- Bytes of a per-function counter object: HA, HB, core side. -/
def State.bumpFn (s : State) (o f : Nat) : State := s.bump (o + fnSub f)

/-- Core-side functions stay reset: their memory is lost, and the manager has not loaded it anew (R39). -/
def State.coreLost (s : State) : Bool := !s.core.memUp || s.core.reload

/-- The function may issue writes and interrupts now (R307, R314 to R317). -/
def State.mayWrite (s : State) (f : Nat) : Bool :=
  let x := s.fn f
  if coreFid f then x.reset == 0 || x.reset == 2
  else x.bme && !s.frozen (fidPort f) && s.linkUp (s.linkOf f) && !x.d3 && (x.reset == 0 || x.reset == 2)

/-- The function may take new descriptors and issue reads now (R314 to R318, R347). -/
def State.mayRead (s : State) (f : Nat) : Bool :=
  s.mayWrite f && s.fnExists f && !(s.fn f).held && s.fnCfg Obj.FN_ENABLE f == 1
    && !(s.mode.mode == .vigil && f != 0) && !(coreFid f && s.coreLost)

/-! ### Link wake (R305) -/

/-- A TLP to send brings a link in an L1 state back to L0. -/
def State.wakeLink (s : State) (l : Nat) : State :=
  if 4 ≤ s.linkState l && s.linkState l ≤ 6 then s.latch (Obj.HST_LINK_STATE + l) 2 else s

/-! ### Interrupts (R342 to R344) -/

/-- The interrupt of a vector is held pending; a vector holds at most one. -/
def State.holdInt (s : State) (f vec : Nat) (pasid : Option Nat) : State :=
  let x := s.fn f
  if x.pend.any (fun p => p.1 == vec) then s else s.setFn f { x with pend := x.pend ++ [(vec, pasid)] }

/-- Core-side interrupt entry of a vector (Table 11-13; masked at reset). -/
def Fn.coreEntry (x : Fn) (vec : Nat) : Nat := lookupD x.coreInt vec 0x4000

/-- MSI-X table entry of a vector: address, data, vector control (masked at reset). -/
def Fn.msixEntry (x : Fn) (vec : Nat) : Nat × Nat × Nat := lookupD x.msix vec (0, 0, 1)

/-- An interrupt falls due (Table 11-12; R344 for core-side functions). -/
def State.deliverInt (s : State) (f vec : Nat) (pasid : Option Nat) : State :=
  let x := s.fn f
  if x.reset == 1 || x.reset == 3 then s
  else if coreFid f then
    let e := x.coreEntry vec
    if fld e 6 8 == 0 || bit e 14 || x.held then s.holdInt f vec pasid
    else s.msi (fld e 0 5) (fld e 5 1) (fld e 6 8)
  else if s.linkState (s.linkOf f) == 7 then
    let s1 := if x.pmeEn then s.emit (.wake (fidPort f)) else s
    s1.holdInt f vec pasid
  else if x.d3 then
    let s1 := if x.pmeEn && !x.pmeStatus then ((s.wakeLink (s.linkOf f)).emit (.pme f)).setFn f { x with pmeStatus := true } else s
    s1.holdInt f vec pasid
  else if x.msixMask || bit (x.msixEntry vec).2.2 0 then
    if x.pba.any (fun p => p.1 == vec) then s else s.setFn f { x with pba := x.pba ++ [(vec, pasid)] }
  else if !x.msixEn || !x.bme || s.frozen (fidPort f) || x.held then s.holdInt f vec pasid
  else
    let m := x.msixEntry vec
    (s.wakeLink (s.linkOf f)).emit (.msix f vec pasid m.1 m.2.1)

/-! ### Tags and quotas (R297) -/

/-- Tags of a link that serve reads and AtomicOps. -/
def State.readPool (s : State) (l : Nat) : Nat := if s.cfg (Obj.HST_BIFURCATE + l / 2) == 1 then 3968 else 7936

/-- Tags of a link kept for translation requests. -/
def State.atsPool (s : State) (l : Nat) : Nat := if s.cfg (Obj.HST_BIFURCATE + l / 2) == 1 then 128 else 256

/-- Functions of a link with Bus Master Enable set. -/
def State.busMasters (s : State) (l : Nat) : Nat :=
  (s.hs.fn.filter fun x => x.2.bme && !coreFid x.1 && s.linkOf x.1 == l).length

/-- `HST_TAG_QUOTA_EFFECTIVE`. -/
def State.quotaEff (s : State) (f : Nat) : Nat :=
  let p := s.readPool (s.linkOf f)
  let q := s.fnCfg Obj.HST_TAG_QUOTA f
  if q == 0 then Nat.max 16 (p / Nat.max 1 (s.busMasters (s.linkOf f))) else Nat.min q p

/-- Outstanding reads of a function. -/
def State.heldTags (s : State) (f : Nat) : Nat := (s.hs.reqs.filter fun r => r.fid == f && r.kind != 2).length

/-- Lowest tag of a link in [lo, lo + n) that no request holds. -/
def State.freeTag (s : State) (l lo n : Nat) : Option Nat :=
  findFrom (fun t => !s.hs.reqs.any fun r => r.link == l && r.tag == t) lo n

/-- One more request of a function stays within the limit of its link's mode (R297). -/
def State.underLimit (s : State) (l f : Nat) : Bool :=
  s.hs.flit.contains l || (s.hs.reqs.filter fun r => r.link == l).length < (if (s.fn f).tag10 then 768 else 256)

/-! ### Splitting (R296) -/

/-- An access cut so that no part crosses a multiple of `unit` (a power of two up to 4,096). -/
def splitAt' (unit : Nat) : Nat → Nat → Nat → List (Nat × Nat)
  | 0, _, _ => []
  | fuel + 1, addr, len =>
    if len == 0 then []
    else
      let n := Nat.min len (unit - addr % unit)
      (addr, n) :: splitAt' unit fuel (addr + n) (len - n)

/-- Parts of an access of a function, at most `unit` bytes each and never across a 4 KiB boundary. -/
def splitAccess (unit addr len : Nat) : List (Nat × Nat) :=
  let u := Nat.min (Nat.max unit 1) 4096
  splitAt' u (len / u + 2) addr len

/-! ### Translation (R299) -/

/-- The cached translation of a page of a function. -/
def State.xlOf (s : State) (f : Nat) (pasid : Option Nat) (addr : Nat) : Option Xl :=
  s.hs.xl.find? fun x => x.fid == f && x.pasid == pasid && x.page == addr / 4096

/-- A translation request for a page is outstanding. -/
def State.xlAsked (s : State) (f : Nat) (addr : Nat) : Bool :=
  s.hs.reqs.any fun r => r.kind == 2 && r.fid == f && r.addr == addr / 4096 * 4096

/-- The cache with one more translation; a port holds 16,384. -/
def State.addXl (s : State) (x : Xl) : State :=
  let rest := s.hs.xl.filter fun y => !(y.fid == x.fid && y.pasid == x.pasid && y.page == x.page)
  let mine := rest.filter fun y => y.port == x.port
  let rest := if mine.length ≥ 16384 then (match mine with | y :: _ => rest.erase y | [] => rest) else rest
  { s with hs := { s.hs with xl := rest ++ [x] } }

/-- A read or AtomicOp of a function may take a tag now (R297). -/
def State.tagReady (s : State) (f : Nat) : Bool :=
  let l := s.linkOf f
  coreFid f || (s.heldTags f < s.quotaEff f && s.underLimit l f && (s.freeTag l 0 (s.readPool l)).isSome)

/-- The request of a tag is recorded and sent. -/
def State.sendReq (s : State) (r : Req) (attr : Attr) : State :=
  let s1 := s.wakeLink r.link
  { s1 with hs := { s1.hs with reqs := s1.hs.reqs ++ [r], late := s1.hs.late.filter fun x => x.1 != (r.link, r.tag) } }.emit
    (.hostReq r.link r.tag r.kind r.fid attr r.addr r.len)

/-- A translation request for a page of a function, where a tag is free: for work `work`, or with work 0 for pair `piece`,
65,536 standing for a write of the function. -/
def State.askXl (s : State) (f : Nat) (pasid : Option Nat) (work piece addr : Nat) : Option State :=
  let l := s.linkOf f
  if !s.underLimit l f then none
  else (s.freeTag l (s.readPool l) (s.atsPool l)).map fun t =>
    s.sendReq { link := l, tag := t, kind := 2, fid := f, work := work, piece := piece, addr := addr / 4096 * 4096, len := 8,
                pasid := pasid, at_ := s.clock, dead := false, got := [] }
      { ro := false, ido := false, pasid := pasid, tph := none }

/-- The address that a request of a function carries: translated where ATS is enabled (R299). -/
def State.xlAddr (s : State) (f : Nat) (pasid : Option Nat) (addr : Nat) : Nat :=
  if !(s.fn f).ats then addr
  else match s.xlOf f pasid addr with
    | some x => x.to_ * 4096 + addr % 4096
    | none => addr

/-- The reads of an access that a command makes at once: their requests, each with a tag that returns with its completion
(R296, R297). A core-side function sends none. -/
def State.fetchTlp (s : State) (f : Nat) (attr : Attr) (addr n : Nat) : State :=
  let l := s.linkOf f
  if coreFid f then s
  else (splitAccess (s.fn f).mrrs addr n).foldl (fun a p =>
    match a.freeTag l 0 (a.readPool l) with
    | some t => (a.wakeLink l).emit (.hostReq l t 0 f { attr with xl := (a.fn f).ats } (a.xlAddr f attr.pasid p.1) p.2)
    | none => a) s

/-! ### Page requests (R300) -/

/-- A page request group is sent for a page. -/
def State.askPage (s : State) (r : PageReq) : State :=
  let s1 := (s.bump (Obj.HST_PRI_REQUESTS + fidPort r.fid)).wakeLink (s.linkOf r.fid)
  { s1 with hs := { s1.hs with pri := s1.hs.pri ++ [r] } }.emit (.pageReq r.fid r.page r.pasid)

/-- A denied page is asked for: PRI is enabled and not stopped, and the function may issue (R300, R307). -/
def Fn.asksPages (x : Fn) : Bool := x.pri && !x.priStopped && !x.d3

/-- What the translation of a write of a function meets. -/
inductive XlWrite where
  /-- it goes to this address -/
  | to_ (addr : Nat)
  /-- denied, and the page not asked for -/
  | lost
  /-- a translation or a page is awaited -/
  | wait (s : State)

/-- The translation of a write of a function (R299, R300). -/
def State.xlWrite (s : State) (f : Nat) (pasid : Option Nat) (addr : Nat) : XlWrite :=
  let x := s.fn f
  if coreFid f || !x.ats then .to_ addr
  else match s.xlOf f pasid addr with
    | some t =>
      if t.wr then .to_ (t.to_ * 4096 + addr % 4096)
      else if !x.asksPages then .lost
      else if s.hs.pri.any fun p => p.fid == f && p.page == addr / 4096 then .wait s
      else .wait (s.askPage { fid := f, q := 65536, page := addr / 4096, pasid := pasid, at_ := s.clock, work := none, n := 0 })
    | none => if s.xlAsked f addr then .wait s else .wait ((s.askXl f pasid 0 65536 addr).getD s)

end Sys2Proof.Machine
end

