-- ==== Sys2Proof/Machine/Events.lean ====
section
/-!
DEFINITION. Messages to management sessions, events and error records (spec/13 R392 to R404, spec/16 R475 and R476).
-/

namespace Sys2Proof.Machine

/-- The 16 B header of an OMP message (Table 13-2). -/
def ompHeader (op : Nat) (resp : Bool) (status req len count aux : Nat) : Bytes :=
  toBe 8 (1 * 2 ^ 60 + op * 2 ^ 48 + (if resp then 2 ^ 40 else 0) + status * 2 ^ 32 + req % 2 ^ 32)
    ++ toBe 8 (len * 2 ^ 48 + count * 2 ^ 40 + aux % 2 ^ 32)

/-- MB is the mailbox of PF0 on HA (`MGMT_MB_TRANSPORT`). -/
def State.mailbox (s : State) : Bool := s.cfg Obj.MGMT_MB_TRANSPORT == 1

/-- A message leaves for a session: as an output, or into the mailbox's queue of 64 datagrams (R392). -/
def State.sendOmp (s : State) (port sess : Nat) (msg : Bytes) : State :=
  if port == 1 && s.mailbox then
    if s.mgmt.d2h.length ≥ 64 then s.bump Obj.MGMT_MBX_DROP
    else
      let s1 : State := { s with mgmt := { s.mgmt with d2h := s.mgmt.d2h ++ [msg], d2hReady := true } }
      if s.mgmt.d2hReady then s1 else s1.deliverInt 0 s1.mgmt.mbxVector none
  else s.emit (.omp port sess msg)

/-- The 48 B body of an event (R404). -/
def eventBody (code cls number time obj : Nat) (detail : Bytes) : Bytes :=
  toBe 2 code ++ toBe 1 cls ++ toBe 1 0 ++ toBe 4 number ++ toBe 8 time ++ toBe 4 obj ++ toBe 4 0 ++ padTo 24 detail

/-- The EVENT message to one session, with its own sequence. -/
def State.sendEventTo (s : State) (x : Session) (body : Bytes) : State :=
  let ss := s.mgmt.sessions.map fun y =>
    if y.port == x.port && y.num == x.num then { y with evSeq := y.evSeq + 1 } else y
  let s1 := { s with mgmt := { s.mgmt with sessions := ss } }
  (s1.sendOmp x.port x.num (ompHeader 0x09 false 0 0 48 0 (x.evSeq + 1) ++ body)).bump Obj.MGMT_EVENTS_SENT

/-- An event goes out: to the one session named, or to every session whose mask selects its class (R403). -/
def State.deliverEvent (s : State) (cls : Nat) (only : Option (Nat × Nat)) (body : Bytes) : State :=
  let hearers := s.mgmt.sessions.filter fun x =>
    match only with
    | some k => k == (x.port, x.num)
    | none => bit x.mask cls
  hearers.foldl (fun a x => a.sendEventTo x body) s

/-- The dictionary is unavailable (R399). -/
def State.unavailable (s : State) : Bool :=
  match s.mgmt.unavail with
  | some t => decide (t ≤ s.clock)
  | none => false

/-- An event is raised: numbered, logged, and sent, or held while the dictionary is unavailable (R404). -/
def State.raise (s : State) (code cls obj : Nat) (detail : Bytes) (only : Option (Nat × Nat) := none) : State :=
  let n := (s.mgmt.evNumber + 1) % 2 ^ 32
  let body := eventBody code cls n s.now obj detail
  let lg := s.mgmt.evLog ++ [body]
  let lg := lg.drop (lg.length - 256)
  let s1 := { s with mgmt := { s.mgmt with evNumber := n, evLog := lg } }
  if s.unavailable then { s1 with mgmt := { s1.mgmt with evHeld := s1.mgmt.evHeld ++ [(cls, only, body)] } }
  else s1.deliverEvent cls only body

/-- What an error record says beside what the device adds (Table 16-5). -/
structure ErrInfo where
  level : Nat
  escalated : Bool
  injected : Bool
  /-- ER_REGION: 0 chip-wide, 1 PRT, 2 PKA, 3 PKB, 4 HST, 5 CMP, 6 CTL -/
  region : Nat
  block : Nat
  inst : Nat
  cls : Nat
  count : Nat
  action : Nat
  fid : Option Nat
  addr : Nat
  detail : Nat

/-- An error of a level, class and action in a place, with nothing else to say. -/
def ErrInfo.mk' (level region block inst cls action : Nat) : ErrInfo :=
  { level := level, escalated := false, injected := false, region := region, block := block, inst := inst, cls := cls,
    count := 1, action := action, fid := none, addr := 0, detail := 0 }

/-- MODE_CURRENT. -/
def Mode.num : Mode → Nat
  | .vigil => 0
  | .service => 1
  | .handover => 2
  | .degraded => 3
  | .drain => 4
  | .dormant => 5

/-- Bytes 0 to 55 of an error record. -/
def errBytes (s : State) (seq : Nat) (e : ErrInfo) : Bytes :=
  toLe 8 (seq % 2 ^ 32 + e.level * 2 ^ 32 + b2n e.escalated * 2 ^ 34 + b2n e.injected * 2 ^ 35 + e.region * 2 ^ 36
      + e.block * 2 ^ 40 + e.inst % 256 * 2 ^ 48 + e.cls * 2 ^ 56)
    ++ toLe 8 s.now
    ++ toLe 8 (Nat.min e.count 65535 + e.action * 2 ^ 16 + s.mode.mode.num * 2 ^ 24
      + (match e.fid with | some f => f * 2 ^ 32 + 2 ^ 46 | none => 0))
    ++ toLe 8 e.addr
    ++ toLe 8 (s.ep.current + s.cfg Obj.FLT_STARTS % 2 ^ 32 * 2 ^ 32)
    ++ toLe 16 e.detail

/-- One line of UART0 for an error record; the manual gives no text for it, so it stands as the record (log entry 8). -/
def uartLine (r : Bytes) : Bytes := r

/-- An error is logged (R475, R476): its record enters ERR_LOG, the UARTs and ERROR_LOGGED. -/
def State.logErr (s : State) (e : ErrInfo) : State :=
  let n := Nat.min u64Max (s.cfg Obj.ERR_LOG_TOTAL + 1)
  let b := errBytes s n e
  let r := b ++ toLe 4 (crc32c 0 b) ++ toLe 4 0
  let s1 := if s.flt.log.length ≥ 4096 then s.bump Obj.ERR_LOG_OVERWRITTEN else s
  let lg := s.flt.log ++ [r]
  let lg := lg.drop (lg.length - 4096)
  let young := s.flt.unwritten.filter fun x => s.clock < x.1 + 1000000000
  let s2 := { s1 with flt := { s1.flt with log := lg, unwritten := if e.level < 2 then young ++ [(s.clock, r)] else young } }
  let s3 := ((s2.latch Obj.ERR_LOG_TOTAL n).latch Obj.ERR_LOG_COUNT lg.length).latch Obj.ERR_LOG_LAST (beNat r)
  ((s3.emit (.uart 0 (uartLine r))).emit (.uart 1 (0x7E :: r))).raise 0x0020 2 0 (r.take 24)

/-- The place an error record names. -/
def ErrInfo.place (e : ErrInfo) : Nat := e.region * 65536 + e.block * 256 + e.inst

/-- A cell-level record, at most `FLT_CELL_LOG_MAX` of them per second (R477). -/
def State.logRate (s : State) (e : ErrInfo) : State :=
  let recent := s.flt.cellRec.filter fun t => s.clock < t + 1000000000
  if recent.length ≥ s.cfg Obj.FLT_CELL_LOG_MAX then s.bump Obj.FLT_LOG_SUPPRESSED
  else ({ s with flt := { s.flt with cellRec := recent ++ [s.clock] } }).logErr e

/-- A cell-level error: one record per cell and window of 1,000 ms, at most `FLT_CELL_LOG_MAX` of them per second (R477). -/
def State.logCell (s : State) (e : ErrInfo) : State :=
  let hot := fun (c : Nat × Nat × Nat × Nat) => c.1 == e.place && c.2.1 == e.addr && s.clock < c.2.2.1 + 1000000000
  if s.flt.cells.any hot then
    let cs := s.flt.cells.map fun c => if hot c then (c.1, c.2.1, c.2.2.1, c.2.2.2 + 1) else c
    { s with flt := { s.flt with cells := cs } }
  else
    ({ s with flt := { s.flt with cells := s.flt.cells ++ [(e.place, e.addr, s.clock, 0)] } }).logRate e

end Sys2Proof.Machine
end

