-- ==== Sys2Proof/Machine/Stages.lean ====
section
/-!
DEFINITION. The match-action stages and the deparser as functions of one packet's header vector and metadata
(spec/04_match_action.md R109 to R128 and R136). What a half leaves for its caller to do (counters, learn candidates,
drops) stands in `StageCtx`; Machine/Pipeline.lean acts on it.
-/

namespace Sys2Proof.Machine

/-! ### Metadata fields by name (Tables 03-8 and 04-1); word w begins at bit 64 w -/

def mdSrcKind (m : Md) : Nat := mdGet m 0 3
def mdSrcId (m : Md) : Nat := mdGet m 3 14
def mdPass (m : Md) : Nat := mdGet m 17 2
def mdHdrValid (m : Md) (b : Nat) : Bool := bit m.toNat (128 + b)
def mdCursor (m : Md) : Nat := mdGet m 256 14
def mdFwdKind (m : Md) : Nat := mdGet m 320 3
def mdFwdTarget (m : Md) : Nat := mdGet m 323 17
def mdTc (m : Md) : Nat := mdGet m 340 3
def mdDrop (m : Md) : Bool := bit m.toNat 343
def mdDropCode (m : Md) : Nat := mdGet m 344 8
def mdColor (m : Md) : Nat := mdGet m 352 2
def mdPolEn (m : Md) (slot : Nat) : Bool := bit m.toNat (354 + slot)
def mdPol (m : Md) (slot : Nat) : Nat := if slot == 0 then mdGet m 356 18 else mdGet m 384 18
def mdMirrorMask (m : Md) : Nat := mdGet m 402 16
def mdSampler (m : Md) : Nat := mdGet m 418 8
def mdSampleEn (m : Md) : Bool := bit m.toNat 426
def mdCipherEn (m : Md) : Bool := bit m.toNat 427
def mdCipherDir (m : Md) : Nat := mdGet m 428 1
def mdCipherSa (m : Md) : Nat := mdGet m 429 19
def mdNextTable (m : Md) : Nat := mdGet m 512 8
def mdPassStart (m : Md) : Nat := mdGet m 532 9
def mdPassStartEn (m : Md) : Bool := bit m.toNat 541
def mdPassReq (m : Md) : Bool := bit m.toNat 542
def mdDivertReq (m : Md) : Bool := bit m.toNat 543
def mdDivertSet (m : Md) : Nat := mdGet m 544 4
def mdDivertLen (m : Md) : Nat := mdGet m 548 14

/-- The metadata a pass after the first begins with, of the words 5 to 15 (R112). -/
def mdNextPass (m : Md) : Md := mdSet (mdSet (mdSet (mdSet m 320 64 0) 384 64 0) 448 64 0) 532 30 0

/-! ### Keys and slots -/

/-- One selector: its width and its value (R113). -/
def selValue (hv : Hv) (md : Md) (x : Nat) : Nat × Nat :=
  let w := fld x 12 8 + 1
  (w, if bit x 1 then mdGet md (fld x 2 10) w else hvGet hv (fld x 2 10) 0 w)

/-- The key of a profile: its width and its value, selector 0 most significant (R114). -/
def profileKey (hv : Hv) (md : Md) (sels : List Nat) : Nat × Nat :=
  sels.foldl (fun a x => if bit x 0 then let v := selValue hv md x; (a.1 + v.1, a.2 * 2 ^ v.1 + v.2) else a) (0, 0)

/-- A miss in a learnable table (R166). -/
structure LearnCand where
  table : Nat
  key : Nat
  /-- key area, as the learn record carries it -/
  area : Bytes
  context : Nat
  deriving DecidableEq, Repr

/-- What a half works under. -/
structure StageEnv where
  img : PipeImage
  /-- declaration epochs of the packet's version -/
  inc : List (Nat × Nat)
  region : Nat
  epoch : Nat
  /-- a far result of this half is late (R121) -/
  late : Bool
  /-- the region's ternary banks (R185) -/
  tern : TernView

/-- What a half has done so far. -/
structure StageCtx where
  hv : Hv
  md : Md
  tbl : List TEntry
  /-- slot ↦ key and condition of the trie lookup in progress (R117) -/
  trie : List (Nat × Option Nat)
  cands : List LearnCand
  /-- counter pairs to move: (bank, pair) -/
  counts : List (Nat × Nat)
  nextTableBad : Nat
  countRange : Nat
  /-- a FWD named a target that R126 refuses -/
  badTarget : Bool
  /-- a far lookup was made and its result is late -/
  farLate : Bool

/-- What a slot does to the packet: nothing, or an action entry with its action data. -/
inductive SlotRun where
  | idle
  | act (entry data : Nat)
  deriving DecidableEq, Repr

/-- The action of a miss (SLOT_MISS_EN, SLOT_MISS_ACTION). -/
def missRun (slot : Nat) : SlotRun := if bit slot 39 then .act (fld slot 27 12) 0 else .idle

/-- SLOT_COND against MD_HDR_VALID at the start of the stage. -/
def slotRuns (slot : Nat) (md : Md) : Bool := !bit slot 19 || (mdHdrValid md (fld slot 20 6) != bit slot 26)

/-- The descriptor of slot k at a position. -/
def slotAt (img : PipeImage) (pos k : Nat) : Nat := lookupD img.slots (pos * 4 + k) 0

/-- Last position of the half that a position lies in. -/
def halfEnd (pos : Nat) : Nat := if pos ≤ 16 then 16 else 24

/-- First position of that half. -/
def halfStart (pos : Nat) : Nat := if pos ≤ 16 then 1 else 17

/-- Two positions hold the same trie lookup in slot k (R117). -/
def sameTrie (img : PipeImage) (p q k : Nat) : Bool :=
  let a := slotAt img p k
  let b := slotAt img q k
  bit a 0 && bit b 0 && fld a 1 3 == 3 && fld b 1 3 == 3 && !bit a 12 && !bit b 12 && fld a 4 8 == fld b 4 8

/-- A trie lookup in slot k begins at this position. -/
def trieFirst (img : PipeImage) (pos k : Nat) : Bool := pos == halfStart pos || !sameTrie img (pos - 1) pos k

/-- A trie lookup in slot k ends at this position. -/
def trieLast (img : PipeImage) (pos k : Nat) : Bool := pos == halfEnd pos || !sameTrie img pos (pos + 1) k

/-- A table can be looked up at a position by a slot of a kind when its ID comes from MD_NEXT_TABLE (R118): a trie where it has
one level, a far table where far slots may stand. DESIGN CHOICE (log entry 68). -/
def placedAt (t : TInfo) (pos : Nat) : Bool :=
  match t.kind with
  | 3 => trieLevels t == 1
  | 4 => t.position == pos
  | 2 => (11 ≤ pos && pos ≤ 16) || (20 ≤ pos && pos ≤ 24)
  | _ => true

/-- A found entry runs its action; its hit bit is set where the table keeps them (R122, R165). -/
def hitRun (t : TInfo) (c : StageCtx) (e : TEntry) : StageCtx × SlotRun :=
  ({ c with tbl := if t.age then c.tbl.map (fun x => if x == e then { x with hit := true } else x) else c.tbl },
   .act e.action e.data)

/-- A lookup of a slot in table t with a key; md and hv are those at the start of the stage. -/
def runLookup (env : StageEnv) (slot : Nat) (t : TInfo) (hv : Hv) (md : Md) (key : Nat) (c : StageCtx) :
    StageCtx × SlotRun :=
  if t.kind == 2 && env.late then ({ c with farLate := true }, .idle)
  else match tableLookup env.tern c.tbl t (lookupD env.inc t.id 0) env.region env.epoch key with
    | some e => hitRun t c e
    | none =>
      if t.learn && fld slot 13 6 == t.learnProfile then
        let sel := lookupD env.img.learnCtx t.id 0
        let ctx := if bit sel 0 then (selValue hv md sel).2 else 0
        ({ c with cands := c.cands ++ [{ table := t.id, key := key, area := keyArea t key, context := ctx }] },
         missRun slot)
      else (c, missRun slot)

/-- Slot k at a position, on the header vector and metadata at the start of the stage (R115 to R118). Of a trie lookup the
first position's descriptor gives the condition, as it does the profile, and the last position's the miss action. DESIGN CHOICE
(log entry 68). -/
def runSlot (env : StageEnv) (pos k : Nat) (hv : Hv) (md : Md) (c : StageCtx) : StageCtx × SlotRun :=
  let slot := slotAt env.img pos k
  let prof := profileKey hv md (lookupD env.img.profiles (pos * 64 + fld slot 13 6) [])
  if !bit slot 0 then (c, .idle)
  else if fld slot 1 3 == 3 && !bit slot 12 then
    let c1 := if trieFirst env.img pos k then
      { c with trie := assoc c.trie k (if slotRuns slot md then some prof.2 else none) } else c
    if trieLast env.img pos k then
      match tinfo? env.img (fld slot 4 8), lookupD c1.trie k none with
      | some t, some key => runLookup env slot t hv md key c1
      | _, _ => (c1, .idle)
    else (c1, .idle)
  else if !slotRuns slot md then (c, .idle)
  else if bit slot 12 then
    match tinfo? env.img (mdNextTable md) with
    | some t =>
      if t.kind == fld slot 1 3 && placedAt t pos && prof.1 ≤ t.keyWidth then runLookup env slot t hv md prof.2 c
      else ({ c with nextTableBad := c.nextTableBad + 1 }, missRun slot)
    | none => ({ c with nextTableBad := c.nextTableBad + 1 }, missRun slot)
  else match tinfo? env.img (fld slot 4 8) with
    | some t => runLookup env slot t hv md prof.2 c
    | none => (c, missRun slot)

/-! ### Primitives (R122 to R126) -/

/-- Width of a field reference (FR_W_M1). -/
def frWidth (r : Nat) : Nat := fld r 0 6 + 1

/-- The field a reference names (Table 04-6). -/
def frGet (hv : Hv) (md : Md) (r : Nat) : Nat :=
  if bit r 18 then mdGet md (fld r 8 10) (frWidth r) else hvGet hv (fld r 9 9) (fld r 6 3) (frWidth r)

/-- The context with that field written. -/
def frSet (c : StageCtx) (r v : Nat) : StageCtx :=
  if bit r 18 then { c with md := mdSet c.md (fld r 8 10) (frWidth r) v }
  else { c with hv := hvSet c.hv (fld r 9 9) (fld r 6 3) (frWidth r) v }

/-- The source of a primitive for a destination of w bits (PR_SK, PR_SRC); hv and md are those at the stage's start. -/
def prSource (hv : Hv) (md : Md) (data p w : Nat) : Nat :=
  match fld p 36 2 with
  | 0 => fld p 0 32 % 2 ^ w
  | 1 => fld data (fld p 0 8) w
  | _ => frGet hv md (fld p 0 19) % 2 ^ w

/-- The source of COUNT: 32 bits from an immediate or action data, the field's own width from a field. -/
def prCountIndex (hv : Hv) (md : Md) (data p : Nat) : Nat :=
  if fld p 36 2 == 2 then frGet hv md (fld p 0 19) else prSource hv md data p 32

/-- COPY (Table 04-7): bytes of the header vector or of the metadata block, the latter with byte b at bits 8 b + 7 to 8 b. -/
def prCopy (hv : Hv) (md : Md) (c : StageCtx) (p : Nat) : StageCtx :=
  let n := fld p 42 5 + 1
  let bs : Bytes := if bit p 9 then toLe n (mdGet md (8 * fld p 0 9) (8 * n)) else hvBytes hv (fld p 0 9) n
  if bit p 56 then { c with md := mdSet c.md (8 * fld p 47 9) (8 * n) (leNat bs) }
  else { c with hv := hvPut c.hv (fld p 47 9) bs }

/-- FWD: kind, target and traffic class; ignored once DROP stands (R123). A target that R126 refuses is remembered. -/
def prFwd (c : StageCtx) (p target : Nat) : StageCtx :=
  let kind := fld p 54 3
  if mdDrop c.md then c
  else { c with
    md := mdSet (mdSet (mdSet c.md 320 3 kind) 323 17 target) 340 3 (fld p 51 3)
    badTarget := (kind == 1 && target > 15) || (kind == 3 && !fidUsed target) }

/-- DROP: the code of the first one executed is kept (R123). -/
def prDrop (c : StageCtx) (p : Nat) : StageCtx :=
  if mdDrop c.md then c else { c with md := mdSet (mdSet c.md 343 1 1) 344 8 (fld p 0 8) }

/-- COUNT: an index at or beyond the declared size counts nothing (R126). An image that names an undeclared bank is refused at
load (`primBankOk`). -/
def prCount (env : StageEnv) (c : StageCtx) (p idx : Nat) : StageCtx :=
  if idx < lookupD env.img.banks (fld p 52 5) 0 then { c with counts := c.counts ++ [(fld p 52 5, idx)] }
  else { c with countRange := c.countRange + 1 }

/-- One primitive word (Table 04-7), its sources read at the start of the stage (R123). -/
def runPrim (env : StageEnv) (hv : Hv) (md : Md) (data : Nat) (c : StageCtx) (p : Nat) : StageCtx :=
  let a := fld p 38 19
  match fld p 58 6 with
  | 0x01 => frSet c a (prSource hv md data p (frWidth a))
  | 0x02 => frSet c a (frGet hv md a + prSource hv md data p (frWidth a))
  | 0x04 => prCopy hv md c p
  | 0x08 => prDrop c p
  | 0x09 => prFwd c p (prSource hv md data p 17)
  | 0x0A =>
    let v := prSource hv md data p 18
    if bit p 56 then { c with md := mdSet (mdSet c.md 355 1 1) 384 18 v }
    else { c with md := mdSet (mdSet c.md 354 1 1) 356 18 v }
  | 0x0B => prCount env c p (prCountIndex hv md data p)
  | 0x0C => { c with md := mdSet c.md (402 + fld p 53 4) 1 1 }
  | 0x0D => { c with md := mdSet (mdSet c.md 418 8 (fld p 49 8)) 426 1 1 }
  | 0x0E => { c with md := mdSet (mdSet (mdSet c.md 427 1 1) 428 1 (fld p 56 1)) 429 19 (prSource hv md data p 19) }
  | 0x0F => { c with md := mdSet (mdSet (mdSet c.md 543 1 1) 544 4 (fld p 53 4)) 548 14 (fld p 39 14) }
  | 0x10 => { c with md := mdSet c.md 512 8 (fld p 49 8) }
  | 0x11 => { c with md := mdSet (mdSet (mdSet c.md 532 9 (fld p 47 9)) 541 1 (fld p 56 1)) 542 1 1 }
  | _ => c

/-- The words of an action entry that run: up to the first with LAST set, at most eight (R122). -/
def upToLast : List Nat → List Nat
  | [] => []
  | p :: t => if bit p 57 then [p] else p :: upToLast t

/-- An action entry of a position with its action data. -/
def runAction (env : StageEnv) (pos : Nat) (hv : Hv) (md : Md) (c : StageCtx) (r : SlotRun) : StageCtx :=
  match r with
  | .idle => c
  | .act entry data =>
    (upToLast ((lookupD env.img.actions (pos * 4096 + entry) []).take 8)).foldl (runPrim env hv md data) c

/-- One stage: the four slots look up on the values at its start, then their actions run in slot order (R122, R123). -/
def runStage (env : StageEnv) (c : StageCtx) (pos : Nat) : StageCtx :=
  let r0 := runSlot env pos 0 c.hv c.md c
  let r1 := runSlot env pos 1 c.hv c.md r0.1
  let r2 := runSlot env pos 2 c.hv c.md r1.1
  let r3 := runSlot env pos 3 c.hv c.md r2.1
  [r0.2, r1.2, r2.2, r3.2].foldl (runAction env pos c.hv c.md) r3.1

/-- The stages of one half in order: positions 1 to 16 or 17 to 24. -/
def runHalf (env : StageEnv) (egress : Bool) (c : StageCtx) : StageCtx :=
  (if egress then (List.range 8).map (· + 17) else (List.range 16).map (· + 1)).foldl (runStage env) c

/-! ### The deparser (R136) -/

/-- The IPv4 header checksum written into an emitted entry: over IHL × 4 bytes of it, at most the entry; an entry that does not
reach the field stays as it is, as one too short for DP_CSUM 2 does. DESIGN CHOICE (log entry 68). -/
def ipv4Fixed (bs : Bytes) : Bytes :=
  let n := Nat.min bs.length (((bs.headD 0).toNat % 16) * 4)
  let z := splice (bs.take n) 10 [0, 0]
  let s := (fold16 (onesSum z)) ^^^ 0xFFFF
  if bs.length < 12 then bs else splice bs 10 (toBe 2 s)

/-- The bytes of one emit entry, empty where it is not emitted. -/
def emitEntry (hv : Hv) (md : Md) (x : Nat) : Bytes :=
  if bit x 0 && mdHdrValid md (fld x 1 6) then
    let bs := hvBytes hv (fld x 7 9) (fld x 16 7 + 1)
    match fld x 23 2 with
    | 1 => ipv4Fixed bs
    | 2 => if bs.length < 8 then bs else splice bs 6 [0, 0]
    | _ => bs
  else []

/-- The headers that the deparser emits. -/
def emitHeaders (img : PipeImage) (hv : Hv) (md : Md) : Bytes :=
  (List.range 32).flatMap fun i => emitEntry hv md (lookupD img.emits i 0)

/-- The packet as the deparser emits it: emit entries, then its bytes from MD_CURSOR. -/
def deparse (img : PipeImage) (hv : Hv) (md : Md) (bytes : Bytes) : Bytes :=
  emitHeaders img hv md ++ bytes.drop (mdCursor md)

/-- The header vector the egress stages see: only the bytes of the carry map (R201). -/
def carriedHv (img : PipeImage) (hv : Hv) : Hv :=
  img.carry.foldl (fun h r => hvPut h r.1 (hvBytes hv r.1 r.2)) 0

/-- Header-vector bytes carried (R201). -/
def carryLen (img : PipeImage) : Nat := sumBy (fun r => r.2) img.carry

end Sys2Proof.Machine
end

