-- ==== Sys2Proof/Machine/Functions.lean ====
section
/-!
DEFINITION. Functions, their writes and interrupts, and the rings (spec/10_host_ports.md, spec/11_functions_rings_migration.md
R321 to R335, R341 to R344, R349 to R351).
-/

namespace Sys2Proof.Machine

/-! ### Dirty-page logging (R349 to R351) -/

/-- Page number of an address in a target's log. -/
def Fn.logPage (x : Fn) (addr : Nat) : Nat := if x.log2m then addr / 2 ^ 21 * 2 ^ 21 else addr / 4096 * 4096

/-- The log ring of a target: the controlling function's EVENT pair with source 4 and the target's FID (R349). -/
def State.logRing? (s : State) (f : Nat) : Option (Nat × Nat) :=
  let c := s.cfg (Obj.MIG_CTL_FID + fidPort f)
  ((s.qpsOf c).find? fun q => fld q.2.ctrl 0 4 == 5 && fld q.2.ctrl 14 2 == 0 && fld q.2.aux 24 3 == 4 && fld q.2.aux 32 14 == f).map
    fun q => (c, q.1)

/-- Size of a completion ring (QP_CQ_LOG2). -/
def Qp.cqSize (x : Qp) : Nat := 2 ^ fld x.ctrl 9 5
/-- Size of a submission ring. -/
def Qp.sqSize (x : Qp) : Nat := 2 ^ fld x.ctrl 4 5
/-- The completion ring is full (R341); indexes are 32-bit counts. -/
def Qp.cqFull (x : Qp) : Bool := (x.cq + 2 ^ 32 - x.ccons) % 2 ^ 32 ≥ x.cqSize
/-- PASID of a pair (R301). -/
def Qp.pasid (x : Qp) : Option Nat := if bit x.ctrl 55 then some (fld x.aux 0 20) else none
def Qp.kind (x : Qp) : Nat := fld x.ctrl 0 4
def Qp.vec (x : Qp) : Nat := fld x.ctrl 16 12
/-- Bytes of a completion entry or record (Table 11-6, QP_REC_SIZE). -/
def Qp.entrySize (x : Qp) : Nat :=
  if x.kind == 5 then (match fld x.ctrl 14 2 with | 0 => 8 | 1 => 32 | 2 => 64 | _ => 256) else 16
/-- Bytes of a submission entry (Table 11-6). -/
def Qp.sqEntrySize (x : Qp) : Nat := if x.kind == 3 then 64 else 32
/-- Descriptors not yet taken up. -/
def Qp.avail (x : Qp) : Nat := (x.prod + 2 ^ 32 - x.taken) % 2 ^ 32

/-- Steering hint of a pair's writes: the ST entry of its vector in Interrupt Vector mode (R303). -/
def Fn.hint (x : Fn) (y : Qp) : Option (Nat × Nat) :=
  if x.tphEn && x.tphIv then some (fld y.ctrl 57 2, fld (x.msixEntry y.vec).2.2 16 16) else none

/-- PASID of the requests that a pair causes, where the host has enabled PASID for its function (R291, R301). -/
def State.pasidOf (s : State) (f : Nat) (y : Qp) : Option Nat := if (s.fn f).pasidEn then y.pasid else none

/-- Attributes of entries and head indexes: both ordering bits clear (R298). -/
def State.entryAttr (s : State) (f : Nat) (y : Qp) : Attr :=
  { ro := false, ido := false, pasid := s.pasidOf f y, tph := (s.fn f).hint y }

/-- A write that nothing holds back leaves the device, its address translated: to the host, or into application memory (R35,
R299, R332). -/
def State.issueMem (s : State) (f : Nat) (attr : Attr) (addr : Nat) (bs : Bytes) : State :=
  if coreFid f then s.appWrite addr bs
  else (s.wakeLink (s.linkOf f)).emit (.hostWrite f { attr with xl := (s.fn f).ats } addr bs)

/-- The head index of a ring (Table 11-11). -/
def headBytes (x : Qp) : Bytes := toLe 4 x.cq ++ toLe 4 (if x.kind == 5 then 0 else x.cons)

/-- A pair after one more entry was published, and whether it interrupts now (R342). -/
def Qp.published (x : Qp) (now : Nat) : Qp × Bool :=
  let y := { x with cq := (x.cq + 1) % 2 ^ 32, pend := x.pend + 1, pendAt := if x.pend == 0 then now else x.pendAt }
  let cnt := fld x.ctrl 39 16
  let us := fld x.ctrl 29 10
  if !bit x.ctrl 28 then ({ y with pend := 0, pendAt := 0 }, false)
  else if (cnt == 0 && us == 0) || (cnt != 0 && cnt ≤ y.pend) then ({ y with pend := 0, pendAt := 0 }, true)
  else (y, false)

/-- Address of the slot that the next entry of a completion ring takes (R332). -/
def Qp.slotAddr (x : Qp) : Nat := x.cqBase + x.cq % x.cqSize * x.entrySize

/-- A write whose translation, where it needs one, is there. -/
def State.writeNow (s : State) (f : Nat) (attr : Attr) (addr : Nat) (bs : Bytes) : State :=
  match s.xlWrite f attr.pasid addr with
  | .to_ a => s.issueMem f attr a bs
  | _ => s

/-- A write of a controlling function into its own ring, which no log covers. -/
def State.ringWrite0 (s : State) (f q : Nat) (x : Qp) (entry : Bytes) : State :=
  let y := x.published s.clock
  let a := s.entryAttr f x
  let s1 := (s.setQp f q y.1).writeNow f a x.slotAddr (padTo x.entrySize entry)
  let s2 := s1.writeNow f a x.headAddr (headBytes y.1)
  if y.2 then s2.deliverInt f x.vec a.pasid else s2

/-- Result of the log check of a write: it may go, or waits for the log ring or for the ring's translations. -/
inductive LogCheck where
  | go (s : State)
  | wait (s : State)

/-- The translations that the next entry of a ring needs are awaited, or none is (R299). -/
def State.slotXl (s : State) (f : Nat) (x : Qp) : Option State :=
  match s.xlWrite f (s.pasidOf f x) x.slotAddr, s.xlWrite f (s.pasidOf f x) x.headAddr with
  | .wait s1, _ => some s1
  | _, .wait s1 => some s1
  | _, _ => none

/-- The log record of a write, where the target is logged and the page not in the filter (R349 to R351). -/
def State.logWrite (s : State) (f addr : Nat) : LogCheck :=
  let x := s.fn f
  if coreFid f || !x.logOn then .go s
  else
    let page := x.logPage addr
    let r := s.fnRegion s.curVer f
    if s.hs.logFilter.any (fun e => e == (r, f, page)) then .go s
    else match s.logRing? f with
      | none => .wait s
      | some (c, q) => match s.qp? c q with
        | none => .wait s
        | some y =>
          if y.cqFull || !s.mayWrite c then .wait s
          else match s.slotXl c y with
            | some s1 => .wait s1
            | none =>
              let s1 := s.ringWrite0 c q y (toLe 8 (page + b2n x.log2m))
              let fl := s1.hs.logFilter ++ [(r, f, page)]
              let mine := fl.filter fun e => e.1 == r
              let fl := if mine.length > 4096 then fl.erase (mine.headD (0, 0, 0)) else fl
              .go { s1 with hs := { s1.hs with logFilter := fl } }

/-- Used buffers are returned on a virtqueue; with MSI-X disabled the ISR status shows it (R324, R329). -/
def State.giveUsed (s : State) (f q n : Nat) : State :=
  let x := s.fn f
  let s1 := if x.msixEn then s else s.setFn f { x with isr := setFld x.isr 0 1 1 }
  (s1.wakeLink (s.linkOf f)).emit (.virtioUsed f q n)

/-- What became of a write or interrupt with nothing waiting before it. -/
inductive Sent where
  | went (s : State)
  /-- it waits; for the log ring where `log` says so -/
  | waits (s : State) (log : Bool)

/-- One write or interrupt of a function. A write whose translation is denied, and whose page is not asked for, is lost (R300;
log entry 73). -/
def State.tryWrite (s : State) (f : Nat) (w : HWrite) : Sent :=
  match w with
  | .int vec pasid => .went (s.deliverInt f vec pasid)
  | .used q n => if s.mayWrite f then .went (s.giveUsed f q n) else .waits s false
  | .mem attr addr bs =>
    if !s.mayWrite f then .waits s false
    else match s.xlWrite f attr.pasid addr with
      | .wait s1 => .waits s1 false
      | .lost => .went s
      | .to_ a => match s.logWrite f addr with
        | .go s1 => .went (s1.issueMem f attr a bs)
        | .wait s1 => .waits s1 true

/-- The writes `ws` of a function wait. A wait for the log ring is counted once per stall (R351). -/
def State.holdWrites (s : State) (f : Nat) (ws : List HWrite) (log : Bool) : State :=
  let x := s.fn f
  let s1 := s.setFn f { x with wq := ws, stalled := x.stalled || log }
  if log && !x.stalled then s1.bump (Obj.MIG_LOG_STALLS + fidPort f) else s1

/-- A function's write or interrupt, behind those that already wait (R334, R351). -/
def State.hostWrite (s : State) (f : Nat) (w : HWrite) : State :=
  if !(s.fn f).wq.isEmpty then s.holdWrites f ((s.fn f).wq ++ [w]) false
  else match s.tryWrite f w with
    | .went s1 => s1
    | .waits s1 log => s1.holdWrites f [w] log

/-- The writes that wait in a function go out in order as far as they may. -/
def flushLoop (f : Nat) : List HWrite → State → State
  | [], s => let x := s.fn f; s.setFn f { x with wq := [], stalled := false }
  | w :: t, s =>
    match s.tryWrite f w with
    | .went s1 => flushLoop f t s1
    | .waits s1 log => s1.holdWrites f (w :: t) log

def State.flushFn (s : State) (f : Nat) : State :=
  if (s.fn f).wq.isEmpty then s else flushLoop f (s.fn f).wq (s.setFn f { (s.fn f) with wq := [] })

/-- The controlling function of a port (R352). -/
def State.migCtl (s : State) (port : Nat) : Nat := s.cfg (Obj.MIG_CTL_FID + port)

/-- Targets whose log rings are function f's. -/
def State.logTargets (s : State) (f : Nat) : List Nat :=
  (s.hs.fn.filter fun x => x.2.logOn && !coreFid x.1 && s.migCtl (fidPort x.1) == f).map fun x => x.1

/-- Writes that waited for the log rings of function f are tried again (R351). -/
def State.flushTargets (s : State) (f : Nat) : State := (s.logTargets f).foldl State.flushFn s

/-! ### Rings (R332 to R335, R341, R342) -/

/-- A completion entry is written with its head index, and the interrupt of R342 follows (R334). -/
def State.publish (s : State) (f q : Nat) (x : Qp) (entry : Bytes) : State :=
  let y := x.published s.clock
  let a := s.entryAttr f x
  let s1 := (s.setQp f q y.1).hostWrite f (.mem a x.slotAddr (padTo x.entrySize entry))
  let s2 := s1.hostWrite f (.mem a x.headAddr (headBytes y.1))
  if y.2 then s2.hostWrite f (.int x.vec a.pasid) else s2

/-- Buffers of a virtqueue are returned, and its interrupt follows where it is on (R324, R334) and the driver has not suppressed it:
that stands in the host's memory (R377, log entry 76). -/
def State.virtioUse (s : State) (f q n : Nat) : State :=
  let s1 := s.hostWrite f (.used q n)
  match s1.qp? f q with
  | some x =>
    let v := s1.fresh 1
    if bit x.ctrl 28 && v.1 == 0 then v.2.hostWrite f (.int x.vec none) else v.2
  | none => s1

/-- The pattern engine or a lookaside engine has a descriptor of a function (R196, R375). -/
def State.jobsRun (s : State) (f : Nat) : Bool := (s.hs.scans.any fun x => x.fid == f) || s.hs.runs.any fun x => x.fid == f

/-- Finished work of a submission pair: descriptors consumed up to `cons`, its entry published or, where the ring is full or
earlier entries still wait, put into completion staging (R341). -/
def State.complete (s : State) (f q : Nat) (cons : Nat) (entry : Bytes) : State :=
  match s.qp? f q with
  | none => s
  | some x =>
    let y := { x with cons := cons % 2 ^ 32 }
    if x.kind == 8 then (s.setQp f q y).virtioUse f q 0
    else if !y.cqFull && y.staged.isEmpty then s.publish f q y entry
    else
      let z := { y with staged := y.staged ++ [(entry, cons)] }
      if z.staged.length ≥ 32 && !z.stop then
        (s.setQp f q { z with stop := true }).bumpFn Obj.HST_CQ_STAGE_STOPS f
      else s.setQp f q z

/-- A stop of R341 holds on with n entries staged: a NET_RX pair's while 32 are, another's until 16 are. -/
def Qp.stopHolds (x : Qp) (n : Nat) : Bool := if x.kind == 2 then 32 ≤ n else 16 < n

/-- Staged entries are published while the ring has room, in order (R341). -/
def unstage (f q : Nat) : Nat → State → State
  | 0, s => s
  | n + 1, s =>
    match s.qp? f q with
    | none => s
    | some x =>
      match x.staged with
      | [] => s
      | (e, _) :: t =>
        if x.cqFull then s
        else unstage f q n (s.publish f q { x with staged := t, stop := x.stop && x.stopHolds t.length } e)

def State.unstage (s : State) (f q : Nat) : State :=
  match s.qp? f q with
  | none => s
  | some x => Sys2Proof.Machine.unstage f q x.staged.length s

/-- What became of a record written to an EVENT ring. -/
inductive RingPut where
  | put (s : State)
  | full
  | down

/-- QP_REC_SIZE of a source's records: 1 learn 64 B, 2 census 32 B, 3 sample 256 B, 4 dirty log 8 B (R169, R250, R254, R349). -/
def recCode (src : Nat) : Nat := match src with | 1 => 2 | 2 => 1 | 3 => 3 | _ => 0

/-- The EVENT pair of function f that a source's ring num is written to, set up with the source's record size: source 1 learn,
2 census, 3 sample (R331). -/
def State.eventPair? (s : State) (f src num : Nat) : Option (Nat × Qp) :=
  (s.qpsOf f).find? fun q => q.2.kind == 5 && fld q.2.aux 24 3 == src && fld q.2.aux 32 14 == num
    && fld q.2.ctrl 14 2 == recCode src

/-- The ring of a source can take records: its owner exists, is not reset, and its host port is not frozen; one that is held
takes them (R169, R251, R254, R314, R353). -/
def State.ringUp (s : State) (f : Nat) : Bool :=
  (s.fn f).reset == 0 && s.fnCfg Obj.FN_ENABLE f == 1 && (coreFid f || !s.frozen (fidPort f)) && s.fnExists f

/-- A record goes to ring num of a source owned by function f. -/
def State.putRecord (s : State) (f src num : Nat) (record : Bytes) : RingPut :=
  match s.eventPair? f src num with
  | none => .down
  | some (q, x) =>
    if !s.ringUp f then .down
    else if x.cqFull then .full
    else .put (s.publish f q x record)

end Sys2Proof.Machine
end

