-- ==== Sys2Proof/Machine/Cmd.lean ====
section
/-!
DEFINITION. The frame that every command's meaning stands in: time passes, then the command acts where its condition
holds; where it does not, the command is a question that finds nothing to do (log entry 2).
-/

namespace Sys2Proof.Machine

/-- The outcome of a command. -/
abbrev Out := Host.Outcome State Fault Refusal

/-- Firmware runs (VIGIL or later): the dictionary, the ports and the datapath's clocks are there. -/
def State.alive (s : State) : Bool := s.pwr.rails == .run

/-- The datapath carries traffic: every mode but VIGIL and DORMANT (R425, Table 14-5). -/
def State.traffic (s : State) : Bool := s.alive && s.mode.mode != .vigil && s.mode.mode != .dormant

/-- A command: after dt ns, `act` happens where `cond` holds. -/
def cmd (dt : Nat) (s : State) (cond : State → Bool) (act : State → State) : Out :=
  let t := s.tick dt
  .next (if cond t then act t else t)

/-- MODE_POWER_STEP changes; entries are counted (R436). -/
def State.setStep (s : State) (n : Nat) : State :=
  (({ s with mode := { s.mode with step := n } }).latch Obj.MODE_POWER_STEP n).bump (Obj.PWR_STEP_ENTRIES + n)

/-- Activity: the device leaves step 1 or 2, and idleness begins anew (R437, R438). -/
def State.stir (s : State) : State :=
  let t := { s with pwr := { s.pwr with busyAt := s.clock } }
  if t.mode.step == 1 || t.mode.step == 2 then t.setStep 0 else t

/-- A command that is activity of the datapath or of a host. -/
def work (dt : Nat) (s : State) (cond : State → Bool) (act : State → State) : Out :=
  cmd dt s cond fun t => act t.stir

end Sys2Proof.Machine
end

