-- ==== Sys2Proof/Machine/Windows.lean ====
section
/-!
DEFINITION. Repeating time windows: gate lists (spec/08 R241 to R247) and, with the same arithmetic, the calendar's
runs of a class (spec/09 R271, R272). A cycle is a list of segments (duration, mask) that fill it exactly.
-/

namespace Sys2Proof.Machine

/-- A repeating pattern of segments, phase 0 at `base`. -/
structure Cyc where
  base : Nat
  cycle : Nat
  segs : List (Nat × Nat)
  deriving DecidableEq, Repr

/-- Entries laid over one cycle: the last one holds to the end, the end cuts what goes beyond (R241). -/
def fillCycle (left : Nat) : List (Nat × Nat) → List (Nat × Nat)
  | [] => []
  | [(_, m)] => if left == 0 then [] else [(left, m)]
  | (d, m) :: t => if left == 0 then [] else (Nat.min d left, m) :: fillCycle (left - Nat.min d left) t

/-- A gate list as a repeating pattern (Table 08-3). -/
def Gate.cyc (g : Gate) : Cyc :=
  { base := g.base, cycle := g.cycle,
    segs := fillCycle g.cycle (g.entries.map fun e => (fld e 8 30, fld e 0 8)) }

/-- Position of instant t in the cycle; t may lie before the base (R247). -/
def Cyc.phase (c : Cyc) (t : Nat) : Nat := (((t : Int) - (c.base : Int)) % (c.cycle : Int)).toNat

/-- Segments from a phase on, the cut one first. -/
def fromPhase (ph : Nat) : List (Nat × Nat) → List (Nat × Nat)
  | [] => []
  | (d, m) :: t => if ph < d then (d - ph, m) :: t else fromPhase (ph - d) t

/-- Mask in force at instant t. -/
def Cyc.maskAt (c : Cyc) (t : Nat) : Nat :=
  match fromPhase (c.phase t) c.segs with
  | (_, m) :: _ => m
  | [] => 0

/-- Time for which bit b stays set at the head of a segment list. -/
def leadOpen (b : Nat) : List (Nat × Nat) → Nat
  | [] => 0
  | (d, m) :: t => if bit m b then d + leadOpen b t else 0

/-- Bit b is set in every segment. -/
def alwaysOpen (b : Nat) (l : List (Nat × Nat)) : Bool := l.all fun x => bit x.2 b

/-- Time from t until bit b closes; none where it never does. A window that is open across the cycle's end goes on (R244). -/
def Cyc.openFor (c : Cyc) (b t : Nat) : Option Nat :=
  if alwaysOpen b c.segs then none else some (leadOpen b (fromPhase (c.phase t) c.segs ++ c.segs))

/-- The windows of bit b: (start phase, length), each across the cycle's end where it is open there. -/
def windowsOf (b total : Nat) : Nat → List (Nat × Nat) → List (Nat × Nat)
  | _, [] => []
  | ph, (d, m) :: t =>
    if bit m b then (ph, leadOpen b ((d, m) :: t)) :: windowsOf b total (ph + d) t
    else windowsOf b total (ph + d) t

/-- Lengths and starts of the windows of bit b, the one across the cycle's end joined with the first (R246). -/
def Cyc.windows (c : Cyc) (b : Nat) : List (Nat × Nat) :=
  let ws := windowsOf b c.cycle 0 c.segs
  ws.map fun w => if w.1 + w.2 == c.cycle then (w.1, w.2 + leadOpen b c.segs) else w

/-- The longest window of bit b: none where it is always open, 0 where it never opens (R246). -/
def Cyc.longest (c : Cyc) (b : Nat) : Option Nat :=
  if alwaysOpen b c.segs then none else some ((c.windows b).foldl (fun a w => Nat.max a w.2) 0)

/-- Longest common part of windows of lengths x and y whose starts differ by r modulo g. -/
def overlapMax (x y r g : Nat) : Nat :=
  let m := Nat.min x y
  let span := Nat.max x y - m
  -- starts of the shorter inside the longer: differences 0 .. span, of the class r modulo g
  let d0 := if x ≤ y then r % g else (g - r % g) % g
  if d0 ≤ span then m else m - Nat.min (d0 - span) (g - d0)

/-- Longest time for which both patterns have their bit set (R272). -/
def longestBoth (a : Cyc) (ba : Nat) (c : Cyc) (bc : Nat) : Option Nat :=
  match a.longest ba, c.longest bc with
  | none, y => y
  | x, none => x
  | some _, some _ =>
    let g := Nat.gcd a.cycle c.cycle
    some ((a.windows ba).foldl (fun m w => (c.windows bc).foldl (fun m v =>
      Nat.max m (overlapMax w.2 v.2 ((a.base + w.1 + g * (v.1 + c.base + 1) - v.1 - c.base) % g) g)) m) 0)

/-- Bit b of a pattern that is replaced by another at instant `sw` (R244): time from t until it closes, t before or after
that instant. -/
def openForWith (c : Cyc) (b t : Nat) (next : Option (Cyc × Nat × Bool)) : Option Nat :=
  match next with
  | none => c.openFor b t
  | some (n, sw, en) =>
    let reach := match c.openFor b t with | none => true | some d => decide (sw ≤ t + d)
    if sw ≤ t then (if en then n.openFor b t else none)
    else if reach then
      if !en then none
      else match n.openFor b sw with
        | none => none
        | some d => if bit (n.maskAt sw) b then some (sw - t + d) else some (sw - t)
    else c.openFor b t

/-- First start of a cycle at or after instant t, and at or after the base (R242). -/
def firstStart (base cycle t : Nat) : Nat :=
  if t ≤ base then base else base + ((t - base + cycle - 1) / cycle) * cycle

/-! ### Ports -/

/-- Data rate of network port n in Gb/s, by the mode in effect (Table 01-16). -/
def State.netRate (s : State) (n : Nat) : Nat :=
  match s.cfg (Obj.NET_PORT_MODE + n / 8) with
  | 0 => 1600
  | 1 => 800
  | 2 => 400
  | _ => 200

/-- Nn is a logical port of the mode in effect (R44). -/
def State.netPresent (s : State) (n : Nat) : Bool :=
  match s.cfg (Obj.NET_PORT_MODE + n / 8) with
  | 0 => n % 8 == 0
  | 1 => n % 4 == 0
  | 2 => n % 2 == 0
  | _ => true

/-- Data rate of port node pn (0–23) in Gb/s (R214). -/
def State.portRate (s : State) (pn : Nat) : Nat := if pn < 16 then s.netRate pn else 200

/-- Dequeue to wire (R243, R273): network ports by mode, a Weave link 168 ns, relayed frames 110 ns. -/
def State.wireLead (s : State) (pn : Nat) (relay : Bool) : Nat :=
  if pn < 16 then
    (match s.netRate pn with | 1600 => 120 | 800 => 128 | 400 => 140 | _ => 164)
  else if relay then 110 else 168

/-- The link of a network port is up, or a Weave link is UP (R46, Table 09-7). -/
def State.portUp (s : State) (pn : Nat) : Bool :=
  if pn < 16 then s.cfg (Obj.NET_LINK_STATE + pn) == 4
  else if pn < 24 then s.cfg (Obj.WV_LINK_STATE + (pn - 16)) == 2
  else true

/-- Running gate list of a port; every gate open where none runs (R241). -/
def State.gateOf (s : State) (pn : Nat) : Gate :=
  lookupD s.tm.gate pn { enable := false, base := 0, cycle := 1000000, entries := [] }

/-- Gate length of a packet of n bytes at a port (R244). -/
def State.gateLen (s : State) (pn n : Nat) : Nat :=
  n + 24 + s.cfg (Obj.GATE_GROWTH + pn) + (if pn < 16 then 0 else 16)

/-! ### Cells (R200, R208) -/

/-- A packet's frame has not been received whole, and its length was not known when it entered the parser (R97). -/
def State.unmeasured (s : State) (p : Pkt) : Bool := !p.lenKnown && decide (s.clock < p.rxEnd)

/-- Bytes of a packet that are still to be received. -/
def State.toCome (s : State) (p : Pkt) : Nat :=
  if s.unmeasured p then (p.rxEnd - s.clock) * (if p.srcKind == 0 then s.netRate p.srcId else 200) / 8 else 0

/-- Cells that a packet holds in a traffic manager (R200): those of its stored form as far as it has arrived (R208). -/
def State.cells (s : State) (p : Pkt) : Nat := (Nat.max 128 (storedLen (s.pktVer p) p - s.toCome p) + 255) / 256

/-- Cells that a packet is tested with at admission (R205): 64 while its length is not known (R208). -/
def State.testCells (s : State) (p : Pkt) : Nat := if s.unmeasured p then 64 else s.cells p

/-! ### Gates of a port -/

/-- Time from t until the gate of class tc closes at a port, a pending list included; none where it never does. -/
def State.gateOpenFor (s : State) (pn tc t : Nat) : Option Nat :=
  let g := s.gateOf pn
  let nx := (lookup? s.tm.gatePend pn).map fun p => (p.1.cyc, p.2, p.1.enable)
  if g.enable then openForWith g.cyc tc t nx
  else match nx with
    | some (n, sw, true) =>
      if t < sw then
        (match n.openFor tc sw with
         | none => none
         | some d => if bit (n.maskAt sw) tc then some (sw - t + d) else some (sw - t))
      else n.openFor tc t
    | _ => none

end Sys2Proof.Machine
end

