-- ==== Sys2Proof/Machine/Rates.lean ====
section
/-!
DEFINITION. Node shapers and policers (spec/08_rates_gates_census.md R230 to R239). Bucket counts are kept in units of
1/8,000,000 byte, in which a rate in kb/s adds exactly rate × ns.
-/

namespace Sys2Proof.Machine

/-- Bucket units per byte: 1 kb/s for 1 ns is 1/8,000,000 byte. -/
def unitsPerByte : Nat := 8000000

/-- Node key of a region. -/
def nodeKey (region node : Nat) : Nat := region * 2 ^ 17 + node

/-- Word i of an element of n words (word 0 first, most significant; R395). -/
def elemWord (n v i : Nat) : Nat := fld v (64 * (n - 1 - i)) 64

/-- The SHP_NODE element of a node (Table 08-1). -/
def State.shpNode (s : State) (region node : Nat) : Nat := s.cfg (Obj.SHP_NODE + region) node

def shpCir (v : Nat) : Nat := fld (elemWord 2 v 0) 0 32
def shpPir (v : Nat) : Nat := fld (elemWord 2 v 0) 32 32
def shpCbs (v : Nat) : Nat := fld (elemWord 2 v 1) 0 28
def shpPbs (v : Nat) : Nat := fld (elemWord 2 v 1) 28 28
def shpOverhead (v : Nat) : Nat := fld (elemWord 2 v 1) 56 6

/-- The range check of a SHP_NODE element (R231). -/
def shpOk (v : Nat) : Bool :=
  let rate := fun r => r == 0 || (8 ≤ r && r ≤ 1600000000)
  let size := fun r z => if r == 0 then z == 0 else (64 ≤ z && z ≤ 268435455)
  v < 2 ^ 128 && fld (elemWord 2 v 1) 62 2 == 0 && rate (shpCir v) && rate (shpPir v)
    && size (shpCir v) (shpCbs v) && size (shpPir v) (shpPbs v)

/-- A count filled at `rate` for `dt` ns up to `size` bytes (R232, R235). -/
def fillCount (x : Int) (rate size dt : Nat) : Int := min ((size * unitsPerByte : Nat) : Int) (x + ((rate * dt : Nat) : Int))

/-- The buckets of a node as they stand now (R232). -/
def State.nodeBucket (s : State) (region node : Nat) : Bucket :=
  let v := s.shpNode region node
  let full : Bucket := { c := ((shpCbs v * unitsPerByte : Nat) : Int), p := ((shpPbs v * unitsPerByte : Nat) : Int),
                         at_ := s.clock }
  let b := lookupD s.tm.bucket (nodeKey region node) full
  { c := fillCount b.c (shpCir v) (shpCbs v) (s.clock - b.at_),
    p := fillCount b.p (shpPir v) (shpPbs v) (s.clock - b.at_), at_ := s.clock }

/-- The peak bucket allows service: no peak limit, or a count above 0 (R232). -/
def State.peakOk (s : State) (region node : Nat) : Bool :=
  shpPir (s.shpNode region node) == 0 || decide (0 < (s.nodeBucket region node).p)

/-- The committed bucket allows service: a rate, and a count above 0 (R232). -/
def State.commitOk (s : State) (region node : Nat) : Bool :=
  shpCir (s.shpNode region node) != 0 && decide (0 < (s.nodeBucket region node).c)

/-- The charge of a packet of n bytes on a node of its path; committed tokens only where the node was picked in the
committed tier (R232). -/
def State.chargeNode (s : State) (region node n : Nat) (committed : Bool) : State :=
  let b := s.nodeBucket region node
  let l : Int := (((n + shpOverhead (s.shpNode region node)) * unitsPerByte : Nat) : Int)
  let nb : Bucket := { c := if committed then b.c - l else b.c, p := b.p - l, at_ := s.clock }
  { s with tm := { s.tm with bucket := assoc s.tm.bucket (nodeKey region node) nb } }

/-- A write of a SHP_NODE element: a bucket whose rate was 0 starts full; another keeps its count, cut to the new size
at the next decision (R232, R233). -/
def State.writeShp (s : State) (region node v : Nat) : State :=
  let old := s.shpNode region node
  let b := s.nodeBucket region node
  let full := fun z => (((z : Nat) * unitsPerByte : Nat) : Int)
  let s1 := s.setCfg (Obj.SHP_NODE + region) node v
  let nb : Bucket :=
    { c := if shpCir old == 0 then full (shpCbs v) else min b.c (full (shpCbs v)),
      p := if shpPir old == 0 then full (shpPbs v) else min b.p (full (shpPbs v)), at_ := s.clock }
  { s1 with tm := { s1.tm with bucket := assoc s1.tm.bucket (nodeKey region node) nb } }

/-! ### Policers -/

/-- The POL_CONFIG element of a policer in a version (Table 08-2). -/
def Ver.polElem (v : Ver) (id : Nat) : Nat := v.cfg Obj.POL_CONFIG id

def polCir (e : Nat) : Nat := fld (elemWord 4 e 0) 0 32
def polPir (e : Nat) : Nat := fld (elemWord 4 e 0) 32 32
def polCbs (e : Nat) : Nat := fld (elemWord 4 e 1) 0 28
def polPbs (e : Nat) : Nat := fld (elemWord 4 e 1) 28 28
def polValid (e : Nat) : Bool := bit (elemWord 4 e 2) 0
def polAware (e : Nat) : Bool := bit (elemWord 4 e 2) 1
def polRedRemark (e : Nat) : Bool := bit (elemWord 4 e 2) 2
def polYelTc (e : Nat) : Option Nat := if bit (elemWord 4 e 2) 3 then some (fld (elemWord 4 e 2) 4 3) else none
def polRedTc (e : Nat) : Option Nat := if bit (elemWord 4 e 2) 7 then some (fld (elemWord 4 e 2) 8 3) else none
def polLenAdj (e : Nat) : Nat := fld (elemWord 4 e 2) 11 6
def polTwinAccept (e : Nat) : Bool := bit (elemWord 4 e 2) 17

/-- Reserved bits of an element are 0 (R11). -/
def polReservedOk (e : Nat) : Bool :=
  e < 2 ^ 256 && fld (elemWord 4 e 1) 56 8 == 0 && fld (elemWord 4 e 2) 18 46 == 0 && elemWord 4 e 3 == 0

/-- The commit check of a valid element (R234). -/
def polOk (e : Nat) : Bool :=
  !polValid e || (8 ≤ polCir e && polCir e ≤ polPir e && polPir e ≤ 1600000000
    && 64 ≤ polCbs e && 64 ≤ polPbs e)

/-- The buckets of a policer filled to now under an element (R235 steps 1 and 2). -/
def State.polBucket (s : State) (id e : Nat) : Bucket :=
  let full : Bucket := { c := ((polCbs e * unitsPerByte : Nat) : Int), p := ((polPbs e * unitsPerByte : Nat) : Int),
                         at_ := s.clock }
  let b := lookupD s.tm.pol id full
  { c := fillCount b.c (polCir e) (polCbs e) (s.clock - b.at_),
    p := fillCount b.p (polPir e) (polPbs e) (s.clock - b.at_), at_ := s.clock }

/-- The colour decision of R236: new colour and buckets, for a metered length in bucket units. -/
def polColor (e incoming : Nat) (b : Bucket) (len : Int) : Nat × Bucket :=
  if polAware e && incoming ≥ 2 then (2, b)
  else if b.p < len then (2, b)
  else if (polAware e && incoming == 1) || b.c < len then (1, { b with p := b.p - len })
  else (0, { b with p := b.p - len, c := b.c - len })

/-- POL_STATS of a policer after one metering: packets and metered bytes of a colour. -/
def State.polCount (s : State) (id color bytes : Nat) : State :=
  let up := fun (st : Store) k n => st.put k 0 (Nat.min u64Max (st.get k 0 + n))
  { s with tm := { s.tm with
      polStat := up (up s.tm.polStat (id * 8 + color) 1) (id * 8 + 3 + color) bytes } }

/-- One metering of a packet of n bytes with an incoming colour under an element (R235, R236): new colour and state. -/
def State.meter (s : State) (id e incoming n : Nat) : Nat × State :=
  let len := n + polLenAdj e
  let r := polColor e incoming (s.polBucket id e) ((len * unitsPerByte : Nat) : Int)
  let s1 := { s with tm := { s.tm with pol := assoc s.tm.pol id { r.2 with at_ := s.clock } } }
  (r.1, s1.polCount id r.1 len)

end Sys2Proof.Machine
end

