-- ==== Sys2Proof/Machine/Tm.lean ====
section
/-!
DEFINITION. The traffic managers: tree, admission, placement, candidates and the scheduling decision
(spec/07_buffering_scheduling.md R200 to R228, spec/09_weave.md R272).
-/

namespace Sys2Proof.Machine

/-! ### The tree (R214, R215) -/

/-- Number that stands for port node p among the node numbers. -/
def portNum (p : Nat) : Nat := 131040 + p

/-- Node number of the leaf of queue q. -/
def leafNode (q : Nat) : Nat := 20736 + q

/-- The node word of a node in a region under the current epoch: scheduling is unstamped work (R225). -/
def State.nodeWord (s : State) (region node : Nat) : Nat := s.curVer.cfg (Obj.TM_TOPOLOGY + region) node

def tnValid (w : Nat) : Bool := bit w 0
def tnPrio (w : Nat) : Nat := fld w 18 3
def tnTc (w : Nat) : Nat := fld w 21 3
def tnAdm (w : Nat) : Nat := fld w 24 6
def tnFoSet (w : Nat) : Bool := bit w 30
def tnFoQueue (w : Nat) : Nat := fld w 32 16

/-- The parent a node word names: a port node's number or a node's (Table 07-3). -/
def tnParent (w : Nat) : Nat :=
  match fld w 1 3 with
  | 0 => portNum (fld w 4 14)
  | 1 => fld w 4 14
  | 2 => 256 + fld w 4 14
  | _ => 4352 + fld w 4 14

/-- From a node up to its port: the nodes passed and the port node; none where a node is not valid. -/
def chainOf (word : Nat → Nat) : Nat → Nat → Option (List Nat × Nat)
  | 0, _ => none
  | fuel + 1, n =>
    let w := word n
    if !tnValid w then none
    else if tnParent w ≥ 131040 then some ([n], tnParent w - 131040)
    else (chainOf word fuel (tnParent w)).map fun r => (n :: r.1, r.2)

/-- Chain of queue q of a region under the current epoch. -/
def State.leafChain (s : State) (region q : Nat) : Option (List Nat × Nat) :=
  chainOf (s.nodeWord region) 4 (leafNode q)

/-- Queue numbers that can be valid leaves in a version: those of the default tree and those written. -/
def leafQueues (v : Ver) (region : Nat) : List Nat :=
  let o := Obj.TM_TOPOLOGY + region
  List.range 192 ++
    ((v.objs.filter fun p => okey o (leafNode 192) ≤ p.1 && p.1 ≤ okey o 86271).map fun p => p.1 - okey o 20736)

/-- Valid leaves of a region in a version. -/
def validLeaves (v : Ver) (region : Nat) : List Nat :=
  (leafQueues v region).filter fun q => tnValid (v.cfg (Obj.TM_TOPOLOGY + region) (leafNode q))

/-! ### Admission profiles and buffer room (R204, R205) -/

/-- The admission profile of a queue. -/
def State.profileOf (s : State) (region q : Nat) : Nat :=
  s.curVer.cfg (Obj.TM_ADM_PROFILE + tnAdm (s.nodeWord region (leafNode q)))

def admMin (p : Nat) : Nat := fld p 0 20
def admMax (p : Nat) : Nat := fld p 20 24
def admAlpha (p : Nat) (green : Bool) : Nat := if green then fld p 44 4 else fld p 48 4

/-- M: cells reserved to every valid leaf of a region, in a version. -/
def minReserved (v : Ver) (region : Nat) : Nat :=
  sumBy (fun q => admMin (v.cfg (Obj.TM_ADM_PROFILE + tnAdm (v.cfg (Obj.TM_TOPOLOGY + region) (leafNode q)))))
    (validLeaves v region)

/-- Front buffer cells of a region (R200). -/
def frontCells : Nat := 32768

/-- Carve-out cells of a region (R200). -/
def State.carveCells (s : State) (region : Nat) : Nat := s.cfg (Obj.TM_HBM_BUF_MIB + region) * 4096

/-- A packet is in an egress queue. -/
def Pkt.queued (p : Pkt) : Bool := p.loc == .front || p.loc == .spill || p.loc == .carve

/-- A packet has been placed in the carve-out (R202). -/
def Pkt.placedOut (p : Pkt) : Bool := p.loc == .spill || p.loc == .carve

/-- Packets of a queue, head first. -/
def State.queue (s : State) (eqid : Nat) : List Pkt := s.pkts.filter fun p => p.queued && p.eqid == eqid

/-- Depth of a queue in cells. -/
def State.depth (s : State) (eqid : Nat) : Nat := sumBy s.cells (s.queue eqid)

/-- A packet holds cells of a region's front buffer: its queue's, a bridge wait's, or a wait for its length or for the write
path of the carve-out (R203, R207, R240). -/
def Pkt.inFront (p : Pkt) (region : Nat) : Bool :=
  p.region == region && (p.loc == .front || p.loc == .spill || p.loc == .bridge || p.loc == .meter)

def State.frontUsed (s : State) (region : Nat) : Nat := sumBy s.cells (s.pkts.filter fun p => p.inFront region)

/-- Carve-out cells in use (`TM_HBM_USED`). -/
def State.carveUsed (s : State) (region : Nat) : Nat :=
  sumBy s.cells (s.pkts.filter fun p => p.loc == .carve && p.eqid / 65536 == region)

/-- Carve-out cells in use or placed there and not yet written. -/
def State.carveHeld (s : State) (region : Nat) : Nat :=
  sumBy s.cells (s.pkts.filter fun p => p.placedOut && p.eqid / 65536 == region)

/-- EQIDs of the queues of a region that hold packets, each once. -/
def State.busyQueues (s : State) (region : Nat) : List Nat :=
  ((s.pkts.filter fun p => p.queued && p.eqid / 65536 == region).map fun p => p.eqid).eraseDups

/-- F of R205 (`TM_SHARED_FREE`). -/
def State.sharedFree (s : State) (region : Nat) : Int :=
  let pool : Int := ((frontCells + s.carveCells region : Nat) : Int) - (minReserved s.curVer region : Int)
  let used := sumBy (fun q => s.depth q - admMin (s.profileOf region (q % 65536))) (s.busyQueues region)
  let br := sumBy s.cells (s.pkts.filter fun p => p.loc == .bridge && p.region == region)
  pool - ((used + br : Nat) : Int)

/-! ### Census deltas (R249) -/

def CensQ.zero : CensQ :=
  { maxSojourn := 0, dropAdmit := 0, dropQueued := 0, overdue := 0, nowSojourn := 0, nowAdmit := 0, nowQueued := 0 }

def State.censOf (s : State) (eqid : Nat) : CensQ := lookupD s.tm.cens eqid CensQ.zero

def State.setCens (s : State) (eqid : Nat) (c : CensQ) : State :=
  { s with tm := { s.tm with cens := assoc s.tm.cens eqid c } }

/-- A packet leaves its queue: its sojourn counts toward the queue's next record. -/
def State.noteLeave (s : State) (p : Pkt) : State :=
  let c := s.censOf p.eqid
  let t := s.clock - p.enqAt
  s.setCens p.eqid { c with maxSojourn := Nat.max c.maxSojourn t, nowSojourn := Nat.max c.nowSojourn t }

/-- A drop at admission or at the bridge wait, counted in a region (R228). -/
def State.dropAdmit (s : State) (p : Pkt) (ctr region : Nat) : State :=
  let c := s.censOf p.eqid
  ((s.bump (ctr + region)).setCens p.eqid { c with dropAdmit := c.dropAdmit + 1, nowAdmit := c.nowAdmit + 1 }).dropPkt p.id

/-- A drop of a queued packet, counted in its queue's region (R228). -/
def State.dropQueued (s : State) (p : Pkt) (ctr : Nat) : State :=
  let s1 := (s.bump (ctr + p.eqid / 65536)).noteLeave p
  let c := s1.censOf p.eqid
  (s1.setCens p.eqid { c with dropQueued := c.dropQueued + 1, nowQueued := c.nowQueued + 1 }).dropPkt p.id

/-! ### Failover of queues (R227) -/

/-- The queue that stands for EQID q while its region is fenced: its failover target in the survivor. -/
def State.effQueue (s : State) (v : Ver) (eqid : Nat) : Nat :=
  let r := eqid / 65536
  if s.mode.fenced == some r then
    let w := v.cfg (Obj.TM_TOPOLOGY + r) (leafNode (eqid % 65536))
    (1 - r) * 65536 + (if tnFoSet w then tnFoQueue w else eqid % 65536)
  else eqid

/-! ### Admission (R202, R205) -/

/-- The port at the root of a queue's chain. -/
def State.queuePort (s : State) (eqid : Nat) : Option Nat := (s.leafChain (eqid / 65536) (eqid % 65536)).map fun c => c.2

/-- The packet may be placed in the front buffer (R202). -/
def State.goesFront (s : State) (p : Pkt) (c : Nat) : Bool :=
  let r := p.eqid / 65536
  !((s.queue p.eqid).any Pkt.placedOut)
    && s.depth p.eqid + c ≤ s.cfg Obj.TM_FRONT_Q_CELLS
    && s.frontUsed r + c + s.cfg Obj.TM_FRONT_KEEP_CELLS ≤ frontCells

/-- A store has free cells for a packet (R202, R203): the front buffer; or the carve-out, where a packet whose write waits
needs cells of the front buffer too. -/
def State.storeFits (s : State) (p : Pkt) (c : Nat) (saturated : Bool) : Bool :=
  let r := p.eqid / 65536
  s.goesFront p c
    || (s.carveHeld r + c ≤ s.carveCells r && (!saturated || s.frontUsed r + c ≤ frontCells))

/-- The first test of R205 that a packet of c cells fails, as the counter it moves; `saturated`: so is the write path of the
carve-out (R203). -/
def State.admitFails (s : State) (p : Pkt) (c : Nat) (saturated : Bool) : Option Nat :=
  let r := p.eqid / 65536
  let q := p.eqid % 65536
  let prof := s.profileOf r q
  let d := s.depth p.eqid + c
  let green := mdColor p.md == 0 || p.kind == .relay
  match s.leafChain r q with
  | none => some Obj.TM_DROP_UNATTACHED
  | some (_, port) =>
    if !s.portUp port then some Obj.TM_DROP_PORT_DOWN
    else if d > admMax prof then some Obj.TM_DROP_QUEUE_MAX
    else if d > admMin prof && (128 * d : Int) > 2 ^ admAlpha prof green * s.sharedFree r then
      some Obj.TM_DROP_THRESHOLD
    else if s.storeFits p c saturated then none
    else some Obj.TM_DROP_BUFFER_FULL

/-- The function whose receive leaf a queue of a port node is, for a packet that names only the queue: the first one with it
(log entry 12). -/
def State.leafFn (s : State) (v : Ver) (pn eqid : Nat) : Option Nat :=
  let sub := pn - 24
  let lo := okey (Obj.FN_RX_QUEUE + sub) 0
  (v.objs.filter fun p => lo ≤ p.1 && p.1 < lo + 2 ^ 32 && p.2 == eqid % 65536).findSome? fun p =>
    match fidAt sub (p.1 - lo) with
    | some f => if s.fnRegion v f == eqid / 65536 then some f else none
    | none => none

/-- Function that a packet for port node pn is for: the one its forward decision names, or the one whose leaf its queue is. -/
def State.fnAt (s : State) (p : Pkt) (pn : Nat) : Option Nat :=
  if pn < 24 then none
  else if p.kind == .data && mdFwdKind p.md == 3 then some p.dest else s.leafFn (s.pktVer p) pn p.eqid

/-- Function that a packet with an egress queue is for. -/
def State.queueFn (s : State) (p : Pkt) : Option Nat :=
  match s.queuePort p.eqid with
  | some pn => s.fnAt p pn
  | none => none

/-- A packet for a function is dropped while the function or its link cannot take it: the counter it moves (R289, R314, R316,
R347). -/
def State.fnRefuses (s : State) (f : Nat) : Option Nat :=
  if (s.fn f).reset == 2 then some (Obj.HST_DROP_FN_RESET + fnSub f)
  else if coreFid f then none
  else if !(s.linkUp (s.linkOf f)) && s.linkState (s.linkOf f) != 7 then some (Obj.HST_DROP_LINK_DOWN + fidPort f)
  else if s.frozen (fidPort f) then some (Obj.HST_DROP_FROZEN + fidPort f)
  else if !(s.fn f).bme then some (Obj.HST_DROP_BME_OFF + fidPort f)
  else none

/-- A packet for a function that is dropped at admission: the counter it moves. -/
def State.hostRefuses (s : State) (p : Pkt) : Option Nat := (s.queueFn p).bind s.fnRefuses

/-- A port node's packets wait in a region's queues. -/
def State.portHas (s : State) (region pn : Nat) : Bool :=
  (s.busyQueues region).any fun q => s.queuePort q == some pn

/-- Old queues that have run empty are done: their port has begun on the new region's for good (R24). -/
def State.endDrains (s : State) : State :=
  { s with tm := { s.tm with drainOld := s.tm.drainOld.filter fun x => s.portHas x.2 x.1 } }

/-- Packets placed in the carve-out are written there (R203). -/
def State.writeOut (s : State) (region : Nat) : State :=
  { s with pkts := s.pkts.map fun p => if p.loc == .spill && p.region == region then { p with loc := .carve } else p }

/-- Where an admitted packet of c cells is placed (R202, R203). -/
def State.placeIn (s : State) (p : Pkt) (c : Nat) (saturated : Bool) : Loc :=
  if s.goesFront p c then .front else if saturated then .spill else .carve

/-- A packet enters its queue (R202, R224). -/
def State.enqueue (s : State) (p : Pkt) (loc : Loc) : State :=
  let r := p.eqid / 65536
  let ready := if p.lenKnown then s.clock + 13 else Nat.max (s.clock + 13) (p.rxEnd + 18)
  let s1 := (s.endDrains.bump (Obj.TM_ENQUEUED + r)).requeue { p with
    region := r, loc := loc, enqAt := s.clock, readyAt := ready }
  if loc == .front then s1 else s1.bump (Obj.TM_SPILLED + r)

/-- Admission of a packet at the traffic manager of its queue's region, at this instant (R205, R224). -/
def State.admitPkt (s0 : State) (p : Pkt) (saturated : Bool) : State :=
  let r := p.eqid / 65536
  let s := if saturated then s0 else s0.writeOut r
  let c := s.testCells p
  match s.hostRefuses p, s.admitFails p c saturated with
  | some ctr, _ => (s.bump ctr).dropPkt p.id
  | none, some ctr => s.dropAdmit p ctr r
  | none, none => s.enqueue p (s.placeIn p c saturated)

/-- Arrival of a packet at the traffic manager: to its own region's admission, or to the bridge wait, which needs a free
front cell (R207). -/
def State.arriveTm (s : State) (p : Pkt) (saturated : Bool) : State :=
  if p.eqid / 65536 == p.region then s.admitPkt p saturated
  else if s.frontUsed p.region + s.testCells p ≤ frontCells then s.requeue { p with loc := .bridge }
  else s.dropAdmit p Obj.TM_DROP_BUFFER_FULL p.region

/-! ### Who may be served (R210 to R212, R218, R224, R244, R272) -/

/-- Region whose queues PRT transmits from for a port (R24, R210). -/
def State.servedRegion (s : State) (pn : Nat) : Nat :=
  let v := s.curVer
  let bound := if pn < 16 then s.netRegion v pn else s.wvRegion v (pn - 16)
  match lookup? s.tm.drainOld pn with
  | some r => if s.mode.fenced != some r && s.portHas r pn then r else bound
  | none => bound

/-- Bytes in the receive staging of port node 24, 25 or 26. -/
def State.stagingUsed (s : State) (pn : Nat) : Nat :=
  sumBy Pkt.len (s.pkts.filter fun p => p.loc == .staged &&
    (if pn == 26 then 0x800 ≤ p.dest && p.dest ≤ 0x8FF
     else !(0x800 ≤ p.dest && p.dest ≤ 0x8FF) && p.dest / 8192 == pn - 24))

/-- Units of 5 ps in a nanosecond (`Tm.busy`). -/
def wireUnits : Nat := 200

/-- The port node may send from a region now (R210, R214, R290): its wire is free within this nanosecond. -/
def State.portReady (s : State) (region pn : Nat) : Bool :=
  if pn < 24 then
    s.portUp pn && s.servedRegion pn == region && lookupD s.tm.busy (region * 32 + pn) 0 < (s.clock + 1) * wireUnits
  else if pn < 26 then s.stagingUsed pn + 16384 ≤ 2 * 2 ^ 20
  else s.stagingUsed pn + 16384 ≤ 2 ^ 20

/-- A port honours PAUSE: `TM_PAUSE_HONOUR` is 1 and no class has PFC (R213). -/
def State.honoursPause (s : State) (pn : Nat) : Bool :=
  s.cfg (Obj.TM_PAUSE_HONOUR + pn) == 1 && s.cfg (Obj.TM_PFC_HONOUR + pn) == 0

/-- A traffic class is paused at a network port, by a pause that the port honours now (R212, R213; DEDUCED, log entry 70). -/
def State.pausedAt (s : State) (pn tc : Nat) : Bool :=
  pn < 16 && ((bit (s.cfg (Obj.TM_PFC_HONOUR + pn)) tc && s.clock < lookupD s.tm.pause (pn * 16 + tc) 0)
    || (s.honoursPause pn && s.clock < lookupD s.tm.pause (pn * 16 + 8) 0))

/-- The calendar as a repeating pattern of Weave classes (R271). -/
def Cal.cyc (c : Cal) : Cyc :=
  { base := 0, cycle := c.cycle, segs := c.wins.map fun w => (fld w 8 20, fld w 0 4) }

/-- The Weave class of a traffic class (`WV_TC_CLASS`). -/
def Cal.classOf (c : Cal) (tc : Nat) : Nat := fld c.tcClass (2 * tc) 2

/-- Time from t for which a Weave class stays admitted, a pending calendar included (R272, R274). -/
def State.calOpenFor (s : State) (cls t : Nat) : Option Nat :=
  openForWith s.wv.cal.cyc cls t (s.wv.calPend.map fun p => (p.1.cyc, p.2, true))

/-- n bytes of gate length fit into an open time at a rate in Gb/s. -/
def fitsIn (n rate : Nat) : Option Nat → Bool
  | none => true
  | some d => decide (n * 8 ≤ d * rate)

/-- A packet of n bytes of class tc fits the gate and the calendar of a port if it is dequeued now (R244, R272). -/
def State.fits (s : State) (pn tc n : Nat) (relay : Bool) : Bool :=
  let w := s.now + s.wireLead pn relay
  if pn ≥ 24 then true
  else fitsIn (s.gateLen pn n) (s.portRate pn) (s.gateOpenFor pn tc w)
    && (pn < 16 || fitsIn (s.gateLen pn n) 200 (s.calOpenFor (s.wv.cal.classOf tc) w))

/-- The longest window of a class at a port, as R246 and R272 take it. -/
def State.longestFor (s : State) (pn tc : Nat) : Option Nat :=
  let g := s.gateOf pn
  if pn < 16 then (if g.enable then g.cyc.longest tc else none)
  else if g.enable then longestBoth g.cyc tc s.wv.cal.cyc (s.wv.cal.classOf tc)
  else s.wv.cal.cyc.longest (s.wv.cal.classOf tc)

/-- A head packet is longer than every window of its class (R246). -/
def State.oversize (s : State) (pn tc n : Nat) : Bool :=
  pn < 24 && !fitsIn (s.gateLen pn n) (s.portRate pn) (s.longestFor pn tc)

/-- The largest frame the arrival port of a packet accepts (R224). -/
def State.arrivalMax (s : State) (p : Pkt) : Nat :=
  if p.srcKind == 0 then s.cfg (Obj.NET_RX_MAX_FRAME + p.srcId) else 16383

/-- A packet may be passed on before its frame has been wholly received (R224, R277), the decision itself apart. -/
def State.cutThroughOk (s : State) (pn tc : Nat) (p : Pkt) : Bool :=
  pn < 24 && p.srcKind ≤ 1 && mdGet p.md 17 2 == 0 && !bit p.md.toNat 427
    && (s.queue p.eqid).length == 1
    && s.portRate pn ≤ (if p.srcKind == 0 then s.netRate p.srcId else 200)
    && s.fits pn tc (s.arrivalMax p) (p.kind == .relay)

/-- A leaf that may be served: its queue, its nodes from the port down to the leaf, its head packet, and whether that
would be cut through. -/
structure Cand where
  eqid : Nat
  path : List Nat
  head : Pkt
  cut : Bool

/-- A function's receive packets wait in its leaf: a NET_RX pair waits for a page (R339), or a write waits for the
dirty log (R351). -/
def State.rxWaits (s : State) (f : Nat) : Bool :=
  (s.fn f).stalled || (s.qpsOf f).any fun q => q.2.kind == 2 && q.2.page.isSome

/-- This device is missed or diverged (EPOCH_AT_STATE 5 or 6, R86). -/
def State.outOfStep (s : State) : Bool := s.ep.atState == 5 || s.ep.atState == 6

/-- The head packet of a leaf of class tc is not blocked at a port node: not by a pause, a fetch or what its function or link
waits for (R218). -/
def State.unblocked (s : State) (pn tc : Nat) (p : Pkt) : Bool :=
  p.loc == .front && !s.pausedAt pn tc && !((s.fnAt p pn).any s.rxWaits) && !(16 ≤ pn && pn < 24 && s.outOfStep)

/-- The head packet may go out now: complete and within its gate, or cut through (R224, R244). -/
def State.mayLeave (s : State) (pn tc : Nat) (p : Pkt) : Bool :=
  if s.clock < p.readyAt then s.cutThroughOk pn tc p else s.fits pn tc p.tmLen (p.kind == .relay)

/-- The leaf that a queue makes at a port node, where nothing but peak buckets keeps it from service (R218). -/
def State.openLeaf (s : State) (region pn eqid : Nat) : Option Cand :=
  match s.leafChain region (eqid % 65536), s.queue eqid with
  | some (nodes, port), p :: _ =>
    let tc := tnTc (s.nodeWord region (leafNode (eqid % 65536)))
    if port == pn && p.enqAt + 13 ≤ s.clock && s.unblocked pn tc p && s.mayLeave pn tc p
    then some { eqid := eqid, path := nodes.reverse, head := p, cut := s.clock < p.readyAt } else none
  | _, _ => none

/-- Leaves of a port node that only peak buckets may keep from service. -/
def State.openLeaves (s : State) (region pn : Nat) : List Cand :=
  (s.busyQueues region).filterMap fun q => s.openLeaf region pn q

/-- Leaves that the port node can reach: every node of their paths is a candidate at its parent. -/
def State.candidates (s : State) (region pn : Nat) : List Cand :=
  (s.openLeaves region pn).filter fun c => c.path.all fun n => s.peakOk region n

/-! ### The decision (R219, R221, R222) -/

/-- Deficit of a child in a tier: 0 committed, 1 excess. -/
def State.deficit (s : State) (region node tier : Nat) : Int := lookupD s.tm.deficit (nodeKey region node * 2 + tier) 0

def State.setDeficit (s : State) (region node tier : Nat) (d : Int) : State :=
  { s with tm := { s.tm with deficit := assoc s.tm.deficit (nodeKey region node * 2 + tier) d } }

/-- Quantum of a node: weight × TM_QUANTUM_UNIT (R219). -/
def State.quantum (s : State) (region node : Nat) : Nat :=
  s.cfg (Obj.TM_WEIGHT + region) node * s.cfg Obj.TM_QUANTUM_UNIT

/-- One turn of `pick_rr` after another, at most `fuel`: the child returned, with deficits topped up (R219). -/
def rrLoop (region tier : Nat) : Nat → List Nat → State → Option Nat × State
  | 0, l, s => (l.head?, s)
  | _, [], s => (none, s)
  | fuel + 1, c :: t, s =>
    if s.deficit region c tier ≤ 0 then
      rrLoop region tier fuel (t ++ [c]) (s.setDeficit region c tier (s.deficit region c tier + s.quantum region c))
    else (some c, s)

/-- Children in ascending number, from the pointer on. -/
def fromPointer (ptr : Nat) (l : List Nat) : List Nat :=
  (l.filter fun c => ptr ≤ c) ++ (l.filter fun c => c < ptr)

/-- Insertion of a number into an ascending list without repeats. -/
def insAsc (x : Nat) : List Nat → List Nat
  | [] => [x]
  | y :: t => if x < y then x :: y :: t else if x == y then y :: t else y :: insAsc x t

def sortAsc (l : List Nat) : List Nat := l.foldl (fun a x => insAsc x a) []

/-- Deficit-weighted round robin among the children of one strict level (R219). -/
def State.pickRr (s : State) (region parent tier lvl : Nat) (children : List Nat) : Option Nat × State :=
  let key := (nodeKey region parent * 2 + tier) * 8 + lvl
  let l := fromPointer (lookupD s.tm.pointer key 0) (sortAsc children)
  let turns := l.foldl (fun a c => Nat.max a ((-(s.deficit region c tier)).toNat / Nat.max 1 (s.quantum region c))) 0
  let r := rrLoop region tier ((turns + 2) * l.length) l s
  match r.1 with
  | some c => (some c, { r.2 with tm := { r.2.tm with pointer := assoc r.2.tm.pointer key c } })
  | none => r

/-- Strict level of a node at its parent. -/
def State.prioOf (s : State) (region node : Nat) : Nat := tnPrio (s.nodeWord region node)

/-- The children of a tier on its lowest strict level. -/
def State.lowestLevel (s : State) (region : Nat) (children : List Nat) : Nat × List Nat :=
  let lvl := minD 7 (children.map fun c => s.prioOf region c)
  (lvl, children.filter fun c => s.prioOf region c == lvl)

/-- The promoted candidate promoted earliest, the lower queue first among equals (R222). -/
def earliest (promo : List (Nat × Nat × Nat)) : List Cand → Option (Cand × Nat)
  | [] => none
  | c :: t =>
    match lookup? promo c.eqid, earliest promo t with
    | none, r => r
    | some p, none => some (c, p.1)
    | some p, some (b, tb) => if p.1 < tb || (p.1 == tb && c.eqid < b.eqid) then some (c, p.1) else some (b, tb)

/-- A step of the way down: the node picked and the tier it was picked in (0 committed, 1 excess, 2 overdue). -/
abbrev Pick := Nat × Nat

/-- The decision at a node and below it: R219's three tiers; a node picked in the overdue tier passes it down (R222). -/
def pickDown (region : Nat) : Nat → Nat → Bool → List Cand → List Pick → State → Option (Cand × List Pick) × State
  | 0, _, _, _, _, s => (none, s)
  | fuel + 1, parent, overdue, cands, acc, s =>
    let children := (cands.filterMap fun c => c.path.head?).eraseDups
    let com := if overdue then [] else children.filter fun c => s.commitOk region c
    let go := fun (s' : State) (child tier : Nat) =>
      let below := (cands.filter fun c => c.path.head? == some child).map fun c => { c with path := c.path.tail }
      match below with
      | [] => (none, s')
      | b :: _ =>
        if b.path.isEmpty then (some (b, acc ++ [(child, tier)]), s')
        else pickDown region fuel child (tier == 2) below (acc ++ [(child, tier)]) s'
    if !com.isEmpty then
      let l := s.lowestLevel region com
      match s.pickRr region parent 0 l.1 l.2 with
      | (some c, s1) => go s1 c 0
      | (none, s1) => (none, s1)
    else match earliest s.tm.promo cands with
      | some (c, _) => (match c.path.head? with | some ch => go s ch 2 | none => (none, s))
      | none =>
        let l := s.lowestLevel region children
        match s.pickRr region parent 1 l.1 l.2 with
        | (some c, s1) => go s1 c 1
        | (none, s1) => (none, s1)

/-- A node is a candidate at its parent: of one of these leaves it and every node down to the leaf have room (R218). -/
def State.isCand (s : State) (region node : Nat) (leaves : List Cand) : Bool :=
  leaves.any fun c => c.path.contains node && (c.path.dropWhile fun n => n != node).all fun n => s.peakOk region n

/-- Whether a node is a candidate of a tier at its parent, among the open leaves (R218). -/
def State.inTier (s : State) (region node tier : Nat) (leaves : List Cand) : Bool :=
  s.isCand region node leaves && (s.commitOk region node == (tier == 0))

/-- Charges and deficits after a packet of n bytes went through the picks (R219, R232). -/
def State.settle (s : State) (region pn n : Nat) (picks : List Pick) : State :=
  let s1 := picks.foldl (fun a k => a.chargeNode region k.1 n (k.2 == 0)) s
  let leaves := s1.openLeaves region pn
  picks.foldl (fun a k =>
    if k.2 == 2 then a
    else if a.inTier region k.1 k.2 leaves then a.setDeficit region k.1 k.2 (a.deficit region k.1 k.2 - n)
    else a.setDeficit region k.1 k.2 0) s1

/-- Service of a leaf: its waiting time restarts; a promoted leaf that has sent its quantum is demoted (R222). -/
def State.served (s : State) (region eqid n : Nat) : State :=
  let wait := if (s.queue eqid).isEmpty then dissoc s.tm.wait eqid else assoc s.tm.wait eqid s.clock
  let promo := match lookup? s.tm.promo eqid with
    | some (t, sent) =>
      if sent + n ≥ s.quantum region (leafNode (eqid % 65536)) then dissoc s.tm.promo eqid
      else assoc s.tm.promo eqid (t, sent + n)
    | none => s.tm.promo
  { s with tm := { s.tm with wait := wait, promo := promo } }

/-- The head of a queue is dropped where it is too long for every window of its class (R246), and then the one behind it: at
most `fuel` of them. -/
def State.dropTooLong (region pn eqid : Nat) : Nat → State → State
  | 0, s => s
  | fuel + 1, s =>
    match s.leafChain region (eqid % 65536), s.queue eqid with
    | some (_, port), p :: _ =>
      if port == pn && s.oversize pn (tnTc (s.nodeWord region (leafNode (eqid % 65536)))) p.tmLen
      then State.dropTooLong region pn eqid fuel (s.dropQueued p Obj.TM_DROP_GATE_OVERSIZE) else s
    | _, _ => s

/-- Head packets of a port node too long for every window of their class are dropped at once (R246). -/
def State.dropOversize (s : State) (region pn : Nat) : State :=
  (s.busyQueues region).foldl (fun a q => State.dropTooLong region pn q (a.queue q).length a) s

/-- The device clock since which a leaf that is not waiting yet waits, where it waits now or will when its head is complete
(R221, R224): it is a candidate at its parent. -/
def State.waitsFrom (s : State) (region pn eqid : Nat) : Option Nat :=
  match s.leafChain region (eqid % 65536), s.queue eqid with
  | some (_, port), p :: _ =>
    let tc := tnTc (s.nodeWord region (leafNode (eqid % 65536)))
    if port != pn || !s.unblocked pn tc p || !s.peakOk region (leafNode (eqid % 65536)) then none
    else if s.clock < p.readyAt && s.cutThroughOk pn tc p then some (Nat.max s.clock (p.enqAt + 13))
    else if s.fits pn tc p.tmLen (p.kind == .relay) then some (Nat.max s.clock p.readyAt)
    else none
  | _, _ => none

/-- Waiting leaves of a port node are those that are candidates at their parents; the others do not wait (R221, log
entry 70). -/
def State.refreshWait (s : State) (region pn : Nat) : State :=
  (s.busyQueues region).foldl (fun a q =>
    if a.queuePort q != some pn then a
    else match a.waitsFrom region pn q, lookup? a.tm.wait q with
      | some t, w => { a with tm := { a.tm with wait := assoc a.tm.wait q (if a.clock < t then t else w.getD t) } }
      | none, _ => { a with tm := { a.tm with wait := dissoc a.tm.wait q } }) s

/-- Queues and nodes of a port node have changed: heads too long for their windows go, and waiting times begin or end. -/
def State.retest (s : State) (region pn : Nat) : State := (s.dropOversize region pn).refreshWait region pn

/-- The same in both regions. -/
def State.retestPort (s : State) (pn : Nat) : State := (s.retest 0 pn).retest 1 pn

/-- The same at the port node of a queue. -/
def State.retestQueue (s : State) (eqid : Nat) : State :=
  match s.queuePort eqid with
  | some pn => s.retest (eqid / 65536) pn
  | none => s

/-- One scheduling decision at a port node: the packet dequeued (taken out of its queue, its location left to the
caller), the picks, and whether it is cut through. -/
def State.decide_ (s0 : State) (region pn : Nat) : Option (Pkt × List Pick × Bool) × State :=
  let s := s0.dropOversize region pn
  if !s.portReady region pn then (none, s)
  else match pickDown region 5 (portNum pn) false (s.candidates region pn) [] s with
    | (some (c, picks), s1) => (some (c.head, picks, c.cut), s1)
    | (none, s1) => (none, s1)

/-- Discards every queued packet under a port node in both regions (R211). -/
def State.discardPort (s : State) (pn : Nat) : State :=
  (s.pkts.filter fun p => p.queued && s.queuePort p.eqid == some pn).foldl
    (fun a p => a.dropQueued p Obj.TM_DROP_PORT_DOWN) s

end Sys2Proof.Machine
end

