-- ==== Sys2Proof/Machine/WvCore.lean ====
section
/-!
DEFINITION. Weave frames, messages, the control and shuttle queues, and the calendar's clock (spec/09_weave.md R258 to R263,
R269 to R273).
-/

namespace Sys2Proof.Machine

/-- An I64 as the dictionary holds it (Table 13-7). -/
def i64 (x : Int) : Nat := (x % 2 ^ 64).toNat

/-- The device's Weave address (R264). -/
def State.wvAddr (s : State) : Nat := s.cfg Obj.WV_ADDR_EFFECTIVE

/-- State of link l: 0 DOWN, 1 PROBING, 2 UP, 3 QUARANTINED, 4 MISMATCHED. -/
def State.wvState (s : State) (l : Nat) : Nat := s.cfg (Obj.WV_LINK_STATE + l)

/-- Links that are UP. -/
def State.upLinks (s : State) : List Nat := (List.range 8).filter fun l => s.wvState l == 2

def WvLink.fresh : WvLink :=
  { locked := false, sentAt := none, helloAt := none, digestBad := none, echoTx := 0, echoRx := 0, offer := none, offset := 0 }

def State.wvLink (s : State) (l : Nat) : WvLink := lookupD s.wv.link l WvLink.fresh

def State.setWvLink (s : State) (l : Nat) (x : WvLink) : State := { s with wv := { s.wv with link := assoc s.wv.link l x } }

/-! ### Fields of frames: words are big-endian, byte 0 holds bits [63:56] (R8) -/

/-- Word i of a frame. -/
def beWord (f : Bytes) (i : Nat) : Nat := beNat (padTo 8 (slice f (8 * i) 8))
def whVer (f : Bytes) : Nat := fld (beWord f 0) 60 4
def whType (f : Bytes) : Nat := fld (beWord f 0) 58 2
def whClass (f : Bytes) : Nat := fld (beWord f 0) 56 2
def whDst (f : Bytes) : Nat := fld (beWord f 0) 46 10
def whSrc (f : Bytes) : Nat := fld (beWord f 0) 36 10
def whHops (f : Bytes) : Nat := fld (beWord f 0) 32 4
def whCycle (f : Bytes) : Nat := fld (beWord f 0) 6 18
def whWin (f : Bytes) : Nat := fld (beWord f 0) 0 6
def whHash (f : Bytes) : Nat := fld (beWord f 1) 48 16
def whTc (f : Bytes) : Nat := fld (beWord f 1) 40 3
def whHcrc (f : Bytes) : Nat := fld (beWord f 1) 0 8
/-- What follows the header. -/
def wvBody (f : Bytes) : Bytes := f.drop 16

/-- One byte of the CRC-8 of Table 09-1. -/
def crc8Byte (c : Nat) (b : Byte) : Nat :=
  let bitStep := fun x => if bit x 7 then ((x * 2) % 256) ^^^ 0x07 else (x * 2) % 256
  let x := c ^^^ b.toNat
  bitStep (bitStep (bitStep (bitStep (bitStep (bitStep (bitStep (bitStep x)))))))

def crc8 (bs : Bytes) : Nat := bs.foldl crc8Byte 0

/-! ### The calendar's clock (R271) -/

/-- Cycle number at an instant of the time base. -/
def Cal.cycleAt (c : Cal) (t : Nat) : Nat := t / Nat.max 1 c.cycle

/-- Window index for a phase in the cycle. -/
def winAt : List Nat → Nat → Nat → Nat
  | [], _, i => i
  | w :: t, ph, i => if ph < fld w 8 20 then i else winAt t (ph - fld w 8 20) (i + 1)

/-- Window at an instant. -/
def Cal.winNow (c : Cal) (t : Nat) : Nat := winAt c.wins (t % Nat.max 1 c.cycle) 0 % 64

/-- A window admits a Weave class. -/
def Cal.admits (c : Cal) (win cls : Nat) : Bool := bit (c.wins.getD win 0) cls

/-- Dequeue to wire of a frame of the link layer's queues: a relayed one has crossed a link before (R273). -/
def frameLead (f : Bytes) : Nat := if whHops f > 1 then 110 else 168

/-- The header written anew for a transmission that starts `lead` ns from now: cycle, window and check (R260). -/
def State.stampFrame (s : State) (lead : Nat) (f : Bytes) : Bytes :=
  let t := s.now + lead
  let w0 := setFld (setFld (beWord f 0) 6 18 (s.wv.cal.cycleAt t)) 0 6 (s.wv.cal.winNow t)
  let w1 := setFld (beWord f 1) 0 8 0
  let hd := toBe 8 w0 ++ (toBe 8 w1).take 7
  let g := hd ++ [BitVec.ofNat 8 (crc8 hd)] ++ wvBody f
  g ++ List.replicate (60 - g.length) 0

/-- The FCS of a frame: CRC-32 over header and body, in the byte order of IEEE 802.3 (R258; DEDUCED, log entry 70). -/
def fcs (bs : Bytes) : Bytes := toLe 4 (crc32 0 bs)

/-- A received frame without its FCS. -/
def unFcs (f : Bytes) : Bytes := f.take (f.length - 4)

/-- A received frame ends with its FCS. -/
def fcsGood (f : Bytes) : Bool := 4 ≤ f.length && f.drop (f.length - 4) == fcs (unFcs f)

/-- A stamped frame begins on a link, with its FCS (R258). -/
def State.emitWeave (s : State) (l : Nat) (f : Bytes) : State := (s.emit (.weave l (f ++ fcs f))).bump (Obj.WV_TX_FRAMES + l)

/-- A frame of this device before its transmission: header with hops 1, then the body (R259, R260). -/
def State.formFrame (s : State) (typ cls dst hash tc : Nat) (body : Bytes) : Bytes :=
  let w0 := 1 * 2 ^ 60 + typ * 2 ^ 58 + cls * 2 ^ 56 + dst * 2 ^ 46 + s.wvAddr * 2 ^ 36 + 1 * 2 ^ 32
    + (s.ep.current % 256) * 2 ^ 24
  toBe 8 w0 ++ toBe 8 (hash * 2 ^ 48 + tc * 2 ^ 40) ++ body

/-- The frame as a relay passes it on: one more hop (R260). -/
def relayFrame (f : Bytes) : Bytes := toBe 8 (setFld (beWord f 0) 32 4 (whHops f + 1)) ++ f.drop 8

/-! ### Messages (Table 09-3) -/

/-- Length that a type's PDU must have; none for types not listed. A LINK_STATE's depends on its count. -/
def msgLen (typ count : Nat) : Option Nat :=
  match typ with
  | 0x01 => some 64
  | 0x02 => some (24 + 8 * count)
  | 0x10 | 0x11 | 0x12 | 0x13 | 0x14 => some 24
  | 0x20 => some 72
  | _ => none

/-- WH_TYPE and class of a message type. -/
def msgWh (typ : Nat) : Nat × Nat :=
  match typ with
  | 0x01 => (3, 0)
  | 0x02 | 0x13 | 0x14 => (2, 0)
  | 0x20 => (1, 1)
  | _ => (1, 0)

/-- PDU with its first word (Table 09-2). -/
def pdu (typ seq : Nat) (rest : Bytes) : Bytes :=
  toBe 8 (typ * 2 ^ 56 + (8 + rest.length) * 2 ^ 32 + seq % 2 ^ 32) ++ rest

def msgType (p : Bytes) : Nat := fld (beWord p 0) 56 8
def msgSeqOf (p : Bytes) : Nat := fld (beWord p 0) 0 32

/-- The next MSG_SEQ of a type (R261). -/
def State.nextSeq (s : State) (typ : Nat) : Nat × State :=
  let n := (lookupD s.wv.msgSeq typ 0 + 1) % 2 ^ 32
  (n, { s with wv := { s.wv with msgSeq := assoc s.wv.msgSeq typ n } })

/-! ### Queues of the link layer (R263) -/

/-- A frame for a link's control queue; a CANCEL goes to its head. A relayed one comes with its arrival. -/
def State.pushCtl (s : State) (l : Nat) (at_ : Option Nat) (f : Bytes) (head : Bool) : State :=
  if (s.wv.ctlQ.filter fun x => x.link == l).length ≥ 64 then s.bump (Obj.WV_CTL_DROP + l)
  else { s with wv := { s.wv with ctlQ := if head then ⟨l, at_, f⟩ :: s.wv.ctlQ else s.wv.ctlQ ++ [⟨l, at_, f⟩] } }

/-- A frame for a link's shuttle queue. -/
def State.pushShuttle (s : State) (l : Nat) (at_ : Option Nat) (f : Bytes) : State :=
  if (s.wv.shuttleQ.filter fun x => x.link == l).length ≥ 1024 then s.bump (Obj.WV_SHUTTLE_DROP + l)
  else { s with wv := { s.wv with shuttleQ := s.wv.shuttleQ ++ [⟨l, at_, f⟩] } }

/-! ### Routing (Table 09-8, R269) -/

/-- Destination entry of an address. -/
def State.destOf (s : State) (a : Nat) : Nat := lookupD s.wv.dest a 0
def deValid (e : Nat) : Bool := bit e 0
def deCount (e : Nat) : Nat := fld e 1 2 + 1
def deHop (e i : Nat) : Nat := fld e (3 + 3 * i) 3
def deHops (e : Nat) : Nat := fld e 15 4

/-- Next hop of a frame with a hash. -/
def deNext (e hash : Nat) : Nat := deHop e ((hash * deCount e) / 65536)

/-- A message goes towards one device; without a route it goes nowhere. -/
def State.sendRouted (s : State) (typ seq dst : Nat) (rest : Bytes) : State :=
  let e := s.destOf dst
  if !deValid e then s
  else
    let c := (msgWh typ).2
    let f := s.formFrame 1 c dst 0 0 (pdu typ seq rest)
    if c == 1 then s.pushShuttle (deNext e 0) none f else s.pushCtl (deNext e 0) none f false

/-- A frame goes to the control queue of every UP link (R262). -/
def State.floodFrame (s : State) (f : Bytes) (head : Bool) : State := s.upLinks.foldl (fun a l => a.pushCtl l none f head) s

/-- A message of this device that is flooded. -/
def State.floodMsg (s : State) (typ seq : Nat) (rest : Bytes) : Bytes := s.formFrame 2 0 0 0 0 (pdu typ seq rest)

/-- A message is flooded on every UP link (R262). -/
def State.flood (s : State) (typ seq : Nat) (rest : Bytes) (head : Bool) : State := s.floodFrame (s.floodMsg typ seq rest) head

/-- Copies of a CANCEL whose time has come go to the head of every control queue (R281). -/
def State.sendAgain (s : State) : State :=
  let due := s.wv.again.filter fun x => x.1 ≤ s.clock
  due.foldl (fun a x => a.floodFrame x.2 true) { s with wv := { s.wv with again := s.wv.again.filter fun x => s.clock < x.1 } }

end Sys2Proof.Machine
end

