-- ==== Sys2Proof/Machine/Learn.lean ====
section
/-!
DEFINITION. Learning: suppression, learn records, learn rings and shuttle copies (spec/05_tables_learning.md R166 to R172).
-/

namespace Sys2Proof.Machine

/-- Per-table object o of table t (Table 05-9). -/
def tblObj (o t : Nat) : Nat := o + 256 * t

/-- The ring a table's records go to; none for 0xFF. -/
def State.learnRing (s : State) (t : Nat) : Option Nat :=
  let r := s.cfg (tblObj Obj.TBL_LEARN_RING t)
  if r == 0xFF then none else some r

/-- Region of a learn ring: that of its owner; none where it has no owner (R169). -/
def State.ringRegion (s : State) (ring : Nat) : Option Nat :=
  let f := s.cfg (Obj.LRN_RING_FID + ring)
  if f == 0xFFFF then none else some (s.fnRegion s.curVer f)

/-- The scanner's pass through a table (R165, R174): the one in progress when its period was changed runs to its end; passes of the
period in effect follow. Without a change they follow one another from device clock 0. -/
def agePass (changed : Option (Nat × Nat)) (period clock : Nat) : Option (Nat × Nat) :=
  match changed with
  | some (st, p) =>
    if clock < st + p then some (st, p)
    else if period == 0 then none
    else some (st + p + (clock - (st + p)) / period * period, period)
  | none => if period == 0 then none else some (clock / period * period, period)

/-- A table's ageing period is changed from `old` s: the pass in progress keeps it, and where none is, one may begin now. -/
def State.changePeriod (s : State) (table old : Nat) : State :=
  let now := (agePass (lookup? s.lrn.agePass table) (old * 1000000000) s.clock).getD (s.clock, 0)
  { s with lrn := { s.lrn with agePass := assoc s.lrn.agePass table now } }

/-- What a learn record says beside table, sequence and key (Table 05-6). -/
structure LrInfo where
  kind : Nat
  region : Nat
  epoch : Nat
  time : Nat
  srcKind : Nat
  srcId : Nat
  hops : Nat
  pass : Nat
  context : Nat

/-- A learn record (Table 05-6). -/
def State.learnRecord (s : State) (t : Nat) (area : Bytes) (i : LrInfo) (seq : Nat) : Bytes :=
  toLe 8 (i.kind + i.region * 2 ^ 4 + s.wvAddr * 2 ^ 6 + t * 2 ^ 16 + s.cfg (tblObj Obj.TBL_SHUTTLE_CHANNEL t) * 2 ^ 24
      + i.epoch % 2 ^ 32 * 2 ^ 32)
    ++ toLe 8 i.time
    ++ toLe 8 (i.srcKind + i.srcId * 2 ^ 3 + i.hops * 2 ^ 17 + i.pass * 2 ^ 21 + seq % 2 ^ 32 * 2 ^ 32)
    ++ toLe 8 (i.context % 2 ^ 64)
    ++ padTo 32 area

/-- Records written to a ring within the latest 1 ms (R169). -/
def State.ringWin (s : State) (ring : Nat) : List Nat :=
  (lookupD s.lrn.win ring []).filter fun t => s.clock < t + 1000000

/-- A record meets its ring: down, full, rate, or written (R169). Drops count in `region`. -/
def State.toRing (s : State) (ring region : Nat) (record : Bytes) : State × Bool :=
  let f := s.cfg (Obj.LRN_RING_FID + ring)
  match s.eventPair? f 1 ring with
  | none => (s.bump (Obj.LRN_DROP_RING_DOWN + region), false)
  | some (q, x) =>
    if f == 0xFFFF || !s.ringUp f then (s.bump (Obj.LRN_DROP_RING_DOWN + region), false)
    else if x.cqFull then (s.bump (Obj.LRN_DROP_RING_FULL + region), false)
    else
      let w := s.ringWin ring
      if s.cfg (Obj.LRN_RATE_MAX + ring) / 1000 < w.length + 1 then (s.bump (Obj.LRN_DROP_RATE + region), false)
      else
        let s1 := { s with lrn := { s.lrn with win := assoc s.lrn.win ring (w ++ [s.clock]) } }
        ((s1.publish f q x record).bump (Obj.LRN_RECORDS + region), true)

/-- A key enters a region's suppression filter for `LRN_SUPPRESS_MS` (R167). -/
def State.suppress (s : State) (region t key : Nat) : State :=
  let live := s.lrn.filter.filter fun e => s.clock < e.2.2.2 && !(e.1 == region && e.2.1 == t && e.2.2.1 == key)
  let mine := live.filter fun e => e.1 == region
  let full := mine.length ≥ 65536
  let live := if full then live.erase (mine.headD (0, 0, 0, 0)) else live
  let s1 := { s with lrn := { s.lrn with
    filter := live ++ [(region, t, key, s.clock + s.cfg Obj.LRN_SUPPRESS_MS * 1000000)] } }
  if full then s1.bump (Obj.LRN_SUPPRESS_DISPLACED + region) else s1

/-- The filter of a region holds the key unexpired. -/
def State.suppressed (s : State) (region t key : Nat) : Bool :=
  s.lrn.filter.any fun e => e.1 == region && e.2.1 == t && e.2.2.1 == key && s.clock < e.2.2.2

/-- Weave addresses a channel's copies go to. -/
def State.shuttlePeers (s : State) (ch : Nat) : List Nat :=
  let v := toBe 128 (s.cfg (Obj.LRN_SHUTTLE_PEERS + (ch - 1)))
  (List.range 1024).filter fun n => bit (v.getD (n / 8) 0).toNat (n % 8)

/-- Copies of a record go across the Weave, one SHUTTLE message per peer (R172, R283). -/
def State.shuttleOut (s : State) (t : Nat) (area : Bytes) (i : LrInfo) : State :=
  let ch := s.cfg (tblObj Obj.TBL_SHUTTLE_CHANNEL t)
  let want := bit (s.cfg (tblObj Obj.TBL_SHUTTLE_FLAGS t)) (i.kind - 1)
  if ch == 0 || !want then s
  else
    let n := (lookupD s.lrn.chSeq ch 0 + 1) % 2 ^ 32
    let s1 := { s with lrn := { s.lrn with chSeq := assoc s.lrn.chSeq ch n } }
    let record := s1.learnRecord t area i n
    if s1.outOfStep then s1
    else (s1.shuttlePeers ch).foldl (fun a d =>
      if d == a.wvAddr || !deValid (a.destOf d) then a
      else
        let q := a.nextSeq 0x20
        (q.2.sendRouted 0x20 q.1 d record).bump Obj.LRN_SHUTTLES_OUT) s1

/-- A record is produced: numbered for its ring and written there, or carried to the ring's region first (R168, R171). -/
def State.produce (s : State) (t key : Nat) (area : Bytes) (i : LrInfo) : State :=
  let s1 := match s.learnRing t with
    | none => s
    | some ring =>
      let n := (lookupD s.lrn.seq ring 0 + 1) % 2 ^ 32
      let s2 := { s with lrn := { s.lrn with seq := assoc s.lrn.seq ring n } }
      let record := s2.learnRecord t area i n
      match s2.ringRegion ring with
      | none => s2.bump (Obj.LRN_DROP_RING_DOWN + i.region)
      | some r =>
        if r == i.region then (s2.toRing ring r record).1
        else { s2 with lrn := { s2.lrn with bridge := s2.lrn.bridge ++ [(r, ring, t, key, record)] } }
  s1.shuttleOut t area i

/-- A learn candidate of a region (R166, R167). -/
def State.learn (s : State) (t key : Nat) (area : Bytes) (i : LrInfo) : State :=
  if s.suppressed i.region t key then s.bump (Obj.LRN_SUPPRESSED + i.region)
  else (s.suppress i.region t key).produce t key area i

/-- SHUTTLE_BRIDGE: the oldest record on the bridge to a region reaches it (R171). -/
def execShuttleBridge (dt region : Nat) (s : State) : Out :=
  cmd dt s (fun t => t.traffic && (t.lrn.bridge.any fun b => b.1 == region)) fun t =>
    match t.lrn.bridge.find? fun b => b.1 == region with
    | none => t
    | some b =>
      let t1 := { t with lrn := { t.lrn with bridge := t.lrn.bridge.erase b } }
      let (r, ring, tid, key, record) := b
      ((t1.suppress r tid key).toRing ring r record).1

/-- A copy received on a link, with the record of its SHUTTLE message (R172, R283). -/
def State.shuttleIn (s : State) (l hops : Nat) (record : Bytes) : State :=
  let w0 := setFld (leWord record 0) 5 1 1
  let w2 := setFld (leWord record 2) 17 4 hops
  let rec_ := toLe 8 w0 ++ slice record 8 8 ++ toLe 8 w2 ++ slice record 24 40
  let ch := fld w0 24 8
  let ring := s.cfg (Obj.LRN_CHANNEL_RING + (ch - 1))
  if ch == 0 || ring == 0xFF then s.bump Obj.LRN_SHUTTLE_DROP
  else
    let region := (s.ringRegion ring).getD (s.wvRegion s.curVer l)
    let r := s.toRing ring region rec_
    if r.2 then r.1.bump Obj.LRN_SHUTTLES_IN else r.1

end Sys2Proof.Machine
end

