-- ==== Sys2Proof/Machine/Parser.lean ====
section
/-!
DEFINITION. The parser of a pipeline: one run over a packet with the graph of one pipeline image
(spec/03_parsing.md R87 to R107). The run is a function of the packet's bytes; counters and the metadata that names
the packet's source are written by the pass that calls it (Machine/Pipeline.lean).
-/

namespace Sys2Proof.Machine

/-- Error codes of Table 03-7. -/
def errNodeLimit : Nat := 1
def errDepth : Nat := 2
def errTruncated : Nat := 3
def errNoTransition : Nat := 4
def errInvalidNode : Nat := 5
def errAssistLimit : Nat := 6
def errAssistVisits : Nat := 7

/-- What a run has written so far: header vector, metadata, visits made, assist nodes visited. -/
structure ParseSt where
  hv : Hv
  md : Md
  visits : Nat
  assists : Nat
  /-- node of the last visit counted (R105) -/
  last : Nat
  deriving DecidableEq, Repr

/-- How a run ends: accepted at a packet offset, or failed with a code at a node that starts at an offset. -/
inductive ParseEnd where
  | accept (atOff : Nat)
  | fail (code node start : Nat)
  deriving DecidableEq, Repr

/-- What a run works on: the image, the packet's bytes and its length where that is known (R97). -/
structure ParseEnv where
  img : PipeImage
  bytes : Bytes
  len : Option Nat

/-- The check of R96 on a read of n bytes at packet offset o: the error code it fails with, if it fails. -/
def readErr (e : ParseEnv) (o n : Nat) : Option Nat :=
  if o + n > 384 then some errDepth
  else match e.len with
    | some l => if o + n > l then some errTruncated else none
    | none => none

/-- The big-endian value of n packet bytes at offset o. -/
def pktNat (e : ParseEnv) (o n : Nat) : Nat := beNat (slice e.bytes o n)

/-- The first error among a list of checks, in order (R95: the first step that fails ends parsing). -/
def firstErr : List (Option Nat) → Option Nat
  | [] => none
  | some c :: _ => some c
  | none :: t => firstErr t

/-- The extraction slots of a node entry, slots 0 to 3 (Table 03-2, Table 03-3). -/
def nodeSlots (e : Nat) : List Nat := [fld e 64 32, fld e 96 32, fld e 128 32, fld e 160 32]

/-- Whether an extraction slot is in use (EX_EN). -/
def exEn (x : Nat) : Bool := bit x 15

/-- Length of an extraction (EX_LEN_M1 + 1). -/
def exLen (x : Nat) : Nat := fld x 8 5 + 1

/-- A node's advance when it is computed before the slots (ADV_MODE 0 and 1). -/
def nodeAdvance (env : ParseEnv) (e start : Nat) : Nat :=
  if fld e 4 2 == 1 then
    let f := pktNat env (start + fld e 16 8) 2
    (((f >>> fld e 24 4) &&& fld e 32 16) <<< fld e 6 2) + fld e 8 8
  else fld e 8 8

/-- The checks of `check_read` in the order select field, advance field, enabled slots (R96). -/
def nodeReadErr (env : ParseEnv) (e start : Nat) : Option Nat :=
  let sel := if fld e (192 + 24) 5 == 0 then none
    else readErr env (start + fld e 48 8) (if bit e 56 then 2 else 1)
  let adv := if fld e 4 2 == 1 then readErr env (start + fld e 16 8) 2 else none
  firstErr (sel :: adv :: (nodeSlots e).map fun x =>
    if exEn x then readErr env (start + fld x 0 8) (exLen x) else none)

/-- The node's own select value (SEL_OFFSET, SEL_WIDE). -/
def nodeSelect (env : ParseEnv) (e start : Nat) : Nat :=
  pktNat env (start + fld e 48 8) (if bit e 56 then 2 else 1)

/-- Layer mark i at an offset: recorded only below 511 (R102, R106). -/
def markLayer (md : Md) (i off : Nat) : Md :=
  if i == 0 || off ≥ 511 then md else mdSet md (192 + 9 * (i - 1)) 9 off

/-- Slots, header-valid bit and layer mark of a visit (R92, R95). -/
def applyNode (env : ParseEnv) (e start : Nat) (s : ParseSt) : ParseSt :=
  let hv := (nodeSlots e).foldl (fun h x =>
    if exEn x then hvPut h (fld x 16 9) (slice env.bytes (start + fld x 0 8) (exLen x)) else h) s.hv
  let md := if bit e (192 + 29) then mdSet s.md (128 + fld e (192 + 30) 6) 1 1 else s.md
  { s with hv := hv, md := markLayer md (fld e (192 + 36) 3) start }

/-- Whether an advance ends beyond what R95 allows. -/
def advBad (env : ParseEnv) (start adv : Nat) : Bool :=
  start + adv > 16383 || (match env.len with | some l => start + adv > l | none => false)

/-- Where a visit goes on to. -/
inductive ParseNext where
  | node (n : Nat)
  | accept
  | err (code : Nat)
  deriving DecidableEq, Repr

/-- The node's MISS_ACTION (Table 03-2). -/
def missAction (e : Nat) : ParseNext :=
  if fld e (192 + 9) 2 == 0 then .node (fld e 192 9)
  else if fld e (192 + 9) 2 == 1 then .accept else .err errNoTransition

/-- The lowest matching transition entry among `count` entries from `base` (R93). -/
def findTransition (trans : List (Nat × Nat)) (v base : Nat) : Nat → Option Nat
  | 0 => none
  | n + 1 =>
    let t := lookupD trans base 0
    if bit t 42 && ((v &&& fld t 16 16) == (fld t 0 16 &&& fld t 16 16)) then some t
    else findTransition trans v (base + 1) n

/-- The transition of a node for a select value (R93). -/
def transition (env : ParseEnv) (e v : Nat) : ParseNext :=
  match findTransition env.img.trans v (fld e (192 + 12) 12) (fld e (192 + 24) 5) with
  | none => missAction e
  | some t => if bit t 41 then .accept else .node (fld t 32 9)

/-! ### The assist engine (R99 to R104) -/

/-- Registers G0 to G7, cursor and program counter relative to ASSIST_PC. -/
structure AssistSt where
  g : List Nat
  cur : Nat
  pc : Nat
  st : ParseSt
  deriving DecidableEq, Repr

/-- How an invocation ends. -/
inductive AssistEnd where
  /-- RET: the advance and where parsing goes on -/
  | ret (s : ParseSt) (adv : Nat) (next : ParseNext)
  /-- a failure or ERR -/
  | fail (s : ParseSt) (code : Nat)

/-- Register r of an invocation. -/
def AssistSt.reg (a : AssistSt) (r : Nat) : Nat := a.g.getD r 0

/-- The invocation with register r written and the program counter moved on. -/
def AssistSt.put (a : AssistSt) (r v : Nat) : AssistSt := { a with g := a.g.set r (v % 65536), pc := a.pc + 1 }

/-- The branch test of the format B operations (Table 03-6). -/
def assistTaken (a : AssistSt) (w : Nat) : Bool :=
  let x := a.reg (fld w 17 3)
  let y := a.reg (fld w 0 3)
  match fld w 26 6 with
  | 0x18 => x == y
  | 0x19 => x != y
  | 0x1A => decide (x < y)
  | 0x1B => x == fld w 0 16
  | 0x1C => x != fld w 0 16
  | _ => true

/-- Where RET goes on (R103). -/
def assistRet (env : ParseEnv) (e start : Nat) (a : AssistSt) (w : Nat) : ParseNext :=
  match fld w 0 2 with
  | 0 => transition env e (a.reg (fld w 20 3))
  | 1 => transition env e (nodeSelect env e start)
  | 2 => .accept
  | _ => .node (fld w 7 9)

/-- Packet offset that an instruction uses: node start, cursor and immediate, modulo 2^16 as all arithmetic (R99). -/
def AssistSt.offset (a : AssistSt) (start imm : Nat) : Nat := (start + a.cur + imm) % 65536

/-- One instruction: the next state of the invocation, or its end (Table 03-6). An operation not listed acts as NOP;
images that hold one are refused when they are loaded (R102). An invocation that runs past instruction 1,023 reads 0 there, NOP,
until its limit. DESIGN CHOICE (log entry 68). -/
def assistStep (env : ParseEnv) (e start : Nat) (a : AssistSt) : AssistSt ⊕ AssistEnd :=
  let w := lookupD env.img.assist (fld e (192 + 40) 10 + a.pc) 0
  let imm := fld w 0 16
  let rd := fld w 23 3
  let x := a.reg (fld w 20 3)
  let y := a.reg (fld w 17 3)
  let skip := { a with pc := a.pc + 1 }
  match fld w 26 6 with
  | 0x01 => match readErr env (a.offset start imm) 1 with
    | some c => .inr (.fail a.st c)
    | none => .inl (a.put rd (pktNat env (a.offset start imm) 1))
  | 0x02 => match readErr env (a.offset start imm) 2 with
    | some c => .inr (.fail a.st c)
    | none => .inl (a.put rd (pktNat env (a.offset start imm) 2))
  | 0x04 => .inl (a.put rd (x + y))
  | 0x05 => .inl (a.put rd (x + imm))
  | 0x06 => .inl (a.put rd (x + 65536 - y))
  | 0x07 => .inl (a.put rd (x &&& imm))
  | 0x08 => .inl (a.put rd (x ||| imm))
  | 0x09 => .inl (a.put rd (x >>> (imm % 16)))
  | 0x0A => .inl (a.put rd (x <<< (imm % 16)))
  | 0x0B => .inl (a.put rd imm)
  | 0x0C => .inl (a.put rd a.cur)
  | 0x10 => .inl { skip with cur := (a.cur + x + imm) % 65536 }
  | 0x12 => .inl { skip with cur := (a.cur + imm) % 65536 }
  | 0x18 | 0x19 | 0x1A | 0x1B | 0x1C | 0x1D =>
    .inl (if assistTaken a w then { a with pc := fld w 20 6 } else skip)
  | 0x20 => match readErr env (a.offset start (fld w 0 12)) (fld w 21 5 + 1) with
    | some c => .inr (.fail a.st c)
    | none => .inl { skip with st := { a.st with
        hv := hvPut a.st.hv (fld w 12 9) (slice env.bytes (a.offset start (fld w 0 12)) (fld w 21 5 + 1)) } }
  | 0x21 => .inl { skip with st := { a.st with hv := hvPut a.st.hv (fld w 0 9) (toBe 2 x) } }
  | 0x22 => .inl { skip with st := { a.st with md := mdSet a.st.md (128 + fld w 0 6) 1 1 } }
  | 0x23 => .inl { skip with st := { a.st with md := markLayer a.st.md (fld w 0 3) (a.offset start 0) } }
  | 0x30 => .inr (.ret a.st a.cur (assistRet env e start a w))
  | 0x31 => .inr (.fail a.st (0x10 + fld w 0 4))
  | _ => .inl skip

/-- An invocation of at most `fuel` instructions; the attempt at one more is ASSIST_LIMIT (R100). -/
def assistRun (env : ParseEnv) (e start : Nat) : Nat → AssistSt → AssistEnd
  | 0, a => .fail a.st errAssistLimit
  | fuel + 1, a =>
    match assistStep env e start a with
    | .inl a' => assistRun env e start fuel a'
    | .inr r => r

/-! ### The visits (R95) -/

/-- A visit after its slots have been applied: the advance, and where parsing goes on. -/
def visitTail (e n start adv : Nat) (nx : ParseNext) (s : ParseSt) : ParseSt × ParseEnd ⊕ (Nat × Nat) :=
  if bit e 2 then .inl (s, .accept (start + adv))
  else match nx with
    | .accept => .inl (s, .accept (start + adv))
    | .err c => .inl (s, .fail c n start)
    | .node m => .inr (m, start + adv)

/-- Visits from node n at packet offset `start`, at most `fuel` of them (R94, R95). A node without NODE_ASSIST that ends with
NO_TRANSITION leaves its slots, header-valid bit and mark unapplied: R95 says so of every failure of such a node, though its
steps put the transition last. DEDUCED (log entry 71). -/
def visits (env : ParseEnv) : Nat → Nat → Nat → ParseSt → ParseSt × ParseEnd
  | 0, n, start, s => (s, .fail errNodeLimit n start)
  | fuel + 1, n, start, s0 =>
    let s := { s0 with visits := s0.visits + 1, last := n }
    let e := lookupD env.img.nodes n 0
    if !bit e 0 then (s, .fail errInvalidNode n start)
    else if bit e 1 && s.assists ≥ 2 then (s, .fail errAssistVisits n start)
    else if start > 383 then (s, .fail errDepth n start)
    else match nodeReadErr env e start with
      | some c => (s, .fail c n start)
      | none =>
        if bit e 1 then
          let s1 := { applyNode env e start s with assists := s.assists + 1 }
          match assistRun env e start 64 { g := List.replicate 8 0, cur := 0, pc := 0, st := s1 } with
          | .fail s2 c => (s2, .fail c n start)
          | .ret s2 adv nx =>
            if advBad env start adv then (s2, .fail errTruncated n start)
            else match visitTail e n start adv nx s2 with
              | .inl r => r
              | .inr (m, o) => visits env fuel m o s2
        else
          let adv := nodeAdvance env e start
          if advBad env start adv then (s, .fail errTruncated n start)
          else
            match if bit e 2 then ParseNext.accept else transition env e (nodeSelect env e start) with
            | .err c => (s, .fail c n start)
            | nx =>
              let s1 := applyNode env e start s
              match visitTail e n start adv nx s1 with
              | .inl r => r
              | .inr (m, o) => visits env fuel m o s1

/-- A run from a start node: at most 32 visits, then the result fields of R98 and R105 in the metadata. -/
def parseRun (env : ParseEnv) (startNode : Nat) (md : Md) : ParseSt × ParseEnd :=
  let r := visits env 32 startNode 0 { hv := 0, md := md, visits := 0, assists := 0, last := 0 }
  let m0 := mdSet (mdSet r.1.md 49 9 r.1.last) 58 6 r.1.visits
  match r.2 with
  | .accept o => ({ r.1 with md := mdSet m0 256 14 o }, r.2)
  | .fail c n st => ({ r.1 with md := mdSet (mdSet (mdSet m0 35 5 c) 40 9 n) 256 14 st }, r.2)

/-- The counter index of a parse-error code (Table 03-9). -/
def parseErrCounter (code : Nat) : Nat := if code ≥ 0x10 then 0x4017 else 0x4010 + (code - 1)

end Sys2Proof.Machine
end

