-- ==== Sys2Proof/Machine/Pipeline.lean ====
section
/-!
DEFINITION. A packet's way through a pipeline: stamping, the parser and the stages, mirror copies, samples, policers, the
forward decision, and the places a pass ends in (spec/02 R61, spec/03 R87 to R90 and R105, spec/04 R126 to R137 and R143,
spec/07 R209, spec/08 R235 to R240, R253 and R254).
-/

namespace Sys2Proof.Machine

/-! ### The distributor (R20, R89) -/

/-- The fixed outer fields: MAC addresses, outer VLAN, IP addresses and L4 ports, read by the Ethernet and IP formats behind at
most two VLAN tags (log entry 10). -/
def outerFields (bs : Bytes) : Bytes :=
  let tag := fun (o : Nat) => beNat (slice bs o 2) == 0x8100 || beNat (slice bs o 2) == 0x88A8
  let tagged := tag 12
  let o := if tagged then (if tag 16 then 20 else 16) else 12
  let ip := o + 2
  let l4 := fun (proto off : Nat) =>
    if proto == 6 || proto == 17 || proto == 132 then slice bs off 4 else []
  let l3 :=
    match beNat (slice bs o 2) with
    | 0x0800 =>
      let ihl := (beNat (slice bs ip 1) % 16) * 4
      slice bs (ip + 12) 8 ++ l4 (beNat (slice bs (ip + 9) 1)) (ip + ihl)
    | 0x86DD => slice bs (ip + 8) 32 ++ l4 (beNat (slice bs (ip + 6) 1)) (ip + 40)
    | _ => []
  slice bs 0 12 ++ (if tagged then slice bs 14 2 else []) ++ l3

/-- The distributor hash, 32 bits. -/
def distHashOf (bs : Bytes) : Nat := Config.distHash (outerFields bs) % 2 ^ 32

/-! ### The start of a pass -/

/-- Words 0 to 4 of the metadata as the parser fills them before it reads a byte (Table 03-8); the others stay. -/
def mdParser (md : Md) (srcKind srcId pass epoch len rxTime hash wvSrc hops : Nat) : Md :=
  let low := srcKind % 2 ^ 3 + srcId % 2 ^ 14 * 2 ^ 3 + pass % 4 * 2 ^ 17 + epoch % 4 * 2 ^ 19 + len % 2 ^ 14 * 2 ^ 21
    + rxTime % 2 ^ 64 * 2 ^ 64 + (2 ^ 63 - 1) * 2 ^ 192 + hash % 2 ^ 32 * 2 ^ 270 + wvSrc % 2 ^ 10 * 2 ^ 302
    + hops % 2 ^ 4 * 2 ^ 312
  BitVec.ofNat 1024 (md.toNat / 2 ^ 320 * 2 ^ 320 + low)

/-- `MD_DIST_HASH`. -/
def mdHash (md : Md) : Nat := mdGet md 270 32

/-- Metadata at the start of the first pass of a packet with stamp e. -/
def Pkt.firstMd (p : Pkt) (e len : Nat) : Md :=
  mdParser 0 p.srcKind p.srcId 0 e len p.rxTime (distHashOf p.bytes) p.wvSrc p.wvHops

/-- `MD_PKT_LEN`. -/
def mdPktLen (md : Md) : Nat := mdGet md 21 14

/-- Metadata at the start of a later pass (R90, R112): the parser's fields anew, words 5 and 6 and bits [49:20] of word 8
cleared. MD_PKT_LEN is kept where it was known; else the length is known now (R97). -/
def Pkt.nextMd (p : Pkt) : Md :=
  let md := mdSet (mdSet (mdSet p.md 320 64 0) 384 64 0) 532 30 0
  let len := if mdPktLen p.md == 0 then p.len else mdPktLen p.md
  mdParser md p.srcKind p.srcId (mdPass p.md + 1) (p.epoch.getD 0) len p.rxTime (mdHash p.md) p.wvSrc p.wvHops

/-- Start node of the packet's source under a version (Table 03-1). -/
def startNode (v : Ver) (p : Pkt) : Nat :=
  match p.srcKind with
  | 0 => v.cfg (Obj.PARSE_START_NET + p.srcId)
  | 1 => v.cfg (Obj.PARSE_START_WEAVE + p.srcId)
  | 2 => v.cfg Obj.PARSE_START_HOST
  | _ => v.cfg Obj.PARSE_START_CORE

/-- Start node of a later pass: the one that PASS named, else the source's (R90). -/
def nextStart (v : Ver) (p : Pkt) : Nat := if mdPassStartEn p.md then mdPassStart p.md else startNode v p

/-- The region a packet's source is bound to under a version. -/
def State.sourceRegion (s : State) (v : Ver) (p : Pkt) : Nat :=
  match p.srcKind with
  | 0 => s.netRegion v p.srcId
  | 1 => s.wvRegion v p.srcId
  | _ => s.fnRegion v p.srcId

/-- The pipeline for a first pass (R20). -/
def pickPipe (region : Nat) (p : Pkt) : Nat :=
  region * 4 + Config.distPipe p.srcKind p.srcId (distHashOf p.bytes) % 4

/-! ### Drops and the places a pass ends in -/

/-- A drop in a pipeline, counted in its counter. -/
def State.dropPipe (s : State) (p : Pkt) (ctr : Nat) : State := (s.bump (ctr + p.pipe)).dropPkt p.id

/-- Recirculation buffer of a pipeline, in bytes (R131). -/
def recircBytes : Nat := 524288

/-- Bytes waiting in the recirculation buffer of a pipeline. -/
def State.recircUsed (s : State) (pipe : Nat) : Nat :=
  sumBy Pkt.len (s.pkts.filter fun p => p.loc == .recirc && p.pipe == pipe)

/-- Entry of the recirculation buffer of the packet's pipeline, or a drop (R131). -/
def State.toRecirc (s : State) (p : Pkt) : State :=
  if s.recircUsed p.pipe + p.len > recircBytes then s.dropPipe p Obj.PIPE_DROP_RECIRC_FULL
  else s.requeue { p with loc := .recirc, enqAt := s.clock }

/-- Bytes in the divert queue of a region: each packet with its 128 B of metadata (R192). -/
def State.divertUsed (s : State) (region : Nat) : Nat :=
  sumBy (fun p => 128 + p.len) (s.pkts.filter fun p => p.loc == .divert && p.region == region)

/-- Entry of the region's divert queue, or a drop (R192). -/
def State.toDivert (s : State) (p : Pkt) : State :=
  if s.divertUsed p.region + 128 + p.len > s.cfg (Obj.PAT_DIVERT_MAX_KIB + p.region) * 1024 then
    (s.bump (Obj.PAT_DROP_DIVERT_FULL + p.region)).dropPkt p.id
  else s.requeue { p with loc := .divert }

/-- Inline engine of a packet: SA index modulo 8 (R358). -/
def Pkt.engine (p : Pkt) : Nat := mdCipherSa p.md % 8

/-- Bytes in the input queue of an inline engine. -/
def State.engineUsed (s : State) (region eng : Nat) : Nat :=
  sumBy Pkt.len (s.pkts.filter fun p => p.loc == .cipher && p.region == region && p.engine == eng)

/-- Entry of the packet's inline engine, or a drop (R358). -/
def State.toCipher (s : State) (p : Pkt) (after : After) : State :=
  if s.engineUsed p.region p.engine + p.len > 262144 then (s.bump (Obj.CIPH_DROP_BUSY + p.region)).dropPkt p.id
  else s.requeue { p with loc := .cipher, after := after }

/-! ### Mirror copies (R135) -/

/-- Sessions that make a copy of a packet under its version. -/
def mirrorSessions (v : Ver) (md : Md) : List Nat :=
  (List.range 16).filter fun i => bit (mdMirrorMask md) i && v.cfg (Obj.PIPE_MIRROR_EN + i) == 1

/-- One copy of the packet with the bytes given, for a session. -/
def State.mirrorTo (s : State) (v : Ver) (p : Pkt) (bytes : Bytes) (session : Nat) : State :=
  let tr := v.cfg (Obj.PIPE_MIRROR_TRUNC + session)
  let c := if tr == 0 then bytes else bytes.take tr
  -- a copy is whole once its own bytes have been received
  let rate := if p.srcKind == 0 then s.netRate p.srcId else 200
  let m : Pkt := { p with
    kind := .mirror, loc := .atTm, bytes := c, enqAt := s.clock, rxEnd := p.rxEnd - (bytes.length - c.length) * 8 / rate,
    eqid := s.effQueue v (v.cfg (Obj.PIPE_MIRROR_EQID + session)) }
  (s.addPkt m).bump (Obj.PIPE_MIRROR_COPIES + p.pipe)

/-- Every copy of a half. -/
def State.mirrors (s : State) (v : Ver) (p : Pkt) (bytes : Bytes) : State :=
  (mirrorSessions v p.md).foldl (fun a i => a.mirrorTo v p bytes i) s

/-! ### Samples (R253, R254) -/

def smpN (e : Nat) : Nat := fld e 0 24
def smpRandom (e : Nat) : Bool := bit e 24
def smpCap (e : Nat) : Nat := fld e 25 8
def smpRing (e : Nat) : Nat := fld e 33 4

/-- Samples written to a ring within the latest 1 ms (R169). -/
def State.smpRecent (s : State) (ring : Nat) : List Nat :=
  (lookupD s.tm.smpWin ring []).filter fun t => s.clock < t + 1000000

/-- A sample record (Table 08-8); `known`: the packet's length is known by now. -/
def smpRecord (p : Pkt) (bytes : Bytes) (known egress : Bool) (cap seq pool : Nat) : Bytes :=
  let n := Nat.min cap bytes.length
  toLe 8 (mdSampler p.md + b2n egress * 2 ^ 8 + mdSrcKind p.md * 2 ^ 9 + mdSrcId p.md * 2 ^ 12 + mdPass p.md * 2 ^ 26
      + p.region * 2 ^ 28 + seq * 2 ^ 32)
    ++ toLe 8 p.rxTime
    ++ toLe 8 ((if known then bytes.length else 0) + n * 2 ^ 14 + (if egress then p.eqid else 0) * 2 ^ 22
      + b2n (mdDrop p.md) * 2 ^ 39 + mdDropCode p.md * 2 ^ 40)
    ++ toLe 8 pool
    ++ padTo 224 (bytes.take n)

/-- A sample goes to its ring, or is counted as dropped (R254). -/
def State.writeSample (s : State) (ring : Nat) (record : Bytes) : State :=
  let f := s.cfg (Obj.SMP_RING_FID + ring)
  match s.eventPair? f 3 ring with
  | none => s.bump (Obj.SMP_DROP_RING_FULL + ring)
  | some (q, x) =>
    if f == 0xFFFF || !s.ringUp f || x.cqFull then s.bump (Obj.SMP_DROP_RING_FULL + ring)
    else
      let w := s.smpRecent ring
      if s.cfg (Obj.SMP_RATE_MAX + ring) / 1000 < w.length + 1 then s.bump (Obj.SMP_DROP_RATE + ring)
      else
        let s1 := { s with tm := { s.tm with smpWin := assoc s.tm.smpWin ring (w ++ [s.clock]) } }
        (s1.publish f q x record).bump (Obj.SMP_RECORDS + ring)

/-- The packet is a candidate of its sampler (R253). The draw of a random sampler is a free value (log entry 4). -/
def State.sample (s : State) (p : Pkt) (bytes : Bytes) (egress : Bool) : State :=
  if !mdSampleEn p.md then s
  else
    let key := p.region * 256 + mdSampler p.md
    let e := s.cfg Obj.SMP_CONFIG (mdSampler p.md)
    let pool := lookupD s.tm.smpPool key 0 + 1
    let draw := if smpRandom e && smpN e != 0 then s.fresh 32 else (0, s)
    let take := smpN e != 0 && (if smpRandom e then draw.1 % smpN e == 0 else smpN e ≤ pool)
    let s1 := { draw.2 with tm := { draw.2.tm with smpPool := assoc draw.2.tm.smpPool key (if take then 0 else pool) } }
    if !take then s1
    else
      let ring := smpRing e
      let n := (lookupD s1.tm.smpSeq ring 0 + 1) % 2 ^ 32
      let s2 := { s1 with tm := { s1.tm with smpSeq := assoc s1.tm.smpSeq ring n } }
      s2.writeSample ring (smpRecord p bytes (!s.unmeasured p) egress (smpCap e) n pool)

/-! ### One half of a pass -/

/-- Key of a counter pair's packet count; its byte count stands behind it. -/
def pairKey (region bank i : Nat) : Nat := (((region * 32) + bank) * 2 ^ 20 + i) * 2

/-- A count of a store raised, up to its limit (R13). -/
def Store.raise (st : Store) (k n : Nat) : Store := st.put k 0 (Nat.min u64Max (st.get k 0 + n))

/-- Byte counts of packets whose length is known by now are added (R128). -/
def State.settleCounts (s : State) : State :=
  let known := s.tm.countLate.filter fun x => x.1 ≤ s.clock
  if known.isEmpty then s
  else { s with tm := { s.tm with
      count := known.foldl (fun st x => st.raise (x.2.1 + 1) x.2.2) s.tm.count
      countLate := s.tm.countLate.filter fun x => s.clock < x.1 } }

/-- Counter pairs moved by COUNT for a packet: one packet each, and its bytes, at once or when its length is known (R128). -/
def State.countPairs (s : State) (p : Pkt) (cs : List (Nat × Nat)) : State :=
  let keys := cs.map fun c => pairKey p.region c.1 c.2
  let t := s.settleCounts
  let packets := keys.foldl (fun (st : Store) k => st.raise k 1) t.tm.count
  if t.unmeasured p then
    { t with tm := { t.tm with count := packets, countLate := t.tm.countLate ++ keys.map fun k => (p.rxEnd, k, p.len) } }
  else { t with tm := { t.tm with count := keys.foldl (fun (st : Store) k => st.raise (k + 1) p.len) packets } }

/-- A region's ternary banks as lookups see them now (R184, R185). -/
def State.ternView (s : State) (region : Nat) : TernView :=
  { flips := (s.tern.flips.filter fun f => f.1 == region).map fun f => f.2
    repair := (s.tern.repair.filter fun r => r.1 == region && s.clock < r.2.2).map fun r => r.2.1 }

/-- Corruption of a region's banks begins (R185). -/
def State.corrupt (s : State) (region : Nat) (fs : List TernFlip) : State :=
  { s with tern := { s.tern with flips := s.tern.flips ++ fs.map fun f => (region, f) } }

/-- What the stages of a half work under, for a packet. -/
def State.stageEnv (s : State) (v : Ver) (img : PipeImage) (p : Pkt) (look : Look) : StageEnv :=
  { img := img, inc := v.inc, region := p.region, epoch := p.epoch.getD 0, late := look.late, tern := s.ternView p.region }

/-- A half begins with the packet's header vector and metadata. -/
def State.stageStart (s : State) (p : Pkt) : StageCtx :=
  { hv := p.hv, md := p.md, tbl := s.tbl, trie := [], cands := [], counts := [], nextTableBad := 0, countRange := 0,
    badTarget := false, farLate := false }

/-- What a half leaves behind in the device: hit bits, counters, learn candidates. -/
def State.afterHalf (s : State) (p : Pkt) (c : StageCtx) : State :=
  let s1 := { s with tbl := c.tbl }
  let s2 := (s1.countPairs p c.counts).bumpN (Obj.PIPE_NEXT_TABLE_BAD + p.pipe) c.nextTableBad
  let s3 := s2.bumpN (Obj.PIPE_COUNT_RANGE + p.pipe) c.countRange
  c.cands.foldl (fun a x => a.learn x.table x.key x.area
    { kind := 1, region := p.region, epoch := p.epoch.getD 0, time := p.rxTime, srcKind := p.srcKind, srcId := p.srcId,
      hops := 0, pass := mdPass p.md, context := x.context }) s3

/-- The parser's run on a packet: header vector and metadata, and its counters (R105, R108). -/
def State.parse (s : State) (img : PipeImage) (start : Nat) (p : Pkt) : State × Pkt :=
  let r := parseRun { img := img, bytes := p.bytes, len := if p.lenKnown then some p.len else none } start p.md
  let q := { p with hv := r.1.hv, md := r.1.md }
  let s1 := s.bumpN (Obj.PARSE_ASSIST_CALLS + p.pipe) r.1.assists
  match r.2 with
  | .accept _ => (s1, q)
  | .fail c n st =>
    ((s1.bump (parseErrCounter c * 256 + 1 + p.pipe)).latch Obj.PARSE_ERR_LAST
      (c + n * 2 ^ 5 + p.pipe * 2 ^ 14 + st * 2 ^ 17), q)

/-! ### Policers (R126, R129, R237 to R240) -/

/-- The policer that a POLICE of id is applied to in a region: the one named, the surviving twin, or none. -/
def State.polTarget (s : State) (v : Ver) (region id : Nat) : Option (Nat × Bool) :=
  if id / 131072 == region then some (id, false)
  else if s.mode.fenced == some (id / 131072) then
    let tw := (id + 131072) % 262144
    let e := v.polElem tw
    if polValid e && polTwinAccept e then some (tw, true) else none
  else none

/-- What a policer slot did to a packet. -/
inductive PolRes where
  | on (s : State) (md : Md)
  | dropped (s : State)

/-- One policer slot (R236, R237). -/
def State.police (s : State) (v : Ver) (p : Pkt) (md : Md) (id : Nat) : PolRes :=
  match s.polTarget v p.region id with
  | none => .on (s.bump (Obj.PIPE_POLICER_FOREIGN + p.pipe)) md
  | some (t, twin) =>
    let s0 := if twin then s.bump (Obj.POL_TWIN_USED + p.region) else s
    let e := v.polElem t
    if !polValid e then .on (s0.bump (Obj.POL_INVALID + p.region)) md
    else
      let r := s0.meter t e (mdColor md) p.len
      let md1 := mdSet md 352 2 r.1
      match r.1 with
      | 0 => .on r.2 md1
      | 1 => .on r.2 (match polYelTc e with | some tc => mdSet md1 340 3 tc | none => md1)
      | _ =>
        if polRedRemark e then
          .on (r.2.bump (Obj.POL_REMARKED_RED + p.region)) (match polRedTc e with | some tc => mdSet md1 340 3 tc | none => md1)
        else .dropped (r.2.bump (Obj.POL_DROP_RED + p.region))

/-- Slot 0, then slot 1 on what slot 0 leaves (R129). -/
def State.policeSlots (s : State) (v : Ver) (p : Pkt) : PolRes :=
  let r0 := if mdPolEn p.md 0 then s.police v p p.md (mdPol p.md 0) else .on s p.md
  match r0 with
  | .dropped s1 => .dropped s1
  | .on s1 md1 => if mdPolEn md1 1 then s1.police v p md1 (mdPol md1 1) else .on s1 md1

/-- The packet names a policer. -/
def Pkt.namesPolicer (p : Pkt) : Bool := mdPolEn p.md 0 || mdPolEn p.md 1

/-! ### The forward decision (R127, R209, R269, R328) -/

/-- Queue number of class tc in the class map of port node pn (R209). -/
def classQueue (v : Ver) (pn tc : Nat) : Nat := fld (v.cfg (Obj.TM_CLASS_MAP + pn)) (16 * (7 - tc)) 16

/-- The egress queue and destination of a forward decision under a version, before any failover, or the counter it is
dropped with. -/
def State.forward (s : State) (v : Ver) (p : Pkt) : Nat ⊕ (Nat × Nat) :=
  let t := mdFwdTarget p.md
  match mdFwdKind p.md with
  | 1 => .inr (v.cfg (Obj.NET_PORT_BIND + t) * 65536 + classQueue v t (mdTc p.md), t)
  | 2 =>
    let e := s.destOf t
    if t == s.wvAddr || !deValid e then .inl (Obj.WV_DROP_NO_ROUTE + p.region)
    else
      let l := deNext e (mdHash p.md % 65536)
      .inr (v.cfg (Obj.WV_LINK_BIND + l) * 65536 + classQueue v (16 + l) (mdTc p.md), t)
  | 3 =>
    let q := v.cfg (Obj.FN_RX_QUEUE + fnSub t) (fnIdx t)
    if q == 0xFFFF then .inl (Obj.HST_DROP_NO_RXQ + fnSub t) else .inr (fnBound v t * 65536 + q, t)
  | _ => .inr (t, 0)

/-- Policers and class map, then on to the traffic manager (R129, R209). -/
def State.toTm (s : State) (v : Ver) (p : Pkt) : State :=
  match s.policeSlots v p with
  | .dropped s1 => s1.dropPkt p.id
  | .on s1 md =>
    let q := { p with md := md }
    match s1.forward v q with
    | .inl ctr => (s1.bump ctr).dropPkt q.id
    | .inr (eqid, dest) =>
      s1.requeue { q with loc := .atTm, eqid := s1.effQueue v eqid, dest := dest, enqAt := s1.clock }

/-- Two packets of one flow on passes of one number: their order is kept (R20). -/
def Pkt.sameFlow (p q : Pkt) : Bool :=
  p.srcKind == q.srcKind && p.srcId == q.srcId && mdHash p.md == mdHash q.md && mdPass p.md == mdPass q.md

/-- A packet with its forward decision waits for its length, because it names a policer (R240). -/
def State.awaitsLength (s : State) (p : Pkt) : Bool := s.unmeasured p && p.namesPolicer

/-- A packet of the same flow that ended ingress before this one waits for its length. -/
def State.behindMeter (s : State) (p : Pkt) : Bool := s.pkts.any fun q => q.loc == .meter && q.id != p.id && q.sameFlow p

/-- Packets of a flow that waited only behind one that had no length yet go on, in order (R20). -/
def State.releaseFlow (s : State) (p : Pkt) : State :=
  ((s.pkts.filter fun q => q.loc == .meter && q.sameFlow p).takeWhile fun q => !s.awaitsLength q).foldl
    (fun a q => a.toTm (a.pktVer q) q) s

/-! ### The end of ingress (R130) -/

/-- A FWD target that R126 refuses stands. -/
def badTarget (md : Md) : Bool :=
  (mdFwdKind md == 1 && mdFwdTarget md > 15) || (mdFwdKind md == 3 && !fidUsed (mdFwdTarget md))

/-- The packet as the deparser emits it at the end of ingress: its bytes, and where a scan of it begins (R136, R193). -/
def Pkt.deparsed (p : Pkt) (img : PipeImage) : Pkt :=
  { p with bytes := deparse img p.hv p.md p.bytes, scanFrom := (emitHeaders img p.hv p.md).length }

/-- A pass or divert that stands at the end of ingress. -/
def State.again (s : State) (img : PipeImage) (p : Pkt) : State :=
  let q := p.deparsed img
  if mdPass p.md == 3 then s.dropPipe p Obj.PIPE_DROP_PASS_LIMIT
  else if q.len > 16383 then s.dropPipe p Obj.PIPE_DROP_OVERSIZE
  else if mdCipherEn p.md then s.toCipher q (if mdDivertReq p.md then .divert else .recirc)
  else if mdDivertReq p.md then s.toDivert q
  else s.toRecirc { q with md := mdSet q.md 448 64 0 }

/-- Resolution of a packet at the end of ingress, its metadata as the stages left it (R130). What a drop of the device puts into
MD_DROP_CODE goes with the packet: its copies and its sample are made before. -/
def State.endIngress (s : State) (v : Ver) (img : PipeImage) (p : Pkt) (late : Bool) : State :=
  let s0 := s.sample p p.bytes false
  let s1 :=
    if mdDrop p.md then s0.dropPipe p Obj.PIPE_DROP_ACTION
    else if late then s0.dropPipe p Obj.PIPE_DROP_LOOKUP_LATE
    else if mdDivertReq p.md || mdPassReq p.md then s0.again img p
    else if mdFwdKind p.md == 0 then s0.dropPipe p Obj.PIPE_DROP_NO_DECISION
    else if badTarget p.md then s0.dropPipe p Obj.PIPE_DROP_BAD_TARGET
    else if s0.awaitsLength p || s0.behindMeter p then s0.requeue { p with loc := .meter }
    else s0.toTm v p
  -- the copies follow their original (R206)
  s1.mirrors v p p.bytes

/-- Parser and ingress stages of a packet whose metadata stands as at parser entry (R87, R143). -/
def State.ingress (s : State) (v : Ver) (start : Nat) (p : Pkt) (look : Look) : State :=
  match v.pipe with
  | none => (s.setPkt { p with hv := 0 }).dropPipe p Obj.PIPE_DROP_NO_DECISION
  | some img =>
    let r := (s.corrupt p.region look.soft).parse img start p
    let c := runHalf (r.1.stageEnv v img r.2 look) false (r.1.stageStart r.2)
    let q := { r.2 with hv := c.hv, md := c.md }
    ((r.1.setPkt q).afterHalf r.2 c).endIngress v img q c.farLate

/-! ### INGRESS_PASS -/

/-- No packet of the same source, or of the same recirculation buffer, waits before this one. -/
def State.isHead (s : State) (p : Pkt) : Bool :=
  (s.pkts.find? fun q => q.loc == p.loc &&
    (if p.loc == .recirc then q.pipe == p.pipe else q.srcKind == p.srcKind && q.srcId == p.srcId)).map (fun q => q.id)
    == some p.id

/-- Pipeline that a packet's next pass runs in. -/
def State.nextPipe (s : State) (p : Pkt) : Nat := if p.loc == .recirc then p.pipe else pickPipe (s.sourceRegion s.curVer p) p

/-- A recirculated packet of a pipeline may enter its parser now: whole, past the path's 15 ns, and not within 4 cycles (2.5 ns,
3 ns here) of the one before (R131). -/
def State.recircReady (s : State) (p : Pkt) : Bool :=
  p.loc == .recirc && p.rxEnd ≤ s.clock && p.enqAt + 15 ≤ s.clock
    && (match lookup? s.tm.recircAt p.pipe with | some a => decide (a + 3 ≤ s.clock) | none => true)

/-- A recirculated packet of a pipeline goes before first passes (R131). -/
def State.recircWaits (s : State) (pipe : Nat) : Bool := s.pkts.any fun p => s.recircReady p && p.pipe == pipe

/-- A packet may enter its parser: at the head of its source or buffer, and whole on a later pass; a first pass where no
recirculated packet goes before it (R87, R131). -/
def State.mayEnter (s : State) (id : Nat) : Bool :=
  match s.pkt? id with
  | some p => s.isHead p
      && (if p.loc == .recirc then s.recircReady p
          else (p.loc == .rxFifo || p.loc == .txReady) && !s.recircWaits (s.nextPipe p))
  | none => false

/-- A first pass: the stamp, the region and pipeline, the metadata (R20, R61, R87). -/
def State.firstPass (s : State) (p : Pkt) (look : Look) : State :=
  let v := s.curVer
  let r := s.sourceRegion v p
  let known := p.lenKnown || p.rxEnd ≤ s.clock
  let q : Pkt := { p with
    epoch := some s.ep.current, stampAt := s.clock, region := r, pipe := pickPipe r p, lenKnown := known,
    md := p.firstMd s.ep.current (if known then p.len else 0) }
  ((s.setPkt q).bump (Obj.PIPE_PACKETS + q.pipe)).ingress v (startNode v q) q look

/-- A later pass (R90). -/
def State.laterPass (s : State) (p : Pkt) (look : Look) : State :=
  let v := s.pktVer p
  let q : Pkt := { p with lenKnown := true, md := p.nextMd }
  let s1 : State := { s with tm := { s.tm with recircAt := assoc s.tm.recircAt q.pipe s.clock } }
  ((s1.setPkt q).bump (Obj.PIPE_RECIRC_PASSES + q.pipe)).ingress v (nextStart v p) q look

/-- INGRESS_PASS of packet id; `look`: what happens to its lookups (R121, R185). -/
def execIngressPass (dt id : Nat) (look : Look) (s : State) : Out :=
  work dt s (fun t => t.traffic && t.mayEnter id) fun t =>
    match t.pkt? id with
    | none => t
    | some p => if p.loc == .recirc then t.laterPass p look else t.firstPass p look

/-- A packet's wait for its length is over: the first of its flow that waits, and its frame has been received. -/
def State.mayMeter (s : State) (id : Nat) : Bool :=
  match s.pkt? id with
  | some p => p.loc == .meter && !s.awaitsLength p
      && (s.pkts.find? fun q => q.loc == .meter && q.sameFlow p).map (fun q => q.id) == some id
  | none => false

/-- DEFERRED_METERING: the frame of a packet that names a policer has been received (R240); packets of its flow that waited
behind it follow (R20). The metadata keep what the parser wrote. -/
def execDeferredMetering (dt id : Nat) (s : State) : Out :=
  cmd dt s (fun t => t.traffic && t.mayMeter id) fun t =>
    match t.pkt? id with
    | none => t
    | some p => (t.toTm (t.pktVer p) p).releaseFlow p

end Sys2Proof.Machine
end

