-- ==== Sys2Proof/Machine/Net.lean ====
section
/-!
DEFINITION. Network ports: received frames and MAC control, frames that fail after they entered, link state
(spec/01 R46, spec/04 R138, spec/07 R211 to R213, spec/14 R432, spec/16 R483).
-/

namespace Sys2Proof.Machine

/-- A packet that has just arrived, before any pass. -/
def newPkt (kind : PktKind) (loc : Loc) (bytes : Bytes) (whole : Bool) (rxEnd srcKind srcId rxTime : Nat) : Pkt :=
  { id := 0, kind := kind, loc := loc, bytes := bytes, lenKnown := whole, rxEnd := rxEnd, srcKind := srcKind,
    srcId := srcId, rxTime := rxTime, wvSrc := 0, wvHops := 0, md := 0, hv := 0, epoch := none, stampAt := 0, region := 0,
    pipe := 0, eqid := 0, enqAt := 0, readyAt := 0, after := .egress, scanFrom := 0, dest := 0, portNode := 0, gateLen := 0 }

/-- Device clock at which n bytes more have been received at a rate in Gb/s. -/
def State.rxDone (s : State) (n rate : Nat) : Nat := s.clock + (n * 8 + rate - 1) / rate

/-- Pause of a class of a port (8: PAUSE) for a time in quanta of 512 bit times (R213). -/
def State.pauseFor (s : State) (n cls quanta : Nat) : State :=
  let until_ := s.clock + (quanta * 512 + s.netRate n - 1) / s.netRate n
  ({ s with tm := { s.tm with pause := assoc s.tm.pause (n * 16 + cls) until_ } }).retestPort n

/-- Classes that a PFC frame names, with their times: class-enable vector at bytes 16 and 17, times behind it. -/
def pfcTimes (f : Bytes) : List (Nat × Nat) :=
  ((List.range 8).filter fun t => bit (beNat (slice f 16 2)) t).map fun t => (t, beNat (slice f (18 + 2 * t) 2))

/-- A MAC Control frame is consumed (R213). -/
def State.macControl (s : State) (n : Nat) (f : Bytes) : State :=
  let s1 := s.bump (Obj.NET_RX_MAC_CONTROL + n)
  let honour := s.cfg (Obj.TM_PFC_HONOUR + n)
  match beNat (slice f 14 2) with
  | 0x0101 => (pfcTimes f).foldl (fun a x => if bit honour x.1 then a.pauseFor n x.1 x.2 else a) s1
  | 0x0001 =>
    if s.honoursPause n then s1.pauseFor n 8 (beNat (slice f 16 2)) else s1
  | _ => s1

/-- A frame of a network port, without FCS, past the MAC's checks: into the receive FIFO. -/
def State.netAccept (s : State) (n : Nat) (f : Bytes) : State :=
  let whole := f.length ≤ 384
  s.addPkt (newPkt .data .rxFifo f whole (if whole then s.clock else s.rxDone (f.length - 384) (s.netRate n)) 0 n s.now)

/-- A PTP message over Ethernet: in DRAIN it is still taken, for the time receiver (R432). Its effect on the time base is left
out (log entry 18). -/
def isPtp (f : Bytes) : Bool := beNat (slice f 12 2) == 0x88F7

/-- A frame at a network port that is up (R21, R213, R432, R483). -/
def State.netFrame (s : State) (n : Nat) (f : Bytes) (fcsOk overrun : Bool) : State :=
  if f.length + 4 < 64 then s.bump (Obj.NET_RX_RUNT + n)
  else if f.length > s.cfg (Obj.NET_RX_MAX_FRAME + n) then s.bump (Obj.NET_RX_TOO_LONG + n)
  else if !fcsOk then s.bump (Obj.NET_RX_FCS_ERR + n)
  else if beNat (slice f 12 2) == 0x8808 then s.macControl n f
  else if s.mode.mode == .drain then (if isPtp f then s else s.bump Obj.MODE_DRAIN_RX_DROPS)
  else if overrun then s.bump (Obj.NET_RX_DROP_OVERRUN + n)
  else s.netAccept n f

/-- NET_FRAME_RECEIVE: frame f, without FCS, at Nn; `fcsOk`: its FCS is good, or, for a frame longer than 384 B, not known
to be bad before it enters; `overrun`: the region's pipelines do not keep up (log entry 11). -/
def execNetFrameReceive (dt n : Nat) (f : Bytes) (fcsOk overrun : Bool) (s : State) : Out :=
  work dt s (fun t => t.traffic && decide (n < 16) && t.portUp n) fun t => t.netFrame n f fcsOk overrun

/-- PAUSE_EXPIRY: pause times of Nn that have run out end; its leaves wait anew (R212, R221). -/
def execPauseExpiry (dt n : Nat) (s : State) : Out :=
  cmd dt s (fun t => t.tm.pause.any fun x => x.1 / 16 == n && x.2 ≤ t.clock) fun t =>
    ({ t with tm := { t.tm with pause := t.tm.pause.filter fun x => !(x.1 / 16 == n && x.2 ≤ t.clock) } }).retestPort n

/-- Packets whose transmission began before their frames were received, and whose frames have been received since, have
left. -/
def State.reap (s : State) : State := { s with pkts := s.pkts.filter fun p => !(p.loc == .cutting && p.rxEnd < s.clock) }

/-- The frame of a packet still inside fails: the packet is dropped at its waiting point, or its transmission is ended with
an inverted FCS (R138). -/
def State.failFrame (s : State) (p : Pkt) : State :=
  match p.loc with
  | .rxFifo => s.dropPkt p.id
  | .cutting =>
    let s1 := s.emit (.stomp p.portNode)
    let s2 := if p.portNode < 16 then s1.bump (Obj.NET_TX_STOMPED + p.portNode)
      else s1.bump (Obj.WV_TX_STOMPED + (p.portNode - 16))
    s2.dropPkt p.id
  | .front | .spill | .carve =>
    let s1 := s.noteLeave p
    if p.kind == .relay then s1.dropPkt p.id else s1.dropPipe p Obj.PIPE_DROP_RX_BAD
  | _ => if p.kind == .relay then s.dropPkt p.id else s.dropPipe p Obj.PIPE_DROP_RX_BAD

/-- A packet's frame is still being received. Mirror copies of a frame that fails go on unaffected: R138 undoes nothing else.
DESIGN CHOICE (log entry 68). -/
def State.receiving (s : State) (id : Nat) : Bool :=
  match s.pkt? id with
  | some p => p.srcKind ≤ 1 && p.kind != .mirror && !p.lenKnown && s.clock ≤ p.rxEnd
  | none => false

/-- CUT_THROUGH_FRAME_BAD: the frame of packet id ends with a receive error, `tooLong` where it passes the port's largest
frame (R138, R483). -/
def execCutThroughFrameBad (dt id : Nat) (tooLong : Bool) (s : State) : Out :=
  cmd dt s (fun t => t.traffic && t.receiving id) fun t =>
    match t.pkt? id with
    | none => t
    | some p =>
      let t1 := if p.srcKind == 1 then t.bump (Obj.WV_RX_FCS_ERR + p.srcId)
        else if tooLong then t.bump (Obj.NET_RX_TOO_LONG + p.srcId) else t.bump (Obj.NET_RX_FCS_ERR + p.srcId)
      t1.failFrame p

/-! ### Link state (R46, R211) -/

/-- Lanes of network port n in the mode in effect, or the one lane of the rescue port (R44, R427). -/
def State.netLanes (s : State) (n : Nat) : List Nat :=
  if s.mode.mode == .vigil then [n] else (List.range (s.netRate n / 200)).map fun i => n + i

/-- A block of port n is held out: its MAC or one of its lanes (R467). -/
def State.netHeld (s : State) (n : Nat) : Bool :=
  s.flt.held.any fun h => h.1 == 65536 + 2 * 256 + n || (s.netLanes n).any fun l => h.1 == 65536 + 256 + l

/-- A port may come up: present, enabled, not held out, and in VIGIL only the rescue port (R44, R427, R467). -/
def State.netMayRise (s : State) (n : Nat) : Bool :=
  decide (n < 16) && s.alive && s.mode.mode != .dormant && !s.netHeld n
    && (if s.mode.mode == .vigil then n == s.cfg Obj.RESCUE_PORT_EFFECTIVE
        else s.netPresent n && s.cfg (Obj.NET_PORT_ENABLE + n) == 1)

/-- Mode code of port n (Table 01-16); the rescue port runs as 200GbE (R427). -/
def State.netMode (s : State) (n : Nat) : Nat := if s.mode.mode == .vigil then 3 else s.cfg (Obj.NET_PORT_MODE + n / 8)

/-- The port runs Clause 73 auto-negotiation; the rescue port does not (R46, R427). -/
def State.netAn (s : State) (n : Nat) : Bool := s.mode.mode != .vigil && s.cfg (Obj.NET_PORT_AN + n) == 1

/-- A link comes up with a partner that offers the port's mode among `techs` (mode codes; the one it is set to, without
auto-negotiation) and auto-negotiates where the port does (R46; PRESUMED, log entry 70). -/
def State.partnerFits (s : State) (n : Nat) (an : Bool) (techs : List Nat) : Bool := an == s.netAn n && techs.contains (s.netMode n)

/-- NET_LINK_UP: training with a partner ends; `an`: it auto-negotiates; `techs`: what it offers; `lpi`: it agrees to Low Power
Idle. A partner that does not fit leaves the link down (R46). -/
def execNetLinkUp (dt n : Nat) (an : Bool) (techs : List Nat) (lpi : Bool) (s : State) : Out :=
  cmd dt s (fun t => t.netMayRise n && t.cfg (Obj.NET_LINK_STATE + n) != 4) fun t =>
    if t.partnerFits n an techs then
      (({ t with pwr := { t.pwr with lpi := setFld t.pwr.lpi n 1 (b2n lpi) } }).latch (Obj.NET_LINK_STATE + n) 4)
    else t.latch (Obj.NET_LINK_STATE + n) 2

/-- Link state of a network port that is not up: absent, disabled, training where it may come up, else down (R45, R46). -/
def State.netIdle (s : State) (n : Nat) : Nat :=
  if !s.netPresent n then 0 else if s.cfg (Obj.NET_PORT_ENABLE + n) == 0 then 1 else if s.netMayRise n then 3 else 2

/-- Nn uses Low Power Idle: its partner agrees and `NET_PORT_LPI` is 1 (R46, R438). -/
def State.usesLpi (s : State) (n : Nat) : Bool := bit s.pwr.lpi n && s.cfg (Obj.NET_PORT_LPI + n) == 1

/-- Port Nn leaves up for a link state (0 absent, 1 disabled, 2 down, 3 training): counted, and its packets are discarded
(R46, R211). -/
def State.netFall (s : State) (n lst : Nat) : State :=
  if s.cfg (Obj.NET_LINK_STATE + n) == 4 then
    ((s.latch (Obj.NET_LINK_STATE + n) lst).bump (Obj.NET_LINK_DOWNS + n)).discardPort n
  else s.latch (Obj.NET_LINK_STATE + n) lst

/-- NET_LINK_DOWN: the link is lost. -/
def execNetLinkDown (dt n : Nat) (s : State) : Out :=
  cmd dt s (fun t => t.alive && decide (n < 16) && t.cfg (Obj.NET_LINK_STATE + n) == 4) fun t => t.netFall n 2

end Sys2Proof.Machine
end

