-- ==== Sys2Proof/Machine/Schedule.lean ====
section
/-!
DEFINITION. From the traffic manager to the wire: admission, the bridge, fetches from the carve-out, scheduling decisions
with their egress pass, and the periodic checks of age and waiting time (spec/02 R70, spec/04 R130, spec/07 R203 to R224,
spec/08 R245, spec/09 R272 and R276, spec/10 R290).
-/

namespace Sys2Proof.Machine

/-! ### Arrival at the traffic manager -/

/-- A packet waits to be tested for admission, at the traffic manager of a region. -/
def Pkt.atManager (p : Pkt) : Option Nat :=
  match p.loc with
  | .atTm => some p.region
  | .crossed => some (p.eqid / 65536)
  | _ => none

/-- Place of a packet in the order of R206, lower first: the instant at which it reached the traffic manager (a relayed frame as
from pipeline 0); then pipelines in ascending number, the bridge, mirror copies. -/
def Pkt.tmOrder (p : Pkt) : Nat :=
  p.enqAt * 8 + (if p.loc == .crossed then 4 else if p.kind == .mirror then 5 else p.pipe % 4)

/-- The packet goes first of those that wait for its queue at its traffic manager (R206). -/
def State.firstThere (s : State) (p : Pkt) : Bool :=
  let there := s.pkts.filter fun q => q.atManager.isSome && q.atManager == p.atManager && q.eqid == p.eqid
  let lo := minD 0 (there.map Pkt.tmOrder)
  (there.find? fun q => q.tmOrder == lo).map (fun q => q.id) == some p.id

/-- The packet may be tested for admission. -/
def State.mayAdmit (s : State) (id : Nat) : Bool :=
  match s.pkt? id with
  | some p => p.atManager.isSome && s.firstThere p
  | none => false

/-- TM_ADMISSION of packet id (R205 to R208); `saturated`: so is the write path of the carve-out (R203). Packets that waited
for that path are written at the region's next admission without it (log entry 70). -/
def execTmAdmission (dt id : Nat) (saturated : Bool) (s : State) : Out :=
  work dt s (fun t => t.traffic && t.mayAdmit id) fun t =>
    match t.pkt? id with
    | none => t
    | some p => (if p.loc == .crossed then t.admitPkt p saturated else t.arriveTm p saturated).retestQueue p.eqid

/-- BRIDGE_CROSSING: the packet that has waited longest for bridge credit in a region crosses (R25, R207). -/
def execBridgeCrossing (dt region : Nat) (s : State) : Out :=
  work dt s (fun t => t.traffic && t.mode.fenced.isNone && (t.pkts.any fun p => p.loc == .bridge && p.region == region))
    fun t => match t.pkts.find? fun p => p.loc == .bridge && p.region == region with
      | none => t
      | some p => t.requeue { p with loc := .crossed, enqAt := t.clock }

/-- The head of a queue lies outside the front buffer, and that has room for it. -/
def State.mayFetch (s : State) (eqid : Nat) : Bool :=
  match s.queue eqid with
  | p :: _ => p.loc == .spill || (p.loc == .carve && s.frontUsed (eqid / 65536) + s.cells p ≤ frontCells)
  | [] => false

/-- CARVE_OUT_FETCH of the head of a queue; `bad`: a cell is uncorrectable (R203). A head whose write still waits is in the
front buffer already. -/
def execCarveOutFetch (dt eqid : Nat) (bad : Bool) (s : State) : Out :=
  work dt s (fun t => t.traffic && t.mayFetch eqid) fun t =>
    match t.queue eqid with
    | [] => t
    | p :: _ =>
      let t1 := if bad && p.loc == .carve then
          (t.dropQueued p Obj.TM_DROP_BUF_ECC).logCell (ErrInfo.mk' 0 (2 + eqid / 65536) 0x17 0 0x02 8)
        else t.setPkt { p with loc := .front }
      t1.retestQueue eqid

/-! ### To the wire (R136, R214, R245, R258) -/

/-- The wire of a port node is occupied by n bytes more (R214). -/
def State.occupy (s : State) (region pn n : Nat) : State :=
  let k := region * 32 + pn
  let from_ := Nat.max (s.clock * wireUnits) (lookupD s.tm.busy k 0)
  { s with tm := { s.tm with busy := assoc s.tm.busy k (from_ + n * 8 * wireUnits / s.portRate pn) } }

/-- Bytes on the wire of a frame of n bytes without FCS, of which h are a Weave header. -/
def wireBytes (n : Nat) : Nat := Nat.max (n + 4) 64 + 20

/-- A frame in transmission stays, so that it can still be ended, until it has been received whole (R138). -/
def State.leave (s : State) (p : Pkt) : State :=
  if !p.lenKnown && s.clock ≤ p.rxEnd then s.requeue { p with loc := .cutting } else s.dropPkt p.id

/-- A gated port's merge refuses a frame longer than its gate length (R245). -/
def State.overrun (s : State) (p : Pkt) (n : Nat) : Bool := (s.gateOf p.portNode).enable && wireBytes n > p.gateLen

/-- A frame for a Weave link, its header in front (R259, R260). A packet that names only a queue gives no destination: it is
a free value (log entry 13). -/
def State.weaveFrame (s : State) (p : Pkt) (bytes : Bytes) : Bytes × State :=
  if p.kind == .relay then (s.stampFrame 110 (relayFrame bytes), s)
  else
    let cls := s.wv.cal.classOf (mdTc p.md)
    let d := if p.kind == .data && mdFwdKind p.md == 2 then (p.dest, s) else s.fresh 10
    (d.2.stampFrame 168 (d.2.formFrame 0 cls d.1 (mdHash p.md % 65536) (mdTc p.md) bytes), d.2)

/-- The packet, its bytes as the deparser and the cipher engine left them, leaves by its port node. -/
def State.toWire (s : State) (p : Pkt) : State :=
  let region := p.eqid / 65536
  if p.portNode < 16 then
    if s.overrun p p.len then (s.bump (Obj.GATE_DROP_OVERRUN + p.portNode)).dropPkt p.id
    else ((s.emit (.net p.portNode (p.bytes ++ List.replicate (60 - p.len) 0))).occupy region p.portNode
      (wireBytes p.len)).leave p
  else if p.portNode < 24 then
    let n := if p.kind == .relay then p.len else p.len + 16
    if s.overrun p n then (s.bump (Obj.GATE_DROP_OVERRUN + p.portNode)).dropPkt p.id
    else
      let f := s.weaveFrame p p.bytes
      ((f.2.emitWeave (p.portNode - 16) f.1).occupy region p.portNode (wireBytes n)).leave p
  else match s.fnAt p p.portNode with
    | some f => s.requeue { p with loc := .staged, dest := f }
    | none => (s.bump (Obj.HST_DROP_NO_RXQ + (p.portNode - 24))).dropPkt p.id

/-! ### The egress pass (R110, R130) -/

/-- Resolution at the end of the egress stages (R130). A packet discarded as oversize makes no copy and no sample. DESIGN CHOICE
(log entry 68). -/
def State.endEgress (s : State) (v : Ver) (img : PipeImage) (p : Pkt) (late : Bool) : State :=
  if mdDrop p.md then s.dropPipe p Obj.PIPE_DROP_ACTION
  else if late then s.dropPipe p Obj.PIPE_DROP_LOOKUP_LATE
  else
    let q := p.deparsed img
    if q.len > 16383 then s.dropPipe p Obj.PIPE_DROP_OVERSIZE
    else
      let s1 :=
        if mdCipherEn q.md then s.toCipher q (if mdPassReq q.md then .recirc else .egress)
        else if mdPassReq q.md then
          (if mdPass q.md == 3 then s.dropPipe q Obj.PIPE_DROP_PASS_LIMIT
           else s.toRecirc { q with md := mdSet q.md 448 64 0 })
        else s.toWire q
      (s1.mirrors v q q.bytes).sample q q.bytes true

/-- Egress stages and deparser of a dequeued packet; a mirror copy and a relayed frame skip them (R135, R276). -/
def State.egress (s : State) (p : Pkt) (look : Look) : State :=
  let v := s.pktVer p
  match p.kind, v.pipe with
  | .data, some img =>
    let q := { p with hv := carriedHv img p.hv, pipe := p.eqid / 65536 * 4 + p.eqid % 4 }
    let s1 := s.corrupt q.region look.soft
    let c := runHalf (s1.stageEnv v img q look) true (s1.stageStart q)
    let q1 := { q with hv := c.hv, md := c.md }
    ((s1.setPkt q1).afterHalf q c).endEgress v img q1 c.farLate
  | _, _ => s.toWire p

/-! ### SCHEDULING_DECISION -/

/-- The first frame of a link's control queue, and the queue without it. -/
def takeFirst (l : Nat) : List LinkFrame → Option (Bytes × List LinkFrame)
  | [] => none
  | x :: t => if x.link == l then some (x.bytes, t) else (takeFirst l t).map fun r => (r.1, x :: r.2)

/-- A frame of a queue outside the tree goes out on a link. -/
def State.sendFrame (s : State) (region l : Nat) (f : Bytes) : State :=
  (s.emitWeave l (s.stampFrame (frameLead f) f)).occupy region (16 + l) (wireBytes f.length)

/-- A frame from the control or shuttle queue of a link, where one may go (R263, R272). -/
def State.sendQueued (s : State) (region l : Nat) : Option State :=
  if !s.portReady region (16 + l) then none
  else match takeFirst l s.wv.ctlQ with
    | some (f, rest) => some ({ s with wv := { s.wv with ctlQ := rest } }.sendFrame region l f)
    | none =>
      match takeFirst l s.wv.shuttleQ with
      | some (f, rest) =>
        let w := s.now + frameLead f
        if s.wv.cal.admits (s.wv.cal.winNow w) 1 && !s.outOfStep
            && fitsIn (s.gateLen (16 + l) (f.length - 16)) 200 (s.calOpenFor 1 w) then
          some ({ s with wv := { s.wv with shuttleQ := rest } }.sendFrame region l f)
        else none
      | none => none

/-- What a decision of the tree dequeued goes on its way. -/
def State.dequeue (s : State) (region pn : Nat) (p : Pkt) (picks : List Pick) (cut : Bool) (look : Look) : State :=
  let q := { p with portNode := pn, gateLen := s.gateLen pn p.tmLen }
  let s1 := (s.noteLeave p).dropPkt p.id
  let s2 := (s1.settle region pn p.tmLen picks).served region p.eqid p.tmLen
  let s3 := if cut then s2.bump (Obj.TM_CUT_THROUGH + region) else s2
  -- the packet is inside the egress half from here on
  ({ s3 with pkts := s3.pkts ++ [q] }).egress q look

/-- SCHEDULING_DECISION at port node pn of a region; `look`: what happens to the lookups of the egress stages
(R219, R121, R185). -/
def execSchedulingDecision (dt region pn : Nat) (look : Look) (s : State) : Out :=
  cmd dt s (fun t => t.traffic && decide (region < 2) && decide (pn < 27) && t.mode.fenced != some region) fun t0 =>
    let t := (t0.reap.sendAgain).retest region pn
    match (if 16 ≤ pn && pn < 24 then t.sendQueued region (pn - 16) else none) with
    | some t1 => t1
    | none =>
      let r := t.decide_ region pn
      match r.1 with
      | some (p, picks, cut) => (r.2.stir.dequeue region pn p picks cut look).retest region pn
      | none => r.2

/-! ### Periodic checks -/

/-- OVERDUE_CHECK: leaves that have waited beyond their limit are promoted (R221). -/
def execOverdueCheck (dt region : Nat) (s : State) : Out :=
  cmd dt s (fun t => t.traffic && decide (region < 2)) fun t0 =>
    let t := (List.range 27).foldl (fun a pn => a.refreshWait region pn) t0
    t.tm.wait.foldl (fun a w =>
      let limit := a.cfg (Obj.TM_OVERDUE_US + region) (leafNode (w.1 % 65536)) * 1000
      if w.1 / 65536 == region && (lookup? a.tm.promo w.1).isNone && limit < a.clock - w.2 then
        let c := a.censOf w.1
        let a1 := ({ a with tm := { a.tm with promo := assoc a.tm.promo w.1 (a.clock, 0) } }).setCens w.1
          { c with overdue := c.overdue + 1 }
        (a1.bump (Obj.TM_OVERDUE + region)).latch (Obj.TM_OVERDUE_LAST + region) w.1
      else a) t

/-- A packet's age is above TM_MAX_AGE (R70). -/
def State.tooOld (s : State) (p : Pkt) : Bool := p.stampAt + s.cfg Obj.TM_MAX_AGE * 1000000 < s.clock

/-- The age drop of one packet where it waits (R70, R192). -/
def State.ageDrop (s : State) (p : Pkt) : State :=
  match p.loc with
  | .front | .spill | .carve => s.dropQueued p Obj.TM_DROP_MAX_AGE
  | .bridge | .meter | .atTm | .crossed => (s.bump (Obj.TM_DROP_MAX_AGE + p.region)).dropPkt p.id
  | .recirc | .divert | .lane _ _ => s.dropPipe p Obj.PIPE_DROP_MAX_AGE
  | _ => s

/-- A relayed frame in a queue of the link layer is older than TM_MAX_AGE (R276). -/
def State.oldFrame (s : State) (f : LinkFrame) : Bool := f.at_.any fun a => decide (a + s.cfg Obj.TM_MAX_AGE * 1000000 < s.clock)

/-- Relayed frames that are too old leave the control and shuttle queues, counted in their link's region (R276). -/
def State.ageFrames (s : State) : State :=
  let old := (s.wv.ctlQ ++ s.wv.shuttleQ).filter fun f => s.oldFrame f
  let s1 : State := { s with wv := { s.wv with
    ctlQ := s.wv.ctlQ.filter (fun f => !s.oldFrame f), shuttleQ := s.wv.shuttleQ.filter (fun f => !s.oldFrame f) } }
  old.foldl (fun a f => a.bump (Obj.TM_DROP_MAX_AGE + a.wvRegion a.curVer f.link)) s1

/-- MAX_AGE_CHECK of every waiting point. -/
def execMaxAgeCheck (dt : Nat) (s : State) : Out :=
  cmd dt s (fun t => t.traffic) fun t =>
    let t1 := ((t.pkts.filter fun p => t.tooOld p).foldl (fun a p => a.ageDrop p) t).ageFrames
    (List.range 27).foldl (fun a pn => a.retestPort pn) t1

/-- STAGE_AGE_CHECK of the receive staging of HST (R290). -/
def execStageAgeCheck (dt : Nat) (s : State) : Out :=
  cmd dt s (fun t => t.traffic) fun t =>
    (t.pkts.filter fun p => p.loc == .staged && !coreFid p.dest && t.tooOld p).foldl (fun a p =>
      (a.bump (Obj.HST_DROP_STAGE_AGE + fidPort p.dest)).dropPkt p.id) t

end Sys2Proof.Machine
end

