-- ==== Sys2Proof/Machine/Cipher.lean ====
section
/-!
DEFINITION. Key slots, working keys, security associations and the inline cipher engines (spec/12_cipher_storage.md R357 to
R374). An inline operation's outcome is known when it begins; its packet goes on when the operation has ended.
-/

namespace Sys2Proof.Machine

/-! ### Working keys (R360 to R365) -/

/-- What a slot gives an operation. -/
inductive KeyRes where
  | key (k : Bytes) (s : State)
  | empty
  | revoking
  /-- a DIRECT slot of another algorithm, or a label given with it (R360) -/
  | bad

def State.slot? (s : State) (n : Nat) : Option Slot := lookup? s.cry.slots n

def State.setCry (s : State) (c : Crypt) : State := { s with cry := c }

/-- A DIRECT slot serves its own algorithm with no label (R360). -/
def Slot.fits (x : Slot) (alg : Nat) (label : Bytes) : Bool := !x.direct || (x.alg == alg && label.isEmpty)

/-- Derived keys that a domain holds (R364). -/
def kdfCap (d : Nat) : Nat := if d == 2 then 32768 else 49152

/-- A derived key is looked up in a domain, and made where it is not there (R364). -/
def State.useKdf (s : State) (d : Nat) (k : KdfKey) : State :=
  let l := lookupD s.cry.kdf d []
  let s1 := s.setCry { s.cry with kdf := assoc s.cry.kdf d ((k :: l.filter fun x => x != k).take (kdfCap d)) }
  if l.contains k then s1 else s1.bump (Obj.CIPH_KDF_MISSES + d)

/-- The working key of an operation in a domain (R360, R363, R365). -/
def State.workKey (s : State) (d n alg : Nat) (label : Bytes) : KeyRes :=
  match s.slot? n with
  | none => .empty
  | some x =>
    if x.revoking then .revoking
    else if !x.fits alg label then .bad
    else if x.direct then .key x.key s
    else
      let k := bytesOf (kdf (natsOf x.key) (natsOf label) n alg (algBits alg))
      .key k (s.useKdf d { slot := n, gen := x.gen, alg := alg, label := label })

/-! ### Security associations (Table 12-5) -/

def saW0 (e : Bytes) : Nat := leWord e 0
def saValid (e : Bytes) : Bool := bit (saW0 e) 0
def saFraming (e : Bytes) : Nat := fld (saW0 e) 1 2
def saIn (e : Bytes) : Bool := bit (saW0 e) 3
def saAlg (e : Bytes) : Nat := fld (saW0 e) 4 4
def saRegion (e : Bytes) : Nat := fld (saW0 e) 8 1
def saEsn (e : Bytes) : Bool := bit (saW0 e) 9
def saSlot (e : Bytes) : Nat := fld (saW0 e) 10 13
def saSciEn (e : Bytes) : Bool := bit (saW0 e) 23
def saLabel (e : Bytes) : Bytes := slice e 64 (fld (saW0 e) 24 7)
def saWindow (e : Bytes) : Nat := fld (saW0 e) 32 13
def saAn (e : Bytes) : Nat := fld (saW0 e) 45 2
def saSpi (e : Bytes) : Nat := fld (leWord e 1) 0 32
def saSalt (e : Bytes) : Bytes := slice e 16 16
def saSci (e : Bytes) : Nat := leWord e 4
def saLenOff (e : Bytes) (i : Nat) : Nat := fld (leWord e 5) (10 * i) 10
def saIp4Off (e : Bytes) : Nat := fld (leWord e 5) 20 10
/-- Integrity only: AES-GMAC. -/
def saMacOnly (e : Bytes) : Bool := saAlg e == 3 || saAlg e == 4

/-- Last number of the sequence space (R372). -/
def saLast (e : Bytes) : Nat := if saEsn e then 2 ^ 64 - 1 else 2 ^ 32 - 1

/-- Three quarters of the space (R372). -/
def saSoftAt (e : Bytes) : Nat := if saEsn e then 3 * 2 ^ 62 else 3 * 2 ^ 30

/-- The number that a packet's low 32 bits stand for, by the highest accepted one and the window (RFC 4303 A2.2; log entry
21); none where it would lie before the first. -/
def Sa.recover (x : Sa) (low : Nat) : Option Nat :=
  if !saEsn x.ent then some low
  else
    let w := saWindow x.ent
    let tl := x.seq % 2 ^ 32
    let th := x.seq / 2 ^ 32
    if w - 1 ≤ tl then some (if tl + 1 - w ≤ low then th * 2 ^ 32 + low else (th + 1) * 2 ^ 32 + low)
    else if (tl + 2 ^ 32 + 1 - w) % 2 ^ 32 ≤ low then (if th == 0 then none else some ((th - 1) * 2 ^ 32 + low))
    else some (th * 2 ^ 32 + low)

/-- An inbound number is neither older than the window nor already seen (R372). -/
def Sa.fresh (x : Sa) (n : Nat) : Bool :=
  n != 0 && n ≤ saLast x.ent && (x.seq < n || (x.seq - n < saWindow x.ent && !bit x.map (x.seq - n)))

/-- Largest replay window (Table 12-5). -/
def maxWindow : Nat := 4096

/-- The replay state after a number has been verified. -/
def Sa.accept (x : Sa) (n : Nat) : Sa :=
  if x.seq < n then
    { x with seq := n, map := if maxWindow ≤ n - x.seq then 1 else (x.map * 2 ^ (n - x.seq) + 1) % 2 ^ maxWindow }
  else { x with map := setFld x.map (x.seq - n) 1 1 }

def State.setSa (s : State) (i : Nat) (x : Sa) : State := s.setCry { s.cry with sas := assoc s.cry.sas i x }

/-- The SA after its sequence has moved: soft expiry is counted and told once (R372). -/
def State.saMoved (s : State) (region i : Nat) (x : Sa) : State :=
  if !x.soft && saSoftAt x.ent < x.seq then
    ((s.setSa i { x with soft := true }).bump (Obj.CIPH_SA_SOFT + region)).raise 0x0061 6 0 (toBe 4 i)
  else s.setSa i x

/-- The SAs of a region resume from their checkpoints in the survivor (R373). -/
def Sa.fromCheckpoint (x : Sa) : Sa :=
  if saIn x.ent then { x with seq := x.ckSeq, map := x.ckMap, moved := false }
  else { x with seq := x.ckSeq + 2 ^ 20, moved := false }

def State.saFence (s : State) (region : Nat) : State :=
  s.setCry { s.cry with sas := s.cry.sas.map fun p => if saRegion p.2.ent == region then (p.1, p.2.fromCheckpoint) else p }

/-- The region is back: its SAs go on with no jump (R373). -/
def State.saReturn (s : State) (region : Nat) : State :=
  let back := fun (p : Nat × Sa) => if saRegion p.2.ent == region then (p.1, { p.2 with moved := false }) else p
  s.setCry { s.cry with sas := s.cry.sas.map back }

/-- SA_CHECKPOINT (R373). -/
def execSaCheckpoint (dt : Nat) (s : State) : Out :=
  cmd dt s (fun t => t.alive && t.cry.ckAt + 100000 ≤ t.clock) fun t =>
    t.setCry { t.cry with ckAt := t.clock,
                          sas := t.cry.sas.map fun p => (p.1, { p.2 with ckSeq := p.2.seq, ckMap := p.2.map }) }

/-! ### Framing (Table 12-6) -/

/-- A 16-bit length field moved by a size change; none where it lies outside. -/
def moveLen (off : Nat) (delta : Int) (bs : Bytes) : Option Bytes :=
  if off == 0x3FF then some bs
  else if bs.length < off + 2 then none
  else some (splice bs off (toBe 2 (((beNat (slice bs off 2) : Int) + delta) % 65536).toNat))

/-- The checksum of an IPv4 header recomputed; none where the header lies outside. -/
def fixIp4 (off : Nat) (bs : Bytes) : Option Bytes :=
  if off == 0x3FF then some bs
  else
    let n := ((bs.getD off 0).toNat % 16) * 4
    if n < 20 || bs.length < off + n then none
    else some (splice bs off (ipv4Fixed (slice bs off n)))

/-- The fixes an SA names, on bytes counted from the first that the deparser emits. -/
def saFix (e : Bytes) (delta : Int) (bs : Bytes) : Option Bytes :=
  ((moveLen (saLenOff e 0) delta bs).bind (moveLen (saLenOff e 1) delta)).bind (fixIp4 (saIp4Off e))

/-- Ciphertext and tag of an AEAD or of GMAC, for which the data stands in the AAD. -/
def sealWith (alg : Nat) (key nonce aad macAad data : Bytes) : Bytes × Bytes :=
  if alg == 3 || alg == 4 then (data, bytesOf (gcmTag (roundKeys (natsOf key)) (natsOf nonce) (natsOf (macAad ++ data)) []))
  else
    let r := aeadSeal alg (natsOf key) (natsOf nonce) (natsOf aad) (natsOf data)
    (bytesOf r.1, bytesOf r.2)

/-- Plaintext, and whether the tag holds. -/
def openWith (alg : Nat) (key nonce aad macAad c tag : Bytes) : Bytes × Bool :=
  if alg == 3 || alg == 4 then
    (c, bytesOf (gcmTag (roundKeys (natsOf key)) (natsOf nonce) (natsOf (macAad ++ c)) []) == tag)
  else
    let r := aeadOpen alg (natsOf key) (natsOf nonce) (natsOf aad) (natsOf c) (natsOf tag)
    (bytesOf r.1, r.2)

/-- What an engine makes of a packet: a counter to drop it under, or its bytes, the place of a scan in them, its next header
where one was read, and its number. -/
inductive Framed where
  | drop (ctr : Nat)
  | ok (bytes : Bytes) (scanFrom : Nat) (next : Option Nat) (seq : Nat)
  deriving DecidableEq, Repr

/-- AAD of ESP (RFC 4106, RFC 7634): SPI and sequence number. -/
def espAad (e : Bytes) (seq : Nat) : Bytes := toBe 4 (saSpi e) ++ (if saEsn e then toBe 8 seq else toBe 4 seq)

/-- ESP outbound with number seq; h bytes of headers, the last 8 the ESP header. -/
def espOut (e key bs : Bytes) (h next seq : Nat) : Framed :=
  if h < 8 || bs.length < h then .drop Obj.CIPH_DROP_FORMAT
  else
    let data := bs.drop h
    let pad := (4 - (data.length + 2) % 4) % 4
    let plain := data ++ (List.range pad).map (fun i => BitVec.ofNat 8 (i + 1)) ++ toBe 1 pad ++ toBe 1 next
    let iv := toBe 8 seq
    match saFix e ((26 + pad : Nat) : Int) (bs.take (h - 8)) with
    | none => .drop Obj.CIPH_DROP_FORMAT
    | some front =>
      let r := sealWith (saAlg e) key ((saSalt e).take 4 ++ iv) (espAad e seq) (espAad e seq ++ iv) plain
      .ok (front ++ toBe 4 (saSpi e) ++ toBe 4 (seq % 2 ^ 32) ++ iv ++ r.1 ++ r.2) h none seq

/-- ESP inbound. -/
def espIn (x : Sa) (key bs : Bytes) (h : Nat) : Framed :=
  let e := x.ent
  let rest := bs.drop h
  let n := rest.length - 24
  if h < 8 || rest.length < 28 || n % 4 != 0 || beNat (slice bs (h - 8) 4) != saSpi e then .drop Obj.CIPH_DROP_FORMAT
  else match x.recover (beNat (slice bs (h - 4) 4)) with
    | none => .drop Obj.CIPH_DROP_REPLAY
    | some seq =>
      if !x.fresh seq then .drop Obj.CIPH_DROP_REPLAY
      else
        let iv := rest.take 8
        let r := openWith (saAlg e) key ((saSalt e).take 4 ++ iv) (espAad e seq) (espAad e seq ++ iv) (slice rest 8 n)
          (rest.drop (8 + n))
        let pad := (r.1.getD (n - 2) 0).toNat
        if !r.2 then .drop Obj.CIPH_DROP_AUTH
        else if n < pad + 2 then .drop Obj.CIPH_DROP_FORMAT
        else match saFix e (-((34 + pad : Nat) : Int)) (bs.take (h - 8)) with
          | none => .drop Obj.CIPH_DROP_FORMAT
          | some front => .ok (front ++ r.1.take (n - 2 - pad)) (h - 8) (some (r.1.getD (n - 1) 0).toNat) seq

/-- MACsec nonce: SCI and PN, or with XPN the SSCI and the 64-bit PN under the salt. -/
def macsecNonce (e : Bytes) (pn : Nat) : Bytes :=
  if saEsn e then bytesOf (xorL (natsOf (toBe 4 (saSpi e) ++ toBe 8 pn)) (natsOf ((saSalt e).take 12)))
  else toBe 8 (saSci e) ++ toBe 4 pn

/-- MACsec outbound (IEEE 802.1AE). -/
def macsecOut (e key bs : Bytes) (h seq : Nat) : Framed :=
  let tagLen := if saSciEn e then 16 else 8
  if bs.length < 12 then .drop Obj.CIPH_DROP_FORMAT
  else match saFix e ((tagLen + 16 : Nat) : Int) bs with
    | none => .drop Obj.CIPH_DROP_FORMAT
    | some bs1 =>
      let data := bs1.drop 12
      let tci := (if saSciEn e then 0x20 else 0) + (if saMacOnly e then 0 else 0x0C) + saAn e
      let sl := if data.length < 48 then data.length else 0
      let front := bs1.take 12 ++ toBe 2 0x88E5 ++ toBe 1 tci ++ toBe 1 sl ++ toBe 4 (seq % 2 ^ 32)
        ++ (if saSciEn e then toBe 8 (saSci e) else [])
      let r := sealWith (saAlg e) key (macsecNonce e seq) front front data
      .ok (front ++ r.1 ++ r.2) (h + tagLen) none seq

/-- MACsec inbound: a tag with ES or SCB set, of another version, of another kind of protection or of another SCI is
malformed; a short length must fit. -/
def macsecIn (x : Sa) (key bs : Bytes) (h : Nat) : Framed :=
  let e := x.ent
  let tci := (bs.getD 14 0).toNat
  let sc := bit tci 5
  let tagLen := if sc then 16 else 8
  let sl := (bs.getD 15 0).toNat
  let rest := bs.drop (12 + tagLen)
  let n := if sl == 0 then rest.length - 16 else sl
  if beNat (slice bs 12 2) != 0x88E5 || bit tci 7 || bit tci 6 || bit tci 4 || sc != saSciEn e
      || fld tci 2 2 != (if saMacOnly e then 0 else 3) || 48 ≤ sl || (sl == 0 && n < 48) || rest.length < n + 16
      || (sc && beNat (slice bs 20 8) != saSci e) then .drop Obj.CIPH_DROP_FORMAT
  else match x.recover (beNat (slice bs 16 4)) with
    | none => .drop Obj.CIPH_DROP_REPLAY
    | some seq =>
      if !x.fresh seq then .drop Obj.CIPH_DROP_REPLAY
      else
        let front := bs.take (12 + tagLen)
        let r := openWith (saAlg e) key (macsecNonce e seq) front front (rest.take n) (slice rest n 16)
        if !r.2 then .drop Obj.CIPH_DROP_AUTH
        else match saFix e (-((tagLen + 16 : Nat) : Int)) (front ++ r.1) with
          | none => .drop Obj.CIPH_DROP_FORMAT
          | some out => .ok (out.take 12 ++ out.drop (12 + tagLen)) (h - tagLen) none seq

/-! ### Inline operations (R374) -/

/-- SAs that a region's cache holds (R359). -/
def saCacheSize : Nat := 32768

/-- An SA is used in a region: its cache holds it now, the one used longest ago leaving where it is full (log entry 79). -/
def State.useSa (s : State) (region i : Nat) : State :=
  let l := lookupD s.cry.saCache region []
  s.setCry { s.cry with saCache := assoc s.cry.saCache region ((i :: l.filter fun x => x != i).take saCacheSize) }

/-- What follows the engine. -/
def State.afterCipher (s : State) (p : Pkt) : State :=
  match p.after with
  | .egress => s.toWire p
  | .divert => s.toDivert p
  | .recirc =>
    if mdPass p.md == 3 then s.dropPipe p Obj.PIPE_DROP_PASS_LIMIT
    else s.toRecirc { p with md := mdSet p.md 448 64 0 }

/-- A drop in an engine. -/
def State.dropCipher (s : State) (p : Pkt) (ctr : Nat) : State := (s.bump (ctr + p.region)).dropPkt p.id

/-- The framing of a packet under its SA with its key. -/
def Sa.frame (x : Sa) (key : Bytes) (p : Pkt) : Framed :=
  let next := fld (mdGet p.md 960 64) 24 8
  match saFraming x.ent, saIn x.ent with
  | 0, false => espOut x.ent key p.bytes p.scanFrom next x.seq
  | 0, true => espIn x key p.bytes p.scanFrom
  | _, false => macsecOut x.ent key p.bytes p.scanFrom x.seq
  | _, true => macsecIn x key p.bytes p.scanFrom

/-- The packet has been processed: SA, counter, and the packet, which leaves at `readyAt`. -/
def State.cipherDone (s : State) (p : Pkt) (i : Nat) (x : Sa) (bytes : Bytes) (scanFrom : Nat) (next : Option Nat)
    (seq : Nat) : State :=
  let y := if saIn x.ent then x.accept seq else { x with seq := seq + 1 }
  let y := { y with exhausted := y.exhausted || saLast y.ent < y.seq }
  let md := match next with
    | some n => mdSet p.md (960 + 24) 8 n
    | none => p.md
  ((s.saMoved p.region i y).bump (Obj.CIPH_OPS + p.region)).setPkt
    { p with loc := .ciphered, bytes := bytes, scanFrom := scanFrom, md := md }

/-- An operation whose key is known, by the outcomes of Table 12-7. -/
def State.cipherRun (s : State) (p : Pkt) (i : Nat) (x : Sa) (key : Bytes) : State :=
  if (mdCipherDir p.md == 1) != saIn x.ent then s.dropCipher p Obj.CIPH_DROP_FORMAT
  else match x.frame key p with
    | .drop ctr => s.dropCipher p ctr
    | .ok bytes from_ next seq =>
      if !saIn x.ent && saLast x.ent < seq then s.dropCipher p Obj.CIPH_DROP_SEQ
      else if 16383 < bytes.length then s.dropCipher p Obj.CIPH_DROP_LENGTH
      else s.cipherDone p i x bytes from_ next seq

/-- The operation of a packet (R373, R374). -/
def State.cipherOp (s : State) (p : Pkt) : State :=
  let i := mdCipherSa p.md
  match lookup? s.cry.sas i with
  | none => s.dropCipher p Obj.CIPH_DROP_SA_INVALID
  | some x =>
    let away := saRegion x.ent != p.region
    if !saValid x.ent then s.dropCipher p Obj.CIPH_DROP_SA_INVALID
    else if away && s.mode.fenced != some (saRegion x.ent) then s.dropCipher p Obj.CIPH_DROP_SA_REGION
    else
      let first := away && !x.moved
      let y := { x with moved := x.moved || away }
      let s1 := if first then (s.setSa i y).bump (Obj.CIPH_SA_FAILOVERS + p.region) else s
      match s1.workKey p.region (saSlot y.ent) (saAlg y.ent) (saLabel y.ent) with
      | .key k s2 => s2.cipherRun p i y k
      | _ => s1.dropCipher p Obj.CIPH_DROP_KEY

/-- Units of the engines' time in a nanosecond. -/
def engineUnits : Nat := 128

/-- Time of an operation of n bytes (R357), in units of the engines: 25.6 B/ns or 12.8 B/ns, at least 10 ns. -/
def engineTime (alg n : Nat) : Nat := Nat.max (10 * engineUnits) (if alg == 7 || alg == 8 || alg == 9 then 10 * n else 5 * n)

/-- Engine number of a packet among those of both regions. -/
def Pkt.engineNum (p : Pkt) : Nat := p.region * 8 + p.engine

/-- Algorithm of a packet's SA. -/
def State.cipherAlg (s : State) (p : Pkt) : Nat :=
  match lookup? s.cry.sas (mdCipherSa p.md) with
  | some x => saAlg x.ent
  | none => 0

/-- The packet's operation needs a derived key that its region's cache does not hold (R364). -/
def State.kdfMiss (s : State) (p : Pkt) : Bool :=
  match lookup? s.cry.sas (mdCipherSa p.md) with
  | none => false
  | some x => match s.slot? (saSlot x.ent) with
    | none => false
    | some y => !y.direct && !(lookupD s.cry.kdf p.region []).contains
        { slot := saSlot x.ent, gen := y.gen, alg := saAlg x.ent, label := saLabel x.ent }

/-- Instant at which an engine begins an operation now: when its last one has ended. -/
def State.engineStart (s : State) (e : Nat) : Nat := Nat.max (s.clock * engineUnits) (lookupD s.cry.busy e 0)

/-- Device clock at which a packet whose operation begins now leaves its engine (R359). -/
def State.cipherLeaves (s : State) (p : Pkt) : Nat :=
  let away := if (lookupD s.cry.saCache p.region []).contains (mdCipherSa p.md) then 0 else 250
  let derive := if s.kdfMiss p then 120 else 0
  (s.engineStart p.engineNum + engineTime (s.cipherAlg p) p.len + (40 + away + derive) * engineUnits + engineUnits - 1) / engineUnits

/-- The packet is in front of its engine's queue, and its engine is free (R358). -/
def State.cipherTurn (s : State) (p : Pkt) : Bool :=
  (s.pkts.find? fun x => x.loc == .cipher && x.engineNum == p.engineNum).map (fun x => x.id) == some p.id
    && decide (lookupD s.cry.busy p.engineNum 0 < (s.clock + 1) * engineUnits)

/-- The packet has left its engine, and no earlier one of its pipeline is still in one (R358, R359). -/
def State.cipherOut (s : State) (p : Pkt) : Bool :=
  (s.pkts.find? fun x => (x.loc == .cipher || x.loc == .ciphered) && x.region == p.region && x.pipe == p.pipe).map (fun x => x.id)
      == some p.id && decide (p.readyAt ≤ s.clock)

/-- The operation of a packet begins: its engine is occupied, its key taken and its outcome known (R357, R365, R374). -/
def State.cipherStart (s : State) (p : Pkt) : State :=
  let ends := s.engineStart p.engineNum + engineTime (s.cipherAlg p) p.len
  let t := s.setCry { s.cry with busy := assoc s.cry.busy p.engineNum ends }
  (t.useSa p.region (mdCipherSa p.md)).cipherOp { p with readyAt := s.cipherLeaves p }

/-- INLINE_CIPHER_OP of packet id: its operation begins, or, where it has ended, the packet goes on. -/
def execInlineCipherOp (dt id : Nat) (s : State) : Out :=
  cmd dt s (fun t => t.traffic && (match t.pkt? id with
      | some p => (p.loc == .cipher && t.cipherTurn p) || (p.loc == .ciphered && t.cipherOut p)
      | none => false)) fun t =>
    match t.pkt? id with
    | none => t
    | some p => if p.loc == .ciphered then t.afterCipher p else t.cipherStart p

/-! ### The key store (R361, R362, R365) -/

/-- First 8 B of the AES-256 encryption of a zero block. -/
def kcv (kek : Bytes) : Nat := natOf ((aesEnc (roundKeys (natsOf kek)) (List.replicate 16 0)).take 8)

/-- A write of KEY_KEK: status and state (R361). -/
def State.writeKek (s : State) (v : Nat) : Nat × State :=
  if !s.cry.slots.isEmpty then (1, s)
  else
    let k := toBe 32 v
    (0, (s.setCry { s.cry with kek := some k }).latch Obj.KEY_KEK_KCV (kcv k))

/-- Length in bytes that a wrapped key must have. -/
def wrappedLen (mode alg : Nat) : Nat := if mode == 0 then 40 else algBits alg / 8 + 8

/-- A key unwrapped into a slot. -/
def State.loadSlot (s : State) (n mode alg : Nat) (w : Bytes) : Nat × State :=
  match s.cry.kek.bind fun k => keyUnwrap (natsOf k) (natsOf w) with
  | none => (2, s.bump Obj.KEY_UNWRAP_FAIL)
  | some k =>
    let half := k.length / 2
    if mode == 1 && (alg == 5 || alg == 6) && k.take half == k.drop half then (2, s)
    else
      let x : Slot := { direct := mode == 1, alg := alg, key := bytesOf k, gen := s.cry.nextGen, revoking := false }
      (0, s.setCry { s.cry with slots := assoc s.cry.slots n x, nextGen := s.cry.nextGen + 1 })

/-- A write of KEY_SLOT_WRITE, 80 B as a big-endian number: status and state (R362). Without a KEK no unwrap can hold. -/
def State.writeSlot (s : State) (v : Nat) : Nat × State :=
  let r := toBe 80 v
  let n := beNat (slice r 0 2)
  let mode := (r.getD 2 0).toNat
  let alg := (r.getD 3 0).toNat
  let wlen := wrappedLen mode alg
  let w := slice r 8 wlen
  if 8192 ≤ n || 1 < mode || (if mode == 0 then alg != 0 else alg == 0 || 9 < alg)
      || beNat (slice r 4 4) != 0 || beNat (r.drop (8 + wlen)) != 0 then (2, s)
  else match s.slot? n with
    | some x => if x.revoking then (1, s) else s.loadSlot n mode alg w
    | none => s.loadSlot n mode alg w

/-- A write of KEY_SLOT_ERASE (R365). -/
def State.eraseSlot (s : State) (n : Nat) : Nat × State :=
  if 8192 ≤ n then (2, s)
  else match s.slot? n with
    | none => (0, s)
    | some x => (0, s.setCry { s.cry with slots := assoc s.cry.slots n { x with revoking := true } })

/-- Value of KEY_SLOT_STATE for a slot. -/
def State.slotState (s : State) (n : Nat) : Nat :=
  match s.slot? n with
  | none => 0
  | some x => (if x.revoking then 2 else 1) + b2n x.direct * 4 + x.alg * 8

/-- An operation that an engine has begun holds a key of slot n (R365). -/
def State.keyRuns (s : State) (n : Nat) : Bool :=
  (s.hs.runs.any fun r => r.slot == some n) || s.pkts.any fun p => p.loc == .ciphered && (match lookup? s.cry.sas (mdCipherSa p.md) with
    | some x => saSlot x.ent == n
    | none => false)

/-- KEY_ZEROISE of a slot: it is revoking and no operation holds its key. -/
def execKeyZeroise (dt n : Nat) (s : State) : Out :=
  cmd dt s (fun t => t.alive && (match t.slot? n with | some x => x.revoking | none => false)
      && !(t.cry.held.any fun h => h.slot == n) && !t.keyRuns n) fun t =>
    let t1 := t.setCry { t.cry with
      slots := dissoc t.cry.slots n,
      kdf := t.cry.kdf.map fun d => (d.1, d.2.filter fun k => k.slot != n) }
    (t1.bump Obj.KEY_ERASES).raise 0x0060 6 0 (toBe 2 n)

end Sys2Proof.Machine
end

