-- ==== Sys2Proof/Machine/Sess.lean ====
section
/-!
DEFINITION. Sessions and their staging areas, and the semaphore (spec/02 R54 to R59, spec/13 R389 to R411).
-/

namespace Sys2Proof.Machine

/-! ### Sessions -/

def State.sess? (s : State) (k : Nat × Nat) : Option Session := s.mgmt.sessions.find? fun x => (x.port, x.num) == k

/-- The state with a session replaced, in place. -/
def State.setSess (s : State) (y : Session) : State :=
  { s with mgmt := { s.mgmt with
      sessions := s.mgmt.sessions.map fun x => if x.port == y.port && x.num == y.num then y else x } }

def Staging.none_ : Staging := { vals := [], bulk := [] }

def Staging.isEmpty (st : Staging) : Bool := st.vals.isEmpty && st.bulk.isEmpty

def State.stageOf (s : State) (k : Nat × Nat) : Staging :=
  match s.sess? k with
  | some x => x.stage
  | none => Staging.none_

def State.setStage (s : State) (k : Nat × Nat) (st : Staging) : State :=
  match s.sess? k with
  | some x => s.setSess { x with stage := st }
  | none => s

/-- Event STAGE_DISCARDED: values discarded, and why. -/
def State.sayDiscarded (s : State) (st : Staging) (reason : Nat) : State :=
  s.raise 0x0003 0 0 (toBe 2 st.vals.length ++ toBe 1 reason)

/-- A staging area is discarded (R58); reason 0 raises no event. -/
def State.discardStage (s : State) (k : Nat × Nat) (reason : Nat) : State :=
  let st := s.stageOf k
  if st.isEmpty then s
  else
    let s1 := (s.setStage k Staging.none_).bump Obj.EPOCH_STAGE_DISCARDS
    if reason == 0 then s1 else s1.sayDiscarded st reason

/-- Same bulk object. -/
def BulkVal.same : BulkVal → BulkVal → Bool
  | .pipe _, .pipe _ => true
  | .pat a _, .pat b _ => a == b
  | .table a _, .table b _ => a == b
  | _, _ => false

/-- A staging area stages the whole TABLE of an object. -/
def Staging.hasTable (st : Staging) (o : Nat) : Bool := st.bulk.any fun b => match b with | .table x _ => x == o | _ => false

/-- Sealed contents laid under what has been staged since (R59): neither a value staged again nor an element of a TABLE staged
whole comes back. -/
def Staging.under (newer sealed : Staging) : Staging :=
  { vals := newer.vals ++ sealed.vals.filter fun p => !(newer.vals.any fun q => q.1 == p.1) && !newer.hasTable (keyObj p.1),
    bulk := newer.bulk ++ sealed.bulk.filter fun b => !newer.bulk.any (BulkVal.same b) }

/-- Contents of a cancelled or missed scheduled commit go back to their staging area, or are discarded (R59). -/
def State.giveBack (s : State) (c : Sealed) : State :=
  if s.mgmt.holder == some c.sess then s.setStage c.sess (Staging.under (s.stageOf c.sess) c.stage)
  else if c.stage.isEmpty then s
  else (s.bump Obj.EPOCH_STAGE_DISCARDS).sayDiscarded c.stage 4

/-! ### Firmware writes that end early (R402, R455) -/

/-- The status of a firmware write is shown where it is the latest. -/
def State.fwStatus (s : State) (k st : Nat) : State :=
  if (s.img.writes.head?).any fun w => w.slot == k then s.latch Obj.IMG_FW_WRITE_STATUS st else s

/-- A firmware write ends. -/
def State.fwDrop (s : State) (k : Nat) : State :=
  { s with img := { s.img with writes := s.img.writes.filter fun w => w.slot != k } }

/-- A firmware write is given up: its slot stays invalid; its status is one of the codes of Table 00-3, which one is free
(log entry 32). -/
def State.fwAbandon (s : State) (k : Nat) : State :=
  let r := s.fresh 8
  (r.2.fwStatus k (r.1 % 11)).fwDrop k

/-- A channel is aborted (R402): a firmware write that has begun is given up. -/
def State.abandonChan (s : State) (c : Chan) : State :=
  if c.wr && (c.obj == Obj.IMG_FW_WRITE_A || c.obj == Obj.IMG_FW_WRITE_B) then
    match c.passed with
    | some k => s.fwAbandon k
    | none => s
  else s

/-- Channels of a session that satisfy a test are aborted. -/
def State.dropChans (s : State) (k : Nat × Nat) (p : Chan → Bool) : State :=
  match s.sess? k with
  | none => s
  | some x =>
    let s1 := (x.chans.filter p).foldl (fun (a : State) c => a.abandonChan c) s
    s1.setSess { x with chans := x.chans.filter fun c => !(p c) }

/-! ### The semaphore -/

/-- `MGMT_SEM_HOLDER` for a session. -/
def holderByte (k : Nat × Nat) : Nat := 0x80 + k.1 * 0x10 + k.2

/-- The lease in effect, ns (R408). -/
def State.leaseNs (s : State) : Nat := s.cfg Obj.MGMT_SEM_LEASE_S * 1000000000

/-- The semaphore is granted (R406, R411, R54). -/
def State.grantSem (s : State) (k : Nat × Nat) : State :=
  let s1 := (s.setStage k Staging.none_).bump Obj.MGMT_SEM_GRANTS
  ({ s1 with mgmt := { s1.mgmt with holder := some k, leaseEnd := s1.clock + s1.leaseNs } }).raise 0x0001 0 0
    (toBe 1 (holderByte k)) (some k)

/-- The first waiting session is granted the semaphore. -/
def State.grantNext (s : State) : State :=
  match s.mgmt.waiting with
  | k :: t => ({ s with mgmt := { s.mgmt with waiting := t } }).grantSem k
  | [] => s

/-- The semaphore is freed, as in the steps of R409: by a lapse, or by a release or close (R411). -/
def State.freeSem (s : State) (lapse : Bool) : State :=
  match s.mgmt.holder with
  | none => s
  | some k =>
    let s1 := s.discardStage k (if lapse then 1 else 2)
    let s2 := s1.dropChans k fun c => c.wr
    let s3 : State := { s2 with mgmt := { s2.mgmt with holder := none } }
    let s4 := if lapse then (s3.bump Obj.MGMT_SEM_LAPSES).raise 0x0002 0 0 (toBe 1 (holderByte k)) else s3
    s4.grantNext

/-- The session that sealed a prepared commit is no more: contents that come back are discarded, also where its number is
given again (R59). -/
def State.orphan (s : State) (k : Nat × Nat) : State :=
  { s with ep := { s.ep with member := s.ep.member.map fun m =>
      if m.contents.sess == k then { m with contents := { m.contents with sess := (2, 0) } } else m } }

/-- A session closes (R389): its channels go with it, its place in the queue, and the semaphore where it holds it. -/
def State.closeSess (s : State) (k : Nat × Nat) : State :=
  let s1 : State := { s with mgmt := { s.mgmt with waiting := s.mgmt.waiting.filter fun x => x != k } }
  let s2 := if s1.mgmt.holder == some k then s1.freeSem false else s1
  let s3 := (s2.dropChans k fun _ => true).orphan k
  { s3 with mgmt := { s3.mgmt with sessions := s3.mgmt.sessions.filter fun x => (x.port, x.num) != k } }

/-- PF0 of HA is reset while it carries the mailbox: the mailbox empties and its session closes (R389, R392). -/
def State.mailboxReset (s : State) : State :=
  if !s.mailbox then s
  else
    let t := s.closeSess (1, 1)
    { t with mgmt := { t.mgmt with h2dBuf := [], h2dBusy := false, d2h := [], d2hReady := false, mbxVector := 0 } }

end Sys2Proof.Machine
end

