-- ==== Sys2Proof/Machine/StgCore.lean ====
section
/-!
DEFINITION. Commands of storage functions and their answers to the host (spec/12_cipher_storage.md R377 to R380 and R385). NVMe
and virtio formats are those of their standards (log entry 21).
-/

namespace Sys2Proof.Machine

/-! ### Service pairs (R378) -/

/-- The service pair of a storage function, as a pair key; none where the entry is not valid. -/
def State.svcPair (s : State) (f : Nat) : Option Nat :=
  let e := s.fnCfg Obj.STG_SVC f
  let c := 0x800 + fld e 0 8
  match s.qp? c (fld e 8 16) with
  | some x => if bit e 31 && x.kind == 7 && s.fnExists c then some (qpKey c (fld e 8 16)) else none
  | none => none

/-! ### NVMe completion queues -/

def State.nvme (s : State) (f : Nat) : Nvme :=
  lookupD s.stg.nvme f { cc := 0, csts := 0, aqa := 0, asq := 0, acq := 0, thr := 0, time := 0 }

def State.setNvme (s : State) (f : Nat) (x : Nvme) : State := { s with stg := { s.stg with nvme := assoc s.stg.nvme f x } }

def State.setCq (s : State) (k : Nat) (c : NvCq) : State := { s with stg := { s.stg with cq := assoc s.stg.cq k c } }
def State.setSq (s : State) (k : Nat) (c : NvSq) : State := { s with stg := { s.stg with sq := assoc s.stg.sq k c } }

/-- Queue pairs of the model's own kinds: 8 a virtqueue, 9 an NVMe queue pair. -/
def nvmeKind : Nat := 9

/-- An entry without its phase tag is written to completion queue n of function f, or waits for room. -/
def State.cqPut (s : State) (f n : Nat) (entry : Nat) : State :=
  match lookup? s.stg.cq (qpKey f n), s.qp? f n with
  | some c, some x =>
    if (c.tail + 1) % c.size == c.head || !c.wait.isEmpty then s.setCq (qpKey f n) { c with wait := c.wait ++ [entry] }
    else
      let tail := (c.tail + 1) % c.size
      let a : Attr := { ro := false, ido := false, pasid := none, tph := (s.fn f).hint x }
      let y := x.published s.clock
      let s1 := s.setCq (qpKey f n) { c with tail := tail, phase := if tail == 0 then !c.phase else c.phase }
      let s2 := (s1.setQp f n y.1).hostWrite f (.mem a (c.base + 16 * c.tail) (toLe 16 (entry + b2n c.phase * 2 ^ 112)))
      if y.2 then s2.hostWrite f (.int x.vec none) else s2
  | _, _ => s

/-- Entries that waited are written while there is room. -/
def cqFlush (f n : Nat) : Nat → State → State
  | 0, s => s
  | k + 1, s =>
    match lookup? s.stg.cq (qpKey f n) with
    | some c =>
      (match c.wait with
       | e :: t =>
         if (c.tail + 1) % c.size == c.head then s
         else
           let s1 := (s.setCq (qpKey f n) { c with wait := [] }).cqPut f n e
           match lookup? s1.stg.cq (qpKey f n) with
           | some d => cqFlush f n k (s1.setCq (qpKey f n) { d with wait := t })
           | none => s1
       | [] => s)
    | none => s

/-- NVMe status fields (NVMe 2.0; log entry 21). -/
def nvmeInternal : Nat := 0x006

/-- Completion queue entry of command `cid` from submission queue n: DW0, status field (R381). -/
def State.nvmeAnswer (s : State) (f n cid dw0 status : Nat) : State :=
  match lookup? s.stg.sq (qpKey f n) with
  | some q => s.cqPut f q.cqid (dw0 + q.head * 2 ^ 64 + n * 2 ^ 80 + cid * 2 ^ 96 + status % 2 ^ 15 * 2 ^ 113)
  | none => s

/-! ### virtio answers -/

/-- VIRTIO_BLK_S_IOERR. -/
def virtioIoErr : Nat := 1

/-- The status byte of a request goes to the last device-writable byte of its chain, and its chain is returned used. -/
def State.virtioAnswer (s : State) (f n : Nat) (chain : List (Nat × Nat × Bool)) (len status : Nat) : State :=
  let a : Attr := { ro := false, ido := false, pasid := none, tph := none }
  let s1 := match (chain.filter fun d => d.2.2 && d.2.1 != 0).getLast? with
    | some d => s.hostWrite f (.mem a (d.1 + d.2.1 - 1) (toLe 1 status))
    | none => s
  s1.virtioUse f n len

/-! ### Commands -/

/-- NVMe command identifier of a command record. -/
def recordCid (r : Bytes) : Nat := leNat (slice r 34 2)

/-- An answer that the device gives itself: Internal Error or VIRTIO_BLK_S_IOERR. -/
def State.stgError (s : State) (c : StgCmd) : State :=
  if s.persona c.fid == 3 then s.nvmeAnswer c.fid c.queue (recordCid c.record) 0 nvmeInternal
  else s.virtioAnswer c.fid c.queue c.chain 1 virtioIoErr

/-- Tag of a command. -/
def stgTag (ctx : Nat) (c : StgCmd) : Nat := ctx + c.gen * 2 ^ 16

/-- A PERSONA_SVC completion entry (Table 12-14). -/
def pcEntry (cookie status kind pi tag result : Nat) : Bytes :=
  toLe 8 (cookie + status * 2 ^ 32 + kind * 2 ^ 40 + pi * 2 ^ 44) ++ toLe 8 (tag + result * 2 ^ 32)

/-- An entry for a service pair that consumes no descriptor. -/
def State.svcEntry (s : State) (svc : Nat) (entry : Bytes) : State :=
  match s.qp? (svc / 65536) (svc % 65536) with
  | some x => s.complete (svc / 65536) (svc % 65536) x.cons entry
  | none => s

/-- A context is free again. -/
def State.stgFree (s : State) (ctx : Nat) : State :=
  { s with stg := { s.stg with cmds := dissoc s.stg.cmds ctx, waiting := s.stg.waiting.filter fun c => c != ctx } }

/-- A command is cancelled: kind 5 where core software holds it (R385). The cookie of that entry is not stated. -/
def State.stgCancel (s : State) (ctx : Nat) (c : StgCmd) : State :=
  let s1 := s.stgFree ctx
  if !c.passed then s1
  else
    let v := s1.fresh 32
    v.2.svcEntry c.svc (pcEntry v.1 0 5 0 (stgTag ctx c) 0)

/-- Commands that satisfy a test are cancelled. -/
def State.stgCancelAll (s : State) (p : StgCmd → Bool) : State :=
  (s.stg.cmds.filter fun c => p c.2).foldl (fun a c => a.stgCancel c.1 c.2) s

/-- Unused POSTs of a ring are returned (kind 2). -/
def State.returnPosts (s : State) (svc : Nat) : State :=
  let s1 := { s with stg := { s.stg with posts := dissoc s.stg.posts svc } }
  (lookupD s.stg.posts svc []).foldl (fun a p => a.svcEntry svc (pcEntry p.2 0 2 0 0 0)) s1

/-- An XFER of a ring that waits stops and completes with ACCESS (R385). -/
def State.xferStop (s : State) (ring tag cookie : Nat) : State :=
  let s1 := { s with stg := { s.stg with xfer := dissoc s.stg.xfer ring },
                     cry := { s.cry with held := s.cry.held.filter (fun h => h.ring != ring) } }
  match s1.qp? (ring / 65536) (ring % 65536) with
  | some x =>
    (s1.setQp (ring / 65536) (ring % 65536) { x with taken := (x.taken + 1) % 2 ^ 32 }).complete (ring / 65536)
      (ring % 65536) (x.cons + 1) (pcEntry cookie 3 3 0 tag 0)
  | none => s1

/-- A storage function is squashed: its commands are cancelled, and the unused POSTs of its ring returned (R385). -/
def State.stgSquashHost (s : State) (f : Nat) : State :=
  if s.persona f < 2 then s
  else
    let mine := fun (tag : Nat) => s.stg.cmds.any fun c => c.2.fid == f && stgTag c.1 c.2 == tag
    let s0 := (s.stg.xfer.filter fun x => mine x.2.1).foldl (fun a x => a.xferStop x.1 x.2.1 x.2.2) s
    let s1 := s0.stgCancelAll fun c => c.fid == f
    match s1.svcPair f with
    | some k => s1.returnPosts k
    | none => s1

/-- A serving core-side function is reset: what it held is completed with an error, its unused POSTs are dropped (R385). -/
def State.stgSquashCore (s : State) (f : Nat) : State :=
  let mine := s.stg.cmds.filter fun c => c.2.svc / 65536 == f
  let s1 := { s with stg := { s.stg with
      posts := s.stg.posts.filter (fun p => p.1 / 65536 != f), xfer := s.stg.xfer.filter (fun p => p.1 / 65536 != f) } }
  mine.foldl (fun a c => ((a.stgFree c.1).bump (if c.2.passed then Obj.STG_CMD_ABORTED else Obj.STG_CMD_NO_SVC)).stgError c.2) s1

/-- What a squash does to storage commands. -/
def State.stgSquash (s : State) (f : Nat) : State := if coreFid f then s.stgSquashCore f else s.stgSquashHost f

/-- Queues of a function are gone: its NVMe queues, and the controller is disabled; AQA, ASQ and ACQ stay. -/
def State.nvmeClear (s : State) (f : Nat) : State :=
  let keep := fun {α : Type} (l : List (Nat × α)) => l.filter fun q => q.1 / 65536 != f
  let s1 := { s with stg := { s.stg with sq := keep s.stg.sq, cq := keep s.stg.cq } }
  let x := s1.nvme f
  if (lookup? s1.stg.nvme f).isSome then s1.setNvme f { x with cc := 0, csts := 0, thr := 0, time := 0 } else s1

/-- No command of a function is held by core software or waits for it (R385). -/
def State.stgIdle (s : State) (f : Nat) : Bool := !(s.stg.cmds.any fun c => c.2.fid == f)

end Sys2Proof.Machine
end

