-- ==== Sys2Proof/Machine/Host.lean ====
section
/-!
DEFINITION. Host ports: requests and tags, translation, containment and function resets (spec/10_host_ports.md R286 to
R320, spec/11_functions_rings_migration.md R345 to R348).
-/

namespace Sys2Proof.Machine

/-! ### Issue decisions -/

def State.setWork (s : State) (w : Work) : State :=
  { s with hs := { s.hs with works := s.hs.works.map fun x => if x.id == w.id then w else x } }

/-- The pair of a work may go on: it waits for no page (R300). -/
def State.workRuns (s : State) (w : Work) : Bool :=
  w.status == 0 && !w.todo.isEmpty &&
    (match s.qp? w.fid w.q with | some x => x.page.isNone | none => false)

/-- PASID of the pair of a work. -/
def State.workPasid (s : State) (w : Work) : Option Nat := ((s.qp? w.fid w.q).map (s.pasidOf w.fid)).getD none

/-- The next request of a work: its first piece not yet requested, or a translation it needs first. -/
def State.issueWork (s : State) (w : Work) : Option State :=
  match w.todo with
  | [] => none
  | i :: rest =>
    let pc := w.pieces.getD i (0, 0, 0)
    let l := s.linkOf w.fid
    let pasid := s.workPasid w
    let x := s.fn w.fid
    let translated := match s.xlOf w.fid pasid pc.1 with | some t => t.rd | none => false
    if x.ats && !translated then
      if s.xlAsked w.fid pc.1 then none else s.askXl w.fid pasid w.id i pc.1
    else if !s.tagReady w.fid then none
    else match s.freeTag l 0 (s.readPool l) with
      | none => none
      | some t => some ((s.setWork { w with todo := rest }).sendReq
          { link := l, tag := t, kind := 0, fid := w.fid, work := w.id, piece := i, addr := pc.1, len := pc.2.1,
            pasid := pasid, at_ := s.clock, dead := false, got := [] }
          { ro := x.roEn && bit pc.2.2 0, ido := x.idoEn && bit pc.2.2 1, pasid := pasid, tph := none, xl := x.ats })

/-- The next request of a function, from its works in order. -/
def State.issueFn (s : State) (f : Nat) : Option State :=
  if !s.mayRead f && !((s.fn f).held && s.mayWrite f) then none
  else (s.hs.works.filter fun w => w.fid == f && s.workRuns w).findSome? fun w => s.issueWork w

/-- One turn of the round robin among the functions of a link (R297). -/
def State.issueTurn (s : State) (l : Nat) : Option State :=
  let fs := ((s.hs.works.filter fun w => !coreFid w.fid && s.linkOf w.fid == l).map fun w => w.fid).eraseDups
  let last := lookupD s.hs.tagLast l 0
  let order := (sortAsc (fs.filter fun f => last < f)) ++ sortAsc (fs.filter fun f => f ≤ last)
  order.findSome? fun f => (s.issueFn f).map fun s1 => { s1 with hs := { s1.hs with tagLast := assoc s1.hs.tagLast l f } }

/-- Requests of a link are issued until none can be. -/
def pumpLoop (l : Nat) : Nat → State → State
  | 0, s => s
  | n + 1, s => match s.issueTurn l with
    | some s1 => pumpLoop l n s1
    | none => s

def State.pump (s : State) (l : Nat) : State :=
  pumpLoop l (sumBy (fun w => 2 * w.todo.length) s.hs.works) s

/-- Every link issues what it can. -/
def State.pumpAll (s : State) : State := (((s.pump 0).pump 1).pump 2).pump 3

/-- Writes that wait in functions are tried again, and a link's requests issued: a tag or a translation has come, perhaps one that
a log ring waits for. -/
def State.serveLink (s : State) (l : Nat) : State :=
  ((s.hs.fn.filter fun x => !x.2.wq.isEmpty).foldl (fun a x => a.flushFn x.1) s).pump l

/-! ### AER (R313, R319; bits as the PCI Express specification gives them, log entry 9) -/

/-- A function that is enumerated on a link that is up sends an error message. -/
def State.sendErr (s : State) (f level : Nat) : State :=
  let l := s.linkOf f
  if s.linkUp l && s.cfgReady (fidPort f) then (s.wakeLink l).emit (.errMsg f level) else s

/-- An error of a function is logged: its status bit and, of the first one that is not masked, header and prefix, which are
values the manual does not state. An advisory error is reported as correctable, another one by its severity. -/
def State.aerPut (s : State) (f b : Nat) (advisory : Bool) : State :=
  let x := s.fn f
  let masked := bit x.aerMask b
  let h := s.fresh 128
  let p := h.2.fresh 128
  let s1 := if masked || x.aerHdr.isSome then s.setFn f { x with aer := setFld x.aer b 1 1 }
    else p.2.setFn f { x with aer := setFld x.aer b 1 1, aerHdr := some (b, h.1, p.1) }
  let fatal := bit x.aerSev b
  let level := if advisory && !fatal then 0 else if fatal then 2 else 1
  if !masked && bit x.errEn level then s1.sendErr f level else s1

/-- An error of a function, logged and reported by its severity. -/
def State.aerLog (s : State) (f b : Nat) : State := s.aerPut f b false
/-- PF0 of a link, in which errors of no function are logged. -/
def linkPf0 (l : Nat) : Nat := l / 2 * 8192 + (if l % 2 == 1 then 4 else 0)
/-- Bits of the Uncorrectable Error Status register (log entry 9). -/
def aerPoisoned : Nat := 12
def aerTimeout : Nat := 14
def aerUnexpected : Nat := 16
def aerMalformed : Nat := 18
def aerUnsupported : Nat := 20

/-! ### Failing and restarting work -/

/-- Requests of a work are to be discarded when they complete. -/
def State.killReqs (s : State) (p : Req → Bool) : State :=
  { s with hs := { s.hs with reqs := s.hs.reqs.map fun r => if p r then { r with dead := true } else r } }

/-- A work completes with a status other than OK. -/
def State.failWork (s : State) (w : Work) (status : Nat) : State :=
  (s.setWork { w with status := status, todo := [] }).killReqs fun r => r.work == w.id && r.kind != 2

/-- Works cut short restart from their beginning; poisoned ones complete with ACCESS (R315, R316). -/
def State.restartWorks (s : State) (p : Nat → Bool) : State :=
  { s with hs := { s.hs with works := s.hs.works.map fun w =>
      if !(p w.fid) || w.status != 0 then w
      else if w.poisoned then { w with status := 3, todo := [] }
      else if w.todo.isEmpty && w.got.length == w.pieces.length then w
      else { w with todo := List.range w.pieces.length, got := [] } } }

/-- What waited in a function goes out: writes, pending interrupts (R315, R316, R355). -/
def State.resumeFn (s : State) (f : Nat) : State :=
  let s1 := s.flushFn f
  let x := s1.fn f
  let s2 := s1.setFn f { x with pend := [] }
  (x.pend.foldl (fun a v => a.hostWrite f (.int v.1 v.2)) s2).flushTargets f

/-- Functions of a port with something written to them. -/
def State.portFns (s : State) (port : Nat) : List Nat :=
  (s.hs.fn.filter fun x => !coreFid x.1 && fidPort x.1 == port).map fun x => x.1

/-! ### Receive packets of functions -/

/-- Function that a packet is on its way to: in its leaf, on the way there or in receive staging. -/
def State.pktFn (s : State) (p : Pkt) : Option Nat :=
  if p.loc == .staged then some p.dest else if p.queued || p.loc == .bridge then s.queueFn p else none

/-- Queued and staged packets that satisfy a test are discarded, each counted. -/
def State.discardRx (s : State) (test : Pkt → Bool) (ctr : Pkt → Nat) : State :=
  (s.pkts.filter test).foldl (fun a p => (a.bump (ctr p)).dropPkt p.id) s

/-! ### Freezing (R313, R314) -/

/-- A port freezes: cause 1 poisoned, 2 malformed, 3 timeouts. -/
def State.freeze (s : State) (port cause f : Nat) : State :=
  if s.frozen port then s
  else
    let v := cause + (if cause == 2 then 0 else f * 16)
    let s1 := ((s.latch (Obj.HST_PORT_FROZEN + port) 1).latch (Obj.HST_FREEZE_CAUSE + port) v).bump (Obj.HST_FREEZES + port)
    let s2 := s1.discardRx (fun p => (s1.pktFn p).any fun g => !coreFid g && fidPort g == port) (fun _ => Obj.HST_DROP_FROZEN + port)
    let s3 := s2.killReqs fun r => r.link / 2 == port
    s3.raise 0x0040 4 (Obj.HST_PORT_FROZEN + port) (toBe 1 port ++ [0, 0, 0] ++ toBe 4 v)

/-- A completion timeout of a function's request: counted and logged, and after enough of them within 1 s the port freezes (R312,
R313). -/
def State.countCto (s : State) (f : Nat) : State :=
  let port := fidPort f
  let s1 := (s.bump (Obj.HST_CPL_TIMEOUT + port)).aerLog f aerTimeout
  let times := (s1.hs.ctos ++ [(port, s.clock)]).filter fun c => s.clock < c.2 + 1000000000
  let s2 := { s1 with hs := { s1.hs with ctos := times } }
  if s2.cfg (Obj.HST_CTO_FREEZE_COUNT + port) ≤ (times.filter fun c => c.1 == port).length then s2.freeze port 3 f else s2

/-- A completion with EP for a request of a function: counted, logged, and the port freezes (R313). -/
def State.poisonedCpl (s : State) (f : Nat) : State :=
  ((s.bump (Obj.HST_POISONED_RX + fidPort f)).aerLog f aerPoisoned).freeze (fidPort f) 1 f

/-- A read that a command of a function makes at once fails (R312, R313). -/
def State.readFails (s : State) (f : Nat) : ReadFail → State
  | .poisoned => s.poisonedCpl f
  | .error => s.bump (Obj.HST_CPL_ERROR + fidPort f)
  | .timeout => s.countCto f

/-! ### Function resets (R345 to R348) -/

def State.setResetState (s : State) (f v : Nat) : State :=
  (s.setFn f { s.fn f with reset := v }).setCfg (Obj.FN_RESET_STATE + fnSub f) (fnIdx f) v

/-- A squash reset begins (R346): new requests stop, descriptors are abandoned, leaf packets discarded. -/
def State.squash (s : State) (f : Nat) : State :=
  let s0 := s.stgSquash f
  let s0 := { s0 with cry := { s0.cry with held := s0.cry.held.filter (fun h => h.ring / 65536 != f) } }
  let s1 := s0.setFn f { s0.fn f with
    resetAt := s.clock, wq := [], pend := [], pba := [], stalled := false, qpcStatus := 0 }
  let s2 := { s1 with hs := { s1.hs with
      works := s1.hs.works.filter (fun w => w.fid != f), scans := s1.hs.scans.filter (fun x => x.fid != f),
      runs := s1.hs.runs.filter (fun x => x.fid != f), pri := s1.hs.pri.filter (fun r => r.fid != f) } }
  let s3 := s2.killReqs fun r => r.fid == f
  let s4 := s3.discardRx (fun p => s3.pktFn p == some f) (fun _ => Obj.HST_DROP_FN_RESET + fnSub f)
  let s5 := if f == 0 then s4.mailboxReset else s4
  s5.setResetState f (if s5.hs.reqs.any fun r => r.fid == f then 3 else 1)

/-- The registers R348 lists at their reset values; configuration space, settings, shares and QPIDs stay. -/
def Fn.initial (x : Fn) : Fn :=
  { x with reset := 0, held := false, holding := none, msix := [], pba := [], pend := [], priStopped := false,
           steer := [], coreInt := [], qpcSel := 0, qpcCtrl := 0, qpcSq := 0, qpcCq := 0, qpcHead := 0, qpcAux := 0,
           qpcStatus := 0, qpcSqIndex := 0, qpcCqIndex := 0, migFid := 0, migArg0 := 0, migArg1 := 0, migStatus := 0,
           page := [], logOn := false, log2m := false, wq := [], stalled := false, txDeficit := 0, txLast := 0, isr := 0 }

/-- Configuration space at its reset values, as an FLR or a port reset leaves it (log entry 9). -/
def Fn.cfgReset (x : Fn) : Fn :=
  { x with bme := false, d3 := false, pmeStatus := false, msixEn := false, msixMask := false, ats := false,
           pri := false, pasidEn := false, atomicEn := false, tphEn := false, tphIv := false, roEn := true,
           idoEn := false, tag10 := false, mps := 128, mrrs := 512, ctoVal := 0, ctoDis := false, aspmL1 := false,
           vfEn := false, numVfs := 0, errEn := 0, l1ss := 0 }

/-- The function is back in its initial state (R348); settings and shares keep their values. -/
def State.initFn (s : State) (f : Nat) : State :=
  let x := s.fn f
  let s1 := { s with hs := { s.hs with
      qp := s.hs.qp.filter (fun q => q.1 / 65536 != f),
      xl := s.hs.xl.filter (fun t => t.fid != f),
      logFilter := s.hs.logFilter.filter (fun e => e.2.1 != f) } }
  let s1 := s1.nvmeClear f
  let s1 := { s1 with stg := { s1.stg with nvme := dissoc s1.stg.nvme f } }
  -- a HOLD still in progress completes: nothing of the target is outstanding or started any more (R353)
  let s2 := match x.holding with
    | some (c, _) => s1.setMig c 0 0
    | none => s1
  (s2.setFn f x.initial).setCfg
    (Obj.FN_RESET_STATE + fnSub f) (fnIdx f) 0

/-- Tags of the function are out (R317). -/
def State.tagsOut (s : State) (f : Nat) : Bool := s.hs.reqs.any fun r => r.fid == f

/-- Every descriptor below the accepted producer indexes of a draining function has been executed and published, and no
packet for it waits (R347). -/
def State.drained (s : State) (f : Nat) : Bool :=
  (s.qpsOf f).all (fun q => (q.2.kind == 2 || q.2.kind == 5 || q.2.avail == 0) && q.2.staged.isEmpty)
    && !(s.hs.works.any fun w => w.fid == f) && !s.jobsRun f && (s.fn f).wq.isEmpty
    && !(s.pkts.any fun p => s.pktFn p == some f)
    && s.stgIdle f && (s.stg.sq.all fun q => q.1 / 65536 != f || q.2.head == q.2.tail)
    && (s.stg.cq.all fun q => q.1 / 65536 != f || q.2.wait.isEmpty)

/-- Functions that a reset of a whole port or link acts on: those that exist or hold state. -/
def State.fnsOn (s : State) (test : Nat → Bool) : List Nat :=
  let pfs := [0, 1].flatMap fun p => (List.range 8).map fun n => p * 8192 + n
  ((s.hs.fn.map fun x => x.1) ++ pfs).eraseDups.filter fun f => !coreFid f && test f && s.fnExists f

/-- Squash reset of every function of a port (R315). -/
def State.squashPort (s : State) (port : Nat) : State :=
  (s.fnsOn fun f => fidPort f == port).foldl State.squash s

/-- A squash reset that resets configuration space too: FLR, PERST, hot reset, link down (R289, R346). -/
def State.hardSquash (s : State) (f : Nat) : State := let t := s.squash f; t.setFn f (t.fn f).cfgReset

/-- Hard squash of every function of a link. -/
def State.squashLink (s : State) (l : Nat) : State := (s.fnsOn fun f => s.linkOf f == l).foldl State.hardSquash s

/-- The freeze of a port ends (R315). -/
def State.unfreeze (s : State) (port : Nat) : State :=
  let s1 := s.latch (Obj.HST_PORT_FROZEN + port) 0
  let s2 := s1.restartWorks fun f => !coreFid f && fidPort f == port
  let s3 := (s2.portFns port).foldl State.resumeFn s2
  ((s3.pump (2 * port)).pump (2 * port + 1))

/-- A write of the release register or of HST_PORT_RELEASE (R315): status and state. -/
def State.release (s : State) (port v : Nat) : Nat × State :=
  if v != 1 && v != 2 then (2, s)
  else if !s.frozen port then (0, s)
  else if v == 1 then (0, s.unfreeze port)
  else (0, (s.squashPort port).unfreeze port)

/-- Completion timeout of a function in ns: least time after which a request may time out; none where it never does
(R312, R317; ranges of Device Control 2 as the PCI Express specification gives them, log entry 9). -/
def Fn.cto (x : Fn) : Option Nat :=
  let v := match x.ctoVal with
    | 1 => 50000
    | 2 => 1000000
    | 5 => 16000000
    | 6 => 65000000
    | 9 => 260000000
    | 10 => 1000000000
    | _ => 10000000
  if x.reset == 1 || x.reset == 3 then some (Nat.min v 50000000)
  else if x.ctoDis then none else some v

/-- The host may answer a read so: without a completion only where the function has a timeout (R312). -/
def State.mayAnswer (s : State) (f : Nat) : HostRead → Bool
  | .failed .timeout => coreFid f || (s.fn f).cto.isSome
  | _ => true

end Sys2Proof.Machine
end

