-- ==== Sys2Proof/Machine/HostCmds.lean ====
section
/-!
DEFINITION. Commands of the host ports: resets, links, completions, translation, power states, peer windows
(spec/10_host_ports.md).
-/

namespace Sys2Proof.Machine

/-! ### Port and link events -/

/-- The QUIESCE objects of a host port (R320, R322). -/
def portQuiesce (port o : Nat) : Bool :=
  o == Obj.HST_BIFURCATE + port || o == Obj.HST_SPEED_MAX + port || o == Obj.HST_CLKREQ_GPIO + port
    || o == Obj.HST_PEER_BAR_LOG2 + port || o == Obj.FN_PF_CONFIG + port

/-- A link is down: nothing trained, and its bus numbers and L0p setting are gone. -/
def State.hostDown (s : State) (l : Nat) : State :=
  let t := { s with hs := { s.hs with bus := dissoc s.hs.bus l, width := dissoc s.hs.width l,
                                      l0p := s.hs.l0p.filter fun x => x != l } }
  ((t.latch (Obj.HST_LINK_STATE + l) 0).latch (Obj.HST_LINK_SPEED + l) 0).latch (Obj.HST_LINK_WIDTH + l) 0

/-- PERST assertion (R289): the whole port's functions are squash-reset, its freeze ends. -/
def State.perstOn (s : State) (port : Nat) : State :=
  let s1 := { s with hs := { s.hs with perst := port :: s.hs.perst } }
  let up := fun (st : State) l => if st.linkUp l then st.bump (Obj.HST_LINK_DOWNS + l) else st
  let s2 := up (up s1 (2 * port)) (2 * port + 1)
  let s3 := (s2.squashLink (2 * port)).squashLink (2 * port + 1)
  ((s3.latch (Obj.HST_PORT_FROZEN + port) 0).hostDown (2 * port)).hostDown (2 * port + 1)

/-- PERST_ASSERT. -/
def execPerstAssert (dt port : Nat) (s : State) : Out :=
  work dt s (fun t => port < 2 && !t.hs.perst.contains port) fun t => t.perstOn port

/-- Configuration space of a port gets ready within `limit` ns; when exactly is not stated (Table 14-2, log entry 74). -/
def State.readySoon (s : State) (port limit : Nat) : State :=
  let v := s.fresh 27
  { v.2 with hs := { v.2.hs with upAt := assoc v.2.hs.upAt port (s.clock + Nat.min v.1 limit) } }

/-- A link that is down begins to train. -/
def State.trainLink (s : State) (l : Nat) : State := if s.linkUp l then s else s.latch (Obj.HST_LINK_STATE + l) 1

/-- The links of a port train with the values in effect. -/
def State.trainPort (s : State) (port : Nat) : State :=
  let s1 := s.trainLink (2 * port)
  if s1.cfg (Obj.HST_BIFURCATE + port) == 1 then s1.trainLink (2 * port + 1) else s1

/-- PERST deassertion: QUIESCE values apply, links train, configuration space is ready within 100 ms (R286, R292, R320). -/
def State.perstOff (s : State) (port : Nat) : State :=
  let s1 := { s with hs := { s.hs with perst := s.hs.perst.filter (fun p => p != port) } }
  ((s1.applyQui (portQuiesce port)).readySoon port 100000000).trainPort port

/-- Hot reset received on a link (R289). -/
def execHotReset (dt l : Nat) (s : State) : Out :=
  work dt s (fun t => l < 4 && t.alive && t.linkUp l) fun t =>
    let t1 := ((t.bump (Obj.HST_LINK_DOWNS + l)).squashLink l).hostDown l
    (if t1.frozen (l / 2) then t1.unfreeze (l / 2) else t1).latch (Obj.HST_LINK_STATE + l) 1

/-- A host link goes down outside power management (R289). -/
def execHostLinkDown (dt l : Nat) (s : State) : Out :=
  work dt s (fun t => l < 4 && t.alive && t.linkUp l) fun t =>
    let t1 := ((t.bump (Obj.HST_LINK_DOWNS + l)).squashLink l).hostDown l
    if t1.frozen (l / 2) then t1.unfreeze (l / 2) else t1

/-- Functions of a link let out what they held (R314, R316). -/
def State.resumeLink (s : State) (l : Nat) : State :=
  ((s.portFns (l / 2)).filter fun f => s.linkOf f == l).foldl State.resumeFn s

/-- A host link trains to L0 (R286, R287): speed code, lanes, FLIT mode agreed. It may before firmware runs (R424). -/
def execHostLinkUp (dt l speed width : Nat) (flit : Bool) (s : State) : Out :=
  work dt s (fun t => l < 4 && (t.alive || t.pwr.rails == .boot) && !t.hs.perst.contains (l / 2) && !t.linkUp l && 1 ≤ speed
      && speed ≤ t.cfg (Obj.HST_SPEED_MAX + l / 2)
      && [1, 2, 4, 8, 16].contains width
      && (if t.cfg (Obj.HST_BIFURCATE + l / 2) == 1 then width ≤ 8 else l % 2 == 0)) fun t =>
    let t1 := ((t.latch (Obj.HST_LINK_STATE + l) 2).latch (Obj.HST_LINK_SPEED + l) speed).latch (Obj.HST_LINK_WIDTH + l) width
    let fl := t1.hs.flit.filter fun x => x != l
    let t2 := { t1 with hs := { t1.hs with flit := if flit || 6 ≤ speed then l :: fl else fl, width := assoc t1.hs.width l width } }
    (t2.resumeLink l).pump l

/-- The host takes a link into L2 (R307). -/
def execHostL2Entry (dt l : Nat) (s : State) : Out :=
  cmd dt s (fun t => l < 4 && t.alive && t.linkUp l) fun t => t.latch (Obj.HST_LINK_STATE + l) 7

/-- L1 PM Substates that PF0 of a link offers (Table 10-2, R306): all four where CLKREQ# is wired. -/
def State.l1ssOf (s : State) (l : Nat) : Nat := if s.cfg (Obj.HST_CLKREQ_GPIO + l / 2) == 1 then 15 else 0

/-- ASPM L1 (sub 0), L1.1 (1) or L1.2 (2) may be entered as the host and CLKREQ# allow (R305, R306). -/
def State.l1May (s : State) (l sub : Nat) : Bool :=
  sub == 0 || (sub ≤ 2 && bit (s.l1ssOf l) (4 - sub) && bit (s.fn (linkPf0 l)).l1ss (4 - sub))

/-- ASPM L1 entry (R305), on to L1.1 or L1.2 where they are enabled (R306): idle long enough, no request outstanding, nothing
to send. -/
def execL1Entry (dt l sub idleNs : Nat) (s : State) : Out :=
  cmd dt s (fun t => l < 4 && t.alive && (t.linkState l == 2 || t.linkState l == 3) && t.l1May l sub
      && (t.hs.fn.any fun x => !coreFid x.1 && t.linkOf x.1 == l && x.2.aspmL1)
      && t.cfg (Obj.HST_L1_IDLE_US + l / 2) * 1000 ≤ idleNs
      && !(t.hs.reqs.any fun r => r.link == l)
      && !(t.hs.fn.any fun x => !coreFid x.1 && t.linkOf x.1 == l && !x.2.wq.isEmpty)
      && !(t.pkts.any fun p => p.loc == .staged && !coreFid p.dest && t.linkOf p.dest == l)) fun t =>
    (t.latch (Obj.HST_LINK_STATE + l) (4 + sub)).bump (Obj.HST_L1_ENTRIES + l)

/-- GT/s of a speed code. -/
def speedGts (c : Nat) : Nat :=
  match c with
  | 1 => 2
  | 2 => 5
  | 3 => 8
  | 4 => 16
  | 5 => 32
  | 6 => 64
  | 7 => 128
  | _ => 0

/-- Lanes a link trained to. -/
def State.trained (s : State) (l : Nat) : Nat := lookupD s.hs.width l (s.cfg (Obj.HST_LINK_WIDTH + l))

/-- L0p (R304): the link narrows where the bytes sent in the last 20 µs stay below 40 % of the narrower width's capacity,
and widens where more than 16 KiB wait to be sent. -/
def execL0pWidthChange (dt l width sent waiting : Nat) (s : State) : Out :=
  cmd dt s (fun t =>
      let w := t.cfg (Obj.HST_LINK_WIDTH + l)
      let gts := speedGts (t.cfg (Obj.HST_LINK_SPEED + l))
      l < 4 && t.alive && (t.linkState l == 2 || t.linkState l == 3) && 64 ≤ gts && t.hs.flit.contains l
        && t.hs.l0p.contains l && t.cfg (Obj.HST_L0P_EN + l / 2) == 1
        && [2, 4, 8, 16].contains width
        && (if width < w then width ≤ 8 && sent * 8 * 10 < width * gts * 20000 * 4
            else w < width && width ≤ t.trained l && t.linkState l == 3 && 16384 < waiting)) fun t =>
    (t.latch (Obj.HST_LINK_WIDTH + l) width).latch (Obj.HST_LINK_STATE + l) (if width < t.trained l then 3 else 2)

/-! ### Completions (R312 to R314) -/

/-- The request that a tag of a link stands for. -/
def State.req? (s : State) (l tag : Nat) : Option Req := s.hs.reqs.find? fun r => r.link == l && r.tag == tag

/-- The tag of a request returns to the pool; invalidations and resets see it. -/
def State.dropReq (s : State) (r : Req) : State :=
  { s with hs := { s.hs with
      reqs := s.hs.reqs.filter fun x => !(x.link == r.link && x.tag == r.tag),
      inv := s.hs.inv.map fun v => { v with waits := v.waits.filter fun w => w != (r.link, r.tag) } } }

/-- A page request group is sent for a denied page, and the pair stops (R300). -/
def State.pageRequest (s : State) (f q addr n : Nat) (work : Option Nat) : State :=
  match s.qp? f q with
  | none => s
  | some x =>
    (s.setQp f q { x with page := some (addr / 4096) }).askPage
      { fid := f, q := q, page := addr / 4096, pasid := s.pasidOf f x, at_ := s.clock, work := work, n := n }

/-- The oldest write of a function that waits for a page is lost (log entry 73). -/
def State.loseWrite (s : State) (f page : Nat) : State :=
  let x := s.fn f
  match x.wq.findIdx? fun w => match w with | .mem _ a _ => a / 4096 == page | _ => false with
  | some i => s.setFn f { x with wq := x.wq.eraseIdx i }
  | none => s

/-- What waited for a translation that no work asked for fails: a write of the function, or the descriptor in front of pair q
(R300, R312). -/
def State.xlFails (s : State) (f q page : Nat) : State :=
  if q == 65536 then (s.loseWrite f page).flushFn f
  else match s.qp? f q with
    | some x => s.setQp f q { x with fail := true }
    | none => s

/-- The answer to a translation request: bit 0 of the data read allowed, bit 1 write allowed, [63:12] the translated address
(R299, R300; the layout of the PCI Express specification, log entry 9). -/
def State.takeXl (s : State) (r : Req) (data : Bytes) : State :=
  let v := leNat data
  let w? := s.hs.works.find? fun w => w.id == r.work && w.fid == r.fid && !w.todo.isEmpty
  let s1 := s.addXl { port := r.link / 2, fid := r.fid, pasid := r.pasid, page := r.addr / 4096, to_ := v / 4096,
                      rd := bit v 0, wr := bit v 1 }
  match w? with
  | none => s1
  | some w =>
    if bit v 0 then s1
    else
      let s2 := { s1 with hs := { s1.hs with xl := s.hs.xl.filter fun t => !(t.fid == r.fid && t.page == r.addr / 4096) } }
      if (s1.fn r.fid).asksPages then s2.pageRequest r.fid w.q r.addr 0 (some w.id)
      else s2.failWork w 3

/-- A request ends without its data: its work fails, or what waited for its translation (R312). -/
def State.reqFails (s : State) (r : Req) : State :=
  match s.hs.works.find? fun w => w.id == r.work && w.fid == r.fid with
  | some w => s.failWork w 3
  | none => if r.kind == 2 then s.xlFails r.fid r.piece (r.addr / 4096) else s

/-- A completion of a request without EP and with success: a translation, or the next bytes of a read, which ends with its last
ones (R296); those of a dead request are discarded. -/
def State.takeData (s : State) (r : Req) (data : Bytes) : State :=
  if r.kind == 2 then (if r.dead then s.dropReq r else (s.dropReq r).takeXl r data)
  else
    let got := r.got ++ data
    if got.length < r.len then
      { s with hs := { s.hs with reqs := s.hs.reqs.map fun x => if x.link == r.link && x.tag == r.tag then { x with got := got } else x } }
    else
      let s1 := s.dropReq r
      match s1.hs.works.find? fun w => w.id == r.work && w.fid == r.fid && !r.dead with
      | some w => s1.setWork { w with got := assoc w.got r.piece (got.take r.len) }
      | none => s1

/-- Data of a work came back poisoned (R315). -/
def State.poisonWork (s : State) (r : Req) : State :=
  match s.hs.works.find? fun w => w.id == r.work && w.fid == r.fid with
  | some w => if r.kind == 2 then s else s.setWork { w with poisoned := true }
  | none => s

/-- A completion for a request (R312 to R314): status 0 successful, 1 UR, 2 CA; EP poisoned. -/
def State.takeCpl (s : State) (r : Req) (status : Nat) (ep : Bool) (data : Bytes) : State :=
  let port := r.link / 2
  if ep then ((if r.dead then s.dropReq r else (s.dropReq r).poisonWork r).poisonedCpl r.fid)
  else if status != 0 then
    let s1 := (s.dropReq r).bump (Obj.HST_CPL_ERROR + port)
    (if r.dead then s1 else s1.reqFails r).serveLink r.link
  else (s.takeData r data).serveLink r.link

/-- A completion that no request waits for: counted, and logged in the function whose request it was where that is known (R312,
R319). -/
def State.strayCpl (s : State) (l tag : Nat) (ep : Bool) : State :=
  let f := ((s.hs.late.find? fun x => x.1 == (l, tag)).map fun x => x.2).getD (linkPf0 l)
  let s1 := { s with hs := { s.hs with late := s.hs.late.filter fun x => x.1 != (l, tag) } }
  let s2 := (s1.bump (Obj.HST_CPL_UNEXPECTED + l / 2)).aerLog f aerUnexpected
  if ep then s2.bump (Obj.HST_POISONED_RX + l / 2) else s2

/-- COMPLETION_ARRIVAL. -/
def execCompletionArrival (dt l tag status : Nat) (ep : Bool) (data : Bytes) (s : State) : Out :=
  work dt s (fun t => l < 4 && t.alive && t.linkUp l) fun t =>
    match t.req? l tag with
    | some r => t.takeCpl r status ep data
    | none => t.strayCpl l tag ep

/-- A request times out (R312, R313). -/
def State.timeoutReq (s : State) (r : Req) : State :=
  let s1 := s.dropReq r
  let s2 := { s1 with hs := { s1.hs with late := s1.hs.late ++ [((r.link, r.tag), r.fid)] } }
  let s3 := (if r.dead then s2 else s2.reqFails r).countCto r.fid
  if s3.frozen (r.link / 2) then s3 else s3.serveLink r.link

/-- COMPLETION_TIMEOUT. -/
def execCompletionTimeout (dt l tag : Nat) (s : State) : Out :=
  cmd dt s (fun t => t.alive && (match t.req? l tag with
      | some r => (match (t.fn r.fid).cto with | some d => decide (r.at_ + d ≤ t.clock) | none => false)
      | none => false)) fun t =>
    match t.req? l tag with
    | some r => t.timeoutReq r
    | none => t

/-- MALFORMED_TLP (R313, R319). -/
def execMalformedTlp (dt l : Nat) (s : State) : Out :=
  work dt s (fun t => l < 4 && t.alive && t.linkUp l) fun t =>
    ((t.bump (Obj.HST_MALFORMED_RX + l / 2)).aerLog (linkPf0 l) aerMalformed).freeze (l / 2) 2 0

/-! ### Peer windows (R308 to R311) -/

/-- Window n of a port in the current epoch: unstamped work (R310). -/
def State.peerWin (s : State) (port n : Nat) : Nat := s.curVer.cfg (Obj.HST_PEER_WIN + port) n

/-- Bytes of a window. -/
def pwSize (w : Nat) : Nat := 2 ^ fld (elemWord 4 w 0) 5 6

/-- The window that takes n bytes at an aperture offset: the lowest-numbered valid one that contains them all. -/
def State.peerMatch (s : State) (port off n : Nat) : Option Nat :=
  ((List.range 64).map fun i => s.peerWin port i).find? fun w =>
    bit (elemWord 4 w 0) 0 && elemWord 4 w 1 ≤ off && off + n ≤ elemWord 4 w 1 + pwSize w

/-- AtomicOps (R302): 0 FetchAdd, 1 Swap, 2 CAS; operands little-endian, CAS compare value first. -/
def atomicResult (op size : Nat) (old : Nat) (operand : Bytes) : Nat :=
  let a := leNat (operand.take size)
  match op with
  | 0 => (old + a) % 2 ^ (8 * size)
  | 1 => a
  | _ => if old == a then leNat (slice operand size size) else old

/-- A completion goes back to the host, with the ordering attributes of the request (R298, R305); a posted write gets none. -/
def State.reply (s : State) (l status : Nat) (tlp : HostTlp) (data : Bytes) : State :=
  if tlp.kind == 1 then s else (s.wakeLink l).emit (.hostCpl l status tlp.ro tlp.ido data)

/-- Rejected with UR: counted and logged in PF0 (R309). -/
def State.peerUr (s : State) (port : Nat) (tlp : HostTlp) : State :=
  ((s.bump (Obj.HST_PEER_UR + port)).aerLog (port * 8192) aerUnsupported).reply (2 * port) 1 tlp []

/-- A TLP to the aperture (R309). -/
def State.peerTlp (s : State) (port : Nat) (tlp : HostTlp) (op off rid n : Nat) (ep : Bool) (data : Bytes) : State :=
  let kind := tlp.kind
  let n := if kind == 1 then data.length else n
  -- before configuration space is ready, and in D3hot, memory requests get UR (R307, R424)
  if !s.cfgReady port || (s.fn (port * 8192)).d3 then s.reply (2 * port) 1 tlp []
  else if ep && kind == 1 then
    (s.bump (Obj.HST_POISONED_RX + port)).aerPut (port * 8192) aerPoisoned true
  else match s.peerMatch port off n with
    | none => s.peerUr port tlp
    | some w =>
      let w0 := elemWord 4 w 0
      let allowed := bit w0 (kind + 1) && (kind != 2 || (n == 4 || n == 8 || (op == 2 && n == 16)))
      let ridOk := !bit w0 4 || (rid &&& fld w0 32 16) == (fld w0 16 16 &&& fld w0 32 16)
      let a := elemWord 4 w 2 + (off - elemWord 4 w 1)
      if !s.core.memUp || !allowed || !ridOk || s.appSize < a + n then s.peerUr port tlp
      else
        let old := memRead s.core.mem a n
        match kind with
        | 0 => s.reply (2 * port) 0 tlp old
        | 1 => { s with core := { s.core with mem := memWrite s.core.mem a data } }
        | _ =>
          ({ s with core := { s.core with mem := memWrite s.core.mem a (toLe n (atomicResult op n (leNat old) data)) } }).reply
            (2 * port) 0 tlp old

/-- PEER_TLP. -/
def execPeerTlp (dt port : Nat) (tlp : HostTlp) (op off rid n : Nat) (ep : Bool) (data : Bytes) (s : State) : Out :=
  work dt s (fun t => port < 2 && t.linkUp (2 * port) && t.cfg (Obj.HST_PEER_BAR_LOG2 + port) != 0
      && off + n ≤ 2 ^ t.cfg (Obj.HST_PEER_BAR_LOG2 + port) && tlp.kind < 3) fun t =>
    t.peerTlp port tlp op off rid n ep data

/-! ### ATS and PRI (R299, R300) -/

/-- Translations an invalidation names: of a function, a PASID if given, and n pages. -/
def Xl.named (x : Xl) (f : Nat) (pasid : Option Nat) (page n : Nat) : Bool :=
  x.fid == f && (pasid.isNone || x.pasid == pasid) && page ≤ x.page && x.page < page + n

/-- ATS_INVALIDATION: the translations are used no more; requests issued under them are waited for. -/
def execAtsInvalidation (dt f id : Nat) (pasid : Option Nat) (page n : Nat) (s : State) : Out :=
  work dt s (fun t => t.alive && fidUsed f && !coreFid f && t.linkUp (t.linkOf f)) fun t =>
    let waits := (t.hs.reqs.filter fun r => r.fid == f && r.kind != 2 && page ≤ r.addr / 4096 && r.addr / 4096 < page + n).map
      fun r => (r.link, r.tag)
    let v : Inval := { id := id, fid := f, waits := waits }
    { t with hs := { t.hs with xl := t.hs.xl.filter (fun x => !x.named f pasid page n), inv := t.hs.inv ++ [v] } }

/-- ATS_INVALIDATION_DONE: its completion message brings the link back to L0 first (R305). -/
def execAtsInvalidationDone (dt f id : Nat) (s : State) : Out :=
  cmd dt s (fun t => t.alive && (t.hs.inv.any fun v => v.fid == f && v.id == id && v.waits.isEmpty)) fun t =>
    (({ t with hs := { t.hs with inv := t.hs.inv.filter fun v => !(v.fid == f && v.id == id) } }.bump
      (Obj.HST_ATS_INVALIDATIONS + fidPort f)).wakeLink (t.linkOf f)).emit (.invDone f id)

/-- The next n descriptors of a receive pair end with ACCESS. -/
def State.endBufs (s : State) (f q : Nat) (x : Qp) (n : Nat) : State :=
  let y := { x with taken := (x.taken + n) % 2 ^ 32, fail := false }
  (s.setQp f q y).complete f q y.taken (toLe 8 (n * 2 ^ 14) ++ toLe 8 3)

/-- A page request ends without the page: its descriptor completes with ACCESS and the pair goes on. -/
def State.pageFails (s : State) (p : PageReq) : State :=
  match p.work with
  | some id => match s.hs.works.find? fun w => w.id == id with
    | some w => s.failWork w 3
    | none => s
  | none => match s.qp? p.fid p.q with
    | some x => if x.kind == 2 then s.endBufs p.fid p.q x p.n else s.xlFails p.fid p.q p.page
    | none => s.xlFails p.fid p.q p.page

/-- The pair of a page request no longer waits. -/
def State.endPage (s : State) (p : PageReq) : State :=
  let s1 := { s with hs := { s.hs with pri := s.hs.pri.filter (fun x => x != p),
                                       xl := s.hs.xl.filter fun x => !(x.fid == p.fid && x.page == p.page) } }
  match s1.qp? p.fid p.q with
  | some x => s1.setQp p.fid p.q { x with page := none }
  | none => s1

/-- PAGE_REQUEST_RESPONSE: code 0 success, 1 Invalid Request, 15 Response Failure. -/
def execPageRequestResponse (dt f page code : Nat) (s : State) : Out :=
  work dt s (fun t => t.alive && (t.hs.pri.any fun p => p.fid == f && p.page == page)) fun t =>
    match t.hs.pri.find? fun p => p.fid == f && p.page == page with
    | none => t
    | some p =>
      let t1 := t.endPage p
      let t2 := if code == 0 then t1 else t1.pageFails p
      let t3 := if code == 15 then t2.setFn f { t2.fn f with priStopped := true } else t2
      t3.serveLink (t3.linkOf f)

/-- PRI_TIMEOUT. -/
def execPriTimeout (dt f page : Nat) (s : State) : Out :=
  cmd dt s (fun t => t.alive && (t.hs.pri.any fun p => p.fid == f && p.page == page
      && p.at_ + t.cfg (Obj.HST_PRI_TIMEOUT_MS + fidPort f) * 1000000 ≤ t.clock)) fun t =>
    match t.hs.pri.find? fun p => p.fid == f && p.page == page with
    | none => t
    | some p =>
      let t1 := ((t.endPage p).pageFails p).bump (Obj.HST_PRI_TIMEOUTS + fidPort f)
      t1.serveLink (t1.linkOf f)

/-! ### Accesses that a command makes for a pair -/

/-- An access that a job makes: address, length, true for a write. -/
abbrev Access := Nat × Nat × Bool

/-- What the accesses of the descriptor in front meet. -/
inductive JobXl where
  | go
  | fail
  /-- translations or a page are awaited -/
  | wait (s : State)

/-- The first part of a host function's accesses that no cached translation allows: its address, and whether a translation
denies it. -/
def State.xlMiss (s : State) (f : Nat) (pasid : Option Nat) (as : List Access) : Option (Nat × Bool) :=
  as.findSome? fun a => (splitAccess 4096 a.1 a.2.1).findSome? fun p =>
    match s.xlOf f pasid p.1 with
    | some x => if (if a.2.2 then x.wr else x.rd) then none else some (p.1, true)
    | none => some (p.1, false)

/-- Accesses of pair q of a function: core addresses inside application memory, or translations of the host (R299, R300,
R332). -/
def State.jobAccess (s : State) (f q : Nat) (x : Qp) (as : List Access) : JobXl :=
  let as := as.filter fun a => a.2.1 != 0
  if x.fail then .fail
  else if coreFid f then
    if as.all fun a => if a.2.2 then s.inApp a.1 a.2.1 else (s.appRead a.1 a.2.1).isSome then .go else .fail
  else if !(s.fn f).ats then .go
  else match s.xlMiss f (s.pasidOf f x) as with
    | none => .go
    | some (addr, true) => if (s.fn f).asksPages then .wait (s.pageRequest f q addr 1 none) else .fail
    | some (addr, false) => .wait (if s.xlAsked f addr then s else (s.askXl f (s.pasidOf f x) 0 q addr).getD s)

/-- Slots of a submission ring from the next one not taken up, as accesses. -/
def Qp.slots (x : Qp) (n : Nat) : List Access :=
  (List.range n).map fun i => (x.sqBase + (x.taken + i) % 2 ^ 32 % x.sqSize * x.sqEntrySize, x.sqEntrySize, false)

/-- Attributes of a pair's descriptor fetches (R298, R301). -/
def State.ringAttr (s : State) (f : Nat) (x : Qp) : Attr := { ro := false, ido := false, pasid := s.pasidOf f x, tph := none }

/-- What a read for a command came to. -/
inductive Fetched where
  | got (b : Bytes) (s : State)
  /-- it failed (R312), with what that does -/
  | lost (s : State)
  /-- translations or a page are awaited, or no tag is free -/
  | wait (s : State)

/-- Reads of pair q of a function: from application memory, or of the host, whose answer is `given` (R296, R299, R312, R332). -/
def State.fetch (s : State) (f q : Nat) (x : Qp) (attr : Attr) (as : List Access) (given : HostRead) : Fetched :=
  match s.jobAccess f q x as with
  | .wait s1 => .wait s1
  | .fail => .lost s
  | .go =>
    let n := sumBy (fun a => a.2.1) as
    if coreFid f then
      match as.mapM fun a => s.appRead a.1 a.2.1 with
      | some bs => .got bs.flatten s
      | none => .lost s
    else if n == 0 then .got [] s
    else if !s.tagReady f then .wait s
    else
      let s1 := as.foldl (fun a x => a.fetchTlp f attr x.1 x.2.1) s
      match given with
      | .data b => .got (padTo n b) s1
      | .failed w => .lost (s1.readFails f w)

/-! ### Accesses to a function's pages (R294, R307, R318, R424) -/

/-- What a memory request to a page of a function meets. -/
inductive Reach where
  /-- the function takes it -/
  | takes
  /-- fenced or under reset: writes are discarded and counted, reads answered with ones (R318) -/
  | fenced
  /-- in D3hot, or configuration space is not ready: UR (R307, R424) -/
  | ur
  /-- nothing there, or the link is down -/
  | nothing
  deriving DecidableEq, Repr

def State.reach (s : State) (f : Nat) : Reach :=
  if coreFid f then
    (if !s.alive then .nothing
     else if s.fnCfg Obj.FN_ENABLE f == 0 || s.mode.mode == .vigil || (s.fn f).reset == 1 || (s.fn f).reset == 3 || s.coreLost
     then .fenced else .takes)
  else if !fidUsed f || !s.linkUp (s.linkOf f) then .nothing
  else if !s.cfgReady (fidPort f) then .ur
  else if !s.reached f then .nothing
  else if (s.fn f).d3 then .ur
  else if s.fnFenced f || (s.fn f).reset == 1 || (s.fn f).reset == 3 then .fenced
  else if s.fnExists f then .takes else .nothing

/-- `HST_MMIO_DISCARD`, which counts for the host ports. -/
def State.mmioDiscard (s : State) (f : Nat) : State := if coreFid f then s else s.bump (Obj.HST_MMIO_DISCARD + fidPort f)

/-- A memory request is answered with UR (R302, R307, R424); a function whose configuration space answers logs it. -/
def State.urTlp (s : State) (f : Nat) (tlp : HostTlp) : State :=
  (if s.cfgReady (fidPort f) then s.aerLog f aerUnsupported else s).reply (s.linkOf f) 1 tlp []

/-- A posted write of the host to a page of a function: taken, discarded and counted, answered with UR, or lost. -/
def State.pageWrite (s : State) (f : Nat) (act : State → State) : State :=
  match s.reach f with
  | .takes => act s
  | .fenced => s.mmioDiscard f
  | .ur => s.urTlp f ⟨1, false, false⟩
  | .nothing => s

/-- A command that is a write to a function's page (R294, R318). -/
def pageCmd (dt f : Nat) (s : State) (act : State → State) : Out := work dt s (fun _ => true) fun t => t.pageWrite f act

/-! ### Bus Master Enable, FLR, power states, MSI-X, SR-IOV -/

/-- What a configuration request to a function meets. -/
inductive CfgReach where
  | takes
  /-- not ready, or under reset: Request Retry Status (R317, R424) -/
  | retry
  /-- no such function, no bus number of its own, or no link: UR (R292) -/
  | nothing
  deriving DecidableEq, Repr

def State.cfgReach (s : State) (f : Nat) : CfgReach :=
  if coreFid f || !fidUsed f || !s.linkUp (s.linkOf f) then .nothing
  else if !s.cfgReady (fidPort f) then .retry
  else if !s.fnExists f || !s.reached f then .nothing
  else if (s.fn f).reset == 1 || (s.fn f).reset == 3 then .retry else .takes

/-- A configuration request to a function: `act` where it takes it, else a completion with Request Retry Status or UR. A
configuration request is never posted, so a write's completion is sent too. -/
def State.cfgAsk (s : State) (f : Nat) (tlp : HostTlp) (act : State → State) : State :=
  let tlp := { tlp with kind := 0 }
  match s.cfgReach f with
  | .takes => act s
  | .retry => s.reply (s.linkOf f) 2 tlp []
  | .nothing => if s.linkUp (s.linkOf f) then s.reply (s.linkOf f) 1 tlp [] else s

/-- A command that is a configuration write of the host: `act` where the request is taken, and its completion. -/
def cfgCmd (dt f : Nat) (s : State) (cond : State → Bool) (act : State → State) : Out :=
  work dt s (fun t => t.cfgReach f != .takes || cond t) fun t =>
    t.cfgAsk f ⟨0, false, false⟩ fun u => (act u).reply (u.linkOf f) 0 ⟨0, false, false⟩ []

/-- BME_CLEAR (R316). -/
def execBmeClear (dt f : Nat) (s : State) : Out :=
  cfgCmd dt f s (fun t => (t.fn f).bme) fun t =>
    (t.setFn f { t.fn f with bme := false }).killReqs fun r => r.fid == f

/-- BME_SET (R316). -/
def execBmeSet (dt f : Nat) (s : State) : Out :=
  cfgCmd dt f s (fun t => !(t.fn f).bme) fun t =>
    let t1 := (t.setFn f { t.fn f with bme := true }).restartWorks fun g => g == f
    (t1.resumeFn f).pump (t1.linkOf f)

/-- FLR (R346). -/
def execFlr (dt f : Nat) (s : State) : Out := cfgCmd dt f s (fun _ => true) fun t => t.hardSquash f

/-- D_STATE_CHANGE (R307, R343): to D3hot, or back to D0 with the pending interrupts sent. -/
def execDStateChange (dt f : Nat) (d3 : Bool) (s : State) : Out :=
  cfgCmd dt f s (fun t => !fidVf f && (t.fn f).d3 != d3) fun t =>
    let t1 := t.setFn f { t.fn f with d3 := d3, pmeStatus := (t.fn f).pmeStatus && d3 }
    if d3 then t1 else (t1.resumeFn f).pump (t1.linkOf f)

/-- Pending Bits of unmasked vectors are sent (R343). -/
def State.flushPba (s : State) (f : Nat) : State :=
  let x := s.fn f
  let go := x.pba.filter fun v => !x.msixMask && !bit (x.msixEntry v.1).2.2 0
  let s1 := s.setFn f { x with pba := x.pba.filter fun v => !go.contains v }
  go.foldl (fun a v => a.deliverInt f v.1 v.2) s1

/-- MSIX_UNMASK: a vector's mask, or with none the function mask, is cleared. -/
def execMsixUnmask (dt f : Nat) (vec : Option Nat) (s : State) : Out :=
  match vec with
  | some v => pageCmd dt f s fun t =>
    let x := t.fn f
    let e := x.msixEntry v
    (t.setFn f { x with msix := assoc x.msix v (e.1, e.2.1, setFld e.2.2 0 1 0) }).flushPba f
  | none => cfgCmd dt f s (fun _ => true) fun t => (t.setFn f { t.fn f with msixMask := false }).flushPba f

/-- VF_ENABLE (R323): VFs that cease to exist are gone with their state. -/
def execVfEnable (dt f : Nat) (en : Bool) (n : Nat) (s : State) : Out :=
  cfgCmd dt f s (fun t => !fidVf f && n ≤ pfcTotalVfs (t.pfc (fidPort f) (fidNum f))) fun t =>
    let before := (t.hs.fn.filter fun x => !coreFid x.1 && fidVf x.1 && fidPort x.1 == fidPort f && t.fnExists x.1).map fun x => x.1
    let t1 := t.setFn f { t.fn f with vfEn := en, numVfs := n }
    (before.filter fun g => !t1.fnExists g).foldl State.hardSquash t1

end Sys2Proof.Machine
end

