-- ==== Sys2Proof/Machine/ImageChecks.lean ====
section
/-!
DEFINITION. The checks of a pipeline image that run at commit: parse sections, keys, slots, actions, tables, ternary
tables, counter banks, deparser and carry map (spec/03 R107, spec/04 R113 to R136, spec/05 R145 and R146, spec/06 R176,
spec/07 R201).
-/

namespace Sys2Proof.Machine

/-- A field is 0, as a reserved one must be (R11). -/
def clear (x lo w : Nat) : Bool := fld x lo w == 0

/-! ### Parse sections (Tables 03-2 to 03-6) -/

def exOk (x : Nat) : Bool := clear x 13 2 && clear x 25 7 && fld x 16 9 + fld x 8 5 ≤ 511

def nodeOk (img : PipeImage) (n e : Nat) : Bool :=
  n < 512 && e < 2 ^ 256 && clear e 3 1 && clear e 28 4 && clear e 57 7
    && (nodeSlots e).all exOk
    && fld e 4 2 ≤ 1 && fld e (192 + 9) 2 ≤ 2
    && fld e (192 + 24) 5 ≤ 16 && fld e (192 + 12) 12 + fld e (192 + 24) 5 ≤ 4096
    && clear e (192 + 11) 1 && clear e (192 + 39) 1 && clear e (192 + 50) 14
    && (!bit e 1 || (clear e 4 24 && clear e 32 16 && img.programs.any fun p => p.1 == fld e (192 + 40) 10))

def transOk (i x : Nat) : Bool := i < 4096 && x < 2 ^ 43

/-- Operations of Table 03-6 in formats A and B. -/
def assistOps : List Nat :=
  [0x00, 0x01, 0x02, 0x04, 0x05, 0x06, 0x07, 0x08, 0x09, 0x0A, 0x0B, 0x0C, 0x10, 0x12, 0x18, 0x19, 0x1A, 0x1B, 0x1C, 0x1D,
    0x20, 0x21, 0x22, 0x23, 0x30, 0x31]

def assistBranch (w : Nat) : Bool := 0x18 ≤ fld w 26 6 && fld w 26 6 ≤ 0x1D

def assistOk (i w : Nat) : Bool :=
  let op := fld w 26 6
  i < 1024 && w < 2 ^ 32 && assistOps.contains op
    && (op == 0x20 || clear w 16 1)
    && (!(0x18 ≤ op && op ≤ 0x1A) || clear w 3 13)
    && (op != 0x20 || fld w 12 9 + fld w 21 5 ≤ 511)
    && (op != 0x21 || fld w 0 9 ≤ 510)
    && (op != 0x23 || fld w 0 3 != 0)

/-- Every branch of a program stays below its length (R101). -/
def programOk (img : PipeImage) (p : Nat × Nat) : Bool :=
  1 ≤ p.2 && p.2 ≤ 64 && p.1 + p.2 ≤ 1024
    && img.assist.all fun x => !(p.1 ≤ x.1 && x.1 < p.1 + p.2 && assistBranch x.2) || fld x.2 20 6 < p.2

def parseOk (img : PipeImage) : Bool :=
  img.nodes.all (fun x => nodeOk img x.1 x.2) && img.trans.all (fun x => transOk x.1 x.2)
    && img.assist.all (fun x => assistOk x.1 x.2) && img.programs.length ≤ 1024 && img.programs.all (programOk img)

/-! ### Keys (Table 04-2) -/

/-- Width of an enabled selector. -/
def selWidth (x : Nat) : Nat := if bit x 0 then fld x 12 8 + 1 else 0

def selOk (x : Nat) : Bool :=
  x < 2 ^ 20 && (!bit x 0 ||
    (if bit x 1 then fld x 2 10 + selWidth x ≤ 1024 else fld x 2 10 ≤ 511 && 8 * fld x 2 10 + selWidth x ≤ 4096))

def profileWidth (sels : List Nat) : Nat := sumBy selWidth sels

def profilesOk (img : PipeImage) : Bool :=
  img.profiles.all fun p => 64 ≤ p.1 && p.1 < 25 * 64 && p.2.length ≤ 16 && p.2.all selOk && profileWidth p.2 ≤ 640

/-! ### What primitives write, as runs of the header vector (space 0, bits from its most significant one) or of the
metadata block (space 1, bits from its least significant one) -/

/-- Run of a field reference (Table 04-6). -/
def frRun (r : Nat) : Nat × Nat × Nat :=
  if bit r 18 then (1, fld r 8 10, frWidth r) else (0, 8 * fld r 9 9 + fld r 6 3, frWidth r)

def prA (p : Nat) : Nat := fld p 38 19
def prOp (p : Nat) : Nat := fld p 58 6

/-- Runs that a primitive writes (Table 04-7). -/
def prWrites (p : Nat) : List (Nat × Nat × Nat) :=
  let a := prA p
  match prOp p with
  | 0x01 | 0x02 => [frRun a]
  | 0x04 => [(b2n (bit a 18), 8 * fld a 9 9, 8 * (fld a 4 5 + 1))]
  | 0x08 => [(1, 343, 9)]
  | 0x09 => [(1, 320, 23)]
  | 0x0A => if bit a 18 then [(1, 355, 1), (1, 384, 18)] else [(1, 354, 1), (1, 356, 18)]
  | 0x0C => [(1, 402, 16)]
  | 0x0D => [(1, 418, 9)]
  | 0x0E => [(1, 427, 21)]
  | 0x0F => [(1, 543, 19)]
  | 0x10 => [(1, 512, 8)]
  | 0x11 => [(1, 532, 11)]
  | _ => []

/-- Run of an enabled selector. -/
def selRun (x : Nat) : Nat × Nat × Nat :=
  if bit x 1 then (1, fld x 2 10, selWidth x) else (0, 8 * fld x 2 10, selWidth x)

def runsMeet (a b : Nat × Nat × Nat) : Bool := a.1 == b.1 && a.2.1 < b.2.1 + b.2.2 && b.2.1 < a.2.1 + a.2.2

/-! ### Actions (Tables 04-5 to 04-7) -/

def frOk (r : Nat) : Bool :=
  if bit r 18 then clear r 6 2 && fld r 8 10 + frWidth r ≤ 1024 else 8 * fld r 9 9 + fld r 6 3 + frWidth r ≤ 4096

/-- Metadata that SET, ADD and COPY may write: the RW fields of Tables 03-8 and 04-1. -/
def mdWritable : List (Nat × Nat) := [(128, 64), (340, 3), (352, 2), (512, 20), (576, 448)]

def runWritable (r : Nat × Nat × Nat) : Bool :=
  r.1 == 0 || mdWritable.any fun f => f.1 ≤ r.2.1 && r.2.1 + r.2.2 ≤ f.1 + f.2

/-- Source of a primitive for a width (Table 04-5). -/
def srcOk (p w : Nat) : Bool :=
  match fld p 36 2 with
  | 0 => true
  | 1 => clear p 8 24 && fld p 0 8 + w ≤ 256
  | 2 => clear p 19 13 && frOk (fld p 0 19)
  | _ => false

/-- No source: PR_SK and PR_SRC are reserved. -/
def noSrc (p : Nat) : Bool := clear p 36 2 && clear p 0 32

def copyOk (p : Nat) : Bool :=
  let a := prA p
  let n := fld a 4 5 + 1
  let room := fun (space byte : Nat) => byte + n ≤ (if space == 1 then 128 else 512)
  clear a 0 4 && clear p 36 2 && clear p 10 22
    && room (fld a 18 1) (fld a 9 9) && room (fld p 9 1) (fld p 0 9) && (prWrites p).all runWritable

/-- The target of a FWD from an immediate is a port or a function in use (R126: only values of action data and fields are left to
run time). -/
def fwdOk (p : Nat) : Bool :=
  let kind := fld (prA p) 16 3
  fld p 36 2 != 0 || ((kind != 1 || fld p 0 17 ≤ 15) && (kind != 3 || fidUsed (fld p 0 17)))

/-- One primitive word in the ingress or egress half (R124, R125). -/
def primOk (egress : Bool) (p : Nat) : Bool :=
  let a := prA p
  p < 2 ^ 64 && clear p 32 4 && match prOp p with
  | 0x00 => a == 0 && noSrc p
  | 0x01 | 0x02 => frOk a && runWritable (frRun a) && srcOk p (frWidth a)
  | 0x04 => copyOk p
  | 0x08 => a == 0 && clear p 36 2 && clear p 8 24 && 0x80 ≤ fld p 0 8
  | 0x09 => !egress && clear a 0 13 && 1 ≤ fld a 16 3 && fld a 16 3 ≤ 4 && srcOk p 17 && fwdOk p
  | 0x0A => !egress && clear a 0 18 && srcOk p 18
  | 0x0B => clear a 0 14 && srcOk p 32
  | 0x0C => clear a 0 15 && noSrc p
  | 0x0D => clear a 0 11 && noSrc p
  | 0x0E => clear a 0 18 && srcOk p 19
  | 0x0F => !egress && clear a 0 1 && noSrc p
  | 0x10 => clear a 0 11 && noSrc p
  | 0x11 => clear a 0 9 && noSrc p
  | _ => false

/-- COUNT names a bank that the image declares (R126; DEDUCED, log entry 71). -/
def primBankOk (img : PipeImage) (p : Nat) : Bool := prOp p != 0x0B || img.banks.any fun b => b.1 == fld (prA p) 14 5

def actionsOk (img : PipeImage) : Bool :=
  img.actions.all fun x =>
    4096 ≤ x.1 && x.1 < 25 * 4096 && x.2.length ≤ 8 && x.2.all fun p => primOk (decide (x.1 / 4096 > 16)) p && primBankOk img p

/-- Pattern sets that DIVERT primitives of the image name (R187). -/
def divertSets (img : PipeImage) : List Nat :=
  img.actions.flatMap fun x => (x.2.filter fun p => prOp p == 0x0F).map fun p => fld (prA p) 15 4

/-! ### Slots (R114 to R120) -/

/-- Some slot of a position can run an action there: a lookup ends in it. -/
def actsAt (img : PipeImage) (pos : Nat) : Bool :=
  (List.range 4).any fun k =>
    let d := slotAt img pos k
    bit d 0 && (fld d 1 3 != 3 || bit d 12 || trieLast img pos k)

/-- Positions at which some action that could run writes into a run (R119). -/
def writersOf (img : PipeImage) (r : Nat × Nat × Nat) : List Nat :=
  (img.actions.filter fun x => actsAt img (x.1 / 4096) && (upToLast (x.2.take 8)).any fun p => (prWrites p).any (runsMeet r)).map
    fun x => x.1 / 4096

/-- A far lookup's key is complete in time (R119). -/
def farOk (img : PipeImage) (pos : Nat) (sels : List Nat) : Bool :=
  (sels.filter fun x => bit x 0).all fun x =>
    (writersOf img (selRun x)).all fun w => if pos ≤ 16 then w > 16 || w + 11 ≤ pos else w ≤ 16

/-- Positions of the lookup of slot k that starts at a position: how many follow without a break. -/
def trieRun (img : PipeImage) (k : Nat) : Nat → Nat → Nat
  | _, 0 => 0
  | pos, n + 1 => if trieLast img pos k then 1 else 1 + trieRun img k (pos + 1) n

def slotOk (img : PipeImage) (key d : Nat) : Bool :=
  let pos := key / 4
  let k := key % 4
  let kind := fld d 1 3
  let sels := lookupD img.profiles (pos * 64 + fld d 13 6) []
  1 ≤ pos && pos ≤ 24 && d < 2 ^ 40 && kind ≤ 4 && (!bit d 0 ||
    ((kind != 2 || (((11 ≤ pos && pos ≤ 16) || (20 ≤ pos && pos ≤ 24)) && farOk img pos sels))
      && (bit d 12 || match tinfo? img (fld d 4 8) with
        | none => false
        | some t => t.kind == kind && (kind != 4 || t.position == pos)
          && (if kind == 3 then
                (t.keyWidth == 44 || pos ≤ 16) && (!trieFirst img pos k || (profileWidth sels ≤ t.keyWidth && trieRun img k pos 16 == trieLevels t))
              else profileWidth sels ≤ t.keyWidth))))

def slotsOk (img : PipeImage) : Bool :=
  img.slots.all (fun x => slotOk img x.1 x.2)
    && (img.slots.filter fun x => bit x.2 0 && fld x.2 1 3 == 2).length ≤ 2

/-! ### Tables (Tables 05-1, 05-2 and 06-1) -/

def powerOfTwo (n : Nat) : Bool := n != 0 && 2 ^ Nat.log2 n == n

/-- Longest prefix lengths that R154 lists. -/
def trieLens : List Nat := [20, 32, 44, 56, 64, 68, 80, 92, 104, 116, 128]

def sizeOk (t : TInfo) : Bool :=
  match t.kind with
  | 0 => 1 ≤ t.size && t.size ≤ 1048576
  | 1 => powerOfTwo t.size && 1024 ≤ t.size && t.size ≤ 4194304
  | 2 => powerOfTwo t.size && 4096 ≤ t.size && t.size ≤ 134217728
  | _ => 1024 ≤ t.size && t.size ≤ (if t.keyWidth == 44 then 2097152 else 1048576)

def tableOk (img : PipeImage) (d : Nat) : Bool :=
  let t := tinfoOf img d
  let cls := fld d 26 3
  d < 2 ^ 98 && clear d 15 1 && clear d 29 3 && t.kind ≤ 3
    && (!t.learn || ((t.kind == 1 || t.kind == 2) && t.keyWidth ≤ 256))
    && (!t.age || t.kind ≤ 2)
    && (match t.kind with
        | 0 => t.keyWidth == 20
        | 3 => t.keyWidth == 44 || (t.keyWidth == 140 && trieLens.contains t.maxLen)
        | _ => 1 ≤ t.keyWidth && t.keyWidth ≤ 640)
    && (if t.kind == 2 then cls == 4 else cls ≤ 3)
    && (t.kind == 1 || t.kind == 2 || t.seed == 0) && sizeOk t

def ternOk (d : Nat) : Bool :=
  d < 2 ^ 29 && clear d 15 1 && fld d 10 2 ≤ 2 && fld d 12 3 ≤ 3 && !clear d 16 8 && 1 ≤ fld d 24 5 && fld d 24 5 ≤ 24

/-- No number stands twice. -/
def distinct : List Nat → Bool
  | [] => true
  | x :: t => !t.contains x && distinct t

/-- n rounded up to a multiple of m. -/
def roundUp (n m : Nat) : Nat := (n + m - 1) / m * m

/-- Footprint of a table in a region's table SRAM (Table 05-2), in bits. -/
def sramBits (t : TInfo) : Nat :=
  let data := t.dataBits / 8
  let near := roundUp (keyAreaLen t + 4 + data) 4
  match t.kind with
  | 0 => 8 * t.size * (4 + data)
  | 1 => 8 * (t.size + 16384) * near
  | 2 => t.size + 8 * 16384 * near
  | 3 => 8 * t.size * ((if t.keyWidth == 44 then 12 else 24) + data)
  | _ => 0

/-- Bytes of a far table in each stack (R32, Table 05-2). -/
def farBytes (t : TInfo) : Nat := if t.kind == 2 then t.size * (16 + roundUp (keyAreaLen t) 16) else 0

def tablesOk (img : PipeImage) : Bool :=
  img.tables.all (tableOk img) && img.tern.all ternOk
    && distinct ((tinfos img).map fun t => t.id)
    && distinct (img.tern.flatMap fun d => banksOf (fld d 16 8))
    && img.learnCtx.all (fun x => selOk x.2 && selWidth x.2 ≤ 64)
    && sumBy (fun t => sramBits t) (tinfos img) + 8 * 16 * sumBy (fun b => b.2) img.banks ≤ 8 * 64 * 2 ^ 20

/-! ### Banks, deparser, carry map (R128, R136, R201) -/

def banksOk (img : PipeImage) : Bool :=
  img.banks.all (fun b => b.1 < 32 && 1 ≤ b.2 && b.2 ≤ 1048576) && 16 * sumBy (fun b => b.2) img.banks ≤ 16 * 2 ^ 20

def emitsOk (img : PipeImage) : Bool :=
  img.emits.all (fun x => x.1 < 32 && x.2 < 2 ^ 25 && fld x.2 7 9 + fld x.2 16 7 ≤ 511 && fld x.2 23 2 ≤ 2)
    && sumBy (fun x => fld x.2 16 7 + 1) (img.emits.filter fun x => bit x.2 0) ≤ 512

def carryOk (img : PipeImage) : Bool :=
  img.carry.length ≤ 8 && img.carry.all (fun r => 1 ≤ r.2 && r.2 ≤ 128 && r.1 + r.2 ≤ 512) && sumBy (fun r => r.2) img.carry ≤ 128

/-- Every check of an image that looks at the image alone. -/
def imageOk (img : PipeImage) : Bool :=
  parseOk img && profilesOk img && actionsOk img && slotsOk img && tablesOk img && banksOk img && emitsOk img && carryOk img

end Sys2Proof.Machine
end

