-- ==== Sys2Proof/Machine/Checks.lean ====
section
/-!
DEFINITION. The version that a commit makes of a staging area, and the checks of R57 on it: consistency groups, device
reserves, references between images and tables. A check answers the object that EPOCH_REJECT_INDEX names.
-/

namespace Sys2Proof.Machine

/-! ### The version a commit makes (R59, R62) -/

/-- A store with one object's elements replaced by the listed ones (R401). -/
def Store.setTable (st : Store) (o : Nat) (es : List (Nat × Nat)) : Store :=
  es.foldl (fun a e => Store.put a (okey o e.1) (objDefault o e.1) e.2) (st.filter fun p => keyObj p.1 != o)

/-- Elements of an object in a store. -/
def Store.elems (st : Store) (o : Nat) : List (Nat × Nat) :=
  (st.filter fun p => keyObj p.1 == o).map fun p => (keyElem p.1, p.2)

/-- EPOCH object values with a staging area laid over them. -/
def stagedObjs (objs : Store) (st : Staging) : Store :=
  let o1 := st.bulk.foldl (fun a b => match b with | .table o es => Store.setTable a o es | _ => a) objs
  st.vals.foldl (fun a p => Store.put a p.1 (objDefault (keyObj p.1) (keyElem p.1)) p.2) o1

def stagedPipe (st : Staging) : Option (Option (PipeImage × Bytes)) :=
  st.bulk.findSome? fun b => match b with | .pipe i => some i | _ => none

def stagedPat (st : Staging) (set : Nat) : Option (Option (PatSet × Bytes)) :=
  st.bulk.findSome? fun b => match b with | .pat n i => if n == set then some i else none | _ => none

/-- A table's declaration word in an image. -/
def declOf (img : PipeImage) (id : Nat) : Option (Nat × Nat) :=
  match img.tables.find? (fun d => fld d 0 8 == id) with
  | some d => some (d, lookupD img.trieLen id 128)
  | none => (img.tern.find? fun d => fld d 0 8 == id).map fun d => (d, 2 ^ 64)

/-- Which epoch brought the declaration of each table of a new image (R147). -/
def newInc (base : Ver) (img : PipeImage) (n : Nat) : List (Nat × Nat) :=
  (tinfos img).map fun t =>
    let old := match base.pipe with | some i => declOf i t.id | none => none
    (t.id, if old.isSome && old == declOf img t.id then lookupD base.inc t.id n else n)

/-- An image object with its container set or removed. -/
def setCont (l : List (Nat × Bytes)) (o : Nat) (c : Option Bytes) : List (Nat × Bytes) :=
  match c with
  | some b => assoc l o b
  | none => dissoc l o

/-- The version with number n that a staging area makes of another. -/
def Ver.with_ (base : Ver) (n : Nat) (st : Staging) : Ver :=
  let v1 : Ver := { base with num := n, objs := stagedObjs base.objs st }
  let v2 := match stagedPipe st with
    | some i =>
      let img := i.map fun x => x.1
      { v1 with
        pipe := img, conts := setCont v1.conts Obj.PIPE_IMAGE (i.map fun x => x.2),
        inc := match img with | some im => newInc base im n | none => [] }
    | none => v1
  (List.range 16).foldl (fun v set => match stagedPat st set with
    | some i => { v with
        pats := match i with | some x => assoc v.pats set x.1 | none => dissoc v.pats set
        conts := setCont v.conts (Obj.PAT_SET_IMAGE + set) (i.map fun x => x.2) }
    | none => v) v2

/-- Objects that a staging area touches. -/
def Staging.touched (st : Staging) : List Nat :=
  st.vals.map (fun p => keyObj p.1) ++ st.bulk.map fun b => match b with
    | .pipe _ => Obj.PIPE_IMAGE
    | .pat set _ => Obj.PAT_SET_IMAGE + set
    | .table o _ => o

/-- Objects that a version holds a value of. -/
def Ver.held (v : Ver) : List Nat := v.objs.map (fun p => keyObj p.1) ++ v.conts.map fun p => p.1

/-- One of the n objects from o on is touched. -/
def touches (t : List Nat) (o n : Nat) : Bool := t.any fun x => o ≤ x && x < o + n

/-- The first of n objects from o on that fails a test. -/
def firstBad (o n : Nat) (bad : Nat → Bool) : Option Nat := (findFrom bad 0 n).map fun i => o + i

/-! ### Device reserves (R32) -/

/-- Versions that hold state: the live epochs, those that apply or are queued, and a prepared one. -/
def State.heldVers (s : State) : List Ver :=
  s.ep.live ++ (s.ep.applying.map fun a => a.1.ver)
    ++ (match s.ep.queued with | some q => [q.ver] | none => [])
    ++ (match s.ep.member with | some m => [m.contents.ver] | none => [])

/-- Far tables of a list of versions, each kept once for as long as its declaration stays. -/
def farSum (vs : List Ver) : Nat :=
  let all := vs.flatMap fun v => match v.pipe with
    | some i => (tinfos i).map fun t => (t.id, lookupD v.inc t.id 0, farBytes t)
    | none => []
  sumBy (fun x => x.2.2) all.eraseDups

/-- Automata of a list of versions, at their compiled size. -/
def patSum (vs : List Ver) : Nat := sumBy (fun x => x.2.compiled) (vs.flatMap fun v => v.pats).eraseDups

/-- Bytes of a stack's reserve in use, counting the versions given. -/
def State.reserveSum (s : State) (vs : List Ver) (stack : Nat) : Nat :=
  512 * 2 ^ 20 + farSum vs + patSum vs + s.cfg (Obj.TM_HBM_BUF_MIB + stack) * 2 ^ 20

def State.reserveOk (s : State) (vs : List Ver) : Bool :=
  [0, 1].all fun k => s.reserveSum vs k ≤ s.cfg Obj.MEM_RESERVE_GIB * 2 ^ 30

/-! ### Groups -/

/-- Parse group (R107): every start node valid while an image is in effect. -/
def checkParse (v : Ver) : Option Nat :=
  match v.pipe with
  | none => none
  | some img =>
    match firstBad Obj.PARSE_START_NET 26 (fun i => !bit (lookupD img.nodes (v.cfg (Obj.PARSE_START_NET + i)) 0) 0) with
    | some o => some o
    | none => if imageOk img then none else some Obj.PIPE_IMAGE

/-- DIVERT names loaded sets only; pattern sets keep their limits (R187). -/
def State.checkPatterns (s : State) (v : Ver) : Option Nat :=
  let lost := match v.pipe with
    | some img => (divertSets img).any fun n => (lookup? v.pats n).isNone
    | none => false
  if lost then some Obj.PIPE_IMAGE
  else match v.pats.find? (fun p => p.2.patterns.length > 65536 || p.2.patterns.any (fun x => 65536 ≤ x.id) || p.2.compiled > 128 * 2 ^ 20) with
    | some p => some (Obj.PAT_SET_IMAGE + p.1)
    | none =>
      if patSum (s.heldVers ++ [v]) > 2 * 2 ^ 30 then
        (v.pats.head?).map fun p => Obj.PAT_SET_IMAGE + p.1
      else none

/-- A version's chain of a queue in a region. -/
def Ver.chain (v : Ver) (region q : Nat) : Option (List Nat × Nat) :=
  chainOf (fun n => v.cfg (Obj.TM_TOPOLOGY + region) n) 4 (leafNode q)

def Ver.port (v : Ver) (region q : Nat) : Option Nat := (v.chain region q).map fun c => c.2

/-- Valid nodes below L3 of a version that are written. -/
def innerNodes (v : Ver) (region : Nat) : List Nat :=
  ((v.objs.filter fun p => keyObj p.1 == Obj.TM_TOPOLOGY + region && keyElem p.1 < 20736).map fun p => keyElem p.1)

/-- Parent of every valid node is valid (R216). -/
def treeOk (v : Ver) (region : Nat) : Bool :=
  (innerNodes v region ++ (validLeaves v region).map leafNode).all fun n =>
    let w := v.cfg (Obj.TM_TOPOLOGY + region) n
    !tnValid w || tnParent w ≥ 131040 || tnValid (v.cfg (Obj.TM_TOPOLOGY + region) (tnParent w))

/-- Failover target of every valid leaf (R227). -/
def failoverOk (v : Ver) (region : Nat) : Bool :=
  (validLeaves v region).all fun q =>
    let w := v.cfg (Obj.TM_TOPOLOGY + region) (leafNode q)
    v.port (1 - region) (if tnFoSet w then tnFoQueue w else q) == v.port region q

/-- Region in which the class map of a port node resolves under a version. -/
def mapRegion (v : Ver) (pn : Nat) : Nat :=
  if pn < 16 then v.cfg (Obj.NET_PORT_BIND + pn) else v.cfg (Obj.WV_LINK_BIND + (pn - 16))

/-- Scheduling group (R216). -/
def State.checkSched (s : State) (v : Ver) : Option Nat :=
  match firstBad Obj.TM_TOPOLOGY 2 (fun r => !treeOk v r) with
  | some o => some o
  | none =>
    if [0, 1].any fun r => 2 * minReserved v r > frontCells + s.carveCells r then some Obj.TM_ADM_PROFILE
    else match firstBad Obj.TM_TOPOLOGY 2 (fun r => !failoverOk v r) with
      | some o => some o
      | none => firstBad Obj.TM_CLASS_MAP 24 fun pn =>
          (List.range 8).any fun t =>
            v.port (mapRegion v pn) (fld (v.cfg (Obj.TM_CLASS_MAP + pn)) (16 * (7 - t)) 16) != some pn

/-- Receive-queue group (R328). -/
def checkRxq (v : Ver) : Option Nat :=
  firstBad Obj.FN_RX_QUEUE 3 fun sub =>
    (Store.elems v.objs (Obj.FN_RX_QUEUE + sub)).any fun e =>
      e.2 != 0xFFFF && (v.port 0 e.2 != some (24 + sub) || v.port 1 e.2 != some (24 + sub))

/-- Gate entries of a port in a version. -/
def Ver.gateEntries (v : Ver) (pn : Nat) : List Nat := (Store.elems v.objs (Obj.GATE_LIST + pn)).map fun e => e.2

/-- Gate list entry in range (Table 08-3). -/
def gateEntryOk (x : Nat) : Bool := x < 2 ^ 38 && 1 ≤ fld x 8 30 && fld x 8 30 ≤ 1000000000

/-- Gate groups (R242). -/
def checkGates (v : Ver) : Option Nat :=
  (findFrom (fun pn => v.cfg (Obj.GATE_ENABLE + pn) == 1 &&
    (v.gateEntries pn == [] || (v.gateEntries pn).length > 1024 || !(v.gateEntries pn).all gateEntryOk)) 0 24).map fun pn =>
      Obj.GATE_LIST + pn

/-- Calendar of a version. -/
def Ver.cal (v : Ver) : Cal :=
  { cycle := v.cfg Obj.WV_CAL_CYCLE_NS, wins := (List.range 64).map fun i => v.cfg Obj.WV_CAL_WINDOWS i,
    tcClass := v.cfg Obj.WV_TC_CLASS }

/-- Window entry in range (Table 09-9). -/
def winOk (x : Nat) : Bool := x < 2 ^ 28 && clear x 4 4 && bit x 0 && 1 ≤ fld x 8 20 && fld x 8 20 ≤ 1000000

/-- Calendar group (R271). -/
def checkCal (v : Ver) : Option Nat :=
  if v.cal.wins.all winOk && sumBy (fun w => fld w 8 20) v.cal.wins == v.cal.cycle then none else some Obj.WV_CAL_WINDOWS

/-- Application memory that the settings of the reserve leave (R33). -/
def State.appBytes (s : State) : Nat :=
  (if s.cfg Obj.MEM_APP_MODE == 1 then 48 - 2 * s.cfg Obj.MEM_RESERVE_GIB else 24 - s.cfg Obj.MEM_RESERVE_GIB) * 2 ^ 30

/-- Peer window in range (Table 10-4) for an aperture of 2^log bytes. -/
def State.peerOk (s : State) (log w : Nat) : Bool :=
  let w0 := elemWord 4 w 0
  let size := 2 ^ fld w0 5 6
  let off := elemWord 4 w 1
  let tgt := elemWord 4 w 2
  !bit w0 0 || (20 ≤ log && off + size ≤ 2 ^ log && off % size == 0 && tgt % size == 0
    && tgt + size ≤ s.cfg Obj.MEM_APP_SIZE)

/-- Peer groups (R308). -/
def State.checkPeer (s : State) (v : Ver) : Option Nat :=
  firstBad Obj.HST_PEER_WIN 2 fun p =>
    (Store.elems v.objs (Obj.HST_PEER_WIN + p)).any fun e => !s.peerOk (s.cfg (Obj.HST_PEER_BAR_LOG2 + p)) e.2

/-- Policer elements (R234), those touched being among those written. -/
def checkPol (v : Ver) : Option Nat :=
  if (Store.elems v.objs Obj.POL_CONFIG).all fun e => polOk e.2 then none else some Obj.POL_CONFIG

/-- Room of the image store (R454). -/
def State.storeRoom (s : State) : Nat := s.cfg Obj.IMG_FLASH_BYTES - 0x04110000

def State.checkStore (s : State) (v : Ver) (t : List Nat) : Option Nat :=
  if sumBy (fun c => c.2.length) v.conts ≤ s.storeRoom then none
  else if t.contains Obj.PIPE_IMAGE then some Obj.PIPE_IMAGE else (t.find? fun o => Obj.PAT_SET_IMAGE ≤ o && o < Obj.PAT_SET_IMAGE + 16)

/-- The checks of R57 on a version that changes the objects t, in one order (log entry 17); none where all pass. -/
def State.checkVer (s : State) (v : Ver) (t : List Nat) : Option Nat :=
  let image := t.contains Obj.PIPE_IMAGE
  let pats := touches t Obj.PAT_SET_IMAGE 16
  let sched := touches t Obj.TM_TOPOLOGY 2
  let run := fun (c : Bool) (f : Option Nat) => if c then f else none
  ([run (image || touches t Obj.PARSE_START_NET 26) (checkParse v),
    run (image || pats) (s.checkPatterns v),
    run (image || pats) (if s.reserveOk (s.heldVers ++ [v]) then none
      else some (if image then Obj.PIPE_IMAGE else (t.find? fun o => Obj.PAT_SET_IMAGE ≤ o).getD Obj.PAT_SET_IMAGE)),
    run (image || pats) (s.checkStore v t),
    run (sched || touches t Obj.TM_ADM_PROFILE 64 || touches t Obj.TM_CLASS_MAP 24 || touches t Obj.NET_PORT_BIND 16
      || touches t Obj.WV_LINK_BIND 8) (s.checkSched v),
    run (sched || touches t Obj.FN_RX_QUEUE 3) (checkRxq v),
    run (touches t Obj.GATE_ENABLE 24 || touches t Obj.GATE_LIST 24 || touches t Obj.GATE_BASE_TIME 24
      || touches t Obj.GATE_CYCLE_NS 24) (checkGates v),
    run (touches t Obj.WV_CAL_CYCLE_NS 3) (checkCal v),
    run (touches t Obj.HST_PEER_WIN 2) (s.checkPeer v),
    run (t.contains Obj.POL_CONFIG) (checkPol v)]).findSome? id

end Sys2Proof.Machine
end

