-- ==== Sys2Proof/Machine/Sem.lean ====
section
/-!
DEFINITION. Changes of mode (spec/14 R431).
-/

namespace Sys2Proof.Machine

/-! ### Modes (R431) -/

/-- The mode changes: MODE_SINCE, MODE_REASON, the count, the event and APLIC source 2. An interval of the IPFIX export is not
exported where a HANDOVER begins in it (R255). -/
def State.setMode (s : State) (m : Mode) (reason : Nat) : State :=
  if s.mode.mode == m then s
  else
    let old := s.mode.mode.num
    let s1 : State := { s with
      mode := { s.mode with mode := m }
      tm := if m == .handover then { s.tm with ipfix := [], ipfixOn := false } else s.tm }
    (((((s1.latch Obj.MODE_CURRENT m.num).latch Obj.MODE_SINCE s.now).latch Obj.MODE_REASON reason).bump
      Obj.MODE_CHANGES).raise 0x0010 1 0 (toBe 1 old ++ toBe 1 m.num ++ toBe 1 reason)).aplic 2

/-- SERVICE, or DEGRADED while a region is fenced. -/
def State.serviceMode (s : State) : Mode := if s.mode.fenced.isSome then .degraded else .service

end Sys2Proof.Machine
end

