-- ==== Sys2Proof/Machine/Epochs.lean ====
section
/-!
DEFINITION. Local and scheduled commits, the switch to a new epoch and the retirement of an old one (spec/02 R65 to R86,
spec/09 R281 and R282). A commit's switch instant is the instant of its own command.
-/

namespace Sys2Proof.Machine

/-! ### Numbers -/

/-- Epochs that count as live for a further commit (R67). -/
def State.liveCount (s : State) : Nat := s.ep.live.length + s.ep.applying.length

/-- The version a new commit builds on. -/
def State.baseVer (s : State) : Ver :=
  match s.ep.applying.getLast? with
  | some a => a.1.ver
  | none => s.curVer

/-- The initiator of a scheduled commit, from its acceptance until its T or its cancel (R68). -/
def State.initiating (s : State) : Bool :=
  match s.ep.initiated with
  | some i => i.verdict == 0 && s.now < i.t
  | none => false

/-- A commit request is refused with BUSY (R67, R68, R83). -/
def State.commitBusy (s : State) : Bool :=
  s.mode.mode == .handover || s.mode.mode == .dormant || (s.mode.mode == .vigil && s.ep.live.isEmpty)
    || s.ep.member.isSome || s.initiating || s.ep.queued.isSome

/-- An entry of a table whose declaration ends with epoch n, once the operations accepted for n are dropped: none where it was
inserted by one of them; where one of them ended it, it stands (R159). -/
def TEntry.undo (e : TEntry) (n : Nat) : Option TEntry :=
  if e.born == some n then none
  else if e.died == some n then some { e with died := none, journal := false, super := false }
  else some e

/-- Operations accepted for a table that the sealed version declares anew or no longer are dropped (R159, R147). -/
def State.dropOps (s : State) (v : Ver) : State :=
  let stays := fun (e : TEntry) => lookup? v.inc e.table == some e.inc
  { s with tbl := s.tbl.filterMap fun e => if stays e then some e else e.undo v.num }

/-- The number N is taken and a staging area sealed (R59, R66 step 1). -/
def State.seal (s : State) (k : Nat × Nat) (v : Ver) : Sealed × State :=
  let c : Sealed := { ver := v, stage := s.stageOf k, sess := k }
  let s1 := (s.setStage k Staging.none_).dropOps v
  (c, { s1 with ep := { s1.ep with openNum := (s.ep.openNum + 1) % 2 ^ 32 } })

/-- Where a commit that is not queued goes: it applies within 2 µs, after those that apply already. -/
def State.apply (s : State) (c : Sealed) : State :=
  { s with ep := { s.ep with applying := s.ep.applying ++ [(c, s.clock + 2000)] } }

/-- A local commit of a session (R65 to R68): status and the number taken. One refused with BUSY leaves EPOCH_LAST_STATUS as it
is: DESIGN CHOICE (log entry 68), since the manual does not say whether it counts as the latest commit. -/
def State.commitLocal (s : State) (k : Nat × Nat) : Nat × Nat × State :=
  if s.commitBusy then (1, 0, s)
  else
    let st := s.stageOf k
    let n := s.ep.openNum
    let v := Ver.with_ s.baseVer n st
    match s.checkVer v st.touched with
    | some o => (2, 0, (s.latch Obj.EPOCH_REJECT_INDEX o).latch Obj.EPOCH_LAST_STATUS 2)
    | none =>
      let r := s.seal k v
      let s1 := r.2.latch Obj.EPOCH_REJECT_INDEX 0
      if s.liveCount ≥ 4 then
        let s2 := (s1.bump Obj.EPOCH_COMMITS_QUEUED).latch Obj.EPOCH_LAST_STATUS 5
        (5, n, { s2 with ep := { s2.ep with queued := some r.1 } })
      else (0, n, (s1.latch Obj.EPOCH_LAST_STATUS 0).apply r.1)

/-! ### What changes at a switch instant -/

/-- Keys at which two stores differ, with the value of the second (none: back to the default). -/
def storeDiff (a b : Store) : List (Nat × Nat) :=
  (b.filter fun p => lookup? a p.1 != some p.2)
    ++ ((a.filter fun p => (lookup? b p.1).isNone).map fun p => (p.1, objDefault (keyObj p.1) (keyElem p.1)))

/-- Deficits of leaves with a new place or profile restart from 0 (R225). -/
def State.resetDeficits (s : State) (old new : Ver) : State :=
  let place := fun (w : Nat) => fld w 1 20 + fld w 24 6 * 2 ^ 20
  let kept := s.tm.deficit.filter fun d =>
    let node := d.1 / 2 % 2 ^ 17
    let o := Obj.TM_TOPOLOGY + d.1 / 2 ^ 18
    decide (node < 20736) || place (old.cfg o node) == place (new.cfg o node)
  { s with tm := { s.tm with deficit := kept } }

/-- Leaves that are no longer valid discard their packets (R225). -/
def State.dropUnattached (s : State) : State :=
  (s.pkts.filter fun p => p.queued && (s.leafChain (p.eqid / 65536) (p.eqid % 65536)).isNone).foldl
    (fun a p => a.dropQueued p Obj.TM_DROP_UNATTACHED) s

/-- Ports and links whose egress binding moves: their old region's queues go first (R24). -/
def State.moveBindings (s : State) (old new : Ver) : State :=
  let bound := fun (v : Ver) (pn : Nat) => if pn < 16 then s.netRegion v pn else s.wvRegion v (pn - 16)
  let moved := (List.range 24).filter fun pn => bound old pn != bound new pn
  { s with tm := { s.tm with drainOld := moved.foldl (fun l pn => assoc l pn (bound old pn)) s.tm.drainOld } }

/-- Policers that become valid start with full buckets and statistics of 0 (R235). -/
def State.newPolicers (s : State) (old new : Ver) : State :=
  let ids := (Store.elems new.objs Obj.POL_CONFIG).filterMap fun e =>
    if polValid e.2 && !polValid (old.polElem e.1) then some e.1 else none
  { s with tm := { s.tm with
      pol := s.tm.pol.filter fun p => !ids.contains p.1,
      polStat := s.tm.polStat.filter fun p => !ids.contains (p.1 / 8) } }

/-- Declared size of a counter bank in a version. -/
def Ver.bank (v : Ver) (b : Nat) : Nat :=
  match v.pipe with
  | some i => lookupD i.banks b 0
  | none => 0

/-- Banks of a new size start at 0 (R128). -/
def State.newBanks (s : State) (old new : Ver) : State :=
  let changed := (List.range 32).filter fun b => old.bank b != new.bank b
  { s with tm := { s.tm with
      count := s.tm.count.filter fun p => !changed.contains (p.1 / 2 ^ 21 % 32)
      countLate := s.tm.countLate.filter fun p => !changed.contains (p.2.1 / 2 ^ 21 % 32) } }

/-- Settings of tables that this epoch brings return to their defaults (R147). -/
def State.newTables (s : State) (new : Ver) : State :=
  let ids := (new.inc.filter fun p => p.2 == new.num).map fun p => p.1
  let kept := s.dict.val.filter fun p =>
    let ix := keyObj p.1 / 256
    !(0x4900 ≤ ix && ix < 0x4A00 && ids.contains (ix - 0x4900))
  { s with
    dict := { s.dict with val := kept }
    lrn := { s.lrn with agePass := s.lrn.agePass.filter fun p => !ids.contains p.1 } }

/-- Gate group of a port in a version. -/
def Ver.gate (v : Ver) (pn : Nat) : Gate :=
  { enable := v.cfg (Obj.GATE_ENABLE + pn) == 1, base := v.cfg (Obj.GATE_BASE_TIME + pn),
    cycle := v.cfg (Obj.GATE_CYCLE_NS + pn), entries := v.gateEntries pn }

/-- Changed gate groups become pending lists (R242). -/
def State.newGates (s : State) (old new : Ver) : State :=
  let changed := (List.range 24).filter fun pn => old.gate pn != new.gate pn
  let pend := changed.foldl (fun l pn =>
    let g := new.gate pn
    assoc l pn (g, firstStart g.base g.cycle s.now)) s.tm.gatePend
  { s with tm := { s.tm with gatePend := pend } }

/-- A changed calendar becomes pending (R274). -/
def State.newCalendar (s : State) (old new : Ver) : State :=
  if old.cal == new.cal then s
  else { s with wv := { s.wv with calPend := some (new.cal, firstStart 0 (Nat.max 1 new.cal.cycle) s.now) } }

/-- The bulk values of a version that differ from another's, for the image store. -/
def changedImages (old new : Ver) : List BulkVal :=
  (if old.pipe == new.pipe && lookup? old.conts Obj.PIPE_IMAGE == lookup? new.conts Obj.PIPE_IMAGE then []
   else [.pipe (new.pipe.map fun i => (i, lookupD new.conts Obj.PIPE_IMAGE []))])
    ++ ((List.range 16).filter fun n => lookup? old.pats n != lookup? new.pats n).map fun n =>
        .pat n ((lookup? new.pats n).map fun p => (p, lookupD new.conts (Obj.PAT_SET_IMAGE + n) []))

/-- Size of a bulk value's container. -/
def BulkVal.size : BulkVal → Nat
  | .pipe (some x) => x.2.length
  | .pat _ (some x) => x.2.length
  | _ => 0

/-- Switched values and images go to the flash in time (R415, R454). -/
def State.storeVersion (s : State) (old new : Ver) : State :=
  let late := fun (b : BulkVal) => s.clock + 1000000000 + 1000000000 * ((b.size + 2 ^ 20 - 1) / 2 ^ 20)
  { s with
    dict := { s.dict with toFlash := s.dict.toFlash ++ storeDiff old.objs new.objs },
    store := { s.store with coming := s.store.coming ++ (changedImages old new).map fun b => (b, late b) } }

/-- The switch instant of a sealed commit (R66 step 3, R82): every stamping point begins its number. Epoch 1 comes from what
is stored already, the settings of its tables among it. -/
def State.switchTo (s : State) (c : Sealed) : State :=
  let old := s.curVer
  let new : Ver := { c.ver with swClock := s.clock, swTime := s.now }
  let s1 : State := { s with ep := { s.ep with live := s.ep.live ++ [new], current := new.num } }
  let s2 := ((s1.latch Obj.EPOCH_SWITCHED_AT s.now).bump Obj.EPOCH_COMMITS).latch Obj.EPOCH_LAST_STATUS 0
  let s3 := (((if s.ep.live.isEmpty then s2 else s2.storeVersion old new).resetDeficits old new).moveBindings old new)
  let s4 := (if s.ep.live.isEmpty then s3 else s3.newTables new).newPolicers old new |>.newBanks old new |>.newGates old new
  (s4.newCalendar old new).dropUnattached

/-! ### Retirement (R69 to R71) -/

/-- A packet carries the stamp of epoch n (R69). -/
def State.carries (s : State) (n : Nat) (p : Pkt) : Bool :=
  p.kind == .data && p.epoch == some n && (match p.loc with
    | .staged => coreFid p.dest
    | .cutting => s.clock < p.rxEnd
    | _ => true)

/-- The oldest live epoch, with its successor, where it can retire. -/
def State.retirable (s : State) : Option (Ver × Ver) :=
  match s.ep.live with
  | v :: w :: _ => if s.pkts.any (s.carries v.num) then none else some (v, w)
  | _ => none

/-- An entry that no epoch from n on holds. -/
def TEntry.deadFrom (e : TEntry) (n : Nat) : Bool :=
  match e.died with
  | some d => d == n || epochBefore d n
  | none => false

/-- Tables whose declaration no held version has are freed, and entries that died (R76, R147). -/
def State.freeEntries (s : State) (oldest : Nat) : State :=
  let vs := s.heldVers
  let decl := fun (e : TEntry) => vs.any fun v => lookup? v.inc e.table == some e.inc
  { s with tbl := s.tbl.filter fun e => !e.deadFrom oldest && decl e }

/-- The oldest epoch retires. -/
def State.retire (s : State) (next : Ver) : State :=
  let s1 : State := { s with ep := { s.ep with live := s.ep.live.drop 1 } }
  (s1.ctrMax Obj.EPOCH_RETIRE_MAX_NS (s.clock - next.swClock)).freeEntries next.num

/-- EPOCH_RETIRE: the oldest epoch has no carrier left. -/
def execEpochRetire (dt : Nat) (s : State) : Out :=
  cmd dt s (fun t => t.alive && t.retirable.isSome) fun t =>
    match t.retirable with
    | some r => t.retire r.2
    | none => t

/-- QUEUED_COMMIT_RUN: a queued commit runs from step 2 of R66 once fewer than four epochs are live (R67). -/
def execQueuedCommitRun (dt : Nat) (s : State) : Out :=
  cmd dt s (fun t => t.alive && t.ep.queued.isSome && t.liveCount < 4) fun t =>
    match t.ep.queued with
    | some c => ({ t with ep := { t.ep with queued := none } }).apply c
    | none => t

/-! ### Scheduled commits: members (R80 to R86) -/

/-- PREPARE, ACK, NAK, CANCEL and OUTCOME after word 0 (Table 09-6). -/
def atBody (id code t : Nat) : Bytes := toBe 8 (id * 2 ^ 32 + code * 2 ^ 24) ++ toBe 8 t

def atId (p : Bytes) : Nat := fld (beWord p 1) 32 32
def atCode (p : Bytes) : Nat := fld (beWord p 1) 24 8
def atTime (p : Bytes) : Nat := beWord p 2

/-- The present state of a scheduled commit (`EPOCH_AT_STATE`). -/
def State.atState (s : State) (n : Nat) : State := { s with ep := { s.ep with atState := n } }

/-- As `atState`, but the missed and the diverged state last until EPOCH_AT_RESYNC (R86), whatever a further scheduled commit
does: DEDUCED (log entry 69). -/
def State.atGo (s : State) (n : Nat) : State := if s.ep.atState == 5 || s.ep.atState == 6 then s else s.atState n

/-- What EPOCH_AT_STATE reads of a device that is neither: prepared, armed or idle. -/
def State.atRest (s : State) : Nat := if s.ep.member.isSome then 2 else if s.ep.armed.isSome then 1 else 0

/-- Arming ends (Table 02-4). -/
def State.disarm (s : State) : State :=
  let s1 : State := { s with ep := { s.ep with armed := none } }
  s1.latch Obj.EPOCH_AT_ARM 0

/-- CANCEL is heard, or sent by this device as initiator (R81); one heard at T or later cancels nothing (R82). -/
def State.hearCancel (s : State) (id : Nat) : State :=
  match s.ep.member with
  | some m =>
    if m.id == id && s.now < m.t then
      let s1 : State := { s with ep := { s.ep with member := none, own := some (id, 2) } }
      ((s1.giveBack m.contents).atGo 4).bump Obj.EPOCH_AT_CANCELLED
    else s
  | none =>
    if s.ep.armed == some id && s.ep.own != some (id, 1) && s.ep.own != some (id, 2) && s.ep.atState != 5 then
      let s1 : State := { s with ep := { s.ep with own := some (id, 2) } }
      (s1.atGo 4).bump Obj.EPOCH_AT_CANCELLED
    else s

/-- The initiator cancels: CANCEL at the head of every control queue now and twice more, 1 µs apart (R81, R281), and here. -/
def State.sendCancel (s : State) (i : Initiated) : State :=
  let r := s.nextSeq 0x13
  let f := r.2.floodMsg 0x13 r.1 (atBody i.id 0 i.t)
  let s0 := r.2.floodFrame f true
  let s1 : State := { s0 with wv := { s0.wv with again := s0.wv.again ++ [(s.clock + 1000, f), (s.clock + 2000, f)] } }
  let s2 : State := { s1 with ep := { s1.ep with initiated := some { i with verdict := 2 } } }
  s2.hearCancel i.id

/-- The initiator takes an ACK (R81). -/
def State.takeAck (s : State) (id from_ : Nat) : State :=
  match s.ep.initiated with
  | some i =>
    if i.id == id && i.verdict == 0 then
      { s with ep := { s.ep with initiated := some { i with acked := i.acked ||| 2 ^ from_ } } }
    else s
  | none => s

/-- The initiator takes a NAK: it cancels at once (R81). -/
def State.takeNak (s : State) (id : Nat) : State :=
  match s.ep.initiated with
  | some i => if i.id == id && i.verdict == 0 && s.now < i.t then s.sendCancel i else s
  | none => s

/-- A member's answer to a PREPARE: code 0 is an ACK (R281). -/
def State.answerPrepare (s : State) (id t dst code : Nat) : State :=
  let s1 : State := { s with ep := { s.ep with answer := some (id, dst, code) } }
  if dst == s.wvAddr then (if code == 0 then s1.takeAck id dst else s1.takeNak id)
  else
    let typ := if code == 0 then 0x11 else 0x12
    let r := s1.nextSeq typ
    r.2.sendRouted typ r.1 dst (atBody id code t)

/-- What a member answers to a PREPARE that it has not answered: the version to seal, or a code with the object that failed
(R80, R281). -/
def State.prepareCheck (s : State) (id : Nat) (k : Nat × Nat) : Ver ⊕ (Nat × Nat) :=
  if s.ep.armed != some id then .inr (3, 0)
  else if s.mode.mode == .handover then .inr (1, 0)
  else
    let st := s.stageOf k
    let v := Ver.with_ s.baseVer s.ep.openNum st
    match s.checkVer v st.touched with
    | some o => .inr (2, o)
    | none => if s.liveCount ≥ 4 || s.ep.queued.isSome || s.ep.member.isSome then .inr (1, 0) else .inl v

/-- A PREPARE that has not been answered yet (R80). -/
def State.prepareNew (s : State) (id t from_ : Nat) : State :=
  let k := s.mgmt.holder.getD (0, 0)
  match s.prepareCheck id k with
  | .inr (code, o) => (if code == 2 then s.latch Obj.EPOCH_REJECT_INDEX o else s).answerPrepare id t from_ code
  | .inl v =>
    let r := s.seal k v
    let m : Member := { id := id, t := t, initiator := from_, contents := r.1, wholeAt := s.clock }
    let s1 : State := { r.2 with ep := { r.2.ep with member := some m } }
    (s1.atGo 2).answerPrepare id t from_ 0

/-- A member receives PREPARE: one already answered gets the same answer (R80, R281). -/
def State.takePrepare (s : State) (id t from_ : Nat) : State :=
  match s.ep.answer with
  | some (aid, afrom, code) =>
    if aid == id && afrom == from_ then s.answerPrepare id t from_ code else s.prepareNew id t from_
  | none => s.prepareNew id t from_

/-- A member's own outcome is compared with the initiator's (R85). -/
def State.compareOutcome (s : State) (id out : Nat) : State :=
  match s.ep.own with
  | some (oid, o) =>
    if oid == id && o != out then
      let s1 : State := { s with ep := { s.ep with own := none } }
      ((s1.bump Obj.EPOCH_AT_DIVERGED).atState 6).raise 0x0031 3 0 (toBe 4 id)
    else s
  | none => s

/-- An outcome becomes known: from the initiator, or in a neighbour's hello (R85, R281). -/
def State.learnOutcome (s : State) (id out init : Nat) : State :=
  let s1 : State := { s with ep := { s.ep with known := some (id, out, init) } }
  let s2 := if s1.ep.armed == some id then s1.disarm else s1
  s2.compareOutcome id out

/-- SCHEDULED_SWITCH: at T a prepared member switches, or has missed the commit (R82, R84). -/
def State.atSwitch (s : State) (m : Member) : State :=
  let s1 : State := { s with ep := { s.ep with member := none } }
  let s2 := s1.disarm
  if m.wholeAt ≤ s.clock then
    let s3 : State := { s2 with ep := { s2.ep with own := some (m.id, 1) } }
    ((s3.switchTo m.contents).atGo 3).bump Obj.EPOCH_AT_EXECUTED
  else
    let s3 := (s2.latch Obj.EPOCH_LAST_STATUS 9).raise 0x0030 3 0 (toBe 4 m.id)
    ((s3.giveBack m.contents).atState 5).bump Obj.EPOCH_AT_MISSED

def execScheduledSwitch (dt : Nat) (s : State) : Out :=
  cmd dt s (fun t => t.alive && t.ep.applying.isEmpty && (match t.ep.member with | some m => decide (m.t ≤ t.now) | none => false))
    fun t =>
      match t.ep.member with
      | some m => t.atSwitch m
      | none => t

/-! ### Scheduled commits: the initiator (R79, R81, R281, R282) -/

/-- Members of a set, as addresses. -/
def membersOf (m : Nat) : List Nat := (List.range 1024).filter fun a => bit m a

/-- `EPOCH_AT_MEMBERS` as a set: bit n of byte n/8, byte 0 first (Table 02-5). -/
def State.atMembers (s : State) : Nat := leNat (toBe 128 (s.cfg Obj.EPOCH_AT_MEMBERS))

/-- A scheduled request is refused with RANGE (R79, R282). -/
def State.scheduleBad (s : State) : Bool :=
  let t := s.cfg Obj.EPOCH_AT_TIME
  let ms := s.atMembers
  t < s.now + s.cfg Obj.EPOCH_AT_MIN_LEAD_US * 1000 || t > s.now + 10000000000 || !bit ms s.wvAddr
    || s.ep.armed != some (s.cfg Obj.EPOCH_AT_ID)
    || (membersOf ms).any fun a => a != s.wvAddr && (!deValid (s.destOf a) || deHops (s.destOf a) > 9)

/-- PREPARE goes to members that have not acknowledged. -/
def State.sendPrepares (s : State) (i : Initiated) : State :=
  let dst := (membersOf i.members).filter fun a => !bit i.acked a && a != s.wvAddr
  let s1 := dst.foldl (fun (a : State) m => a.sendRouted 0x10 i.seq m (atBody i.id 0 i.t)) s
  { s1 with ep := { s1.ep with initiated := some { i with sentAt := s.clock } } }

/-- A cancelled commit whose outcome is not told yet makes room for a new one; it stays to be told after its T (R85). -/
def State.keepUntold (s : State) : State :=
  match s.ep.initiated with
  | some i => if i.verdict == 2 && !i.flooded then { s with ep := { s.ep with untold := s.ep.untold ++ [(i.id, i.t)] } } else s
  | none => s

/-- A scheduled commit of a session: status (R79). -/
def State.commitScheduled (s : State) : Nat × State :=
  if s.commitBusy then (1, s)
  else if s.scheduleBad then (2, s.latch Obj.EPOCH_LAST_STATUS 2)
  else
    let r := s.keepUntold.nextSeq 0x10
    let i : Initiated :=
      { id := s.cfg Obj.EPOCH_AT_ID, t := s.cfg Obj.EPOCH_AT_TIME, members := s.atMembers, acked := 0, seq := r.1,
        sentAt := s.clock, verdict := 0, flooded := false }
    let s1 := (r.2.sendPrepares i).latch Obj.EPOCH_LAST_STATUS 5
    (5, s1.takePrepare i.id i.t s1.wvAddr)

/-- An initiated commit that is still open, with what a test says of it. -/
def State.openInit (s : State) (p : Initiated → Bool) : Bool :=
  match s.ep.initiated with
  | some i => i.verdict == 0 && p i
  | none => false

/-- PREPARE_RESEND: every 50 µs until T − 20 µs, to members that have not answered (R281). -/
def execPrepareResend (dt : Nat) (s : State) : Out :=
  cmd dt s (fun t => t.alive && t.openInit fun i => t.now + 20000 < i.t && i.sentAt + 50000 ≤ t.clock) fun t =>
    match t.ep.initiated with
    | some i => t.sendPrepares i
    | none => t

/-- ACK_DEADLINE: at T − 20 µs CANCEL is sent if any ACK is missing (R81). -/
def execAckDeadline (dt : Nat) (s : State) : Out :=
  cmd dt s (fun t => t.alive && t.openInit fun i => i.t ≤ t.now + 20000 && t.now < i.t) fun t =>
    match t.ep.initiated with
    | some i => if i.acked &&& i.members == i.members then t else t.sendCancel i
    | none => t

/-- The outcome of one scheduled commit is flooded and known (R85, R281). -/
def State.tellOutcome (s : State) (id out t : Nat) : State :=
  let r := s.nextSeq 0x14
  (r.2.flood 0x14 r.1 (atBody id out t) false).learnOutcome id out s.wvAddr

/-- Earlier commits that were cancelled are told where their T has passed. -/
def State.tellOld (s : State) : State :=
  let due := s.ep.untold.filter fun x => x.2 ≤ s.now
  let s1 : State := { s with ep := { s.ep with untold := s.ep.untold.filter fun x => s.now < x.2 } }
  due.foldl (fun (a : State) x => a.tellOutcome x.1 2 x.2) s1

/-- The initiated commit is told once its T has passed (R85). -/
def State.tellNew (s : State) : State :=
  match s.ep.initiated with
  | some i =>
    if i.t ≤ s.now && !i.flooded then
      let out := if i.verdict == 2 then 2 else 1
      let s1 : State := { s with ep := { s.ep with initiated := some { i with verdict := out, flooded := true } } }
      s1.tellOutcome i.id out i.t
    else s
  | none => s

/-- OUTCOME_FLOOD: after T the initiator floods the outcome once (R85, R281). -/
def execOutcomeFlood (dt : Nat) (s : State) : Out :=
  cmd dt s (fun t => t.alive && ((t.ep.untold.any fun x => x.2 ≤ t.now)
      || (match t.ep.initiated with | some i => decide (i.t ≤ t.now) && !i.flooded | none => false))) fun t => t.tellOld.tellNew

/-! ### The manager's controls (R58, R78, R81, R86): effects of accepted writes -/

/-- A write to EPOCH_AT_ARM: 1 arms for the present EPOCH_AT_ID, 0 ends arming. -/
def State.writeArm (s : State) (v : Nat) : State :=
  if v == 1 then
    let s1 : State := { s with ep := { s.ep with armed := some (s.cfg Obj.EPOCH_AT_ID), answer := none } }
    if s.ep.atState == 2 then s1 else s1.atGo 1
  else
    let s1 : State := { s with ep := { s.ep with armed := none } }
    if s.ep.atState == 1 then s1.atState 0 else s1

/-- A write of 1 to EPOCH_AT_CANCEL comes too late: after T − 10 µs of the commit initiated last (R81). -/
def State.cancelLate (s : State) : Bool :=
  match s.ep.initiated with
  | some i => i.t < s.now + 10000
  | none => false

/-- An accepted write of 1 to EPOCH_AT_CANCEL. -/
def State.writeCancel (s : State) : State :=
  match s.ep.initiated with
  | some i => if i.verdict == 0 then s.sendCancel i else s
  | none => s

/-- A write of 1 to EPOCH_AT_RESYNC (R86). -/
def State.writeResync (s : State) : State := if s.ep.atState == 5 || s.ep.atState == 6 then s.atState s.atRest else s

/-- A block that holds version N of a prepared commit has been reset: it is written again after the reset, of at most
5 µs, and at most 1.5 µs more (R84, R465). -/
def State.versionLost (s : State) : State :=
  match s.ep.member with
  | none => s
  | some m =>
    let a := s.fresh 13
    let b := a.2.fresh 11
    let m1 : Member := { m with wholeAt := Nat.max m.wholeAt (s.clock + a.1 % 5001 + b.1 % 1501) }
    { b.2 with ep := { b.2.ep with member := some m1 } }

end Sys2Proof.Machine
end

