-- ==== Sys2Proof/Machine/Time.lean ====
section
/-!
DEFINITION. The time base: steps, lock state, PPS_IN (spec/08 R247, spec/16 R482, spec/13 Table 13-12). The slewing
of small offsets stands with the passing of time; no command brings a PTP measurement (log entry 18).
-/

namespace Sys2Proof.Machine

/-- `TIME_DISCIPLINE` uses PPS_IN. -/
def State.usesPps (s : State) : Bool := s.cfg Obj.TIME_DISCIPLINE == 2 || s.cfg Obj.TIME_DISCIPLINE == 3

/-- The lock state changes, with its event. -/
def State.setLock (s : State) (st : Nat) : State :=
  if s.cfg Obj.TIME_LOCK_STATE == st then s
  else (s.latch Obj.TIME_LOCK_STATE st).raise 0x0080 8 0 (toBe 1 st ++ toBe 1 (s.cfg Obj.TIME_DISCIPLINE))

/-- The time base is stepped; pending gate lists and a pending calendar keep to their cycles on the new time (R247). -/
def State.stepTime (s : State) (t : Nat) : State :=
  let gp := s.tm.gatePend.map fun x => (x.1, x.2.1, firstStart x.2.1.base x.2.1.cycle t)
  let cp := s.wv.calPend.map fun x => (x.1, firstStart 0 (Nat.max 1 x.1.cycle) t)
  ({ s with now := t, tm := { s.tm with gatePend := gp }, wv := { s.wv with calPend := cp, slew := none } }).bump Obj.TIME_STEPS

/-- An accepted write to TIME_SET. -/
def State.writeTimeSet (s : State) (t : Nat) : State := s.stepTime t

/-- A discipline begins: free-running, or acquiring. -/
def State.writeDiscipline (s : State) : State :=
  let s1 : State := { s with pps := { s.pps with good := 0, off := [] } }
  s1.endSlew.setLock (if s.cfg Obj.TIME_DISCIPLINE == 0 then 0 else 1)

/-- Own class of time quality: 0 external lock, 1 external holdover, 2 free-running (Table 09-4). -/
def State.ownClass (s : State) : Nat :=
  let d := s.cfg Obj.TIME_DISCIPLINE
  if d == 0 || d == 4 then 2
  else match s.cfg Obj.TIME_LOCK_STATE with
    | 2 => 0
    | 3 => 1
    | _ => 2

/-! ### PPS_IN -/

/-- Offset of an instant from the nearest second, −500,000,000 to 499,999,999 ns. -/
def secondPhase (t : Nat) : Int := ((t + 500000000) % 1000000000 : Nat) - 500000000

/-- A pulse is rejected: counted, and a discipline that uses PPS_IN goes to holdover (R482). -/
def State.ppsReject (s : State) : State :=
  let s1 := s.bump Obj.TIME_PPS_REJECTS
  let s2 : State := { s1 with pps := { s1.pps with good := 0 } }
  if s2.usesPps && s2.cfg Obj.TIME_LOCK_STATE == 2 then s2.setLock 3 else s2

/-- Four pulses that failed only the phase test agree within 100 ns. -/
def agree (l : List Int) : Bool := l.length == 4 && l.all fun a => l.all fun b => decide (a - b ≤ 100 ∧ b - a ≤ 100)

/-- A pulse that keeps the interval but not the phase (R482). -/
def State.ppsOff (s : State) (ph : Int) : State :=
  let l := (ph :: s.pps.off).take 4
  let s1 : State := { s with pps := { s.pps with ref := some s.clock, off := l } }
  let s2 := s1.ppsReject
  if s2.usesPps && agree l then
    let s3 := s2.stepTime ((s2.now : Int) - ph).toNat
    { s3 with pps := { s3.pps with off := [] } }
  else s2

/-- An accepted pulse; the fourth in a row ends holdover, or acquisition. -/
def State.ppsAccept (s : State) : State :=
  let n := s.pps.good + 1
  let s1 : State := { s with pps := { s.pps with ref := some s.clock, good := n, off := [] } }
  let s2 := s1.latch Obj.TIME_OFFSET_NS (i64 (secondPhase s.now))
  if s2.usesPps && n ≥ 4 then s2.setLock 2 else s2

/-- PPS_IN_EDGE: a rising edge now (R482; log entry 19 on which edges count). -/
def execPpsInEdge (dt : Nat) (s : State) : Out :=
  cmd dt s (fun t => t.alive) fun t =>
    let ph := secondPhase t.now
    match t.pps.ref with
    | none => ({ t with pps := { t.pps with ref := some t.clock } }).ppsReject
    | some r =>
      let d := t.clock - r
      let st := t.cfg Obj.TIME_LOCK_STATE
      if d < 999900000 || d > 1000100000 then
        ({ t with pps := { t.pps with ref := some t.clock, off := [] } }).ppsReject
      else if (st == 2 || st == 3) && (ph > 1000 || ph < -1000) then t.ppsOff ph
      else t.ppsAccept

/-- PPS_MISSING: no pulse by 1,000,100,000 ns after the latest edge (R482). -/
def execPpsMissing (dt : Nat) (s : State) : Out :=
  cmd dt s (fun t => t.alive && (match t.pps.ref with | some r => decide (r + 1000100000 ≤ t.clock) | none => false)) fun t =>
    let t1 : State := { t with pps := { ref := none, good := 0, off := [] } }
    if t1.usesPps && t1.cfg Obj.TIME_LOCK_STATE == 2 then t1.setLock 3 else t1

end Sys2Proof.Machine
end

