-- ==== Sys2Proof/Machine/Weave.lean ====
section
/-!
DEFINITION. Weave links: hellos and link states, arriving frames, messages, the link-state database and routes, and the
calendar's events (spec/09 R264 to R284).
-/

namespace Sys2Proof.Machine

/-! ### Link states (R264, R265, R270) -/

def State.latchLink (s : State) (l st : Nat) : State := s.latch (Obj.WV_LINK_STATE + l) st

/-- A destination entry without link l; the remaining next hops keep their order (R270). -/
def pruneEntry (l e : Nat) : Nat :=
  if !deValid e then e
  else
    let hops := ((List.range (deCount e)).map fun i => deHop e i).filter fun h => h != l
    if hops.isEmpty then 0
    else
      let body := (hops.zip (List.range 4)).foldl (fun a h => a + h.1 * 2 ^ (3 + 3 * h.2)) 0
      1 + 2 * (hops.length - 1) + body + (e >>> 15) * 2 ^ 15

/-- A link takes another state. Leaving UP is counted, its packets are discarded and it leaves every destination entry
(R211, R265, R270). -/
def State.linkTo (s : State) (l st : Nat) : State :=
  if s.wvState l == st then s
  else if s.wvState l == 2 then
    let s1 := ((s.latchLink l st).bump (Obj.WV_LINK_DOWNS + l)).discardPort (16 + l)
    let dest := (s1.wv.dest.map fun d => (d.1, pruneEntry l d.2)).filter fun d => d.2 != 0
    { s1 with wv := { s1.wv with dest := dest, lsDirty := true, routeDirty := true } }
  else if st == 2 then
    let s1 := s.latchLink l st
    { s1 with wv := { s1.wv with lsDirty := true, routeDirty := true } }
  else s.latchLink l st

/-- The Weave address as the settings give it (R264). -/
def State.chosenAddr (s : State) : Nat :=
  if s.cfg Obj.WV_ADDR_SRC == 1 then s.cfg Obj.WV_ADDR else fld (s.cfg Obj.STRAP_VALUES) 5 10

/-- The block of the Weave address leaves idle: accepted values take effect (R50, R264). -/
def State.wvLeaveIdle (s : State) : State :=
  let s1 := s.applyQui fun o => o == Obj.WV_ADDR_SRC || o == Obj.WV_ADDR || o == Obj.WV_FABRIC_ID
  s1.latch Obj.WV_ADDR_EFFECTIVE s1.chosenAddr

/-- The place of a Weave link in error records (Table 16-5). -/
def wvPlace (l : Nat) : Nat := 65536 + 3 * 256 + l

/-- WEAVE_LANE_LOCK. -/
def execWeaveLaneLock (dt l : Nat) (s : State) : Out :=
  cmd dt s (fun t => t.traffic && decide (l < 8) && t.wvState l == 0 && t.cfg (Obj.WV_LINK_ENABLE + l) == 1
      && !(t.flt.held.any fun h => h.1 == wvPlace l || h.1 == 65536 + 256 + 16 + l)) fun t =>
    let t1 := if t.mode.mode == .drain then t else t.wvLeaveIdle
    (t1.setWvLink l { WvLink.fresh with locked := true }).linkTo l 1

/-! ### Time across the Weave (R278, R279) -/

/-- Own value in the order of R279. -/
def State.ownRank (s : State) : List Nat := [s.ownClass, s.cfg Obj.WV_TIME_PRIO, s.wvAddr, 0]

/-- Lexicographic order. -/
def lexLt : List Nat → List Nat → Bool
  | a :: x, b :: y => a < b || (a == b && lexLt x y)
  | _, _ => false

/-- The value that link l offers, where it is UP. -/
def State.offerRank (s : State) (l : Nat) : Option (List Nat) :=
  if s.wvState l == 2 then (s.wvLink l).offer.map fun o => [o.1, o.2.1, o.2.2.1, o.2.2.2 + 1] else none

/-- The parent link: the best offer, lowest link number among equals, where it beats the own reference. -/
def State.parentLink (s : State) : Option Nat :=
  ((List.range 8).foldl (fun (b : Option (Nat × List Nat)) l =>
    match s.offerRank l, b with
    | some r, some x => if lexLt r x.2 then some (l, r) else b
    | some r, none => if lexLt r s.ownRank then some (l, r) else none
    | none, _ => b) none).map fun x => x.1

/-- The link whose time the device follows: the parent, while the Weave is its discipline. -/
def State.followed (s : State) : Option Nat := if s.cfg Obj.TIME_DISCIPLINE == 4 then s.parentLink else none

/-- What the device advertises: class, priority, source, hops. WV_TIME_SOURCE and WV_TIME_HOPS show it. -/
def State.advertised (s : State) : List Nat :=
  match s.followed.bind s.offerRank with
  | some r => r
  | none => s.ownRank

/-- The choice of a parent after a change of offers; `was`: the one before. One that is lost leaves the device in holdover until it
follows again (R279). -/
def State.chooseTime (s : State) (was : Option Nat) : State :=
  if s.cfg Obj.TIME_DISCIPLINE != 4 then s
  else
    let lost := s.followed.isNone || was.any fun l => (s.offerRank l).isNone
    if lost && s.cfg Obj.TIME_LOCK_STATE == 2 then s.endSlew.setLock 3
    else if lost then s.endSlew
    else s

/-- A link loses lock or is disabled: DOWN. -/
def State.linkDown (s : State) (l : Nat) : State :=
  let s1 := ((s.setWvLink l WvLink.fresh).linkTo l 0).chooseTime s.followed
  s1.latch (Obj.WV_LINK_PEER + l) (setFld (s1.cfg (Obj.WV_LINK_PEER + l)) 13 1 0)

/-- WEAVE_LINK_LOSS. -/
def execWeaveLinkLoss (dt l : Nat) (s : State) : Out :=
  cmd dt s (fun t => t.alive && decide (l < 8) && t.wvState l != 0) fun t => t.linkDown l

/-- No valid hello within 3 ms. -/
def State.helloLate (s : State) (l : Nat) : Bool :=
  match (s.wvLink l).helloAt with
  | some a => a + 3000000 ≤ s.clock
  | none => true

/-- HELLO_TIMEOUT: the link returns to PROBING (R265). -/
def execHelloTimeout (dt l : Nat) (s : State) : Out :=
  cmd dt s (fun t => t.alive && decide (l < 8) && 2 ≤ t.wvState l && t.helloLate l) fun t =>
    let x := t.wvLink l
    let t1 := ((t.setWvLink l { x with helloAt := none, offer := none }).linkTo l 1).chooseTime t.followed
    t1.latch (Obj.WV_LINK_PEER + l) (setFld (t1.cfg (Obj.WV_LINK_PEER + l)) 13 1 0)

/-- The time base meets a measured offset of its parent (R279): above 1,000 ns it is stepped, else slewed at a
rate of up to 200 ppm that the manual leaves free (log entry 18). -/
def State.followOffset (s : State) (off : Int) : State :=
  let s1 := s.latch Obj.TIME_OFFSET_NS (i64 off)
  if off > 1000 || off < -1000 then (s1.stepTime ((s1.now : Int) + off).toNat).setLock 1
  else
    let r := s1.fresh 8
    let s2 : State := { r.2 with wv := { r.2.wv with slew := some { at_ := s.clock, off := off, rate := 1 + r.1 % 200 } } }
    s2.setLock 2

/-! ### Hellos (Table 09-4) -/

/-- CRC-32C of a calendar (R271). -/
def Cal.digest (c : Cal) : Nat := crc32c 0 (toBe 4 c.cycle ++ c.wins.flatMap fun w => toBe 4 w)

/-- Words 1 to 7 of a hello on link l. -/
def State.helloBody (s : State) (l : Nat) : Bytes :=
  let x := s.wvLink l
  let peer := s.cfg (Obj.WV_LINK_PEER + l)
  let age := match x.helloAt with | some a => s.clock - a | none => 3000000
  let q := s.advertised
  let seen := decide (age < 3000000)
  let fresh := decide (age < 2000000)
  let k := s.ep.known.getD (0, 0, 0)
  toBe 8 (s.cfg Obj.ID_SERIAL) ++ toBe 4 (s.cfg Obj.WV_FABRIC_ID) ++ toBe 4 s.wv.cal.digest
    ++ toBe 8 (l * 2 ^ 61 + s.wvState l * 2 ^ 58 + b2n seen * 2 ^ 57 + fld peer 0 10 * 2 ^ 47 + fld peer 10 3 * 2 ^ 44
      + q.getD 0 0 * 2 ^ 40 + q.getD 1 0 * 2 ^ 32 + q.getD 2 0 * 2 ^ 22 + q.getD 3 0 % 16 * 2 ^ 18)
    ++ toBe 8 s.now
    ++ toBe 8 (if fresh then x.echoTx else 0) ++ toBe 8 (if fresh then x.echoRx else 0)
    ++ toBe 8 (k.1 * 2 ^ 32 + k.2.2 * 2 ^ 22 + k.2.1 * 2 ^ 20)

/-- The next hello of a link is due: 1 ms ± 10 µs after the one before (R265). -/
def State.helloDue (s : State) (l : Nat) : Bool :=
  (s.wvLink l).locked && (match (s.wvLink l).sentAt with | some a => decide (a + 990000 ≤ s.clock) | none => true)

/-- HELLO_SEND on link l. -/
def execHelloSend (dt l : Nat) (s : State) : Out :=
  cmd dt s (fun t => t.alive && decide (l < 8) && t.helloDue l) fun t =>
    let r := t.nextSeq 0x01
    let t1 := r.2.setWvLink l { r.2.wvLink l with sentAt := some t.clock }
    t1.emitWeave l (t1.stampFrame 0 (t1.formFrame 3 0 0 0 0 (pdu 0x01 r.1 (t1.helloBody l))))

/-- What a hello says of the link's state (R265): the state it leads to. -/
def State.helloState (s : State) (l src : Nat) (p : Bytes) (x : WvLink) : Nat :=
  let w2 := beWord p 2
  let w3 := beWord p 3
  let fabric := fld w2 32 32 == s.cfg Obj.WV_FABRIC_ID
  let digest := fld w2 0 32 == s.wv.cal.digest
  let long := match x.digestBad with | some a => decide (a + 3000000 ≤ s.clock) | none => false
  let st := s.wvState l
  if src == s.wvAddr then 3
  else if !fabric || long then 4
  else if st == 3 || st == 4 then 1
  else if st == 1 && bit w3 57 && fld w3 47 10 == s.wvAddr && fld w3 44 3 == l && digest then 2
  else st

/-- Time measurement of a hello (R278): none while its echo is 0. -/
def State.helloOffset (s : State) (l : Nat) (p : Bytes) : Option Int :=
  let t1 := beWord p 5
  let t2 := beWord p 6
  if t1 == 0 && t2 == 0 then none
  else
    let asym : Int := (BitVec.ofNat 32 (s.cfg (Obj.WV_LINK_ASYM_NS + l))).toInt
    some ((((t2 : Int) - t1) + ((beWord p 4 : Int) - s.now) - asym) / 2)

/-- A hello is processed (R265, R278, R279, R281). -/
def State.takeHello (s : State) (l src : Nat) (p : Bytes) : State :=
  let w3 := beWord p 3
  let w7 := beWord p 7
  let x := s.wvLink l
  let bad := if fld (beWord p 2) 0 32 == s.wv.cal.digest then none
    else match x.digestBad with | some a => some a | none => some s.clock
  let off := s.helloOffset l p
  let y : WvLink :=
    { x with helloAt := some s.clock, digestBad := bad, echoTx := beWord p 4, echoRx := s.now,
             offer := some (fld w3 40 4, fld w3 32 8, fld w3 22 10, fld w3 18 4), offset := off.getD x.offset }
  let s1 := ((s.setWvLink l y).latch (Obj.WV_LINK_PEER + l) (src + fld w3 61 3 * 2 ^ 10 + 2 ^ 13)).latch
    (Obj.WV_LINK_PEER_ID + l) (beWord p 1)
  let st := s.helloState l src p y
  let s2 := if st == 3 && s.wvState l != 3 then (s1.bump (Obj.WV_ADDR_DUP + l)).raise 0x0050 5 0 (toBe 1 l) else s1
  let s3 := (s2.linkTo l st).chooseTime s.followed
  let s4 := match off with
    | some o =>
      let heard := if s3.parentLink == some l then s3.latch Obj.WV_TIME_OFFSET_NS (i64 o) else s3
      if s3.followed == some l then heard.followOffset o else heard
    | none => s3
  let news := fld w7 20 2 != 0 && (s4.ep.known.map fun k => k.1) != some (fld w7 32 32)
  if news then s4.learnOutcome (fld w7 32 32) (fld w7 20 2) (fld w7 22 10) else s4

/-! ### The link-state database (R266, R267) -/

/-- Words of the links that a LINK_STATE lists. -/
def lsLinks (p : Bytes) : List (Nat × Nat × Nat × Nat) :=
  (List.range (fld (beWord p 2) 60 4)).map fun i =>
    let w := beWord p (3 + i)
    (fld w 61 3, fld w 51 10, fld w 48 3, fld w 32 16)

/-- Two identities claim an address, this device's own among them. -/
def State.contested (s : State) (a : Nat) : Bool :=
  (s.wv.lsdb.filter fun e => e.origin == a).length + (if a == s.wvAddr then 1 else 0) > 1

/-- A LINK_STATE message enters the database. -/
def State.takeLinkState (s : State) (src : Nat) (p : Bytes) : State :=
  let ident := beWord p 1
  let e : LsEntry := { origin := src, identity := ident, links := lsLinks p, at_ := s.clock }
  let same := fun (x : LsEntry) => x.origin == src && x.identity == ident
  let known := s.wv.lsdb.find? same
  let db := if known.isSome then s.wv.lsdb.map fun x => if same x then e else x else s.wv.lsdb ++ [e]
  let changed := (known.map fun x => x.links) != some e.links
  let s1 : State := { s with wv := { s.wv with lsdb := db, routeDirty := s.wv.routeDirty || changed } }
  if known.isNone && s1.contested src then
    let s2 := (s1.bump Obj.WV_ADDR_CONFLICT).raise 0x0051 5 0 (toBe 2 src)
    let s3 : State := { s2 with wv := { s2.wv with dest := dissoc s2.wv.dest src } }
    if src == s3.wvAddr then s3.raise 0x0051 5 0 (toBe 2 src ++ toBe 1 1) else s3
  else s1

/-- Peer address, peer link and cost of an own UP link. -/
def State.ownLink (s : State) (l : Nat) : Nat × Nat × Nat × Nat :=
  let p := s.cfg (Obj.WV_LINK_PEER + l)
  (l, fld p 0 10, fld p 10 3, s.cfg (Obj.WV_LINK_COST + l))

/-- LINK_STATE_ORIGINATE (R267): after a change, and every 1,000 ms; not in HANDOVER (R268). -/
def execLinkStateOriginate (dt : Nat) (s : State) : Out :=
  cmd dt s (fun t => t.traffic && t.mode.mode != .handover && (t.wv.lsDirty || t.wv.lsAt + 1000000000 ≤ t.clock)) fun t =>
    let links := t.upLinks.map t.ownLink
    let words := links.flatMap fun x => toBe 8 (x.1 * 2 ^ 61 + x.2.1 * 2 ^ 51 + x.2.2.1 * 2 ^ 48 + x.2.2.2 * 2 ^ 32)
    let r := t.nextSeq 0x02
    let t1 := r.2.flood 0x02 r.1 (toBe 8 (t.cfg Obj.ID_SERIAL) ++ toBe 8 (links.length * 2 ^ 60) ++ words) false
    { t1 with wv := { t1.wv with lsAt := t1.clock, lsDirty := false } }

/-- LSDB_EXPIRY: entries not refreshed for 3,500 ms are removed. -/
def execLsdbExpiry (dt : Nat) (s : State) : Out :=
  cmd dt s (fun t => t.alive && t.wv.lsdb.any fun e => e.at_ + 3500000000 ≤ t.clock) fun t =>
    { t with wv := { t.wv with
        lsdb := t.wv.lsdb.filter fun e => t.clock < e.at_ + 3500000000, routeDirty := true } }

/-! ### Routes (R268) -/

/-- The links that each device lists: link, peer address, peer link, cost. -/
def State.linkLists (s : State) : List (Nat × List (Nat × Nat × Nat × Nat)) :=
  (s.wvAddr, s.upLinks.map s.ownLink) :: s.wv.lsdb.map fun e => (e.origin, e.links)

/-- The other end of link x of device a lists it too. -/
def State.listedBack (s : State) (a : Nat) (x : Nat × Nat × Nat × Nat) : Bool :=
  s.linkLists.any fun b => b.1 == x.2.1 && b.2.any fun y => y.1 == x.2.2.1 && y.2.1 == a && y.2.2.1 == x.1

/-- Directed links that both ends list: (from, to, cost). -/
def State.edges (s : State) : List (Nat × Nat × Nat) :=
  s.linkLists.flatMap fun a => a.2.filterMap fun x => if s.listedBack a.1 x then some (a.1, x.2.1, x.2.2.2) else none

/-- Distances as (cost, links), improved along every edge once. -/
def relax (es : List (Nat × Nat × Nat)) (d : List (Nat × Nat × Nat)) : List (Nat × Nat × Nat) :=
  es.foldl (fun m e => match lookup? m e.1 with
    | none => m
    | some x =>
      let y := (x.1 + e.2.2, x.2 + 1)
      match lookup? m e.2.1 with
      | some z => if y.1 < z.1 || (y.1 == z.1 && y.2 < z.2) then assoc m e.2.1 y else m
      | none => assoc m e.2.1 y) d

/-- Distances from a device. -/
def distances (es : List (Nat × Nat × Nat)) (rounds a : Nat) : List (Nat × Nat × Nat) :=
  (List.range rounds).foldl (fun d _ => relax es d) [(a, 0, 0)]

/-- Links of a list taken in turns: the first of each neighbour, then the second, and so on. -/
def turns : Nat → List (List Nat) → List Nat
  | 0, _ => []
  | n + 1, ls => ls.filterMap List.head? ++ turns n (ls.map fun l => l.drop 1)

/-- Destination entry of an address, from the distances of every neighbour (Table 09-8). -/
def State.routeTo (s : State) (nd : List (Nat × List (Nat × Nat × Nat))) (a : Nat) : Nat :=
  let own := (s.upLinks.map s.ownLink).filter fun x => s.listedBack s.wvAddr x
  let paths := own.filterMap fun x =>
    (lookup? (lookupD nd x.2.1 []) a).map fun d => (x.1, x.2.1, x.2.2.2 + d.1, d.2 + 1)
  match paths with
  | [] => 0
  | p :: _ =>
    let best := paths.foldl (fun m x => Nat.min m x.2.2.1) p.2.2.1
    let cands := paths.filter fun x => x.2.2.1 == best
    let nbrs := sortAsc (cands.map fun x => x.2.1).eraseDups
    let hops := (turns 8 (nbrs.map fun n => (cands.filter fun x => x.2.1 == n).map fun x => x.1)).take 4
    let len := cands.foldl (fun m x => Nat.min m x.2.2.2) 16
    if len > 15 then 0
    else 1 + 2 * (hops.length - 1) + (hops.zip (List.range 4)).foldl (fun b h => b + h.1 * 2 ^ (3 + 3 * h.2)) 0
      + len * 2 ^ 15 + best * 2 ^ 19

/-- The destination table that the database gives. -/
def State.routes (s : State) : List (Nat × Nat) :=
  let es := s.edges
  let nbrs := (s.upLinks.map fun l => (s.ownLink l).2.1).eraseDups
  let nd := nbrs.map fun n => (n, distances es (s.wv.lsdb.length + 1) n)
  let others := (sortAsc (s.wv.lsdb.map fun e => e.origin).eraseDups).filter fun a => a != s.wvAddr && !s.contested a
  (others.map fun a => (a, s.routeTo nd a)).filter fun x => x.2 != 0

/-- ROUTE_RECOMPUTE: the destination table takes up a change of the database; not in HANDOVER (R268). -/
def execRouteRecompute (dt : Nat) (s : State) : Out :=
  cmd dt s (fun t => t.traffic && t.mode.mode != .handover && t.wv.routeDirty) fun t =>
    { t with wv := { t.wv with dest := t.routes, routeDirty := false } }.bump Obj.WV_ROUTE_RECOMPUTES

/-! ### Arriving frames (Table 09-10) -/

/-- Header and, for a message, PDU are as Tables 09-1 to 09-3 say. -/
def headerOk (f : Bytes) : Bool :=
  let p := wvBody f
  let fits := match msgLen (msgType p) (fld (beWord p 2) 60 4) with
    | some n => fld (beWord p 0) 32 16 == n && n ≤ p.length && msgWh (msgType p) == (whType f, whClass f)
    | none => false
  24 ≤ f.length && crc8 (f.take 15) == whHcrc f && whVer f == 1 && whHops f != 0
    && (if whType f == 0 then 2 ≤ whClass f else fits)

/-- A calendar accepts the window and cycle of a frame now. -/
def Cal.accepts (c : Cal) (now : Nat) (f : Bytes) : Bool :=
  let d := (whCycle f + 2 ^ 18 - c.cycleAt now % 2 ^ 18) % 2 ^ 18
  c.admits (whWin f) (whClass f) && (d ≤ 2 || 2 ^ 18 ≤ d + 2)

/-- Step 4 of Table 09-10. -/
def State.windowOk (s : State) (f : Bytes) : Bool :=
  s.wv.cal.accepts s.now f || (match s.wv.calOld with
    | some o => s.clock < o.2 + 3000000 && o.1.accepts s.now f
    | none => false)

/-- The source is known, and is not this device; a LINK_STATE is judged by its identity (log entry 20). -/
def State.sourceOk (s : State) (f : Bytes) : Bool :=
  let p := wvBody f
  if whType f == 2 && msgType p == 0x02 then beWord p 1 != s.cfg Obj.ID_SERIAL
  else whSrc f != s.wvAddr && s.wv.lsdb.any fun e => e.origin == whSrc f

/-- A message of this device, or one flooded to every device, reaches its consumer. -/
def State.consume (s : State) (l : Nat) (f : Bytes) : State :=
  let p := wvBody f
  match msgType p with
  | 0x02 => s.takeLinkState (whSrc f) p
  | 0x10 => s.takePrepare (atId p) (atTime p) (whSrc f)
  | 0x11 => s.takeAck (atId p) (whSrc f)
  | 0x12 => s.takeNak (atId p)
  | 0x13 => s.hearCancel (atId p)
  | 0x14 => s.learnOutcome (atId p) (atCode p) (whSrc f)
  | 0x20 => s.shuttleIn l (whHops f) (slice p 8 64)
  | _ => s

/-- A flooded message: a copy that is not newer is discarded; otherwise it goes on and is delivered (R262). -/
def State.takeFlood (s : State) (l : Nat) (f : Bytes) : State :=
  let p := wvBody f
  let key := whSrc f * 256 + msgType p
  let newer := match lookup? s.wv.newest key with
    | some n => epochBefore n (msgSeqOf p)
    | none => true
  if !newer then s.bump (Obj.WV_FLOOD_DUPS + l)
  else
    let s1 : State := { s with wv := { s.wv with newest := assoc s.wv.newest key (msgSeqOf p) } }
    let s2 := if whHops f == 15 then s1
      else (s1.upLinks.filter fun k => k != l).foldl (fun a k => a.pushCtl k (some s.clock) (relayFrame f) (msgType p == 0x13)) s1
    s2.consume l f

/-- A data frame for this device enters the bound region's pipelines (R87). -/
def State.wvDeliver (s : State) (l : Nat) (f : Bytes) (overrun : Bool) : State :=
  let b := wvBody f
  let whole := b.length ≤ 384
  if overrun then s.bump (Obj.WV_RX_DROP_OVERRUN + l)
  else s.addPkt { newPkt .data .rxFifo b whole (if whole then s.clock else s.rxDone (b.length - 384) 200) 1 l s.now with
    wvSrc := whSrc f, wvHops := whHops f }

/-- A frame for another device is relayed (R276). -/
def State.relay (s : State) (l : Nat) (f : Bytes) : State :=
  let out := deNext (s.destOf (whDst f)) (whHash f)
  let s1 := s.bump (Obj.WV_RELAYED + l)
  if whClass f == 1 then s1.pushShuttle out (some s.clock) (relayFrame f)
  else if whType f == 1 then s1.pushCtl out (some s.clock) (relayFrame f) false
  else
    let v := s1.curVer
    let whole := f.length ≤ 400
    let q := v.cfg (Obj.WV_LINK_BIND + out) * 65536 + classQueue v (16 + out) (whTc f)
    s1.addPkt { newPkt .relay .atTm f whole (if whole then s1.clock else s1.rxDone (f.length - 400) 200) 1 l s1.now with
      wvSrc := whSrc f, wvHops := whHops f, stampAt := s1.clock, enqAt := s1.clock, region := s1.wvRegion v l, eqid := s1.effQueue v q,
      dest := whDst f }

/-- Steps 7 to 11 of Table 09-10. A frame whose FCS fails goes no further than the drops of its steps: a message is discarded, and
a data frame is not delivered or relayed (R275); one that has begun to leave before its end came is CUT_THROUGH_FRAME_BAD's. -/
def State.wvRoute (s : State) (l : Nat) (f : Bytes) (good overrun : Bool) : State :=
  if whType f == 0 && s.mode.mode == .drain then s.bump Obj.MODE_DRAIN_RX_DROPS
  else if whType f == 2 then (if good then s.takeFlood l f else s)
  else if whDst f == s.wvAddr then
    (if !good then s else if whType f == 0 then s.wvDeliver l f overrun else s.consume l f)
  else if whHops f == 15 then s.bump (Obj.WV_DROP_HOP_LIMIT + l)
  else if !deValid (s.destOf (whDst f)) then s.bump (Obj.WV_DROP_NO_ROUTE + s.wvRegion s.curVer l)
  else if good then s.relay l f
  else s

/-- The checks of Table 09-10 in order; a failed FCS is counted whatever they find. -/
def State.wvReceive (s : State) (l : Nat) (f : Bytes) (good overrun : Bool) : State :=
  let s1 := s.bump (Obj.WV_RX_FRAMES + l)
  let s0 := if good then s1 else s1.bump (Obj.WV_RX_FCS_ERR + l)
  if !headerOk f then s0.bump (Obj.WV_DROP_HEADER + l)
  else if whType f == 3 then (if good then s0.takeHello l (whSrc f) (wvBody f) else s0)
  else if s0.wvState l != 2 then s0.bump (Obj.WV_DROP_LINK_STATE + l)
  else if !s0.windowOk f then s0.bump (Obj.WV_DROP_WINDOW + l)
  else if whClass f != 0 && s0.outOfStep then s0.bump (Obj.WV_DROP_OUT_OF_STEP + l)
  else if !s0.sourceOk f then s0.bump (Obj.WV_DROP_UNKNOWN_SRC + l)
  else s0.wvRoute l f good overrun

/-- A lane can receive. -/
def State.wvListens (s : State) (l : Nat) : Bool := s.traffic && l < 8 && (s.wvLink l).locked

/-- WEAVE_FRAME_RECEIVE: frame f on link l, header first and FCS last; `overrun` as in NET_FRAME_RECEIVE. Of a frame whose end is
still to come, a bad end is CUT_THROUGH_FRAME_BAD's. -/
def execWeaveFrameReceive (dt l : Nat) (f : Bytes) (overrun : Bool) (s : State) : Out :=
  work dt s (fun t => t.wvListens l) fun t => t.wvReceive l (unFcs f) (fcsGood f) overrun

/-- An arriving message of one type: frame f as in WEAVE_FRAME_RECEIVE. -/
def messageIn (typ dt l : Nat) (f : Bytes) (s : State) : Out :=
  work dt s (fun t => t.wvListens l && whType f != 0 && msgType (wvBody f) == typ) fun t => t.wvReceive l (unFcs f) (fcsGood f) false

/-- HELLO. -/
def execHello (dt l : Nat) (f : Bytes) (s : State) : Out := messageIn 0x01 dt l f s
/-- LINK_STATE. -/
def execLinkState (dt l : Nat) (f : Bytes) (s : State) : Out := messageIn 0x02 dt l f s
/-- PREPARE. -/
def execPrepare (dt l : Nat) (f : Bytes) (s : State) : Out := messageIn 0x10 dt l f s
/-- ACK. -/
def execAck (dt l : Nat) (f : Bytes) (s : State) : Out := messageIn 0x11 dt l f s
/-- NAK. -/
def execNak (dt l : Nat) (f : Bytes) (s : State) : Out := messageIn 0x12 dt l f s
/-- CANCEL. -/
def execCancel (dt l : Nat) (f : Bytes) (s : State) : Out := messageIn 0x13 dt l f s
/-- OUTCOME. -/
def execOutcome (dt l : Nat) (f : Bytes) (s : State) : Out := messageIn 0x14 dt l f s
/-- SHUTTLE. -/
def execShuttle (dt l : Nat) (f : Bytes) (s : State) : Out := messageIn 0x20 dt l f s

/-! ### The calendar's events (R271, R274) -/

/-- CALENDAR_WINDOW on link l: leaves become candidates, or are blocked, with the window now in force. -/
def execCalendarWindow (dt l : Nat) (s : State) : Out :=
  cmd dt s (fun t => t.traffic && decide (l < 8)) fun t => t.retestPort (16 + l)

/-- CALENDAR_SWITCH: a committed calendar takes effect (R274). -/
def execCalendarSwitch (dt : Nat) (s : State) : Out :=
  cmd dt s (fun t => t.alive && (match t.wv.calPend with | some p => decide (p.2 ≤ t.now) | none => false)) fun t =>
    match t.wv.calPend with
    | none => t
    | some p =>
      let t1 : State := { t with wv := { t.wv with cal := p.1, calPend := none, calOld := some (t.wv.cal, t.clock) } }
      (List.range 8).foldl (fun (a : State) l => a.retestPort (16 + l)) (t1.latch Obj.WV_CAL_SWITCH_AT p.2)

end Sys2Proof.Machine
end

