-- ==== Sys2Proof/Machine/Boot.lean ====
section
/-!
DEFINITION. Resets and start-up to VIGIL (spec/14 R421 to R428 and R435, spec/15 R451 to R458, spec/16 R473 to R480): what a
reset keeps, straps, the choice of a firmware bank, the settings store at a start.
-/

namespace Sys2Proof.Machine

/-! ### Stored values -/

/-- A stored value that the device itself sets reaches both copies of the settings store (log entry 23). -/
def State.latchStored (s : State) (o v : Nat) : State :=
  let k := okey o 0
  let d := objDefault o 0
  let s1 := s.latch o v
  { s1 with dict := { s1.dict with
      flash := s1.dict.flash.put k d v
      flashOld := s1.dict.flashOld.put k d v
      toFlash := s1.dict.toFlash.filter fun p => p.1 != k } }

/-- A stored counter is raised. -/
def State.bumpStored (s : State) (o : Nat) : State :=
  s.latchStored o (Nat.min u64Max (s.dict.flash.get (okey o 0) (objDefault o 0) + 1))

/-! ### What a reset keeps (R435, Table 14-6) -/

/-- Records of the last second below level 2 may not have reached the flash (R476): which of them are lost is free. -/
def State.loseRecords (s : State) : State :=
  let young := s.flt.unwritten.filter fun x => s.clock < x.1 + 1000000000
  young.foldl (fun a x =>
    let r := a.fresh 1
    if r.1 == 1 then { r.2 with flt := { r.2.flt with log := r.2.flt.log.filter fun y => y != x.2 } } else r.2) s

/-- Everything lost but flash contents, fuses, the key store, the always-on island and the pins. -/
def State.wipe (s : State) : State :=
  let s := s.loseRecords
  let s1 : State := { State.reset with
    now := s.now
    clock := s.clock
    pending := s.pending
    nextPkt := s.nextPkt
    free := s.free
    out := s.out
    store := { held := s.store.held, coming := [] }
    pkg := s.pkg }
  let keys : Crypt := { Crypt.reset with
    kek := s.cry.kek
    slots := s.cry.slots
    nextGen := s.cry.nextGen
    ckAt := s.clock }
  let imgs : Images := { Images.reset with
    slots := s.img.slots }
  let pw : Power := { Power.reset with
    rails := s.pwr.rails
    resetN := s.pwr.resetN
    vin := s.pwr.vin
    tripped := s.pwr.tripped
    ovLatch := s.pwr.ovLatch
    tripToLog := s.pwr.tripToLog
    supplyToLog := s.pwr.supplyToLog
    lockedAtEntry := s.pwr.lockedAtEntry }
  let dict : Dict := { Dict.reset with
    flash := s.dict.flash
    flashOld := s.dict.flashOld }
  let s2 : State := { s1 with
    dict := dict
    cry := keys
    img := imgs
    fuse := s.fuse
    pwr := pw
    hs := { HostSide.reset with perst := s.hs.perst }
    flt := { Faults.reset with log := s.flt.log, faultN := s.flt.faultN } }
  (s2.latch Obj.ERR_LOG_TOTAL (s.cfg Obj.ERR_LOG_TOTAL)).latch Obj.ERR_LOG_COUNT s2.flt.log.length

/-- A start begins; it is counted in `FLT_STARTS` when the settings store is read. -/
def State.toBoot (s : State) (reason : Nat) (before : Option Mode) (straps : List Nat) : State :=
  { s with pwr := { s.pwr with rails := .boot, reason := reason, before := before, straps := straps } }

/-- A chip reset (Table 14-6): the time base runs on. -/
def State.chipReset (s : State) (reason : Nat) : State := s.wipe.toBoot reason (some s.mode.mode) []

/-- A fatal chip error (R472): FAULT_N, frames in transmission end with an inverted FCS, the record, chip reset. -/
def State.fatal (s : State) (e : ErrInfo) : State :=
  let s1 := s.logErr { e with level := 3, action := 7 }
  let sending := (List.range 24).filter fun pn => s1.portUp pn && ([0, 1].any fun r => s1.clock * wireUnits < lookupD s1.tm.busy (r * 32 + pn) 0)
  let s2 := sending.foldl (fun a pn => a.emit (.stomp pn)) s1
  ({ s2 with flt := { s2.flt with faultN := true } }).chipReset 5

/-! ### Cold start and reset (R421, R444, R445, R502) -/

/-- A cold start may begin: RESET_N high, the input in its window, nothing that keeps the device off. `rose`: RESET_N rose;
`removed`: the 12 V input has been removed since; `dipped`: it has been below 10.2 V; `hot`: a comparator is at 125 °C. -/
def State.mayStart (s : State) (rose removed dipped hot : Bool) : Bool :=
  (s.pwr.rails == .off || s.pwr.rails == .held) && (s.pwr.resetN || rose) && !s.pkg.jtag
    && (!s.pwr.tripped || removed || (rose && !hot)) && (!s.pwr.ovLatch || removed || dipped)

/-- COLD_START: `straps` are the eight samples of the straps (R422); the time base starts at 0 (R423). -/
def execColdStart (dt : Nat) (straps : List Nat) (rose removed dipped hot : Bool) (s : State) : Out :=
  cmd dt s (fun t => t.mayStart rose removed dipped hot) fun t =>
    let t1 := t.wipe
    let t2 : State := { t1 with
      now := 0
      pwr := { t1.pwr with resetN := true, vin := true, tripped := false, ovLatch := false, lockedAtEntry := false } }
    t2.toBoot 0 none straps

/-- RESET_N_ASSERT: RESET_N low for 1 µs, in any mode and at any step. -/
def execResetNAssert (dt : Nat) (s : State) : Out :=
  cmd dt s (fun t => t.pwr.resetN) fun t =>
    let t1 := t.wipe
    let rails := if t.pwr.rails == .off then Rails.off else Rails.held
    { t1 with pwr := { t1.pwr with resetN := false, rails := rails } }

/-- Every rail but the always-on island goes off. -/
def State.railsOff (s : State) : State :=
  let t := s.wipe
  { t with pwr := { t.pwr with rails := .off } }

/-! ### Straps (R422) -/

/-- Samples in which bit b is 1. -/
def ones (samples : List Nat) (b : Nat) : Nat := (samples.filter fun x => bit x b).length

/-- A strap is 1 where at least 5 of 8 samples are. -/
def strapValue (samples : List Nat) : Nat :=
  (List.range 15).foldl (fun a b => a + b2n (5 ≤ ones samples b) * 2 ^ b) 0

def strapUnstable (samples : List Nat) : Nat :=
  (List.range 15).foldl (fun a b => a + b2n (0 < ones samples b && ones samples b < samples.length) * 2 ^ b) 0

/-- The sampled values; a disagreement is logged. -/
def State.takeStraps (s : State) (samples : List Nat) : State :=
  let u := strapUnstable samples
  let v := strapValue samples
  let s1 := ((s.latch Obj.STRAP_VALUES v).latch Obj.STRAP_UNSTABLE u).latch Obj.MGMT_MB_TRANSPORT (v % 2)
  if u == 0 then s1 else s1.logErr { ErrInfo.mk' 3 0 0xFF 0 0x10 8 with detail := u }

/-! ### Firmware images as a start sees them (R451, R456) -/

def State.fwSlot (s : State) (k : Nat) : FwSlot :=
  lookupD s.img.slots k { valid := false, version := 0, svn := 0, signer := 0, major := 0, minor := 0 }

/-- Fused minimum of a slot's type. -/
def State.svnMin (s : State) (k : Nat) : Nat := if k % 2 == 0 then s.fuse.svnVigil else s.fuse.svnService

/-- The code of Table 15-2 with which a slot's image fails when it is loaded, 0 where it passes; `bad` lists images whose
bytes fail a check that the slot's record does not show: (slot, code). -/
def State.fwCheck (s : State) (bad : List (Nat × Nat)) (k : Nat) : Nat :=
  let x := s.fwSlot k
  if !x.valid then 1
  else if x.svn < s.svnMin k then 4
  else if bit s.fuse.revoked x.signer then 5
  else lookupD bad k 0

/-- The object that a bank's slots are written through. -/
def fwObj (bank : Nat) : Nat := Obj.IMG_FW_WRITE_A + bank

/-- A stored image failed its checks (R451). -/
def State.imgReject (s : State) (code obj : Nat) : State :=
  ((s.latch Obj.IMG_REJECT_CODE code).latch Obj.IMG_REJECT_OBJECT obj).bump Obj.IMG_REJECTS

/-- A fallback at a start is counted and logged (R456). -/
def State.fallback (s : State) (code bank : Nat) : State :=
  ((s.imgReject code (fwObj bank)).bumpStored Obj.IMG_FALLBACKS).logErr { ErrInfo.mk' 3 6 0x44 0 0x13 8 with detail := code }

/-- The bank whose VIGIL image runs: 0, 1, or 2 for the recovery firmware. -/
def State.chooseVigil (s : State) (bad : List (Nat × Nat)) : Nat × State :=
  let a := s.cfg Obj.IMG_BOOT_BANK
  let c := s.fwCheck bad (2 * a)
  if c == 0 then (a, s)
  else
    let s1 := s.fallback c a
    let d := s1.fwCheck bad (2 * (1 - a))
    if d == 0 then (1 - a, s1)
    else (2, (s1.imgReject d (fwObj (1 - a))).logErr { ErrInfo.mk' 3 6 0x44 0 0x13 8 with detail := d })

/-! ### The settings store at a start (R415, R457, R480) -/

/-- The copy of the settings store that is used: the newer one, or where it fails the older one, or where both fail none
(R480); `copies` is 0, 1 or 2 accordingly. -/
def State.readStore (s : State) (copies : Nat) : State :=
  match copies with
  | 0 => s
  | 1 =>
    let s1 : State := { s with dict := { s.dict with flash := s.dict.flashOld } }
    s1.latchStored Obj.FLT_SETTINGS_FALLBACK (s1.dict.flash.get (okey Obj.FLT_SETTINGS_FALLBACK 0) 0 + 1)
  | _ => { s with dict := { s.dict with flash := [], flashOld := [] }, store := { s.store with held := [] } }

/-- The row of a store key. -/
def keyRow? (k : Nat) : Option ObjRow := objRow? (k / 2 ^ 32)

/-- Values in effect from the start: stored ones that no commit brings. -/
def startVals (flash : Store) : Store :=
  flash.filter fun p => match keyRow? p.1 with | some r => r.stored && r.app != .epoch | none => false

/-- Stored values come into effect; what the device has latched stays. -/
def State.loadSettings (s : State) : State :=
  let own := s.dict.val.filter fun p => match keyRow? p.1 with | some r => !r.stored || r.acc == .ro | none => true
  { s with dict := { s.dict with val := own.foldl (fun a p => assoc a p.1 p.2) (startVals s.dict.flash) } }

/-- What survives a settings reset: the keep set, and what the device itself stores (R457, Table 15-4). -/
def keepVals (flash : Store) : Store :=
  flash.filter fun p => match keyRow? p.1 with | some r => r.keep || r.acc == .ro | none => false

/-- Settings formats compared with the running VIGIL image (R457). -/
def State.compareMajor (s : State) (x : FwSlot) : State :=
  let old := s.dict.flash.get (okey Obj.IMG_SETTINGS_MAJOR 0) 0
  let oldMinor := s.dict.flash.get (okey Obj.IMG_SETTINGS_MINOR 0) 0
  if old == x.major then
    if oldMinor == x.minor then s else s.latchStored Obj.IMG_SETTINGS_MINOR x.minor
  else
    let kept := keepVals s.dict.flash
    let n := s.dict.flash.get (okey Obj.IMG_SETTINGS_RESETS 0) 0
    let s1 : State := { s with dict := { s.dict with flash := kept, flashOld := kept }, store := { s.store with held := [] } }
    let s2 := ((s1.latchStored Obj.IMG_SETTINGS_MAJOR x.major).latchStored Obj.IMG_SETTINGS_MINOR x.minor).latchStored
      Obj.IMG_SETTINGS_RESETS (n + 1)
    (s2.raise 0x0070 7 0 (toBe 2 old ++ toBe 2 x.major)).logErr
      { ErrInfo.mk' 3 6 0x42 0 0x14 8 with detail := old + x.major * 2 ^ 16 }

/-! ### Ports at a start -/

/-- Every network port leaves whatever link it has and starts anew. -/
def State.netRetrain (s : State) : State := (List.range 16).foldl (fun a n => a.netFall n (a.netIdle n)) s

/-- Host ports out of PERST train again (Table 14-6), with the values in effect. VIGIL firmware runs within 40 ms of a start, and
configuration space is ready within 100 ms of it (Table 14-2). -/
def State.hostRetrain (s : State) : State :=
  ([0, 1].filter fun p => !s.hs.perst.contains p).foldl
    (fun a p => ((a.applyQui (portQuiesce p)).readySoon p 60000000).trainPort p) s

/-- The rescue port (R428). -/
def State.chooseRescue (s : State) : Nat :=
  if s.cfg Obj.RESCUE_PORT_SRC == 1 then s.cfg Obj.RESCUE_PORT else fld (s.cfg Obj.STRAP_VALUES) 1 4

/-! ### VIGIL -/

/-- Records of the flash log whose CRC fails, by position, are discarded (R476). -/
def State.dropCorrupt (s : State) (bad : List Nat) : State :=
  let n := s.flt.log.length
  let lg := ((List.range n).zip s.flt.log).filter fun p => !bad.contains p.1
  let s1 : State := { s with flt := { s.flt with log := lg.map fun p => p.2 } }
  (s1.bumpN Obj.FLT_LOG_CORRUPT (n - lg.length)).latch Obj.ERR_LOG_COUNT lg.length

/-- Trips, supply events and the fatal error before this start are recorded (R444, R445, R472). -/
def State.logPast (s : State) : State :=
  let s1 := if s.pwr.tripToLog then s.logErr (ErrInfo.mk' 3 0 0x48 0 0x12 8) else s
  let s2 := if s.pwr.supplyToLog == 0 then s1
    else s1.logErr { ErrInfo.mk' 3 0 0x47 0 0x11 8 with count := s.pwr.supplyToLog }
  let s3 := if s.flt.faultN then s2.bumpStored Obj.FLT_FATAL else s2
  { s3 with pwr := { s3.pwr with tripToLog := false, supplyToLog := 0 }, flt := { s3.flt with faultN := false } }

/-- Queue pairs for one stored count, from the lowest that is free (log entry 24). -/
def pairsFor (a : State × Nat) (p : Nat × Nat) : State × Nat :=
  match fidAt (p.1 / 2 ^ 32 % 256 - 1) (p.1 % 2 ^ 32) with
  | none => a
  | some f =>
    let ids := (List.range p.2).map fun i => a.2 + i
    (a.1.setFn f { a.1.fn f with qpids := ids }, a.2 + p.2)

/-- Queue pairs of the stored counts are taken from the pool, lowest first (R325; log entry 24). -/
def State.takePairs (s : State) : State :=
  let counts := s.dict.val.filter fun p =>
    let o := p.1 / 2 ^ 32
    Obj.FN_QP_COUNT ≤ o && o < Obj.FN_QP_COUNT + 3
  (counts.foldl pairsFor (s, 0)).1

/-- The mode is VIGIL from now on (Table 14-4); at a cold start no mode stood before it, and that byte of the event is free. -/
def State.enterVigil (s : State) : State :=
  let r := s.fresh 8
  let old := match s.pwr.before with
    | some m => m.num
    | none => r.1
  let s1 := match s.pwr.before with
    | some _ => s
    | none => r.2
  let s2 : State := { s1 with mode := ModeSt.reset }
  let s3 := (((s2.latch Obj.MODE_CURRENT 0).latch Obj.MODE_SINCE s.now).latch Obj.MODE_REASON s.pwr.reason).bump Obj.MODE_CHANGES
  (s3.raise 0x0010 1 0 (toBe 1 old ++ toBe 1 0 ++ toBe 1 s.pwr.reason)).aplic 2

/-- Time discipline at a start: acquiring where one is set; after step 4 as R441 says. -/
def State.startTime (s : State) : State :=
  let s1 := s.latch Obj.TIME_LOCK_STATE 0
  if s.pwr.reason == 8 then s1.latch Obj.TIME_LOCK_STATE (if s.pwr.lockedAtEntry then 3 else 0)
  else if s1.cfg Obj.TIME_DISCIPLINE == 0 then s1 else s1.setLock 1

/-- The VIGIL firmware of the chosen bank, or the recovery firmware, begins. -/
def State.vigilStart (s : State) (samples : List Nat) (bad : List (Nat × Nat)) (copies : Nat) (corrupt : List Nat) : State :=
  let s0 : State := { s with pwr := { s.pwr with rails := .run } }
  let s1 := ((s0.dropCorrupt corrupt).readStore copies).loadSettings.bumpStored Obj.FLT_STARTS
  let s2 := s1.takeStraps (if s.pwr.straps.isEmpty then samples else s.pwr.straps)
  let r := (if copies == 0 then s2 else s2.logErr (ErrInfo.mk' 3 6 0x42 0 0x14 8)).chooseVigil bad
  let s3 := if r.1 < 2 then (r.2.compareMajor (r.2.fwSlot (2 * r.1))).loadSettings else r.2
  let s4 := (s3.latch Obj.IMG_RUNNING r.1).logPast
  let s5 := (s4.latch Obj.RESCUE_PORT_EFFECTIVE s4.chooseRescue).latch Obj.WV_ADDR_EFFECTIVE s4.chosenAddr
  s5.netRetrain.hostRetrain.takePairs.startTime.enterVigil.emit (.stage 1)

/-- VIGIL_FIRMWARE_START: `samples` are the strap samples where the start is a chip reset; `bad`, `copies` and `corrupt` are
what the flash holds: images that fail a check, copies of the settings store, records of the log. A start waits in the boot
ROM while the flash has no supply (R495). -/
def execVigilFirmwareStart (dt : Nat) (samples : List Nat) (bad : List (Nat × Nat)) (copies : Nat) (corrupt : List Nat)
    (s : State) : Out :=
  cmd dt s (fun t => t.pwr.rails == .boot && t.pkg.vflashOff.isNone) fun t => t.vigilStart samples bad copies corrupt

end Sys2Proof.Machine
end

