-- ==== Sys2Proof/Machine/Queues.lean ====
section
/-!
DEFINITION. Queue pairs: creation, doorbells, transmit, receive, interrupts, register pages and migration
(spec/11_functions_rings_migration.md R321 to R355).
-/

namespace Sys2Proof.Machine

/-! ### Creating queue pairs (R330, R331) -/

/-- FN_QP_COUNT as it reads (R426 in VIGIL). -/
def State.qpCount (s : State) (f : Nat) : Nat :=
  if s.mode.mode == .vigil && f == 0 then 2 else s.fnCfg Obj.FN_QP_COUNT f

/-- The writers that name the function (R158). -/
def State.writersNaming (s : State) (f : Nat) : List Nat := (List.range 16).filter fun n => s.cfg (Obj.TBL_WRITER_FID + n) == f

/-- The function owns the EVENT source that AUX names (R331). -/
def State.ownsSource (s : State) (f aux : Nat) : Bool :=
  let n := fld aux 32 14
  match fld aux 24 3 with
  | 1 => n < 64 && s.cfg (Obj.LRN_RING_FID + n) == f
  | 2 => n < 16 && s.cfg (Obj.CENSUS_RING_FID + n) == f
  | 3 => n < 16 && s.cfg (Obj.SMP_RING_FID + n) == f
  | 4 => !coreFid n && s.migCtl (fidPort n) == f
  | _ => false

/-- The kind is allowed to the function (Table 11-6; R426 in VIGIL). -/
def State.kindAllowed (s : State) (f q ctrl aux : Nat) : Bool :=
  let k := fld ctrl 0 4
  if s.mode.mode == .vigil then (q == 0 && k == 1) || (q == 1 && k == 2)
  else match k with
    | 3 => !(s.writersNaming f).isEmpty
    | 4 => !fidVf f
    | 5 => s.ownsSource f aux
    | 7 => coreFid f
    | _ => true

/-- Values in range, alignments kept, reserved bits 0 (Table 11-5). -/
def State.qpFieldsOk (s : State) (f ctrl sq cq head aux : Nat) : Bool :=
  let k := fld ctrl 0 4
  let logOk := fun n => 6 ≤ n && n ≤ 16
  1 ≤ k && k ≤ 7 && logOk (fld ctrl 9 5)
    && (if k == 5 then fld ctrl 4 5 == 0 && sq == 0 else logOk (fld ctrl 4 5) && fld ctrl 14 2 == 0 && sq % 4096 == 0)
    && fld ctrl 16 12 < s.fnCfg Obj.FN_VECTORS f
    && ctrl < 2 ^ 59 && cq % 4096 == 0 && head % 8 == 0 && sq < 2 ^ 64 && cq < 2 ^ 64 && head < 2 ^ 64
    && fld aux 20 4 == 0 && fld aux 27 5 == 0 && aux < 2 ^ 46
    && (if k == 5 then 1 ≤ fld aux 24 3 && fld aux 24 3 ≤ 4 && (fld aux 24 3 != 4 || fidUsed (fld aux 32 14)) else fld aux 24 3 == 0 && fld aux 32 14 == 0)

/-- Status of a create command (R331): the first check that fails. -/
def State.createStatus (s : State) (f q ctrl sq cq head aux : Nat) : Nat :=
  if s.qpCount f ≤ q then 2
  else if (s.qp? f q).isSome then 1
  else if s.persona f != 0 then 10
  else if 1 ≤ fld ctrl 0 4 && fld ctrl 0 4 ≤ 7 && !s.kindAllowed f q ctrl aux then 3
  else if s.qpFieldsOk f ctrl sq cq head aux then 0 else 2

/-- A pair as creation leaves it. -/
def Qp.fresh (ctrl sq cq head aux : Nat) : Qp :=
  { ctrl := ctrl, sqBase := sq, cqBase := cq, headAddr := head, aux := aux, prod := 0, taken := 0, cons := 0, cq := 0,
    ccons := 0, staged := [], stop := false, pend := 0, pendAt := 0, page := none, short := none,
    fail := false }

/-- Fields that modify may change: QP_VECTOR, QP_INT_EN, QP_MOD_US, QP_MOD_COUNT, QP_TPH_PH. -/
def modifiable (ctrl : Nat) : Nat := setFld (setFld ctrl 16 39 0) 57 2 0

/-- QPC_CMD: 1 create, 2 modify, 3 query (R330, R331); QPC_STATUS holds the result. -/
def State.qpcRun (s : State) (f code : Nat) : State :=
  let x := s.fn f
  let q := x.qpcSel
  if x.qpcStatus == 5 then s.bumpFn Obj.FN_CMD_OVERLAP f
  else match code with
    | 1 =>
      let st := s.createStatus f q x.qpcCtrl x.qpcSq x.qpcCq x.qpcHead x.qpcAux
      let s1 := s.setFn f { x with qpcStatus := st }
      if st == 0 then (s1.setQp f q (Qp.fresh x.qpcCtrl x.qpcSq x.qpcCq x.qpcHead x.qpcAux)).flushTargets f else s1
    | 2 =>
      (match s.qp? f q with
       | none => s.setFn f { x with qpcStatus := 2 }
       | some y =>
         if modifiable x.qpcCtrl == modifiable y.ctrl && x.qpcSq == y.sqBase && x.qpcCq == y.cqBase
             && x.qpcHead == y.headAddr && x.qpcAux == y.aux && fld x.qpcCtrl 16 12 < s.fnCfg Obj.FN_VECTORS f then
           (s.setFn f { x with qpcStatus := 0 }).setQp f q { y with ctrl := x.qpcCtrl }
         else s.setFn f { x with qpcStatus := 2 })
    | 3 =>
      (match s.qp? f q with
       | none => s.setFn f { x with qpcStatus := 2 }
       | some y => s.setFn f { x with
           qpcStatus := 0, qpcCtrl := y.ctrl, qpcSq := y.sqBase, qpcCq := y.cqBase, qpcHead := y.headAddr, qpcAux := y.aux,
           qpcSqIndex := y.prod + y.cons * 2 ^ 32, qpcCqIndex := y.cq + y.ccons * 2 ^ 32 })
    | _ => s.setFn f { x with qpcStatus := 2 }

/-- Data written by a function, in parts (R296). -/
def State.jobWrite (s : State) (f : Nat) (attr : Attr) (addr : Nat) (bs : Bytes) : State :=
  ((splitAccess (s.fn f).mps addr bs.length).foldl
    (fun (acc : State × Bytes) p => (acc.1.hostWrite f (.mem attr p.1 (acc.2.take p.2)), acc.2.drop p.2)) (s, bs)).1

/-! ### Virtqueues (R324; virtio 1.2, log entry 21) -/

/-- Key of a register of the common configuration of a VNET or VBLK function; q is 0 for registers of the device, 1 + n for
those of virtqueue n. -/
def vioKey (q reg : Nat) : Nat := 0x10000 * (q + 1) + reg

/-- A register of the common configuration; no vector is 0xFFFF (virtio 1.2, log entry 21). -/
def State.vio (s : State) (f q reg : Nat) : Nat :=
  lookupD (s.fn f).page (vioKey q reg) (if reg == 16 || reg == 26 then 0xFFFF else 0)

/-- Register of the model's own that holds word n of the driver's features. -/
def vioFeat (n : Nat) : Nat := 0x100 + n

/-- The driver has accepted feature n (R324). -/
def State.vioHas (s : State) (f n : Nat) : Bool := bit (s.vio f 0 (vioFeat (n / 32))) (n % 32)

/-- Fields of a 16 B virtqueue descriptor. -/
def vqAddr (d : Bytes) : Nat := leNat (slice d 0 8)
def vqLen (d : Bytes) : Nat := leNat (slice d 8 4)
/-- VIRTQ_DESC_F_WRITE, whose place depends on the ring's layout. -/
def vqWrite (packed : Bool) (d : Bytes) : Bool := bit (leNat (slice d (if packed then 14 else 12) 2)) 1
/-- Bytes of struct virtio_net_hdr before a frame. -/
def vnetHdr : Nat := 12
/-- VIRTIO_F_RING_PACKED. -/
def State.vioPacked (s : State) (f : Nat) : Bool := s.vioHas f 34

/-! ### Doorbells (R333) -/

/-- Submission doorbell (R333, R347, R432). -/
def State.sqDoorbell (s : State) (f q v : Nat) : State :=
  match s.qp? f q with
  | none => s.bumpFn Obj.HST_DOORBELL_BAD f
  | some x =>
    if s.mode.mode == .drain && x.kind != 2 then s.bump Obj.MODE_DRAIN_DOORBELLS
    else if (s.fn f).reset == 2 then s
    else if v < 2 ^ 32 && x.kind != 5 && (v + 2 ^ 32 - x.prod) % 2 ^ 32 ≤ x.sqSize
        && (v + 2 ^ 32 - x.cons) % 2 ^ 32 ≤ x.sqSize then s.setQp f q { x with prod := v }
    else s.bumpFn Obj.HST_DOORBELL_BAD f

/-- Completion doorbell (R333): slots are free again; staged entries and writes that waited for the log go on. -/
def State.cqDoorbell (s : State) (f q v : Nat) : State :=
  match s.qp? f q with
  | none => s.bumpFn Obj.HST_DOORBELL_BAD f
  | some x =>
    let ahead := (v + 2 ^ 32 - x.ccons) % 2 ^ 32
    if (s.fn f).reset == 2 then s
    else if v < 2 ^ 32 && 1 ≤ ahead && ahead ≤ (x.cq + 2 ^ 32 - x.ccons) % 2 ^ 32 then
      ((s.setQp f q { x with ccons := v }).unstage f q).flushTargets f
    else s.bumpFn Obj.HST_DOORBELL_BAD f

/-- A doorbell of an NVMe queue: the tail of submission queue q, or the head of completion queue q (R293, R377). -/
def State.nvDoorbell (s : State) (f q v : Nat) (cq : Bool) : State :=
  let bad := s.bumpFn Obj.HST_DOORBELL_BAD f
  if cq then
    match lookup? s.stg.cq (qpKey f q) with
    | some c => if v < c.size then cqFlush f q c.wait.length (s.setCq (qpKey f q) { c with head := v }) else bad
    | none => bad
  else match lookup? s.stg.sq (qpKey f q) with
    | some c =>
      if s.mode.mode == .drain then s.bump Obj.MODE_DRAIN_DOORBELLS
      else if (s.fn f).reset == 2 then s
      else if v < c.size then s.setSq (qpKey f q) { c with tail := v } else bad
    | none => bad

/-- A doorbell of either kind reaches the function, or is discarded. -/
def State.doorbell (s : State) (f q v : Nat) (cq : Bool) : State :=
  s.pageWrite f fun s =>
    if s.qpCount f ≤ q then s.bumpFn Obj.HST_DOORBELL_BAD f
    else if s.persona f == 3 then s.nvDoorbell f q v cq
    else if cq then s.cqDoorbell f q v else s.sqDoorbell f q v

/-- SUBMISSION_DOORBELL. -/
def execSubmissionDoorbell (dt f q v : Nat) (s : State) : Out := work dt s (fun _ => true) fun t => t.doorbell f q v false

/-- COMPLETION_DOORBELL. -/
def execCompletionDoorbell (dt f q v : Nat) (s : State) : Out := work dt s (fun _ => true) fun t => t.doorbell f q v true

/-! ### Transmit (R327, R336, R337) -/

/-- A pair that carries transmit packets: NET_TX, or an odd virtqueue of a VNET function. -/
def Qp.isTx (x : Qp) (q : Nat) : Bool := x.kind == 1 || (x.kind == 8 && q % 2 == 1)

/-- A transmit pair that is ready for its next packet. -/
def Qp.txReady (x : Qp) (q : Nat) : Bool :=
  x.isTx q && x.avail != 0 && !x.stop && x.staged.length < 32 && x.page.isNone && x.short != some x.prod

/-- Token bucket of FN_TX_RATE (R327) in units of 1/8,000,000,000 byte. -/
def State.txTokens (s : State) (f : Nat) : Int :=
  let cap : Int := 65536 * 8000000000
  match (s.fn f).txBucket with
  | none => cap
  | some (b, at_) => min cap (b + ((s.fnCfg Obj.FN_TX_RATE f * (s.clock - at_) : Nat) : Int))

/-- The function has a transmit packet ready and may issue. -/
def State.fnTxReady (s : State) (f : Nat) : Bool :=
  s.mayRead f && s.tagReady f && (s.qpsOf f).any (fun q => q.2.txReady q.1)
    && (s.fnCfg Obj.FN_TX_RATE f == 0 || decide (0 < s.txTokens f))

/-- Arbiter of a function: 0 HA, 1 HB, 2 core side. -/
def arbOf (f : Nat) : Nat := fnSub f

/-- Functions of an arbiter that own transmit pairs, in order from the one it stands at. -/
def State.txOrder (s : State) (a : Nat) : List Nat :=
  let fs := sortAsc (((s.hs.qp.filter fun x => x.2.isTx (x.1 % 65536)).map fun x => x.1 / 65536).filter fun f => arbOf f == a)
  fromPointer (lookupD s.hs.txLast a 0) (fs.filter s.fnTxReady)

/-- Quantum of a function (R327). -/
def State.txQuantum (s : State) (f : Nat) : Nat := s.fnCfg Obj.FN_TX_WEIGHT f * 1024

/-- The turns of the deficit-weighted round robin, as in R219. -/
def txTurns : Nat → List Nat → State → Option Nat × State
  | 0, l, s => (l.head?, s)
  | _, [], s => (none, s)
  | n + 1, f :: t, s =>
    if (s.fn f).txDeficit ≤ 0 then
      txTurns n (t ++ [f]) (s.setFn f { s.fn f with txDeficit := (s.fn f).txDeficit + s.txQuantum f })
    else (some f, s)

/-- The function whose packet an arbiter takes next, with deficits topped up. -/
def State.txPick (s : State) (a : Nat) : Option Nat × State :=
  let l := s.txOrder a
  let n := l.foldl (fun m f => Nat.max m ((-(s.fn f).txDeficit).toNat / Nat.max 1 (s.txQuantum f))) 0
  txTurns ((n + 2) * l.length) l s

/-- The pair of a function that is served next: one packet from each ready pair in turn. -/
def State.txPair (s : State) (f : Nat) : Option Nat :=
  (fromPointer ((s.fn f).txLast + 1) (sortAsc (((s.qpsOf f).filter fun q => q.2.txReady q.1).map fun q => q.1))).head?

/-- Descriptor fields of Table 11-7. -/
def txdAddr (d : Bytes) : Nat := leWord d 0
def txdLen (d : Bytes) : Nat := fld (leWord d 1) 0 14
def txdEop (d : Bytes) : Bool := bit (leWord d 1) 16
def txdAttr (d : Bytes) : Nat := fld (leWord d 1) 17 2
def txdReserved (d : Bytes) : Bool :=
  fld (leWord d 1) 14 2 != 0 || fld (leWord d 1) 19 45 != 0 || leWord d 2 != 0 || leWord d 3 != 0

/-- Status of the validation of a packet's descriptors (R336; R427 in VIGIL). -/
def txStatus (vigil : Bool) (ds : List Bytes) : Nat :=
  let total := sumBy txdLen ds
  if ds.any txdReserved || ds.any (fun d => txdLen d == 0) || total < 14 || 16383 < total || !(ds.any txdEop)
      || (vigil && 9600 < total) then 2 else 0

/-- Descriptors of the next packet: those up to and with EOP, at most 16; none where EOP is not there yet (R336). -/
def packetDescs (limit : Nat) (ds : List Bytes) : Option (List Bytes) :=
  match ds.findIdx? txdEop with
  | some i => some (ds.take (i + 1))
  | none => if limit ≥ 16 && ds.length ≥ 16 then some (ds.take 16) else none

/-- The reads of a packet of a core-side function are made at once (R332); none where an address is outside. -/
def State.coreData (s : State) (ds : List Bytes) : Option Bytes :=
  (ds.mapM fun d => s.appRead (txdAddr d) (txdLen d)).map List.flatten

/-- Address, length and ordering bits of each descriptor of a transmit packet. -/
def Qp.txParts (x : Qp) (ds : List Bytes) : List (Nat × Nat × Nat) :=
  if x.kind == 8 then ds.map fun d => (vqAddr d, vqLen d, 0) else ds.map fun d => (txdAddr d, txdLen d, txdAttr d)

/-- Bytes of a transmit packet. -/
def Qp.txBytes (x : Qp) (ds : List Bytes) : Nat :=
  sumBy (fun p => p.2.1) (x.txParts ds) - (if x.kind == 8 then vnetHdr else 0)

/-- Status of a transmit packet's validation: of descriptors (R336), or of a virtqueue's chain, which holds a header and a frame
of a length that R336 allows and nothing to write to (log entry 76). -/
def State.txCheck (s : State) (f : Nat) (x : Qp) (ds : List Bytes) : Nat :=
  if x.kind != 8 then txStatus (s.mode.mode == .vigil) ds
  else if ds.any (vqWrite (s.vioPacked f)) || x.txBytes ds < 14 || 16383 < x.txBytes ds then 2 else 0

/-- Submission entries that a packet takes: a chain of a virtqueue counts as one. -/
def Qp.txCount (x : Qp) (ds : List Bytes) : Nat := if x.kind == 8 then 1 else ds.length

/-- The work of a transmit packet: what its fetch reads, or for a core-side function what memory gave. -/
def State.txWork (s : State) (f q : Nat) (x : Qp) (ds : List Bytes) : Work :=
  let bad := s.txCheck f x ds
  let cd := if coreFid f && bad == 0 then s.coreData ds else none
  let pieces := if bad != 0 || coreFid f then [] else
    (x.txParts ds).flatMap fun d => (splitAccess (s.fn f).mrrs d.1 d.2.1).map fun p => (p.1, p.2, d.2.2)
  { id := s.hs.nextWork, fid := f, q := q, first := x.taken, n := x.txCount ds,
    pieces := match cd with | some b => [(0, b.length, 0)] | none => pieces,
    todo := if coreFid f then [] else List.range pieces.length,
    got := match cd with | some b => [(0, b)] | none => [],
    status := if bad != 0 then bad else if coreFid f && cd.isNone then 3 else 0,
    poisoned := false, rxTime := s.now }

/-- A work is held until it ends. -/
def State.addWork (s : State) (f : Nat) (w : Work) : State :=
  { s with hs := { s.hs with works := s.hs.works ++ [w], nextWork := s.hs.nextWork + 1,
                             txLast := assoc s.hs.txLast (arbOf f) f } }

/-- A packet of len bytes is charged to the function's turn and to its rate. -/
def State.chargeTx (s : State) (f q len : Nat) : State :=
  let x := s.fn f
  let left := s.txTokens f - ((len * 8000000000 : Nat) : Int)
  let t := s.setFn f { x with txDeficit := x.txDeficit - len, txLast := q,
                              txBucket := if s.fnCfg Obj.FN_TX_RATE f == 0 then x.txBucket else some (left, s.clock) }
  if t.fnTxReady f then t else t.setFn f { t.fn f with txDeficit := 0 }

/-- A fetched packet becomes a work: validated, its reads listed (R336). -/
def State.startTx (s : State) (f q : Nat) (x : Qp) (ds : List Bytes) : State :=
  let bad := s.txCheck f x ds
  let s1 := s.addWork f (s.txWork f q x ds)
  let s2 := s1.setQp f q { x with taken := (x.taken + x.txCount ds) % 2 ^ 32, fail := false }
  let s3 := s2.chargeTx f q (if bad == 0 then x.txBytes ds else 0)
  let s4 := if bad == 0 then s3 else s3.bumpFn Obj.HST_DESC_BAD f
  if coreFid f then s4 else s4.pump (s4.linkOf f)

/-- What a transmit fetch reads: descriptors of a ring up to the most a packet takes, or of a virtqueue the chain that came
(log entry 76). -/
def Qp.txSlots (x : Qp) (given : HostRead) : List Access :=
  if x.kind == 8 then [(x.sqBase, Nat.max 16 (given.bytes.getD []).length, false)] else x.slots (Nat.min 16 x.avail)

/-- The descriptor in front of a transmit pair fails with ACCESS (R312, R332). -/
def State.txLost (s : State) (f q : Nat) (x : Qp) : State :=
  let y := { x with taken := (x.taken + 1) % 2 ^ 32, fail := false }
  (s.setQp f q y).complete f q y.taken (toLe 8 (y.taken + 2 ^ 32) ++ toLe 8 3)

/-- Descriptors of the next packet, as fetched: none where its EOP, or a virtqueue's chain, is not there yet. -/
def Qp.txPacket (x : Qp) (given : HostRead) (b : Bytes) : Option (List Bytes) :=
  if x.kind == 8 then (if given.bytes == some [] then none else some (entries 16 b))
  else packetDescs (Nat.min 16 x.avail) (entries x.sqEntrySize b)

/-- TX_PACKET_FETCH: the arbiter takes the next packet of the pair it has come to; `given` is what the host's memory returned. -/
def execTxPacketFetch (dt f q : Nat) (given : HostRead) (s : State) : Out :=
  work dt s (fun t => t.alive && (t.txPick (arbOf f)).1 == some f && t.txPair f == some q && t.mayAnswer f given) fun t =>
    match t.qp? f q with
    | none => t
    | some x => match t.fetch f q x (t.ringAttr f x) (x.txSlots given) given with
      | .wait t1 => t1
      | .lost t1 => (t1.txPick (arbOf f)).2.txLost f q x
      | .got b t1 => match x.txPacket given b with
        | some pk => (t1.txPick (arbOf f)).2.startTx f q x pk
        | none => t1.setQp f q { x with short := some x.prod }

/-- NET_TX completion entry (Table 11-8). -/
def txEntry (w : Work) : Bytes := toLe 8 ((w.first + w.n) % 2 ^ 32 + w.n * 2 ^ 32) ++ toLe 8 w.status

/-- A packet of a function, read whole, waits for the pipelines (R336). -/
def State.enterTx (s : State) (w : Work) (bytes : Bytes) : State :=
  s.addPkt { id := 0, kind := .data, loc := .txReady, bytes := bytes, lenKnown := true, rxEnd := s.clock,
             srcKind := if coreFid w.fid then 3 else 2, srcId := w.fid, rxTime := w.rxTime, wvSrc := 0, wvHops := 0,
             md := 0, hv := 0, epoch := none, stampAt := 0, region := 0, pipe := 0, eqid := 0, enqAt := 0, readyAt := 0,
             after := .egress, scanFrom := 0, dest := 0, portNode := 0, gateLen := 0 }

/-- The first work of a pair. -/
def State.work? (s : State) (f q : Nat) : Option Work := s.hs.works.find? fun w => w.fid == f && w.q == q

/-- All of a work's data has been read, or its failure is known. -/
def Work.done (w : Work) : Bool := w.status != 0 || (w.todo.isEmpty && w.got.length == w.pieces.length)

/-- Rescue port (R428). -/
def State.rescuePort (s : State) : Nat := s.cfg Obj.RESCUE_PORT_EFFECTIVE

/-- Completion staging of a pair has room for one more entry (R341). -/
def State.stageRoom (s : State) (f q : Nat) : Bool :=
  match s.qp? f q with
  | some x => x.staged.length < 32
  | none => true

/-- TX_DATA_COMPLETE. -/
def execTxDataComplete (dt f q : Nat) (s : State) : Out :=
  work dt s (fun t => t.alive && (t.fn f).reset != 1 && (t.fn f).reset != 3 && t.stageRoom f q
      && (match t.work? f q with | some w => w.done | none => false)) fun t =>
    match t.work? f q with
    | none => t
    | some w =>
      let all := w.got.flatMap fun g => g.2
      let bytes := if (t.qp? f q).any fun x => x.kind == 8 then all.drop vnetHdr else all
      let t1 := { t with hs := { t.hs with works := t.hs.works.filter fun x => x.id != w.id } }
      let t2 := if w.status != 0 then t1
        else
          let t3 := t1.bumpFn Obj.HST_TX_PACKETS f
          if t3.mode.mode == .vigil then
            (if t3.cfg (Obj.NET_LINK_STATE + t3.rescuePort) == 4
             then (t3.emit (.net t3.rescuePort bytes)).bump Obj.RESCUE_TX_FRAMES else t3)
          else t3.enterTx w bytes
      t2.complete f q (w.first + w.n) (txEntry w)

/-! ### Receive (R328, R338 to R340) -/

def mdDistHash (m : Md) : Nat := mdGet m 270 32
def mdUser6 (m : Md) : Nat := mdGet m 960 64
def mdRxTime (m : Md) : Nat := mdGet m 64 64

/-- The pair a packet of a function goes to (R328 steps 3 and 4; Table 11-3 for VNET; R427 for the rescue NIC). -/
def State.rxTarget (s : State) (f : Nat) (p : Pkt) : Option (Nat × Qp) :=
  if s.mode.mode == .vigil then
    match s.qp? f 1 with
    | some x => if x.kind == 2 then some (1, x) else none
    | none => none
  else if s.persona f == 1 then
    let act := sortAsc (((s.qpsOf f).filter fun q => q.2.kind == 8 && q.1 % 2 == 0).map fun q => q.1)
    let q := act.getD (mdDistHash p.md % Nat.max 1 act.length) 0
    if act.isEmpty then none else (s.qp? f q).map fun x => (q, x)
  else
    let e := lookupD (s.fn f).steer (mdDistHash p.md % 128) 0
    match s.qp? f (fld e 0 16) with
    | some x => if bit e 31 && x.kind == 2 then some (fld e 0 16, x) else none
    | none => none

def rxdAddr (d : Bytes) : Nat := leWord d 0
def rxdLen (d : Bytes) : Nat := fld (leWord d 1) 0 14
def rxdAttr (d : Bytes) : Nat := fld (leWord d 1) 16 2
/-- A buffer descriptor that R338 refuses. -/
def rxdBad (d : Bytes) : Bool :=
  rxdLen d < 64 || fld (leWord d 1) 14 2 != 0 || fld (leWord d 1) 18 46 != 0 || leWord d 2 != 0 || leWord d 3 != 0

/-- The buffers a packet of n bytes takes: each posted descriptor in order with the bytes it is to hold, 0 for a refused
one; none where they do not suffice or more than sixteen are needed (R338, R339). -/
def takeBuffers : Nat → List Bytes → Nat → Option (List (Bytes × Nat))
  | _, _, 0 => some []
  | _, [], _ => none
  | used, d :: t, n =>
    if rxdBad d then (takeBuffers used t n).map fun l => (d, 0) :: l
    else if used ≥ 16 then none
    else (takeBuffers (used + 1) t (n - Nat.min n (rxdLen d))).map fun l => (d, Nat.min n (rxdLen d)) :: l

/-- Outcome of the translation of a packet's buffers (R299, R300). -/
inductive RxXl where
  | ready
  /-- a translation is awaited, with the request just made, for the last of `n` descriptors -/
  | asked (s : State) (n : Nat)
  /-- denied at an address that `n` descriptors end with -/
  | denied (addr n : Nat)

/-- Translation of the parts of a packet's buffers; k counts descriptors. -/
def State.rxXl (s : State) (f q : Nat) (pasid : Option Nat) : Nat → List (Bytes × Nat) → RxXl
  | _, [] => .ready
  | k, (d, n) :: t =>
    let parts := splitAccess 4096 (rxdAddr d) n
    match parts.find? (fun p => match s.xlOf f pasid p.1 with | some x => !x.wr | none => true) with
    | none => s.rxXl f q pasid (k + 1) t
    | some p =>
      match s.xlOf f pasid p.1 with
      | some _ => .denied p.1 (k + 1)
      | none => .asked (if s.xlAsked f p.1 then s else (s.askXl f pasid 0 q p.1).getD s) (k + 1)

/-- The data of a packet written into its buffers (R296, R298, R303). -/
def State.writeBuffers (s : State) (f : Nat) (x : Qp) : Bytes → List (Bytes × Nat) → State
  | _, [] => s
  | bs, (d, n) :: t =>
    let fn := s.fn f
    let a : Attr := { ro := fn.roEn && bit (rxdAttr d) 0, ido := fn.idoEn && bit (rxdAttr d) 1, pasid := s.pasidOf f x,
                      tph := if bit x.ctrl 56 then fn.hint x else none }
    (s.jobWrite f a (rxdAddr d) (bs.take n)).writeBuffers f x (bs.drop n) t

/-- NET_RX completion entry (Table 11-10). -/
def rxEntry (p : Pkt) (bufs status : Nat) : Bytes :=
  toLe 8 (p.len % 2 ^ 14 + bufs * 2 ^ 14 + mdTc p.md * 2 ^ 19 + mdDistHash p.md * 2 ^ 32)
    ++ toLe 8 (status + (mdUser6 p.md % 2 ^ 24) * 2 ^ 8 + (p.rxTime % 2 ^ 32) * 2 ^ 32)

/-- Buffer descriptors that were refused are consumed, each with its own entry (R338). -/
def State.refuseBufs (s : State) (f q : Nat) : List (Bytes × Nat) → State
  | [] => s
  | (_, n) :: t =>
    if n == 0 then
      match s.qp? f q with
      | none => s
      | some x => ((s.complete f q (x.cons + 1) (toLe 8 (2 ^ 14) ++ toLe 8 2)).bumpFn Obj.HST_DESC_BAD f).refuseBufs f q t
    else s.refuseBufs f q t

/-- Part of R339's table before the buffers: the counter a packet for f is dropped under, or its pair. -/
def State.rxTest (s : State) (f : Nat) (p : Pkt) : Nat ⊕ (Nat × Qp) :=
  let x := s.fn f
  if s.fnCfg Obj.FN_ENABLE f == 0 || !s.fnExists f then .inl Obj.HST_DROP_FN_DISABLED
  else if x.reset == 1 || x.reset == 3 then .inl Obj.HST_DROP_FN_RESET
  else if x.held then .inl Obj.HST_DROP_FN_HELD
  else if x.d3 then .inl Obj.HST_DROP_D3HOT
  else match s.rxTarget f p with
    | none => .inl Obj.HST_DROP_NO_RXQ
    | some (q, y) => if 32 ≤ y.staged.length then .inl Obj.HST_DROP_CQ_FULL else .inr (q, y)

/-- A packet is dropped at delivery: counted for the function, or for the rescue NIC (R339, R428). -/
def State.rxDrop (s : State) (f : Nat) (p : Pkt) (ctr : Nat) : State :=
  (if s.mode.mode == .vigil then s.bump Obj.RESCUE_RX_DROPS else s.bumpFn ctr f).dropPkt p.id

/-- A packet, after its header, goes into the chain that a receive virtqueue's driver has posted, and the chain is returned used
(R324; log entry 76). -/
def State.deliverVio (s : State) (f q : Nat) (x : Qp) (p : Pkt) (chain : List Bytes) : State :=
  let bytes := List.replicate 10 0 ++ toLe 2 1 ++ p.bytes
  if chain.any (fun d => !vqWrite (s.vioPacked f) d) || sumBy vqLen chain < bytes.length then s.rxDrop f p Obj.HST_DROP_NO_BUFFER
  else
    let s1 := chain.foldl (fun (a : State × Bytes) d =>
      (a.1.jobWrite f (a.1.ringAttr f x) (vqAddr d) (a.2.take (vqLen d)), a.2.drop (vqLen d))) (s, bytes)
    ((s1.1.virtioUse f q bytes.length).dropPkt p.id).bumpFn Obj.HST_RX_PACKETS f

/-- A packet goes into the buffers found for it (R338 to R340). -/
def State.fillBuffers (s : State) (f q : Nat) (x : Qp) (p : Pkt) (bufs : List (Bytes × Nat)) : State :=
  let s1 := s.refuseBufs f q bufs
  let used := bufs.filter fun b => b.2 != 0
  let outside := coreFid f && used.any fun b => !s.inApp (rxdAddr b.1) b.2
  match s1.qp? f q with
  | none => s1
  | some y =>
    let cons := (x.cons + bufs.length) % 2 ^ 32
    let s2 := s1.setQp f q { y with taken := cons, fail := false }
    if outside then (s2.complete f q cons (rxEntry p used.length 3)).dropPkt p.id
    else ((s2.writeBuffers f y p.bytes used).complete f q cons (rxEntry p used.length 0)).dropPkt p.id
      |>.bumpFn Obj.HST_RX_PACKETS f |>.bumpN Obj.RESCUE_RX_FRAMES (b2n (s.mode.mode == .vigil))

/-- A packet whose buffers are known: their translations, then the data (R299, R300). -/
def State.deliverTo (s : State) (f q : Nat) (x : Qp) (p : Pkt) (bufs : List (Bytes × Nat)) : State :=
  if coreFid f || !(s.fn f).ats then s.fillBuffers f q x p bufs
  else match s.rxXl f q (s.pasidOf f x) 0 bufs with
    | .ready => s.fillBuffers f q x p bufs
    | .asked s1 n => if x.fail then s.endBufs f q x n else s1
    | .denied addr n =>
      if x.fail then s.endBufs f q x n
      else if (s.fn f).asksPages then s.pageRequest f q addr n none
      else State.rxDrop { s with hs := { s.hs with xl := s.hs.xl.filter fun t => !(t.fid == f && t.page == addr / 4096) } } f p
        Obj.HST_DROP_XLATE

/-- Descriptors that a receive fetch reads: those whose contents came, of a core-side function all that are posted. -/
def Qp.rxCount (x : Qp) (core : Bool) (given : HostRead) : Nat :=
  if core then x.avail
  else match given with
    | .data b => Nat.min x.avail (b.length / x.sqEntrySize)
    | .failed _ => Nat.min 1 x.avail

/-- A packet in receive staging is delivered to its function (R339, R340). -/
def State.deliver (s : State) (f : Nat) (p : Pkt) (given : HostRead) : State :=
  match s.rxTest f p with
  | .inl ctr => s.rxDrop f p ctr
  | .inr (q, x) =>
    if (s.fn f).stalled || !s.mayWrite f then s
    else if x.kind == 8 then
      match s.fetch f q { x with fail := false } (s.ringAttr f x) (x.txSlots given) given with
      | .wait s1 => s1
      | .lost s1 => s1.rxDrop f p Obj.HST_DROP_NO_BUFFER
      | .got b s1 => if given.bytes == some [] then s1.rxDrop f p Obj.HST_DROP_NO_BUFFER else s1.deliverVio f q x p (entries 16 b)
    else
      let n := x.rxCount (coreFid f) given
      match s.fetch f q { x with fail := false } (s.ringAttr f x) (x.slots n) given with
      | .wait s1 => if x.page.isSome then s else s1
      | .lost s1 => s1.endBufs f q x 1
      | .got b s1 =>
        match takeBuffers 0 (entries x.sqEntrySize b) p.len with
        | none =>
          if n < Nat.min 16 x.avail then s
          else s1.rxDrop f p (if (s.fn f).reset == 2 then Obj.HST_DROP_FN_RESET else Obj.HST_DROP_NO_BUFFER)
        -- behind a page request of its pair a packet waits (R339, the last test but one)
        | some bufs => if x.page.isSome then s else s1.deliverTo f q x p bufs

/-- The oldest packet in receive staging for a function. -/
def State.stagedFor (s : State) (f : Nat) : Option Pkt := s.pkts.find? fun p => p.loc == .staged && p.dest == f

/-- RX_PACKET_DELIVERY: `given` is what the host's memory returned of the buffer descriptors, or of a virtqueue's chain. -/
def execRxPacketDelivery (dt f : Nat) (given : HostRead) (s : State) : Out :=
  work dt s (fun t => t.alive && (t.stagedFor f).isSome && t.mayAnswer f given) fun t =>
    match t.stagedFor f with
    | some p => t.deliver f p given
    | none => t

/-! ### Moderation and the core-side interrupt table (R342, R344) -/

/-- MODERATION_TIMER. -/
def execModerationTimer (dt f q : Nat) (s : State) : Out :=
  cmd dt s (fun t => t.alive && (match t.qp? f q with
      | some x => bit x.ctrl 28 && x.pend != 0 && fld x.ctrl 29 10 != 0 && x.pendAt + fld x.ctrl 29 10 * 1000 ≤ t.clock
      | none => false)) fun t =>
    match t.qp? f q with
    | some x => (t.setQp f q { x with pend := 0, pendAt := 0 }).hostWrite f (.int x.vec (t.pasidOf f x))
    | none => t

/-- A write of a core-side interrupt entry: a pending interrupt that it no longer holds is sent. -/
def State.writeCoreInt (s : State) (f e v : Nat) : State :=
  let x := s.fn f
  let s1 := s.setFn f { x with coreInt := assoc x.coreInt e (v % 2 ^ 15), pend := x.pend.filter fun p => p.1 != e }
  if x.pend.any fun p => p.1 == e then s1.deliverInt f e none else s1

/-- CORE_INT_ENTRY_WRITE. -/
def execCoreIntEntryWrite (dt f e v : Nat) (s : State) : Out :=
  pageCmd dt f s fun t => if coreFid f && e < t.fnCfg Obj.FN_VECTORS f then t.writeCoreInt f e v else t

/-! ### Function resets by command (R346, R347, R348) -/

/-- FN_SELF_RESET. -/
def execFnSelfReset (dt f v : Nat) (s : State) : Out :=
  pageCmd dt f s fun t => if coreFid f && v == 1 then t.squash f else t

/-- A drain reset is ordered (R347). -/
def State.drainReset (s : State) (f : Nat) : State :=
  let t := s.setResetState f 2
  t.setFn f { t.fn f with resetAt := t.clock }

/-- Descriptors of a draining function that have not been executed. -/
def State.undone (s : State) (f : Nat) : Nat :=
  sumBy (fun q => if q.2.kind == 2 || q.2.kind == 5 then 0 else (q.2.prod + 2 ^ 32 - q.2.cons) % 2 ^ 32) (s.qpsOf f)

/-- DRAIN_LIMIT: the drain goes on as a squash; each descriptor abandoned is counted. -/
def execDrainLimit (dt f : Nat) (s : State) : Out :=
  cmd dt s (fun t => t.alive && (t.fn f).reset == 2 && (t.fn f).resetAt + t.cfg Obj.FN_DRAIN_LIMIT_MS * 1000000 ≤ t.clock) fun t =>
    (t.bumpN (Obj.FN_DRAIN_SQUASHED + fnSub f) (t.undone f)).squash f

/-- FUNCTION_RESET_COMPLETE (R317, R347, R348): a drained function is squashed first; the reset ends with its last tag.
Core-side functions stay reset until application memory has been loaded anew (R39). -/
def execFunctionResetComplete (dt f : Nat) (s : State) : Out :=
  work dt s (fun t => t.alive && !(coreFid f && t.coreLost) && ((t.fn f).reset == 1 || (t.fn f).reset == 3 || ((t.fn f).reset == 2 && t.drained f))) fun t =>
    let t1 := if (t.fn f).reset == 2 then t.squash f else t
    if t1.tagsOut f then t1.setResetState f 3 else t1.initFn f

end Sys2Proof.Machine
end

