-- ==== Sys2Proof/Machine/Migration.lean ====
section
/-!
DEFINITION. Dirty-page logging, hold, save and restore (spec/11_functions_rings_migration.md R349 to R355).
-/

namespace Sys2Proof.Machine

/-- Target of a migration command of function c: a host function of the port that c controls, other than c (R352). -/
def State.migTarget (s : State) (c : Nat) : Option Nat :=
  let f := (s.fn c).migFid
  if fidUsed f && f < 16384 && !coreFid f && s.fnExists f && s.migCtl (fidPort f) == c && f != c then some f else none

/-- The function controls a port, so that its migration block exists. -/
def State.controls (s : State) (c : Nat) : Bool := s.migCtl 0 == c || s.migCtl 1 == c

/-- A migration command with an effect on its target: overlap, target and effect (R329, R352). -/
def State.migRun (s : State) (c : Nat) (effect : State → Nat → State) : State :=
  if !s.controls c then s.mmioDiscard c
  else if (s.fn c).migStatus % 256 == 5 then s.bumpFn Obj.FN_CMD_OVERLAP c
  else match s.migTarget c with
    | none => s.setMig c 3 0
    | some f => effect s f

/-- Filter entries of a target are removed (R350). -/
def State.clearFilter (s : State) (f : Nat) : State :=
  { s with hs := { s.hs with logFilter := s.hs.logFilter.filter fun e => e.2.1 != f } }

/-- START_LOG. -/
def State.startLog (s : State) (c f : Nat) : State :=
  if (s.logRing? f).isNone then s.setMig c 2 0
  else if (s.fn f).logOn then s.setMig c 1 0
  else if (s.qpsOf f).any fun q => bit q.2.ctrl 55 then s.setMig c 10 0
  else ((s.clearFilter f).setFn f { s.fn f with logOn := true, log2m := bit (s.fn c).migArg0 0 }).setMig c 0 0

/-- SYNC: records of earlier writes are published already; the filter forgets the target (R350). -/
def State.syncLog (s : State) (c f : Nat) : State :=
  if (s.fn f).logOn then (s.clearFilter f).setMig c 0 0 else s.setMig c 2 0

/-- STOP_LOG: logging ends; writes that waited for the ring go out. -/
def State.stopLog (s : State) (c f : Nat) : State :=
  (((s.clearFilter f).setFn f { s.fn f with logOn := false }).flushFn f).setMig c 0 0

/-- Works of a function whose reads have not begun go back to their rings (R353 step 2). -/
def State.unstartWorks (s : State) (f : Nat) : State :=
  let begun := fun w : Work => w.status != 0 || w.todo.length < w.pieces.length || !w.got.isEmpty
  let back := s.hs.works.filter fun w => w.fid == f && !begun w
  let s1 := { s with hs := { s.hs with works := s.hs.works.filter fun w => w.fid != f || begun w } }
  back.reverse.foldl (fun a w => match a.qp? f w.q with
    | some x => a.setQp f w.q { x with taken := w.first }
    | none => a) s1

/-- HOLD (R353): the target is fenced at once, its receive packets are dropped. -/
def State.hold (s : State) (c f : Nat) : State :=
  let s1 := s.discardRx (fun p => s.pktFn p == some f) (fun _ => Obj.HST_DROP_FN_HELD + fidPort f)
  let s2 := s1.unstartWorks f
  (s2.setFn f { s2.fn f with held := true, holding := some (c, s.clock) }).setMig c 5 0

/-- The held target has no request outstanding, no started work and no command held by core software (R353, R385). -/
def State.heldIdle (s : State) (f : Nat) : Bool :=
  !s.tagsOut f && !(s.hs.works.any fun w => w.fid == f) && !s.jobsRun f && s.stgIdle f

/-- HOLD_COMPLETE. -/
def execHoldComplete (dt f : Nat) (s : State) : Out :=
  work dt s (fun t => t.alive && (match (t.fn f).holding with
      | some (_, at_) => t.heldIdle f || at_ + t.cfg Obj.MIG_HOLD_LIMIT_MS * 1000000 ≤ t.clock
      | none => false)) fun t =>
    match (t.fn f).holding with
    | some (c, _) => (t.setFn f { t.fn f with holding := none }).setMig c (if t.heldIdle f then 0 else 1) 0
    | none => t

/-! ### State images (R354, R355) -/

/-- The entries of a map keyed by function and queue that are a function's, by queue. -/
def ownOf {α : Type} (f : Nat) (l : List (Nat × α)) : List (Nat × α) :=
  (l.filter fun q => q.1 / 65536 == f).map fun q => (q.1 % 65536, q.2)

/-- What is saved of a function. -/
def State.migBody (s : State) (f : Nat) : MigBody :=
  let x := s.fn f
  { qps := s.qpsOf f, msix := x.msix, pba := x.pba, pend := x.pend, steer := x.steer, page := x.page, isr := x.isr,
    nvme := lookup? s.stg.nvme f, sq := ownOf f s.stg.sq, cq := ownOf f s.stg.cq }

/-- MB_QP_SPAN of a body. -/
def MigBody.span (b : MigBody) : Nat := b.qps.foldl (fun a q => Nat.max a (q.1 + 1)) 0

/-- MB_STAGED of a body. -/
def MigBody.stagedCount (b : MigBody) : Nat := sumBy (fun q => q.2.staged.length) b.qps

/-- MB_LEN. -/
def imageLen (span vectors staged : Nat) : Nat := 4096 + 128 * span + 16 * vectors + 65536 + 16 * staged

/-- The header of Table 11-16 with a CRC field. -/
def imageHeader (persona vectors crc : Nat) (b : MigBody) : Bytes :=
  toLe 8 (1 + persona * 2 ^ 16 + imageLen b.span vectors b.stagedCount * 2 ^ 32)
    ++ toLe 8 (b.span + vectors * 2 ^ 17) ++ toLe 8 (b.stagedCount + crc * 2 ^ 32) ++ List.replicate 40 0

/-- The bytes of an image after its header: their layout is the device's own (Config.stateImage). -/
def imageRest (len : Nat) (b : MigBody) : Bytes := padTo (len - 64) (Config.stateImage b)

/-- SAVE. -/
def State.save (s : State) (c f : Nat) : State :=
  let b := s.migBody f
  let v := s.fnCfg Obj.FN_VECTORS f
  let len := imageLen b.span v b.stagedCount
  if !(s.fn f).held then s.setMig c 1 0
  else if (s.fn c).migArg1 < len then s.setMig c 2 len
  else
    let rest := imageRest len b
    let crc := crc32c 0 (imageHeader (s.persona f) v 0 b ++ rest)
    let a : Attr := { ro := false, ido := false, pasid := none, tph := none }
    if coreFid c && !s.inApp (s.fn c).migArg0 len then s.setMig c 3 0
    else (s.jobWrite c a (s.fn c).migArg0 (imageHeader (s.persona f) v crc b ++ rest)).setMig c 0 0

/-- A restore image passes its checks (R355), and no reserved bit of its header is set (R11, Table 11-16). -/
def State.imageOk (s : State) (f : Nat) (hdr : Bytes) (b : MigBody) : Bool :=
  let w0 := leWord hdr 0
  let w1 := leWord hdr 1
  let w2 := leWord hdr 2
  let zeroed := splice hdr 20 [0, 0, 0, 0]
  fld w0 18 14 == 0 && fld w1 29 35 == 0 && (slice hdr 24 40).all (· == 0)
    && fld w0 0 16 == 1 && fld w2 32 32 == crc32c 0 (zeroed ++ imageRest (fld w0 32 32) b)
    && fld w0 16 2 == s.persona f && fld w1 0 17 ≤ s.qpCount f && fld w1 17 12 ≤ s.fnCfg Obj.FN_VECTORS f

/-- The storage state of an image becomes a target's (R354, R355). -/
def State.restoreStg (s : State) (f : Nat) (b : MigBody) : State :=
  let s1 := b.sq.foldl (fun a q => a.setSq (qpKey f q.1) q.2) s
  let s2 := b.cq.foldl (fun a q => a.setCq (qpKey f q.1) q.2) s1
  match b.nvme with
  | some x => s2.setNvme f x
  | none => s2

/-- RESTORE of an image that has been read: the saved pairs are recreated at their local indexes. -/
def State.restoreImage (s : State) (c f : Nat) (hdr : Bytes) (b : MigBody) : State :=
  if !s.imageOk f hdr b then s.setMig c 2 0
  else
    let s1 := (b.qps.foldl (fun a q => a.setQp f q.1 q.2) s).restoreStg f b
    (s1.setFn f { s1.fn f with msix := b.msix, pba := b.pba, pend := b.pend, steer := b.steer, page := b.page, isr := b.isr }).setMig c 0 0

/-- RESTORE: the image is read from the controlling function's memory (R352, R355); a read that fails ends it with ACCESS. -/
def State.restore (s : State) (c f : Nat) (hdr : Bytes) (b : MigBody) (fail : Option ReadFail) : State :=
  let len := fld (leWord hdr 0) 32 32
  if !(s.fn f).held || !(s.qpsOf f).isEmpty then s.setMig c 1 0
  else if coreFid c then (if s.inApp (s.fn c).migArg0 len then s.restoreImage c f hdr b else s.setMig c 3 0)
  else
    let s1 := s.fetchTlp c { ro := false, ido := false, pasid := none, tph := none } (s.fn c).migArg0 len
    match fail with
    | some w => (s1.readFails c w).setMig c 3 0
    | none => s1.restoreImage c f hdr b

/-- RELEASE (R355): the target goes on from its own or its restored state. -/
def State.releaseFn (s : State) (c f : Nat) : State :=
  let s1 := s.setFn f { s.fn f with held := false, holding := none }
  let s2 := (s1.qpsOf f).foldl (fun a q => a.unstage f q.1) s1
  let s3 := s2.resumeFn f
  (s3.setMig c 0 0).pump (s3.linkOf f)

/-- MIG_CMD is written with a code (Table 11-15). RESTORE, which needs what its buffer holds, is its own command. -/
def State.migCode (s : State) (c code : Nat) : State :=
  if code == 6 then s
  else s.migRun c fun t f => match code with
    | 1 => t.startLog c f
    | 2 => t.syncLog c f
    | 3 => t.stopLog c f
    | 4 => t.hold c f
    | 5 => t.save c f
    | 7 => t.releaseFn c f
    | _ => t.setMig c 2 0

/-- A migration command reaches its block. -/
def migCmd (dt c : Nat) (s : State) (effect : State → Nat → State) : Out :=
  pageCmd dt c s fun t => t.migRun c effect

def execStartLog (dt c : Nat) (s : State) : Out := migCmd dt c s fun t f => t.startLog c f
def execSync (dt c : Nat) (s : State) : Out := migCmd dt c s fun t f => t.syncLog c f
def execStopLog (dt c : Nat) (s : State) : Out := migCmd dt c s fun t f => t.stopLog c f
def execHold (dt c : Nat) (s : State) : Out := migCmd dt c s fun t f => t.hold c f
def execSave (dt c : Nat) (s : State) : Out := migCmd dt c s fun t f => t.save c f
/-- RESTORE: `hdr` and `b` are what the buffer holds, `fail` how its reading fails. -/
def execRestore (dt c : Nat) (hdr : Bytes) (b : MigBody) (fail : Option ReadFail) (s : State) : Out :=
  migCmd dt c s fun t f => t.restore c f hdr b fail
def execRelease (dt c : Nat) (s : State) : Out := migCmd dt c s fun t f => t.releaseFn c f

def execQpcCreate (dt f : Nat) (s : State) : Out := pageCmd dt f s fun t => t.qpcRun f 1
def execQpcModify (dt f : Nat) (s : State) : Out := pageCmd dt f s fun t => t.qpcRun f 2
def execQpcQuery (dt f : Nat) (s : State) : Out := pageCmd dt f s fun t => t.qpcRun f 3

end Sys2Proof.Machine
end

