-- ==== Sys2Proof/Machine/Jobs.lean ====
section
/-!
DEFINITION. Rings whose descriptors are jobs done one by one: table operations, pattern scans, lookaside operations and the
storage service (spec/11 R332 to R334, spec/10 R299 and R300).
-/

namespace Sys2Proof.Machine

/-- A pair of a kind that may take up its next descriptor. -/
def State.jobReady (s : State) (f q kind : Nat) : Bool :=
  s.mayRead f && s.tagReady f && (match s.qp? f q with
    | some x => x.kind == kind && x.avail != 0 && !x.stop && x.staged.length < 32 && x.page.isNone
    | none => false)

/-- The descriptor in front of a pair, by which its command is told: from application memory, or as the host's memory returned
it. -/
def State.jobDesc (s : State) (f : Nat) (x : Qp) (given : HostRead) : Option Bytes :=
  if coreFid f then (x.slots 1).head?.bind fun a => s.appRead a.1 a.2.1 else given.bytes.map (padTo x.sqEntrySize)

/-- The descriptor in front of a pair is fetched (R296, R332). -/
def State.jobFetch (s : State) (f q : Nat) (x : Qp) (given : HostRead) : Fetched :=
  s.fetch f q x (s.ringAttr f x) (x.slots 1) given

/-- The descriptor in front is taken up. -/
def State.jobTaken (s : State) (f q : Nat) : State :=
  match s.qp? f q with
  | none => s
  | some x => s.setQp f q { x with taken := (x.taken + 1) % 2 ^ 32, fail := false }

/-- A descriptor that was taken up is done: consumed, and its entry published (R334). -/
def State.jobOver (s : State) (f q : Nat) (entry : Bytes) : State :=
  match s.qp? f q with
  | none => s
  | some x => s.complete f q (x.cons + 1) entry

/-- The descriptor in front is taken up and done. -/
def State.jobDone (s : State) (f q : Nat) (entry : Bytes) : State := (s.jobTaken f q).jobOver f q entry

/-- A pair whose translation failed may ask again. -/
def State.clearFail (s : State) (f q : Nat) : State :=
  match s.qp? f q with
  | some x => s.setQp f q { x with fail := false }
  | none => s

/-- Bytes from an address on that a function may write, of n: up to the end of application memory, or up to the first page whose
translation refuses it (R299, R332). -/
def State.writable (s : State) (f : Nat) (pasid : Option Nat) (addr n : Nat) : Nat :=
  if coreFid f then (if appBase ≤ addr then Nat.min n (appBase + s.appSize - addr) else 0)
  else if !(s.fn f).ats then n
  else sumBy (fun p => p.2) ((splitAccess 4096 addr n).takeWhile fun p => (s.xlMiss f pasid [(p.1, p.2, true)]).isNone)

/-! ### Deficit-weighted round robin among numbered sources -/

/-- Turns as in R219: deficits are topped up by the source's quantum until one is above 0. -/
def dwrr (quantum : Nat → Nat) : Nat → List Nat → List (Nat × Int) → Option Nat × List (Nat × Int)
  | 0, l, d => (l.head?, d)
  | _, [], d => (none, d)
  | n + 1, c :: t, d =>
    if lookupD d c 0 ≤ 0 then dwrr quantum n (t ++ [c]) (assoc d c (lookupD d c 0 + (quantum c : Int))) else (some c, d)

/-- The source served next, from the pointer on, with the deficits after the turns. -/
def dwrrPick (quantum : Nat → Nat) (at_ : Nat) (sources : List Nat) (d : List (Nat × Int)) : Option Nat × List (Nat × Int) :=
  let turns := sources.foldl (fun m c => Nat.max m ((-(lookupD d c 0)).toNat / Nat.max 1 (quantum c))) 0
  dwrr quantum ((turns + 2) * sources.length) (fromPointer at_ (sortAsc sources)) d

end Sys2Proof.Machine
end

