-- ==== Sys2Proof/Machine/Pattern.lean ====
section
/-!
DEFINITION. The pattern engine (spec/06 R187 to R197): matching by derivatives of regular expressions, the lanes and their
arbitration, scans of diverted packets and lookaside scans.
-/

namespace Sys2Proof.Machine

/-! ### Regular expressions (R188, R189) -/

/-- The empty string belongs to the language. -/
def reNull : Re → Bool
  | .none => false
  | .eps => true
  | .cls _ => false
  | .cat a b => reNull a && reNull b
  | .alt a b => reNull a || reNull b
  | .star _ => true

/-- A byte lies in one of the ranges. -/
def inRanges (rs : List (Nat × Nat)) (c : Nat) : Bool := rs.any fun r => r.1 ≤ c && c ≤ r.2

/-- The other case of a letter. -/
def otherCase (c : Nat) : Nat := if 65 ≤ c && c ≤ 90 then c + 32 else if 97 ≤ c && c ≤ 122 then c - 32 else c

/-- Concatenation with the units simplified away. -/
def reCat (a b : Re) : Re :=
  match a, b with
  | .none, _ => .none
  | _, .none => .none
  | .eps, y => y
  | x, y => .cat x y

/-- The alternatives of an expression that leans to the right contain x. -/
def reHas (x : Re) : Re → Bool
  | .alt a b => a == x || reHas x b
  | y => y == x

/-- Alternation without an empty or repeated alternative. -/
def reAlt (a b : Re) : Re :=
  match a with
  | .none => b
  | .alt x y => if reHas x b then reAlt y b else match reAlt y b with
    | .none => x
    | z => if reHas x z then z else .alt x z
  | x => if b == .none then x else if reHas x b then b else .alt x b

/-- What may follow once a byte has been read; `ic`: letters of either case match (R188). -/
def reDeriv (ic : Bool) (c : Nat) : Re → Re
  | .none => .none
  | .eps => .none
  | .cls rs => if inRanges rs c || (ic && inRanges rs (otherCase c)) then .eps else .none
  | .cat a b =>
    let l := reCat (reDeriv ic c a) b
    if reNull a then reAlt l (reDeriv ic c b) else l
  | .alt a b => reAlt (reDeriv ic c a) (reDeriv ic c b)
  | .star a => reCat (reDeriv ic c a) (.star a)

/-- End offsets of a pattern in bytes that begin at offset i; `r` stands for the runs that have begun. -/
def reEnds (p : Pattern) (i : Nat) (r : Re) : Bytes → List Nat
  | [] => []
  | b :: t =>
    let start := if i == 0 || !p.anchored then p.re else .none
    let r1 := reDeriv p.icase b.toNat (reAlt r start)
    let rest := reEnds p (i + 1) r1 t
    if reNull r1 then (i + 1) :: rest else rest

/-- A match: end offset and pattern ID; ordered by end offset, then by ID (R189). -/
def insMatch (m : Nat × Nat) : List (Nat × Nat) → List (Nat × Nat)
  | [] => [m]
  | x :: t => if m.1 < x.1 || (m.1 == x.1 && m.2 < x.2) then m :: x :: t else if m == x then x :: t else x :: insMatch m t

/-- Every match of a set in the scanned bytes, in order (R189). -/
def scan (ps : PatSet) (bs : Bytes) : List (Nat × Nat) :=
  ps.patterns.foldl (fun acc p => (reEnds p 0 .none bs).foldl (fun a e => insMatch (e, p.id) a) acc) []

/-! ### Lanes (R190, R191) -/

/-- Time of a scan of n bytes in ns (R190), rounded up. -/
def scanTime (n : Nat) : Nat := Nat.max 16 ((32 * n + 99) / 100)

/-- Lanes that scan now. -/
def State.lanesBusy (s : State) : List Nat :=
  (s.pkts.filterMap fun p => match p.loc with | .lane n _ => some n | _ => none)
    ++ (s.hs.scans.filter fun x => s.clock < x.ends).map fun x => x.lane

/-- Lanes that the throttle level leaves (Table 14-8). -/
def State.laneLimit (s : State) : Nat :=
  let l := s.cfg Obj.THERM_LEVEL
  if 3 ≤ l then 8 else if l == 2 then 16 else 32

/-- The lowest free lane. -/
def State.freeLane (s : State) : Option Nat :=
  if s.laneLimit ≤ s.lanesBusy.length then none else findFrom (fun n => !s.lanesBusy.contains n) 0 32

/-- The packet at the head of a region's divert queue. -/
def State.divertHead (s : State) (region : Nat) : Option Pkt := s.pkts.find? fun p => p.loc == .divert && p.region == region

/-- Pattern-scan rings with a descriptor to take up, as pair keys in ascending order. -/
def State.scanRings (s : State) : List Nat :=
  (s.hs.qp.filter fun q => s.jobReady (q.1 / 65536) (q.1 % 65536) 4).map fun q => q.1

/-- Sources with work: 0 and 1 the divert queues, 2 the lookaside rings (R191). -/
def State.scanSources (s : State) : List Nat :=
  [0, 1, 2].filter fun c => if c == 2 then !s.scanRings.isEmpty else (s.divertHead c).isSome

/-- Bytes that one unit of weight adds in a turn; the manual gives no quantum (log entry 15). -/
def patQuantum (s : State) (c : Nat) : Nat := s.cfg (Obj.PAT_WEIGHT + c) * 16384

/-- The source that the engine serves next, and the state after the turns it took. -/
def State.scanPick (s : State) : Option Nat × State :=
  let r := dwrrPick (patQuantum s) s.tm.patAt s.scanSources s.tm.patDef
  (r.1, { s with tm := { s.tm with patDef := r.2, patAt := r.1.getD s.tm.patAt } })

/-- A source is charged for a scan of n bytes. -/
def State.chargeScan (s : State) (c n : Nat) : State :=
  { s with tm := { s.tm with patDef := assoc s.tm.patDef c (lookupD s.tm.patDef c 0 - (n : Int)) } }

/-- The scan counters of a source. -/
def State.countScan (s : State) (c bytes found : Nat) : State :=
  ((s.bump (Obj.PAT_SCANS + c)).bumpN (Obj.PAT_BYTES + c) bytes).bumpN (Obj.PAT_MATCHES + c) found

/-! ### Scans of diverted packets (R193, R194) -/

/-- Bytes of a diverted packet that are scanned. -/
def Pkt.scanned (p : Pkt) : Bytes :=
  let rest := p.bytes.drop p.scanFrom
  if mdDivertLen p.md == 0 then rest else rest.take (mdDivertLen p.md)

/-- DIVERT_SCAN_START of a region: its turn has come and a lane is free. -/
def execDivertScanStart (dt region : Nat) (s : State) : Out :=
  cmd dt s (fun t => t.traffic && decide (region < 2) && t.scanPick.1 == some region && t.freeLane.isSome
      && (t.divertHead region).isSome) fun t =>
    match t.divertHead region, t.freeLane with
    | some p, some n =>
      let len := p.scanned.length
      ((t.scanPick.2).chargeScan region len).setPkt { p with loc := .lane n (t.clock + scanTime len) }
    | _, _ => t

/-- Matches in a diverted packet, under the set version of its stamp (R193). -/
def State.scanPkt (s : State) (p : Pkt) : List (Nat × Nat) :=
  match lookup? (s.pktVer p).pats (mdDivertSet p.md) with
  | some ps => scan ps p.scanned
  | none => []

/-- Word 7 after a scan (R194). -/
def scanWord (set : Nat) (ms : List (Nat × Nat)) : Nat :=
  let first := ms.head?.getD (0, 0)
  set + 2 ^ 4 + Nat.min ms.length 65535 * 2 ^ 5 + first.2 * 2 ^ 21 + first.1 * 2 ^ 37

/-- DIVERT_SCAN_END of packet id. -/
def execDivertScanEnd (dt id : Nat) (s : State) : Out :=
  cmd dt s (fun t => t.traffic && (match t.pkt? id with
      | some p => (match p.loc with | .lane _ e => decide (e ≤ t.clock) | _ => false)
      | none => false)) fun t =>
    match t.pkt? id with
    | none => t
    | some p =>
      let ms := t.scanPkt p
      let q := { p with md := mdSet p.md 448 64 (scanWord (mdDivertSet p.md) ms) }
      (t.countScan p.region p.scanned.length ms.length).toRecirc q

/-! ### Lookaside scans (R195 to R197) -/

def psdAddr (d : Bytes) : Nat := leWord d 0
def psdLen (d : Bytes) : Nat := fld (leWord d 1) 0 14
def psdSet (d : Bytes) : Nat := fld (leWord d 1) 14 4
def psdMax (d : Bytes) : Nat := fld (leWord d 1) 20 12 + 1
def psdReport (d : Bytes) : Nat := leWord d 2
def psdCookie (d : Bytes) : Nat := leWord d 3

/-- The set of a descriptor in EPOCH_CURRENT; none where the descriptor is refused (R197, Table 06-4). -/
def State.psdOk (s : State) (d : Bytes) : Option PatSet :=
  if fld (leWord d 1) 18 2 != 0 || fld (leWord d 1) 32 32 != 0 || psdLen d == 0 || psdReport d % 8 != 0 then none
  else lookup? s.curVer.pats (psdSet d)

/-- Completion entry (Table 06-5). -/
def pscEntry (d : Bytes) (status : Nat) (trunc : Bool) (count written : Nat) : Bytes :=
  toLe 8 (psdCookie d) ++ toLe 8 (status + b2n trunc * 2 ^ 8 + Nat.min count 65535 * 2 ^ 16 + written * 2 ^ 32)

/-- Match report (Table 06-6). -/
def reportBytes (set : Nat) (ms : List (Nat × Nat)) : Bytes := ms.flatMap fun m => toLe 8 (m.2 + m.1 * 2 ^ 16 + set * 2 ^ 32)

/-- A descriptor in front of a ring is taken up: its scan holds a lane until its end (R190). One that fails ends at once, behind
the scans of its ring that are still running (R196, R197). -/
def State.scanStart (s : State) (f q : Nat) (d : Bytes) (lane len : Nat) (found : Option (List (Nat × Nat))) : State :=
  let time := if found.isSome then scanTime len else 0
  let x : LookScan := { fid := f, q := q, desc := d, lane := lane, ends := s.clock + time, len := len, found := found }
  { s with hs := { s.hs with scans := s.hs.scans ++ [x] } }.jobTaken f q

/-- The descriptor in front of a ring is taken up, its data fetched and scanned with the set of EPOCH_CURRENT (R195). `data`: what
the host's memory returned. -/
def State.scanTake (s : State) (f q : Nat) (x : Qp) (d : Bytes) (lane : Nat) (data : HostRead) : State :=
  match s.psdOk d with
  | none => s.scanStart f q d lane 0 none
  | some ps =>
    match s.fetch f q x (s.ringAttr f x) [(psdAddr d, psdLen d, false)] data with
    | .wait s1 => s1
    | .lost s1 => s1.scanStart f q d lane 0 none
    | .got bs s1 => (s1.chargeScan 2 bs.length).scanStart f q d lane bs.length (some (scan ps bs))

/-- The oldest scan of a ring, where it has ended: scans complete in ring order (R196). -/
def State.scanEnded (s : State) (f q : Nat) : Option LookScan :=
  (s.hs.scans.find? fun x => x.fid == f && x.q == q).filter fun x => x.ends ≤ s.clock

/-- The oldest scan of a ring leaves the engine with its entry. -/
def State.scanOver (s : State) (x : LookScan) (entry : Bytes) : State :=
  { s with hs := { s.hs with scans := s.hs.scans.erase x } }.jobOver x.fid x.q entry

/-- A scan completes with RANGE (R197). -/
def State.scanBad (s : State) (x : LookScan) : State := (s.bump Obj.PAT_REQ_BAD).scanOver x (pscEntry x.desc 2 false 0 0)

/-- The report of an ended scan is written, then its completion (R196); where the write fails, the entries before the failure
stay in the buffer (R197). -/
def State.scanFinish (s : State) (x : LookScan) (y : Qp) : State :=
  match x.found with
  | none => s.scanBad x
  | some ms =>
    let written := ms.take (psdMax x.desc)
    let report := reportBytes (psdSet x.desc) written
    let trunc := decide (written.length < ms.length)
    let out := fun (st : State) (bs : Bytes) => st.jobWrite x.fid (st.entryAttr x.fid y) (psdReport x.desc) bs
    let open_ := s.writable x.fid (s.pasidOf x.fid y) (psdReport x.desc) report.length
    match s.jobAccess x.fid x.q { y with fail := y.fail && decide (open_ < report.length) } [(psdReport x.desc, report.length, true)] with
    | .wait s1 => s1
    | .fail =>
      let t := { y with fail := false }
      ((out (s.countScan 2 x.len ms.length) (report.take (open_ / 8 * 8))).setQp x.fid x.q t).scanBad x
    | .go =>
      let s1 := s.countScan 2 x.len ms.length
      let s2 := if trunc then s1.bump Obj.PAT_REPORT_TRUNC else s1
      (out s2 report).scanOver x (pscEntry x.desc 0 trunc ms.length written.length)

/-- The ring whose turn it is among the lookaside rings (R191). -/
def State.ringInTurn (s : State) : Option Nat :=
  match s.scanRings.find? fun k => s.tm.patRing < k with
  | some k => some k
  | none => s.scanRings.head?

/-- The engine takes up the next descriptor of ring q of function f. -/
def State.scanTurn (s : State) (f q : Nat) : Bool := s.scanPick.1 == some 2 && s.ringInTurn == some (qpKey f q) && s.freeLane.isSome

/-- PATTERN_SCAN of ring q of function f: the oldest scan of the ring completes where it has ended, else the engine takes up the
ring's next descriptor where its turn has come; `given` and `data` are the descriptor and the bytes that the host's memory
returned. -/
def execPatternScan (dt f q : Nat) (given data : HostRead) (s : State) : Out :=
  work dt s (fun t => t.traffic && t.mayAnswer f given && t.mayAnswer f data
      && ((t.scanEnded f q).isSome || t.scanTurn f q)) fun t =>
    match t.scanEnded f q, t.qp? f q, t.freeLane with
    | some e, some x, _ => t.scanFinish e x
    | none, some x, some lane =>
      let t1 := t.scanPick.2
      let t2 := { t1 with tm := { t1.tm with patRing := qpKey f q } }
      (match t2.jobFetch f q x given with
       | .wait t3 => t3
       | .lost t3 =>
         if t2.hs.scans.any (fun y => y.fid == f && y.q == q) then t else t3.jobDone f q (pscEntry [] 3 false 0 0)
       | .got d t3 => t3.scanTake f q x d lane data)
    | _, _, _ => t

end Sys2Proof.Machine
end

