-- ==== Sys2Proof/Machine/Faults.lean ====
section
/-!
DEFINITION. Fault containment (spec/16 R465 to R479 and R484, spec/01 R26 to R33 and R39, R40): cell errors, block resets,
blocks held out, the fence and the return of a packet region, fatal errors, the control pairs.
-/

namespace Sys2Proof.Machine

/-! ### What a fence takes with it (R30, R39, R198, R227, R469) -/

/-- A packet lies in region r: in the pipelines, cipher engines, buffers and queues of it. -/
def Pkt.inRegion (p : Pkt) (r : Nat) : Bool :=
  match p.loc with
  | .rxFifo | .txReady | .staged | .cutting => false
  | .front | .spill | .carve | .crossed => p.eqid / 65536 == r
  | _ => p.region == r

/-- Packets of a region are lost; diverted ones are counted (R198). -/
def State.losePackets (s : State) (r : Nat) : State :=
  let gone := s.pkts.filter fun p => p.inRegion r
  let diverted := gone.filter fun p => match p.loc with | .divert => true | .lane _ _ => true | _ => false
  ({ s with pkts := s.pkts.filter fun p => !p.inRegion r }).bumpN (Obj.PAT_DIVERT_LOST + r) diverted.length

/-- Packets of the survivor that are bound for a queue of the region that is fenced now are bound for that queue's target (R26, R227). -/
def State.failover (s : State) : State :=
  { s with pkts := s.pkts.map fun p =>
      if p.loc == .atTm || p.loc == .bridge then
        let q := s.effQueue (s.pktVer p) p.eqid
        -- one that waited for the bridge has its queue here now
        { p with eqid := q, loc := if q / 65536 == p.region then .atTm else p.loc }
      else p }

/-- Scheduler, census and counter state of a region. -/
def Tm.clear (t : Tm) (r : Nat) : Tm :=
  { t with
    deficit := t.deficit.filter fun x => x.1 / 2 ^ 18 != r
    pointer := t.pointer.filter fun x => x.1 / 2 ^ 21 != r
    wait := t.wait.filter fun x => x.1 / 65536 != r
    promo := t.promo.filter fun x => x.1 / 65536 != r
    bucket := t.bucket.filter fun x => x.1 / 2 ^ 17 != r
    drainOld := t.drainOld.filter fun x => x.2 != r
    cens := t.cens.filter fun x => x.1 / 65536 != r
    sweep := t.sweep.filter fun x => x.1 != r
    count := t.count.filter fun x => x.1 / 2 ^ 26 != r
    countLate := t.countLate.filter fun x => x.2.1 / 2 ^ 26 != r
    smpPool := t.smpPool.filter fun x => x.1 / 256 != r }

/-- Every core-side function that has been used. -/
def State.coreFns (s : State) : List Nat := (s.hs.fn.map fun x => x.1).filter coreFid

/-- Every core is reset and held (R38, R39). -/
def State.holdCores (s : State) : State :=
  ({ s with core := { s.core with harts := s.core.harts.map fun _ => .held, imsic := [], mtimecmp := [] } }).latch Obj.CORE_RUN 0

/-- Application memory is lost: the cores are held and core-side functions reset until a reload (R39). -/
def State.loseAppMem (s : State) : State :=
  let s1 := s.coreFns.foldl State.squash s
  let s2 : State := { s1 with core := { s1.core with mem := [], memUp := false, reload := true }, flt := { s1.flt with poison := [] } }
  s2.holdCores

/-- An activation ends, with `IMG_ACTIVATE_STATE` and `IMG_ACTIVATE_STATUS`. -/
def State.endActivation (s : State) (state status : Nat) : State :=
  (({ s with img := { s.img with act := none } }).latch Obj.IMG_ACTIVATE_STATE state).latch Obj.IMG_ACTIVATE_STATUS status

/-- An activation ends in a state for which the manual gives no status: some code of Table 00-3, a free value (R15, log
entry 32). -/
def State.endFree (s : State) (state : Nat) : State :=
  let r := s.fresh 8
  r.2.endActivation state (r.1 % 11)

/-- An activation in handover form that has not reached its start instant ends (R463). -/
def State.cancelHandover (s : State) : State :=
  match s.img.act with
  | some a => if a.form ≤ 2 && !a.started then s.endFree 6 else s
  | none => s

/-- Fences of region r within the latest 24 h. -/
def State.fencesOf (s : State) (r : Nat) : List (Nat × Nat) :=
  s.flt.fences.filter fun f => f.1 == r && s.clock < f.2 + 86400000000000

/-- When the test of a region that is fenced now starts: state 5 for its third fence within 24 h, else 1 (R471). -/
def State.planRetest (s : State) (r : Nat) : State :=
  let third := 2 ≤ (s.fencesOf r).length
  let rested := s.mode.mode == .drain || s.mode.mode == .dormant
  let from_ := if third || rested || s.cfg Obj.FLT_REGION_RETEST != 1 then none else some s.clock
  let s1 : State := { s with flt := { s.flt with fences := s.fencesOf r ++ (s.flt.fences.filter fun f => f.1 != r) ++ [(r, s.clock)],
                                                 retestFrom := from_ } }
  s1.latch Obj.FLT_REGION_TEST_STATE (if third then 5 else 1)

/-- The declaration of an entry's table in a version that is held. -/
def State.declOf (s : State) (e : TEntry) : Option TInfo :=
  s.heldVers.findSome? fun v => if lookup? v.inc e.table == some e.inc then v.pipe.bind fun i => tinfo? i e.table else none

/-- The shadow of a MIRRORED ternary entry is device state and survives a fence; a LOCAL copy is lost (R198). -/
def State.shadowKept (s : State) (e : TEntry) : Bool := (s.declOf e).any fun t => t.kind == 4 && !t.local_

/-- Region r is isolated, and its contents are gone but for the ternary shadows (R198, R469, Table 16-3). -/
def State.isolate (s : State) (r : Nat) : State :=
  let s1 := ({ s with mode := { s.mode with fenced := some r } }).latch Obj.MODE_FENCED (r + 1)
  let s2 := (s1.bumpStored Obj.FLT_REGION_FENCES).losePackets r
  let lrn := { s2.lrn with
    filter := s2.lrn.filter.filter fun f => f.1 != r
    bridge := s2.lrn.bridge.filter fun b => b.1 != r }
  let s3 : State := { s2 with
    tm := s2.tm.clear r
    lrn := lrn
    tbl := s2.tbl.filter fun e => e.region != r || s2.shadowKept e
    tern := s2.tern.without r }
  let s4 := s3.failover.saFence r
  if s4.core.interleaved && s4.core.memUp then s4.loseAppMem else s4

/-- A region is fenced (R469): record, isolation, mode, retest, event. -/
def State.fenceRegion (s : State) (r : Nat) (e : ErrInfo) : State :=
  let s1 := (s.logErr { e with level := 2, action := 6, region := 2 + r }).isolate r
  let s2 := (if s1.mode.mode == .service then (s1.stir.setMode .degraded 3).cancelHandover else s1).planRetest r
  (s2.raise 0x0011 1 0 (toBe 1 (r + 1))).aplic 3

/-- A region fault: fence, or, where the other region is fenced already, a fatal chip error. A fault in the fenced region
itself is logged only. -/
def State.regionFault (s : State) (r : Nat) (e : ErrInfo) : State :=
  match s.mode.fenced with
  | none => s.fenceRegion r e
  | some f =>
    if f == r && !e.injected then s.logErr { e with level := 2, action := 8, region := 2 + r }
    else s.fatal { e with escalated := true, region := 2 + r }

/-! ### HBM stacks (R31, R470) -/

/-- A stack is declared faulty: its region is fenced. -/
def State.stackFault (s : State) (k : Nat) (e : ErrInfo) : State :=
  if s.flt.stackBad.contains k then s
  else
    let s1 : State := { s with flt := { s.flt with stackBad := s.flt.stackBad ++ [k] } }
    s1.regionFault k { e with cls := 0x0C, block := 0x17, inst := k }

/-- An uncorrectable read of a bank; the third in different banks of a stack within 1 ms makes the stack faulty. -/
def State.badRead (s : State) (k bank : Nat) (e : ErrInfo) : State :=
  let recent := (s.flt.hbmReads.filter fun x => s.clock < x.2.2 + 1000000) ++ [(k, bank, s.clock)]
  let s1 : State := { s with flt := { s.flt with hbmReads := recent } }
  let banks := ((recent.filter fun x => x.1 == k).map fun x => x.2.1).eraseDups
  if 3 ≤ banks.length then s1.stackFault k e else s1

/-! ### Blocks (R465 to R467) -/

/-- What a place's region code names: a packet region, or none for the rest of the chip. -/
def placeRegion (code : Nat) : Option Nat := if code == 2 then some 0 else if code == 3 then some 1 else none

/-- Blocks that serve one port, link or hart (R467). -/
def holdable (region block : Nat) : Bool :=
  (region == 1 && (block == 1 || block == 2 || block == 3)) || (region == 5 && (block == 0x30 || block == 0x31))

/-- Network port that lane l belongs to. -/
def State.lanePort (s : State) (l : Nat) : Option Nat := (List.range 16).find? fun n => s.netPresent n && (s.netLanes n).contains l

def State.holdHart (s : State) (h : Nat) (st : Hart) : State := { s with core := { s.core with harts := s.core.harts.set h st } }

/-- What holding a block out does (R467, R211, R265). -/
def State.holdEffect (s : State) (block inst : Nat) : State :=
  match block with
  | 1 => if inst < 16 then (match s.lanePort inst with | some n => s.netFall n 2 | none => s) else State.linkDown s (inst - 16)
  | 2 => s.netFall inst 2
  | 3 => State.linkDown s inst
  | _ => s.holdHart inst .held

/-- A block is held out; for the third time within 1 h, until the next chip reset. -/
def State.holdOut (s : State) (e : ErrInfo) : State :=
  let recent := s.flt.holds.filter fun h => s.clock < h.2 + 3600000000000
  let third := 2 ≤ (recent.filter fun h => h.1 == e.place).length
  let s1 : State := { s with flt := { s.flt with
    holds := recent ++ [(e.place, s.clock)]
    held := (s.flt.held.filter fun h => h.1 != e.place) ++ [(e.place, if third then none else some s.clock)] } }
  (((s1.bump Obj.FLT_BLOCK_HOLDS).logErr { e with level := 1, escalated := true, action := 5 })).holdEffect e.block e.inst

/-- Beyond block level (R465, R467). -/
def State.escalate (s : State) (e : ErrInfo) : State :=
  match placeRegion e.region with
  | some r => s.regionFault r { e with escalated := true }
  | none => if holdable e.region e.block then s.holdOut e else s.fatal { e with escalated := true }

/-- Work of the queue engine is fetched again from the consumed indexes (R466). -/
def State.refetch (s : State) : State :=
  let s1 := s.killReqs fun r => r.kind == 0
  let qps := s1.hs.qp.map fun q => if q.2.kind == 1 then (q.1, { q.2 with taken := q.2.cons, short := none }) else q
  { s1 with hs := { s1.hs with works := [], qp := qps } }

/-- Blocks that hold versions of EPOCH objects: MAC (gates), Weave link layer (calendar), pipeline, table engine, its memories,
traffic manager, host port (windows and bindings), queue engine (function bindings), pattern engine (DEDUCED, log entry 71). -/
def holdsVersion (block : Nat) : Bool := [0x02, 0x03, 0x10, 0x11, 0x12, 0x13, 0x14, 0x20, 0x22, 0x34].contains block

/-- The visible result of a block reset (R466); a version that the block held for a prepared commit is lost (R84). -/
def State.resetEffect (s : State) (region block : Nat) : State :=
  let s1 := if holdsVersion block then s.versionLost else s
  match block with
  | 0x14 =>
    let r := region - 2
    { s1 with tm := { s1.tm with
        deficit := s1.tm.deficit.filter fun x => x.1 / 2 ^ 18 != r
        wait := s1.tm.wait.map fun x => if x.1 / 65536 == r then (x.1, s1.clock) else x } }
  | 0x21 => ((s1.killReqs fun r => r.kind == 0).restartWorks fun _ => true).pumpAll
  | 0x22 => s1.refetch
  | _ => s1

/-- A block is reset; the third time within 1 s, or where the reset does not complete within 5 µs (`slow`), it escalates. -/
def State.blockReset (s : State) (e : ErrInfo) (slow : Bool) : State :=
  let recent := (lookupD s.flt.resets e.place []).filter fun t => s.clock < t + 1000000000
  let s1 : State := { s with flt := { s.flt with resets := assoc s.flt.resets e.place (recent ++ [s.clock]) } }
  let s2 := (s1.bump Obj.FLT_BLOCK_RESETS).logErr { e with level := 1, action := 4 }
  if 2 ≤ recent.length || slow then s2.escalate e else s2.resetEffect e.region e.block

/-! ### Cells (R465, R468, R477) -/

def State.poisonLine (s : State) (off : Nat) : State :=
  { s with flt := { s.flt with poison := (s.flt.poison.filter fun l => l != off / 64) ++ [off / 64] } }

/-- A correctable error: corrected in place. -/
def State.cellCorrected (s : State) (e : ErrInfo) : State := (s.bump Obj.FLT_CELL_CORRECTED).logCell { e with cls := 1, action := 0 }

/-- A mirrored read repaired from the other stack (R31). -/
def State.mirrorFix (s : State) (e : ErrInfo) : State := (s.bump Obj.MEM_MIRROR_FIX).logRate { e with cls := 5, action := 2 }

/-- An uncorrectable error of a cell that nothing repairs: the block is reset. -/
def State.cellBlock (s : State) (e : ErrInfo) : State := s.blockReset { e with cls := 2, escalated := true } false

/-- An uncorrectable ECC error, by where it lies. -/
def State.cellUncorrected (s : State) (at_ : EccAt) (e : ErrInfo) : State :=
  let s1 := s.bump Obj.FLT_CELL_UNCORRECTED
  match at_ with
  | .cell => s1.cellBlock e
  | .device k bank both =>
    if both || s.flt.stackBad.contains (1 - k) then s1.fatal { e with cls := 6, escalated := true }
    else (s1.mirrorFix e).badRead k bank e
  | .app k bank off both =>
    if !s.core.interleaved && !both && !s.flt.stackBad.contains (1 - k) then ((s1.mirrorFix e).aplic 5).badRead k bank e
    else ((s1.poisonLine off).logRate { e with cls := (if s.core.interleaved then 2 else 6), action := 8 }).badRead k bank e
  | .dirty off => (s1.poisonLine off).logRate { e with cls := 2, action := 8 }

/-- The place of an error, with its cell or physical address. -/
def errAt (region block inst addr : Nat) : ErrInfo := { ErrInfo.mk' 0 region block inst 0 0 with addr := addr }

/-- Blocks that are watched for progress (Table 16-1). -/
def watched (block : Nat) : Bool := [0x11, 0x14, 0x16, 0x21, 0x22, 0x33, 0x34].contains block

/-- HOLD_OUT_RETEST: a held-out block is tested 1 s after its hold; where it fails, again 1 s later. -/
def execHoldOutRetest (dt place : Nat) (pass : Bool) (s : State) : Out :=
  cmd dt s (fun t => t.alive && (t.flt.held.any fun h => h.1 == place && (match h.2 with | some a => decide (a + 1000000000 ≤ t.clock) | none => false)))
    fun t =>
      let rest := t.flt.held.filter fun h => h.1 != place
      if pass then
        let t1 : State := { t with flt := { t.flt with held := rest } }
        if place / 65536 == 5 && t1.cfg Obj.CORE_RUN == 1 then t1.holdHart (place % 256) .waitIpi else t1
      else { t with flt := { t.flt with held := rest ++ [(place, some t.clock)] } }

/-- CELL_LOG_WINDOW: the window of a cell ends; its further errors go into one record (R477). -/
def execCellLogWindow (dt place addr : Nat) (s : State) : Out :=
  cmd dt s (fun t => t.alive && (t.flt.cells.any fun c => c.1 == place && c.2.1 == addr && c.2.2.1 + 1000000000 ≤ t.clock)) fun t =>
    let ended := fun (c : Nat × Nat × Nat × Nat) => c.1 == place && c.2.1 == addr && c.2.2.1 + 1000000000 ≤ t.clock
    let n := sumBy (fun c => c.2.2.2) (t.flt.cells.filter ended)
    let t1 : State := { t with flt := { t.flt with cells := t.flt.cells.filter fun c => !ended c } }
    if n == 0 then t1
    else t1.logRate { errAt (place / 65536) (place / 256 % 256) (place % 256) addr with cls := 1, action := 0, count := n }

/-! ### Regions and the chip (R465, R470 to R472) -/

/-- The automatic test of the fenced region may start (R471, R434). -/
def State.retestDue (s : State) : Bool :=
  s.mode.fenced.isSome && s.cfg Obj.FLT_REGION_TEST_STATE == 1 && (s.mode.mode == .degraded || s.mode.mode == .handover)
    && (match s.flt.retestFrom with
      | some a => decide (a + s.cfg Obj.FLT_REGION_RETEST_S * 1000000000 ≤ s.clock)
      | none => false)

/-- A test of the fenced region starts. -/
def State.startTest (s : State) : State :=
  ({ s with flt := { s.flt with retestFrom := none } }).latch Obj.FLT_REGION_TEST_STATE 2

/-- REGION_RETEST. -/
def execRegionRetest (dt : Nat) (s : State) : Out := cmd dt s (fun t => t.alive && t.retestDue) State.startTest

/-- A write to FLT_REGION_TEST: status and state (R471). -/
def State.writeRegionTest (s : State) (v : Nat) : Nat × State :=
  if s.mode.mode != .degraded then (1, s)
  else if (v != 1 && v != 2) || s.mode.fenced != some (v - 1) then (2, s)
  else if s.cfg Obj.FLT_REGION_TEST_STATE == 2 || s.cfg Obj.FLT_REGION_TEST_STATE == 3 then (0, s)
  else (0, s.startTest)

/-- Entries of the survivor that the returning region receives: those of MIRRORED tables, brought to the current epoch, without
the journal (R27, R30, R76). -/
def State.mirrored (s : State) (r : Nat) : List TEntry :=
  (s.tbl.filter fun e => e.region != r && !(s.declOf e).any (fun t => t.local_) && (match e.died with | some d => epochBefore s.ep.current d | none => true)).map
    fun e => { e with region := r, journal := false }

/-- Ports and links whose bindings move back to region r: the survivor's queues go first (R24, R27). -/
def State.bindBack (s : State) (r : Nat) : State :=
  let mine := (List.range 24).filter fun pn => mapRegion s.curVer pn == r
  { s with tm := { s.tm with drainOld := mine.foldl (fun l pn => assoc l pn (1 - r)) s.tm.drainOld } }

/-- The region returns (R27, R30, R373, R471). -/
def State.returnRegion (s : State) (r : Nat) : State :=
  let ok := s.pwr.stackOk.set r true
  let s1 : State := { s with
    tbl := (s.tbl.filter fun e => e.region != r) ++ s.mirrored r
    core := { s.core with memUp := s.core.memUp || (s.core.reload && ok.all id) }
    mode := { s.mode with fenced := none }
    flt := { s.flt with stackBad := s.flt.stackBad.filter (fun k => k != r), retestFrom := none }
    pwr := { s.pwr with stackOk := ok } }
  let s2 := ((s1.latch Obj.MODE_FENCED 0).latch Obj.FLT_REGION_TEST_STATE 0).saReturn r
  let s3 := s2.bindBack r
  let s4 := if s3.mode.mode == .degraded then s3.setMode .service 4 else s3
  (s4.raise 0x0012 1 0 (toBe 1 (r + 1))).aplic 3

/-- REGION_TEST_COMPLETE: the test, or then the copy-back, ends; `pass`: without a fault. -/
def execRegionTestComplete (dt : Nat) (pass : Bool) (s : State) : Out :=
  cmd dt s (fun t => t.alive && t.mode.fenced.isSome
      && (t.cfg Obj.FLT_REGION_TEST_STATE == 2 || t.cfg Obj.FLT_REGION_TEST_STATE == 3)) fun t =>
    match t.mode.fenced with
    | none => t
    | some r =>
      if !pass then (t.latch Obj.FLT_REGION_TEST_STATE 4).logErr (ErrInfo.mk' 2 (2 + r) 0xFF 0 0x15 8)
      else if t.cfg Obj.FLT_REGION_TEST_STATE == 2 then t.latch Obj.FLT_REGION_TEST_STATE 3
      else t.returnRegion r

/-! ### Control pairs (R40, R478, R479) -/

/-- An activation that prepares on the standby pair fails (R463); the manual gives no status for it: a free value. -/
def State.failPrepare (s : State) : State :=
  match s.img.act with
  | some a => if a.form ≤ 2 && !a.started then s.endFree 5 else s
  | none => s

/-- The active pair can be replaced. -/
def State.canTakeOver (s : State) : Bool := s.img.standby && !s.img.takeover

/-- A mismatch of a pair, or a missed watchdog that is handled as one, by class. -/
def State.pairFault (s : State) (active : Bool) (cls : Nat) : State :=
  if !active then
    let s1 : State := { s with img := { s.img with standby := false, mismatches := Nat.min u64Max (s.img.mismatches + 1) } }
    (s1.logErr (ErrInfo.mk' 1 6 0x40 1 cls 4)).failPrepare
  else if s.canTakeOver then
    let s1 : State := { s with img := { s.img with takeover := true, standby := false },
                               mgmt := { s.mgmt with unavail := some s.clock } }
    s1.logErr (ErrInfo.mk' 1 6 0x40 0 cls 4)
  else s.fatal (ErrInfo.mk' 3 6 0x40 0 cls 7)

/-- STANDBY_RELOAD_COMPLETE: the other pair has loaded the running image and is a healthy standby (R40, R460 step 6). -/
def execStandbyReloadComplete (dt : Nat) (s : State) : Out :=
  cmd dt s (fun t => t.alive && t.pwr.svcRunning && !t.img.standby && !t.img.takeover && t.img.act.all fun a => a.form == 3) fun t =>
    { t with img := { t.img with standby := true } }

/-! ### Injection (R484) -/

def djKind (v : Nat) : Nat := fld v 0 4
def djRegion (v : Nat) : Nat := fld v 4 3
def djBlock (v : Nat) : Nat := fld v 8 8
def djInst (v : Nat) : Nat := fld v 16 8

/-- A value that DIAG_INJECT takes. -/
def djOk (v : Nat) : Bool := 1 ≤ djKind v && djKind v ≤ 4 && djRegion v ≤ 6 && !bit v 7 && v < 2 ^ 24

/-- An accepted injection is handled as a real error of its kind. -/
def State.inject (s : State) (v : Nat) : State :=
  let s1 := s.bump Obj.DIAG_INJECTIONS
  let e : ErrInfo := { ErrInfo.mk' 0 (djRegion v) (djBlock v) (djInst v) 0x0A 0 with injected := true }
  match djKind v with
  | 1 => s1.cellCorrected e
  | 2 => s1.cellUncorrected .cell e
  | 3 => s1.blockReset e false
  | _ => match placeRegion (djRegion v) with
    | some r => s1.regionFault r e
    | none => s1.fatal e

/-- A write to DIAG_INJECT: status and state. -/
def State.writeInject (s : State) (v : Nat) : Nat × State :=
  if s.cfg Obj.DIAG_INJECT_EN == 0 then (1, s) else if !djOk v then (2, s) else (0, s.inject v)

/-! ### The error log (R476) -/

/-- ERR_LOG_CLEAR: an accepted write of 1. -/
def State.clearLog (s : State) : State :=
  ({ s with flt := { s.flt with log := [], unwritten := [] } }).latch Obj.ERR_LOG_COUNT 0

end Sys2Proof.Machine
end

