-- ==== Sys2Proof/Machine/Lookaside.lean ====
section
/-!
DEFINITION. Lookaside operations of LOOKASIDE pairs (spec/12_cipher_storage.md R371, R375, R376). The parameter block and the
source of a host function are what the host's memory returned (none: the fetch failed).
-/

namespace Sys2Proof.Machine

/-! ### Descriptors and parameter blocks (Tables 12-8 and 12-9) -/

def ldSrc (d : Bytes) : Nat := leWord d 0
def ldDst (d : Bytes) : Nat := leWord d 1
def ldLen (d : Bytes) : Nat := fld (leWord d 2) 0 21
def ldOp (d : Bytes) : Nat := fld (leWord d 2) 21 4
def ldKeep (d : Bytes) : Bool := bit (leWord d 2) 25
def ldAttr (d : Bytes) : Nat := fld (leWord d 2) 26 2
def ldCookie (d : Bytes) : Nat := fld (leWord d 2) 32 32
def ldParam (d : Bytes) : Nat := leWord d 3
/-- SA index of an SA operation. -/
def ldSa (d : Bytes) : Nat := fld (leWord d 2) 0 19

def pbSlot (p : Bytes) : Nat := fld (leWord p 0) 0 13
def pbLabelLen (p : Bytes) : Nat := fld (leWord p 0) 16 7
def pbAad (p : Bytes) : Nat := fld (leWord p 0) 24 16
def pbAlg (p : Bytes) : Nat := fld (leWord p 0) 40 4
def pbDu (p : Bytes) : Nat := fld (leWord p 1) 0 4
def pbTlsType (p : Bytes) : Nat := fld (leWord p 1) 8 8
def pbTlsPad (p : Bytes) : Nat := fld (leWord p 1) 16 16
def pbSeq (p : Bytes) : Nat := leWord p 2
def pbNonce (p : Bytes) : Bytes := slice p 32 12
def pbLabel (p : Bytes) : Bytes := slice p 64 (pbLabelLen p)

/-- A reserved bit of the block is set, or its label is too long. -/
def pbBad (p : Bytes) : Bool :=
  fld (leWord p 0) 13 3 != 0 || bit (leWord p 0) 23 || fld (leWord p 0) 44 20 != 0 || fld (leWord p 1) 4 4 != 0
    || fld (leWord p 1) 32 32 != 0 || leWord p 3 != 0 || beNat (slice p 44 4) != 0 || beNat (slice p 48 16) != 0
    || 64 < pbLabelLen p

/-- Algorithms of an operation (Table 12-11). -/
def laAlgs (op : Nat) : List Nat :=
  match op with
  | 3 | 4 => [3, 4, 7, 8]
  | 7 | 8 => [5, 6]
  | _ => [1, 2, 9]

/-- Longest TLS ciphertext (R376). -/
def tlsMax : Nat := 2 ^ 14 + 256

/-- The lengths of an operation are in range. -/
def laLenOk (op : Nat) (d p : Bytes) : Bool :=
  let n := ldLen d
  n ≤ 1048576 && (match op with
    | 1 => pbAad p ≤ n
    | 2 => pbAad p + 16 ≤ n
    | 4 => 16 ≤ n
    | 5 => n + 1 + pbTlsPad p + 16 ≤ tlsMax
    | 6 => 22 ≤ n && n ≤ tlsMax + 5
    | 7 | 8 => 9 ≤ pbDu p && n % 2 ^ pbDu p == 0
    | _ => true)

/-- Bytes that the destination of an operation takes. -/
def laOut (op : Nat) (d p : Bytes) : Nat :=
  match op with
  | 1 => ldLen d + 16
  | 2 => ldLen d - 16
  | 3 => 16
  | 5 => 5 + ldLen d + 1 + pbTlsPad p + 16
  | 6 => ldLen d - 22
  | 7 | 8 => ldLen d
  | 10 => 160
  | _ => 0

/-- A completion entry (Table 12-10). -/
def lcEntry (d : Bytes) (status verdict tls out : Nat) : Bytes :=
  toLe 8 (ldCookie d + status * 2 ^ 32 + verdict * 2 ^ 40 + tls * 2 ^ 42) ++ toLe 8 out

/-! ### What the operations compute (Table 12-11) -/

def LaRes.data (out : Bytes) : LaRes := { out := out, verdict := 0, tls := some 0, authFail := false }

/-- ENCRYPT: AAD, ciphertext, tag. -/
def laEncrypt (key d p src : Bytes) : LaRes :=
  let aad := src.take (pbAad p)
  let r := sealWith (pbAlg p) key (pbNonce p) aad aad ((src.take (ldLen d)).drop (pbAad p))
  .data (aad ++ r.1 ++ r.2)

/-- A failed tag leaves zeros in the destination (R376). -/
def laFailed (n : Nat) : LaRes := { out := List.replicate n 0, verdict := 2, tls := some 0, authFail := true }

/-- DECRYPT: AAD and plaintext. -/
def laDecrypt (key d p src : Bytes) : LaRes :=
  let n := ldLen d - 16
  let aad := src.take (pbAad p)
  let r := openWith (pbAlg p) key (pbNonce p) aad aad ((src.take n).drop (pbAad p)) (slice src n 16)
  if r.2 then { out := aad ++ r.1, verdict := 1, tls := some 0, authFail := false } else laFailed n

/-- MAC: the tag. -/
def laMac (key p src : Bytes) : LaRes := .data (bytesOf (macTag (pbAlg p) (natsOf key) (natsOf (pbNonce p)) (natsOf src)))

/-- VERIFY: the verdict. -/
def laVerify (key d p src : Bytes) : LaRes :=
  let n := ldLen d - 16
  let ok := bytesOf (macTag (pbAlg p) (natsOf key) (natsOf (pbNonce p)) (natsOf (src.take n))) == slice src n 16
  { out := [], verdict := if ok then 1 else 2, tls := some 0, authFail := false }

/-- TLS nonce: the static IV XOR the record sequence number, left-padded (R376). -/
def tlsNonce (p : Bytes) : Bytes := bytesOf (xorL (natsOf (pbNonce p)) (natsOf (toBe 12 (pbSeq p))))

/-- TLS_SEAL: a TLSCiphertext record (RFC 8446, section 5.2). -/
def laTlsSeal (key p src : Bytes) : LaRes :=
  let inner := src ++ toBe 1 (pbTlsType p) ++ List.replicate (pbTlsPad p) 0
  let head := toBe 1 23 ++ toBe 2 0x0303 ++ toBe 2 (inner.length + 16)
  let r := sealWith (pbAlg p) key (tlsNonce p) head head inner
  .data (head ++ r.1 ++ r.2)

/-- TLS_OPEN: content with type and padding removed. The type of a record of zeros alone is not stated. -/
def laTlsOpen (key d p src : Bytes) : LaRes :=
  let n := ldLen d - 21
  let head := src.take 5
  let r := openWith (pbAlg p) key (tlsNonce p) head head (slice src 5 n) (slice src (5 + n) 16)
  if r.2 then
    match r.1.reverse.dropWhile (fun b => b == 0) with
    | t :: c => { out := c.reverse, verdict := 1, tls := some t.toNat, authFail := false }
    | [] => { out := [], verdict := 1, tls := none, authFail := false }
  else laFailed (n - 1)

/-- XTS_ENC and XTS_DEC (IEEE 1619). -/
def laXts (dec : Bool) (key p src : Bytes) : LaRes :=
  .data (bytesOf (xts dec (natsOf key) (natsOf src) (2 ^ pbDu p) (pbSeq p)))

def laCompute (op : Nat) (key d p src : Bytes) : LaRes :=
  match op with
  | 1 => laEncrypt key d p src
  | 2 => laDecrypt key d p src
  | 3 => laMac key p src
  | 4 => laVerify key d p src
  | 5 => laTlsSeal key p src
  | 6 => laTlsOpen key d p src
  | 7 => laXts false key p src
  | _ => laXts true key p src

/-! ### SA operations (R371) -/

/-- Fields of an SA entry in range (Table 12-5); of an entry that is not valid only the reserved bits count. -/
def saOk (e : Bytes) : Bool :=
  let reserved := !bit (saW0 e) 31 && fld (saW0 e) 47 17 == 0 && fld (leWord e 1) 32 32 == 0
    && fld (leWord e 5) 30 34 == 0 && beNat (slice e 48 16) == 0
  let label := fld (saW0 e) 24 7
  let salt := if saFraming e == 0 then 4 else if saEsn e then 12 else 0
  reserved && (!saValid e || (saFraming e ≤ 1
    && (if saFraming e == 0 then [1, 2, 3, 4, 9].contains (saAlg e) else [1, 2, 3, 4].contains (saAlg e))
    && (if saIn e then 64 ≤ saWindow e && saWindow e ≤ maxWindow else saWindow e == 0)
    && label ≤ 64 && beNat ((slice e 64 64).drop label) == 0 && beNat ((saSalt e).drop salt) == 0))

/-- A writer of SAs whose ranges hold an SA, and a slot where one is named. -/
def State.saWriter (s : State) (f sa : Nat) (slot : Option Nat) : Bool :=
  (List.range 16).any fun i =>
    let v := s.cfg Obj.CIPH_SA_WRITER i
    let w0 := elemWord 2 v 0
    let w1 := elemWord 2 v 1
    bit w0 15 && fld w0 0 14 == f && fld w0 16 19 ≤ sa && sa ≤ fld w0 35 19
      && (match slot with | some n => fld w1 0 13 ≤ n && n ≤ fld w1 16 13 | none => true)

/-- Status of an SA_WRITE: 0, or the first check that fails. -/
def State.saStatus (s : State) (f i : Nat) (e : Bytes) : Nat :=
  if !s.saWriter f i (some (saSlot e)) then 3
  else if !saOk e then 2
  else match s.slot? (saSlot e) with
    | none => 0
    | some x => if x.revoking then 7 else if saValid e && !x.fits (saAlg e) (saLabel e) then 2 else 0

/-- An SA written: its mutable state kept, or begun anew (R371). -/
def State.saStore (s : State) (i : Nat) (e : Bytes) (keep : Bool) : State :=
  let first := if saIn e then 0 else 1
  let new : Sa := { ent := e, seq := first, map := 0, soft := false, exhausted := false, ckSeq := first, ckMap := 0,
                    moved := false }
  match lookup? s.cry.sas i with
  | some x => s.setSa i (if keep then { x with ent := e } else new)
  | none => s.setSa i new

/-- What SA_READ returns. -/
def State.saRead (s : State) (i : Nat) : Bytes :=
  match lookup? s.cry.sas i with
  | some x => padTo 128 x.ent ++ padTo 32 (toLe 8 x.seq ++ toLe 8 (b2n x.soft + 2 * b2n x.exhausted))
  | none => List.replicate 160 0

/-! ### A descriptor -/

/-- A key held by the operation in front of a ring (R365). -/
def State.heldKey (s : State) (ring : Nat) : Option KeyHold := s.cry.held.find? fun h => h.ring == ring

/-- No operation of a ring holds a key. -/
def State.unhold (s : State) (ring : Nat) : State :=
  s.setCry { s.cry with held := s.cry.held.filter fun h => h.ring != ring }

/-- The operation in front of a ring waits with its key (R365). -/
def State.holdKey (s : State) (ring slot : Nat) (key : Bytes) : State :=
  let g := match s.slot? slot with
    | some x => x.gen
    | none => 0
  if (s.heldKey ring).isSome then s
  else s.setCry { s.cry with held := s.cry.held ++ [{ ring := ring, slot := slot, gen := g, key := key }] }

/-- The key of the operation in front of a ring: the one it holds, or its slot's. -/
def State.ringKey (s : State) (ring slot alg : Nat) (label : Bytes) : KeyRes :=
  match s.heldKey ring with
  | some h => .key h.key s
  | none => s.workKey 2 slot alg label

/-- The descriptor in front of a ring is taken up, to complete behind the earlier ones of its ring (R375): with a status, holding
a slot's key until the instant `ends`. -/
def State.laStart (s : State) (f q : Nat) (d : Bytes) (ends : Nat) (slot : Option Nat) (status : Nat) (r : LaRes) : State :=
  let x : LaRun := { fid := f, q := q, desc := d, ends := ends, slot := slot, status := status, res := r }
  let s1 := s.unhold (qpKey f q)
  { s1 with hs := { s1.hs with runs := s1.hs.runs ++ [x] } }.jobTaken f q

/-- A descriptor fails with a status (R376). -/
def State.laFail (s : State) (f q : Nat) (d : Bytes) (status : Nat) : State := s.laStart f q d 0 none status (.data [])

/-- Attributes of data requests (R298, R303). -/
def State.dataAttr (s : State) (f : Nat) (x : Qp) (bits : Nat) : Attr :=
  let fn := s.fn f
  { ro := fn.roEn && bit bits 0, ido := fn.idoEn && bit bits 1, pasid := s.pasidOf f x,
    tph := if bit x.ctrl 56 then fn.hint x else none }

/-- A TLS record whose header's length is not the source's. -/
def tlsBad (op : Nat) (d src : Bytes) : Bool := op == 6 && beNat (slice src 3 2) + 5 != ldLen d

/-- Lookaside engines in use (Table 14-8). -/
def State.laEngines (s : State) : Nat := if 3 ≤ s.cfg Obj.THERM_LEVEL then 4 else 8

/-- A free lookaside engine. -/
def State.laEngine (s : State) : Option Nat :=
  findFrom (fun n => lookupD s.cry.busy (16 + n) 0 < (s.clock + 1) * engineUnits) 0 s.laEngines

/-- A free engine is occupied by an operation of n bytes: the instant at which it ends. None free: the state as it is. -/
def State.useEngine (s : State) (alg n : Nat) : Nat × State :=
  match s.laEngine with
  | some e =>
    let ends := s.engineStart (16 + e) + engineTime alg n
    (ends, s.setCry { s.cry with busy := assoc s.cry.busy (16 + e) ends })
  | none => (s.clock * engineUnits, s)

/-- An operation on data, its parameter block at hand. -/
def State.laData (s : State) (f q : Nat) (x : Qp) (d p : Bytes) (data : HostRead) : State :=
  let op := ldOp d
  if pbBad p || pbAlg p == 0 || 9 < pbAlg p then s.laFail f q d 2
  else if !(laAlgs op).contains (pbAlg p) then s.laFail f q d 10
  else if !laLenOk op d p then s.laFail f q d 2
  else match s.ringKey (qpKey f q) (pbSlot p) (pbAlg p) (pbLabel p) with
    | .revoking => s.laFail f q d 7
    | .empty | .bad => s.laFail f q d 2
    | .key k s1 =>
      match s1.fetch f q x (s1.dataAttr f x (ldAttr d)) [(ldSrc d, ldLen d, false)] data with
      | .wait s2 => s2.holdKey (qpKey f q) (pbSlot p) k
      | .lost s2 => s2.laFail f q d 3
      | .got src s2 =>
        if tlsBad op d src then s2.laFail f q d 2
        else
          let t := s2.useEngine (pbAlg p) (ldLen d)
          t.2.laStart f q d t.1 (some (pbSlot p)) 0 (laCompute op k d p src)

/-- An SA operation. -/
def State.laSa (s : State) (f q : Nat) (d e : Bytes) : State :=
  if ldOp d == 9 then
    match s.saStatus f (ldSa d) e with
    | 0 => (s.saStore (ldSa d) e (ldKeep d)).laStart f q d 0 none 0 (.data [])
    | st => s.laFail f q d st
  else if !s.saWriter f (ldSa d) none then s.laFail f q d 3
  else s.laStart f q d 0 none 0 (.data (s.saRead (ldSa d)))

/-- The descriptor in front of a ring is taken up (R375, R376). -/
def State.laTake (s : State) (f q : Nat) (x : Qp) (d : Bytes) (param data : HostRead) : State :=
  let op := ldOp d
  if op == 0 || 10 < op || fld (leWord d 2) 28 4 != 0 || (9 ≤ op && fld (leWord d 2) 19 2 != 0)
      || (op != 10 && ldParam d % 64 != 0) then s.laFail f q d 2
  else if op == 10 then s.laSa f q d []
  else match s.fetch f q x (s.dataAttr f x (ldAttr d)) [(ldParam d, 128, false)] param with
    | .wait s1 => s1
    | .lost s1 => s1.laFail f q d 3
    | .got p s1 => if op == 9 then s1.laSa f q d p else s1.laData f q x d p data

/-! ### Completion, in ring order (R375) -/

/-- The oldest operation of a ring, where it has ended. -/
def State.laEnded (s : State) (f q : Nat) : Option LaRun :=
  (s.hs.runs.find? fun r => r.fid == f && r.q == q).filter fun r => r.ends ≤ s.clock * engineUnits

/-- The oldest operation of a ring leaves with its entry. -/
def State.laOver (s : State) (r : LaRun) (entry : Bytes) : State :=
  { s with hs := { s.hs with runs := s.hs.runs.erase r } }.jobOver r.fid r.q entry

/-- A descriptor has failed with a status. -/
def State.laBad (s : State) (r : LaRun) (status : Nat) : State :=
  (s.bump Obj.CIPH_LA_BAD).laOver r (lcEntry r.desc status 0 0 0)

/-- An ended operation writes its destination, then its completion (R376). -/
def State.laFinish (s : State) (r : LaRun) (x : Qp) : State :=
  if r.status != 0 then s.laBad r r.status
  else
    let n := r.res.out.length
    let refused := decide (s.writable r.fid (s.pasidOf r.fid x) (ldDst r.desc) n < n)
    match s.jobAccess r.fid r.q { x with fail := x.fail && refused } [(ldDst r.desc, n, true)] with
    | .wait s1 => s1
    | .fail => (s.clearFail r.fid r.q).laBad r 3
    | .go =>
      let t := match r.res.tls with
        | some t => (t, s)
        | none => s.fresh 8
      let s1 := (t.2.bump Obj.CIPH_LA_OPS).bumpN Obj.CIPH_LA_AUTH_FAIL (b2n r.res.authFail)
      (s1.jobWrite r.fid (s1.dataAttr r.fid x (ldAttr r.desc)) (ldDst r.desc) r.res.out).laOver r (lcEntry r.desc 0 r.res.verdict t.1 n)

/-! ### Turns and engines (R357, R375) -/

/-- The ring whose turn it is. -/
def State.laTurn (s : State) : Option Nat :=
  let rings := (s.hs.qp.filter fun q => s.jobReady (q.1 / 65536) (q.1 % 65536) 6).map fun q => q.1
  match rings.find? fun k => s.cry.ring < k with
  | some k => some k
  | none => rings.head?

/-- The descriptor in front names an operation; codes that name none are met by ENCRYPT, as is a ring outside application
memory. -/
def laIs (op : Nat) (d : Option Bytes) : Bool :=
  match d with
  | none => op == 1
  | some d => ldOp d == op || (op == 1 && (ldOp d == 0 || 10 < ldOp d))

/-- The engine takes up the next descriptor of ring q of function f. -/
def State.laNext (s : State) (f q : Nat) : Bool := s.laEngine.isSome && s.laTurn == some (qpKey f q)

/-- A lookaside command: the oldest operation of the ring completes where it has ended, else the descriptor in front of the ring in
turn is taken up by a free engine. -/
def laCmd (op dt f q : Nat) (given param data : HostRead) (s : State) : Out :=
  work dt s (fun t => t.traffic && t.mayAnswer f given && t.mayAnswer f param && t.mayAnswer f data
      && (match t.laEnded f q, t.qp? f q with
          | some r, some _ => laIs op (some r.desc)
          | none, some x => t.laNext f q && laIs op (t.jobDesc f x given)
          | _, none => false)) fun t =>
    match t.laEnded f q, t.qp? f q with
    | some r, some x => t.laFinish r x
    | none, some x =>
      (match t.jobFetch f q x given with
       | .wait t1 => t1
       | .lost t1 => (t1.setCry { t1.cry with ring := qpKey f q }).laFail f q [] 3
       | .got d t1 => (t1.setCry { t1.cry with ring := qpKey f q }).laTake f q x d param data)
    | _, none => t

/-- ENCRYPT. -/
def execEncrypt (dt f q : Nat) (given param data : HostRead) (s : State) : Out := laCmd 1 dt f q given param data s
/-- DECRYPT. -/
def execDecrypt (dt f q : Nat) (given param data : HostRead) (s : State) : Out := laCmd 2 dt f q given param data s
/-- MAC. -/
def execMac (dt f q : Nat) (given param data : HostRead) (s : State) : Out := laCmd 3 dt f q given param data s
/-- VERIFY. -/
def execVerify (dt f q : Nat) (given param data : HostRead) (s : State) : Out := laCmd 4 dt f q given param data s
/-- TLS_SEAL. -/
def execTlsSeal (dt f q : Nat) (given param data : HostRead) (s : State) : Out := laCmd 5 dt f q given param data s
/-- TLS_OPEN. -/
def execTlsOpen (dt f q : Nat) (given param data : HostRead) (s : State) : Out := laCmd 6 dt f q given param data s
/-- XTS_ENC. -/
def execXtsEnc (dt f q : Nat) (given param data : HostRead) (s : State) : Out := laCmd 7 dt f q given param data s
/-- XTS_DEC. -/
def execXtsDec (dt f q : Nat) (given param data : HostRead) (s : State) : Out := laCmd 8 dt f q given param data s
/-- SA_WRITE. -/
def execSaWrite (dt f q : Nat) (given param data : HostRead) (s : State) : Out := laCmd 9 dt f q given param data s
/-- SA_READ. -/
def execSaRead (dt f q : Nat) (given param data : HostRead) (s : State) : Out := laCmd 10 dt f q given param data s

end Sys2Proof.Machine
end

