-- ==== Sys2Proof/Machine/Storage.lean ====
section
/-!
DEFINITION. Storage personas: NVMe controllers, command arrival, and the descriptors of PERSONA_SVC pairs
(spec/12_cipher_storage.md R377 to R385). NVMe and virtio formats are those of their standards (log entry 21).
-/

namespace Sys2Proof.Machine

/-! ### NVMe controllers (R377) -/

/-- CSTS.RDY, and no shutdown. -/
def State.nvmeUp (s : State) (f : Nat) : Bool := bit (s.nvme f).csts 0 && fld (s.nvme f).csts 2 2 == 0

/-- Moderation of a completion queue (R342): none for the admin queue or with an aggregation time of 0; a time beyond
QP_MOD_US is cut to its largest value. -/
def nvModeration (x : Nvme) (q : Nat) : Nat :=
  if q == 0 || x.time == 0 then 0 else Nat.min 1023 (100 * x.time) * 2 ^ 29 + (x.thr + 1) * 2 ^ 39

/-- The pool's pair of an NVMe queue number (R324). -/
def State.nvPair (s : State) (f q vec : Nat) (ien : Bool) : State :=
  let c := nvmeKind + vec * 2 ^ 16 + b2n ien * 2 ^ 28 + nvModeration (s.nvme f) q
  match s.qp? f q with
  | some x => s.setQp f q { x with ctrl := c }
  | none => s.setQp f q (Qp.fresh c 0 0 0 0)

/-- The pair of a queue number goes with the last queue that has it. -/
def State.nvPairDrop (s : State) (f q : Nat) : State :=
  if (lookup? s.stg.sq (qpKey f q)).isSome || (lookup? s.stg.cq (qpKey f q)).isSome then s
  else { s with hs := { s.hs with qp := dissoc s.hs.qp (qpKey f q) } }

/-- Memory page size of a controller (CC.MPS). -/
def Nvme.page (x : Nvme) : Nat := 2 ^ (12 + fld x.cc 7 4)

def State.addSq (s : State) (f q base size cqid : Nat) : State :=
  s.setSq (qpKey f q) { base := base, size := size, head := 0, tail := 0, cqid := cqid }

def State.addCq (s : State) (f q base size : Nat) : State :=
  s.setCq (qpKey f q) { base := base, size := size, head := 0, tail := 0, phase := true, wait := [] }

/-- CONTROLLER_ENABLE: CC is written with EN set; the admin queues are there, CSTS.RDY reads 1. -/
def execControllerEnable (dt f cc : Nat) (s : State) : Out :=
  pageCmd dt f s fun t =>
    let x := t.nvme f
    if t.persona f != 3 || !bit cc 0 || bit x.cc 0 || t.qpCount f == 0 then t
    else
      let t1 := t.setNvme f { x with cc := cc % 2 ^ 32, csts := 1 }
      let t2 := t1.addSq f 0 x.asq (fld x.aqa 0 12 + 1) 0
      (t2.addCq f 0 x.acq (fld x.aqa 16 12 + 1)).nvPair f 0 0 true

/-- Every queue of a controller is gone, and what core software held of it is cancelled. -/
def State.nvmeReset (s : State) (f cc : Nat) : State :=
  let s1 := (s.stgSquashHost f).nvmeClear f
  let s2 := s1.setNvme f { s1.nvme f with cc := cc % 2 ^ 32 }
  { s2 with hs := { s2.hs with qp := s2.hs.qp.filter fun q => q.1 / 65536 != f } }

/-- CONTROLLER_RESET: CC is written with EN clear. -/
def execControllerReset (dt f cc : Nat) (s : State) : Out :=
  pageCmd dt f s fun t => if t.persona f != 3 || bit cc 0 || !bit (t.nvme f).cc 0 then t else t.nvmeReset f cc

/-- CONTROLLER_SHUTDOWN: CC is written with a shutdown notification; CSTS.SHST reads complete. -/
def execControllerShutdown (dt f cc : Nat) (s : State) : Out :=
  pageCmd dt f s fun t =>
    if t.persona f != 3 || fld cc 14 2 == 0 then t
    else t.setNvme f { t.nvme f with cc := cc % 2 ^ 32, csts := setFld (t.nvme f).csts 2 2 2 }

/-! ### Admin commands that hardware executes -/

def sqeOp (e : Bytes) : Nat := (e.getD 0 0).toNat
def sqeCid (e : Bytes) : Nat := leNat (slice e 2 2)
/-- Command dword n. -/
def sqeDw (e : Bytes) (n : Nat) : Nat := leNat (slice e (4 * n) 4)
def sqePrp1 (e : Bytes) : Nat := leNat (slice e 24 8)
def sqePrp2 (e : Bytes) : Nat := leNat (slice e 32 8)
def sqeMptr (e : Bytes) : Nat := leNat (slice e 16 8)

/-- Status fields of NVMe 2.0 (log entry 21). -/
def nvmeInvalidField : Nat := 0x002
def nvmePrpOffset : Nat := 0x013
def nvmeCqInvalid : Nat := 0x100
def nvmeQidInvalid : Nat := 0x101
def nvmeQSize : Nat := 0x102
def nvmeVector : Nat := 0x108
def nvmeDeletion : Nat := 0x10C

/-- Contexts in use. -/
def State.ctxFree (s : State) : Nat := 65536 - s.stg.cmds.length

/-- The controller may fetch from submission queue q (R378). -/
def State.nvmeFetch (s : State) (f q : Nat) : Bool :=
  s.persona f == 3 && s.mayRead f && s.tagReady f && s.nvmeUp f && s.ctxFree != 0
    && (match lookup? s.stg.sq (qpKey f q) with | some c => c.head != c.tail | none => false)

/-- The entry in front of a submission queue has been fetched. -/
def State.sqTake (s : State) (f q : Nat) : State :=
  match lookup? s.stg.sq (qpKey f q) with
  | some c => s.setSq (qpKey f q) { c with head := (c.head + 1) % c.size }
  | none => s

/-- The fetch of a storage command's entry at an address (R296, R299, R312): `act` with its bytes. One that fails leaves the entry
in front of its queue, to be fetched again (log entry 77). -/
def State.stgFetch (s : State) (f q addr n : Nat) (given : HostRead) (act : State → Bytes → State) : State :=
  match s.qp? f q with
  | none => s
  | some x => match s.fetch f q x (s.ringAttr f x) [(addr, n, false)] given with
    | .wait s1 => s1
    | .lost s1 => s1.clearFail f q
    | .got b s1 => act s1 b

/-- Address of the entry in front of a submission queue. -/
def State.sqFront (s : State) (f q : Nat) : Nat :=
  match lookup? s.stg.sq (qpKey f q) with
  | some c => c.base + 64 * c.head
  | none => 0

/-- An admin command with opcode `op`: `act` answers its status and the state after it. -/
def adminCmd (op dt f : Nat) (entry : Bytes) (s : State) (act : State → Nat × State) : Out :=
  work dt s (fun t => t.alive && t.nvmeFetch f 0 && sqeOp entry == op) fun t =>
    t.stgFetch f 0 (t.sqFront f 0) 64 (.data entry) fun u _ =>
      let r := act (u.sqTake f 0)
      r.2.nvmeAnswer f 0 (sqeCid entry) 0 r.1

/-- A queue number that a create command may not name. -/
def State.badNewQid (s : State) (f q : Nat) (taken : Bool) : Bool := q == 0 || s.qpCount f ≤ q || 64 < q || taken

def State.createSq (s : State) (f : Nat) (e : Bytes) : Nat × State :=
  let q := fld (sqeDw e 10) 0 16
  let size := fld (sqeDw e 10) 16 16 + 1
  let cqid := fld (sqeDw e 11) 16 16
  if s.badNewQid f q (lookup? s.stg.sq (qpKey f q)).isSome || cqid == 0 then (nvmeQidInvalid, s)
  else match lookup? s.stg.cq (qpKey f cqid) with
    | none => (nvmeCqInvalid, s)
    | some _ =>
      if size < 2 then (nvmeQSize, s)
      else if !bit (sqeDw e 11) 0 then (nvmeInvalidField, s)
      else if sqePrp1 e % (s.nvme f).page != 0 then (nvmePrpOffset, s)
      else
        let s1 := s.addSq f q (sqePrp1 e) size cqid
        (0, if (s1.qp? f q).isSome then s1 else s1.nvPair f q 0 false)

def State.createCq (s : State) (f : Nat) (e : Bytes) : Nat × State :=
  let q := fld (sqeDw e 10) 0 16
  let size := fld (sqeDw e 10) 16 16 + 1
  let vec := fld (sqeDw e 11) 16 16
  if s.badNewQid f q (lookup? s.stg.cq (qpKey f q)).isSome then (nvmeQidInvalid, s)
  else if size < 2 then (nvmeQSize, s)
  else if !bit (sqeDw e 11) 0 then (nvmeInvalidField, s)
  else if s.fnCfg Obj.FN_VECTORS f ≤ vec then (nvmeVector, s)
  else if sqePrp1 e % (s.nvme f).page != 0 then (nvmePrpOffset, s)
  else (0, (s.addCq f q (sqePrp1 e) size).nvPair f q vec (bit (sqeDw e 11) 1))

/-- The commands of a deleted submission queue are aborted with it. -/
def State.deleteSq (s : State) (f : Nat) (e : Bytes) : Nat × State :=
  let q := fld (sqeDw e 10) 0 16
  if q == 0 || (lookup? s.stg.sq (qpKey f q)).isNone then (nvmeQidInvalid, s)
  else
    let s1 := s.stgCancelAll fun c => c.fid == f && c.queue == q
    (0, { s1 with stg := { s1.stg with sq := dissoc s1.stg.sq (qpKey f q) } }.nvPairDrop f q)

def State.deleteCq (s : State) (f : Nat) (e : Bytes) : Nat × State :=
  let q := fld (sqeDw e 10) 0 16
  if q == 0 || (lookup? s.stg.cq (qpKey f q)).isNone then (nvmeQidInvalid, s)
  else if s.stg.sq.any fun x => x.1 / 65536 == f && x.2.cqid == q then (nvmeDeletion, s)
  else (0, { s with stg := { s.stg with cq := dissoc s.stg.cq (qpKey f q) } }.nvPairDrop f q)

/-- CREATE_IO_SUBMISSION_QUEUE; `entry`: the submission queue entry fetched. -/
def execCreateIoSubmissionQueue (dt f : Nat) (entry : Bytes) (s : State) : Out :=
  adminCmd 0x01 dt f entry s fun t => t.createSq f entry
/-- DELETE_IO_SUBMISSION_QUEUE. -/
def execDeleteIoSubmissionQueue (dt f : Nat) (entry : Bytes) (s : State) : Out :=
  adminCmd 0x00 dt f entry s fun t => t.deleteSq f entry
/-- CREATE_IO_COMPLETION_QUEUE. -/
def execCreateIoCompletionQueue (dt f : Nat) (entry : Bytes) (s : State) : Out :=
  adminCmd 0x05 dt f entry s fun t => t.createCq f entry
/-- DELETE_IO_COMPLETION_QUEUE. -/
def execDeleteIoCompletionQueue (dt f : Nat) (entry : Bytes) (s : State) : Out :=
  adminCmd 0x04 dt f entry s fun t => t.deleteCq f entry

/-! ### Arrival (R378, R379) -/

/-- A command is written to the oldest unused POST of its service pair, or waits for one. -/
def State.stgPass (s : State) (ctx : Nat) (c : StgCmd) : State :=
  match lookupD s.stg.posts c.svc [] with
  | (addr, cookie) :: t =>
    let s1 := { s with stg := { s.stg with
      posts := assoc s.stg.posts c.svc t, cmds := assoc s.stg.cmds ctx { c with passed := true },
      waiting := s.stg.waiting.filter fun w => w != ctx } }
    ((s1.appWrite addr c.record).bump Obj.STG_CMDS).svcEntry c.svc (pcEntry cookie 0 1 0 (stgTag ctx c) 0)
  | [] =>
    { s with stg := { s.stg with cmds := assoc s.stg.cmds ctx c, waiting := s.stg.waiting ++ [ctx] } }.bump Obj.STG_NO_POST

/-- Data bytes that a command describes: known of a virtio chain and of an SGL Data Block; else not stated. -/
def cmdDataLen (nv : Bool) (entry : Bytes) (chain : List (Nat × Nat × Bool)) (free : Nat) : Nat :=
  if nv then
    (if fld (entry.getD 1 0).toNat 6 2 != 0 && (entry.getD 39 0).toNat / 16 == 0 then leNat (slice entry 32 4) else free)
  else sumBy (fun d => d.2.1) chain - 17

/-- A fetched command takes a context and goes to core software, or is answered for want of a service pair. -/
def State.stgArrive (s : State) (f q ctx : Nat) (entry : Bytes) (chain : List (Nat × Nat × Bool)) : State :=
  let nv := s.persona f == 3
  match s.svcPair f with
  | none =>
    let c : StgCmd := { gen := 0, fid := f, queue := q, record := List.replicate 32 0 ++ padTo 64 entry, chain := chain,
                        svc := 0, passed := false }
    (s.bump Obj.STG_CMD_NO_SVC).stgError c
  | some svc =>
    let v := s.fresh 32
    let gen := (lookupD s.stg.gens ctx 0 + 1) % 2 ^ 16
    let body := if nv then padTo 64 entry else padTo 64 (entry.take 16)
    let record := toLe 8 (f + s.persona f * 2 ^ 14 + q * 2 ^ 16 + (ctx + gen * 2 ^ 16) * 2 ^ 32)
      ++ toLe 8 (cmdDataLen nv entry chain v.1 % 2 ^ 32) ++ toLe 8 s.now ++ toLe 8 0 ++ body ++ List.replicate 32 0
    let s1 := { v.2 with stg := { v.2.stg with gens := assoc v.2.stg.gens ctx gen } }
    s1.stgPass ctx { gen := gen, fid := f, queue := q, record := record, chain := chain, svc := svc, passed := false }

/-- A virtqueue of a VBLK function may be fetched from. -/
def State.vblkFetch (s : State) (f q : Nat) : Bool :=
  s.persona f == 2 && s.mayRead f && s.tagReady f && s.ctxFree != 0
    && (match s.qp? f q with | some x => x.kind == 8 && x.avail != 0 | none => false)

/-- STORAGE_COMMAND_ARRIVAL at queue q, into free context ctx: `entry` is the submission queue entry or the 16 B request
header, `chain` the descriptors of a virtio request, as fetched. -/
def execStorageCommandArrival (dt f q ctx : Nat) (entry : HostRead) (chain : List (Nat × Nat × Bool)) (s : State) : Out :=
  work dt s (fun t => t.alive && decide (ctx < 65536) && (lookup? t.stg.cmds ctx).isNone && t.mayAnswer f entry
      && ((t.nvmeFetch f q && !(q == 0 && [0x00, 0x01, 0x04, 0x05].contains (sqeOp (entry.bytes.getD [255]))))
          || (t.vblkFetch f q && !chain.isEmpty))) fun t =>
    if t.persona f == 3 then
      t.stgFetch f q (t.sqFront f q) 64 entry fun u b => (u.sqTake f q).stgArrive f q ctx b chain
    else t.stgFetch f q (chain.headD (0, 0, false)).1 16 entry fun u b =>
      match u.qp? f q with
      | some x => (u.setQp f q { x with taken := (x.taken + 1) % 2 ^ 32, cons := (x.cons + 1) % 2 ^ 32 }).stgArrive f q ctx
          b chain
      | none => u

/-! ### PERSONA_SVC descriptors (Table 12-12) -/

def psAddr (d : Bytes) : Nat := leWord d 0
def psTag (d : Bytes) : Nat := fld (leWord d 1) 0 32
def psUnitOff (d : Bytes) : Nat := fld (leWord d 1) 32 32
def psUnits (d : Bytes) : Nat := fld (leWord d 2) 0 16
def psDir (d : Bytes) : Bool := bit (leWord d 2) 16
def psFormat (d : Bytes) : Nat := fld (leWord d 2) 17 4
def psPiChk (d : Bytes) : Nat := fld (leWord d 2) 21 3
def psXts (d : Bytes) : Bool := bit (leWord d 2) 24
def psRefTag (d : Bytes) : Nat := fld (leWord d 2) 32 32
def psOp (d : Bytes) : Nat := fld (leWord d 3) 0 4
def psAppTag (d : Bytes) : Nat := fld (leWord d 3) 16 16
def psCookie (d : Bytes) : Nat := fld (leWord d 3) 32 32

/-- A field that the operation does not use, or a reserved bit, is set, or the operation is none (R380). -/
def psBad (d : Bytes) : Bool :=
  fld (leWord d 3) 4 12 != 0 || (match psOp d with
    | 1 => leWord d 1 != 0 || leWord d 2 != 0 || psAppTag d != 0
    | 2 => fld (leWord d 2) 25 7 != 0
    | 3 => fld (leWord d 0) 32 32 != 0 || fld (leWord d 1) 48 16 != 0 || leWord d 2 != 0 || psAppTag d != 0
    | _ => true)

/-- PC_KIND of a descriptor's completion; of an unknown operation it is not stated. -/
def State.psKind (s : State) (d : Bytes) : Nat × State :=
  match psOp d with
  | 1 => (2, s)
  | 2 => (3, s)
  | 3 => (4, s)
  | _ => s.fresh 4

/-- The descriptor in front of a ring completes without effect. -/
def State.psFail (s : State) (f q : Nat) (d : Bytes) (status : Nat) : State :=
  let k := s.psKind d
  let s1 := { k.2 with stg := { k.2.stg with xfer := dissoc k.2.stg.xfer (qpKey f q) } }
  (s1.unhold (qpKey f q)).jobDone f q
    (pcEntry (psCookie d) status k.1 0 (if psOp d == 1 then 0 else psTag d) 0)

/-- The command that a tag stands for, held by core software behind this ring. -/
def State.stgCmd? (s : State) (ring tag : Nat) : Option StgCmd :=
  match lookup? s.stg.cmds (tag % 65536) with
  | some c => if c.gen == tag / 65536 && c.svc == ring && c.passed then some c else none
  | none => none

/-- A POST: its buffer waits for a command, or takes the one that waits longest (R379). -/
def State.psPost (s : State) (f q : Nat) (x : Qp) (d : Bytes) : State :=
  if psAddr d % 64 != 0 then s.psFail f q d 2
  else if !s.inApp (psAddr d) 128 then s.psFail f q d 3
  else
    let k := qpKey f q
    let s1 := s.setQp f q { x with taken := (x.taken + 1) % 2 ^ 32, cons := (x.cons + 1) % 2 ^ 32 }
    let s2 := { s1 with stg := { s1.stg with
      posts := assoc s1.stg.posts k (lookupD s1.stg.posts k [] ++ [(psAddr d, psCookie d)]) } }
    match s2.stg.waiting.findSome? fun w => (lookup? s2.stg.cmds w).bind fun c => if c.svc == k then some (w, c) else none with
    | some (w, c) => s2.stgPass w c
    | none => s2

/-- A successful Set Features for Interrupt Coalescing sets the moderation of the I/O queues (R377). -/
def State.nvCoalesce (s : State) (c : StgCmd) (status : Nat) : State :=
  let e := slice c.record 32 64
  if s.persona c.fid == 3 && c.queue == 0 && status == 0 && sqeOp e == 0x09 && fld (sqeDw e 10) 0 8 == 0x08 then
    let s1 := s.setNvme c.fid { s.nvme c.fid with thr := fld (sqeDw e 11) 0 8, time := fld (sqeDw e 11) 8 8 }
    (s1.stg.cq.filter fun x => x.1 / 65536 == c.fid).foldl (fun a x =>
      match a.qp? c.fid (x.1 % 65536) with
      | some y => a.nvPair c.fid (x.1 % 65536) y.vec (bit y.ctrl 28)
      | none => a) s1
  else s

/-- A RESPOND: the host's completion is written and the tag released (R381). -/
def State.psRespond (s : State) (f q : Nat) (d : Bytes) : State :=
  match s.stgCmd? (qpKey f q) (psTag d) with
  | none => s.psFail f q d 2
  | some c =>
    let nv := s.persona c.fid == 3
    let status := fld (leWord d 1) 32 16
    if status ≥ (if nv then 2 ^ 15 else 2 ^ 8) then (s.bump Obj.STG_DESC_BAD).psFail f q d 2
    else
      let s1 := s.stgFree (psTag d % 65536)
      let s2 := if nv then (s1.nvCoalesce c status).nvmeAnswer c.fid c.queue (recordCid c.record) (psAddr d) status
        else s1.virtioAnswer c.fid c.queue c.chain (psAddr d) status
      s2.jobDone f q (pcEntry (psCookie d) 0 4 0 (psTag d) 0)

/-! ### Format entries (Table 12-15) -/

/-- Word w of format entry n of a core-side function. -/
def State.fmWord (s : State) (f n w : Nat) : Nat := lookupD (s.fn f).page (0x1400 + 128 * n + 8 * w) 0

structure Fmt where
  unit : Nat
  pi : Nat
  guard64 : Bool
  first : Bool
  hostMd : Nat
  separate : Bool
  appMd : Nat
  mask : Nat
  slot : Nat
  label : Bytes
  xts512 : Bool
  deriving DecidableEq, Repr

def Fmt.piSize (m : Fmt) : Nat := if m.guard64 then 16 else 8
/-- Host metadata that lies between the units. -/
def Fmt.inline (m : Fmt) : Nat := if m.separate then 0 else m.hostMd
def Fmt.hostPi (m : Fmt) : Bool := m.pi != 0 && m.hostMd != 0
def Fmt.appPi (m : Fmt) : Bool := m.pi != 0 && m.appMd != 0

/-- Format entry n; none where it is invalid or inconsistent (R382). -/
def State.format (s : State) (f n : Nat) : Option Fmt :=
  let w := s.fmWord f n 0
  let m : Fmt := {
    unit := if bit w 1 then 4096 else 512, pi := fld w 2 2, guard64 := bit w 4, first := bit w 5, hostMd := fld w 6 7,
    separate := bit w 13, appMd := fld w 14 7, mask := fld w 21 16, slot := fld w 38 13,
    label := ((List.range 8).flatMap fun i => toLe 8 (s.fmWord f n (8 + i))).take (fld w 51 7), xts512 := bit w 58 }
  let small := fun z => z != 0 && z < m.piSize
  let sizes := [0, 8, 16, 64]
  if !bit w 0 || bit w 37 || fld w 59 5 != 0 || 64 < fld w 51 7 || !sizes.contains m.hostMd || !sizes.contains m.appMd
      || (List.range 7).any (fun i => s.fmWord f n (i + 1) != 0)
      || (m.pi != 0 && (small m.hostMd || small m.appMd || (m.hostMd == 0 && m.appMd == 0))) then none
  else some m

/-! ### Protection information (R383, R384) -/

/-- T10 CRC, polynomial 0x8BB7. -/
def crcT10 (bs : Bytes) : Nat :=
  bs.foldl (fun c b => (List.range 8).foldl (fun c _ => if c ≥ 2 ^ 15 then (2 * c - 2 ^ 16) ^^^ 0x8BB7 else 2 * c)
    (c ^^^ (b.toNat * 256))) 0

/-- NVMe CRC-64. -/
def crcNvme64 (bs : Bytes) : Nat :=
  (bs.foldl (crcByte 0x9A6C9329AC4BC9B5) (2 ^ 64 - 1)) ^^^ (2 ^ 64 - 1)

/-- Place of the protection information in n bytes of metadata. -/
def Fmt.piAt (m : Fmt) (n : Nat) : Nat := if m.first then 0 else n - m.piSize

/-- Guard over the data and the metadata before the protection information. -/
def Fmt.guard (m : Fmt) (data md : Bytes) : Nat :=
  let bs := data ++ md.take (m.piAt md.length)
  if m.guard64 then crcNvme64 bs else crcT10 bs

/-- Protection information of a unit. -/
def Fmt.makePi (m : Fmt) (guard app ref : Nat) : Bytes :=
  if m.guard64 then toBe 8 guard ++ toBe 2 app ++ toBe 6 ref else toBe 2 guard ++ toBe 2 app ++ toBe 4 ref

/-- Check of a unit (R384): 0 no error, 1 guard, 2 application tag, 3 reference tag; the tags that switch a check off are
those of NVMe. -/
def Fmt.check (m : Fmt) (chk app ref : Nat) (data md : Bytes) : Nat :=
  let p := slice md (m.piAt md.length) m.piSize
  let g := m.piSize - (if m.guard64 then 8 else 6)
  let guard := beNat (p.take g)
  let appTag := beNat (slice p g 2)
  let refTag := beNat (p.drop (g + 2))
  let ones := if m.guard64 then 2 ^ 48 - 1 else 2 ^ 32 - 1
  let off := appTag == 0xFFFF && (m.pi != 3 || refTag == ones)
  if off then 0
  else if bit chk 0 && guard != m.guard data md then 1
  else if bit chk 1 && (appTag &&& m.mask) != (app &&& m.mask) then 2
  else if bit chk 2 && refTag != ref then 3 else 0

/-- n bytes whose value the manual leaves open. -/
def State.freshBytes (s : State) (n : Nat) : Bytes × State :=
  if n == 0 then ([], s) else let v := s.fresh (8 * n); (toLe n v.1, v.2)

/-- Metadata of n bytes made from metadata of another size: the protection information is carried, the rest is not
stated. -/
def Fmt.mapMd (m : Fmt) (n : Nat) (src : Bytes) (s : State) : Bytes × State :=
  if n == src.length then (src, s)
  else
    let v := s.freshBytes n
    if m.pi != 0 && src.length != 0 && n != 0 then
      (splice v.1 (m.piAt n) (slice src (m.piAt src.length) m.piSize), v.2)
    else v

/-! ### Walking the data description (R381) -/

/-- Bytes of host memory as it returned them; none where a fetch failed. -/
def hostBytes (mem : List (Nat × Bytes)) (addr n : Nat) : Option Bytes :=
  if n == 0 then some []
  else (mem.find? fun p => p.1 ≤ addr && addr + n ≤ p.1 + p.2.length).map fun p => slice p.2 (addr - p.1) n

/-- A walk: data segments and the accesses made on the way, or the status that the XFER completes with. -/
abbrev Walk := Except Nat (List (Nat × Nat) × List Access)

/-- Pages named by a list of PRP entries; `n` bytes are left. -/
def prpList (mem : List (Nat × Bytes)) (page : Nat) : Nat → Nat → Nat → Walk
  | 0, _, _ => .error 2
  | fuel + 1, ptr, n =>
    let room := (page - ptr % page) / 8
    let need := (n + page - 1) / page
    let k := Nat.min room need
    if ptr % 8 != 0 then .error 2
    else match hostBytes mem ptr (8 * k) with
      | none => .error 3
      | some bs =>
        let es := (List.range k).map fun i => leWord bs i
        if es.any fun e => e % page != 0 then .error 2
        else if need ≤ room then .ok (es.zipIdx.map fun e => (e.1, Nat.min page (n - page * e.2)), [(ptr, 8 * k, false)])
        else match prpList mem page fuel (es.getD (k - 1) 0) (n - page * (k - 1)) with
          | .error e => .error e
          | .ok r => .ok ((es.take (k - 1)).map (fun e => (e, page)) ++ r.1, (ptr, 8 * k, false) :: r.2)

/-- PRP entries of a command that describes n bytes. -/
def prpWalk (mem : List (Nat × Bytes)) (page prp1 prp2 n : Nat) : Walk :=
  let a := Nat.min n (page - prp1 % page)
  if prp1 % 4 != 0 then .error 2
  else if n ≤ a then .ok ([(prp1, n)], [])
  else if n - a ≤ page then (if prp2 % page != 0 then .error 2 else .ok ([(prp1, a), (prp2, n - a)], []))
  else match prpList mem page ((n - a) / page + 2) prp2 (n - a) with
    | .error e => .error e
    | .ok r => .ok ((prp1, a) :: r.1, r.2)

/-- Data Block descriptors of a list. -/
def sglBlocks : List Bytes → Except Nat (List (Nat × Nat))
  | [] => .ok []
  | d :: t =>
    let ty := (d.getD 15 0).toNat
    if ty / 16 == 4 then .error 10
    else if ty != 0 then .error 2
    else match sglBlocks t with
      | .error e => .error e
      | .ok r => .ok ((leNat (d.take 8), leNat (slice d 8 4)) :: r)

/-- An SGL from a descriptor on; at most 64 segments. -/
def sglWalk (mem : List (Nat × Bytes)) : Nat → Bytes → Walk
  | fuel, d =>
    let ty := (d.getD 15 0).toNat
    let addr := leNat (d.take 8)
    let len := leNat (slice d 8 4)
    if ty / 16 == 4 then .error 10
    else if ty == 0 then .ok ([(addr, len)], [])
    else if (ty != 0x20 && ty != 0x30) || len == 0 || len % 16 != 0 then .error 2
    else match fuel with
      | 0 => .error 2
      | fuel + 1 =>
        match hostBytes mem addr len with
        | none => .error 3
        | some bs =>
          let ds := parts 16 bs
          if ty == 0x30 then
            (match sglBlocks ds with
             | .error e => .error e
             | .ok r => .ok (r, [(addr, len, false)]))
          else match sglBlocks ds.dropLast, sglWalk mem fuel (ds.getLast?.getD []) with
            | .error e, _ => .error e
            | _, .error e => .error e
            | .ok r, .ok r' =>
              if ((ds.getLast?.getD []).getD 15 0).toNat == 0 then .error 2 else .ok (r ++ r'.1, (addr, len, false) :: r'.2)

/-- Segments from byte `off` on, n bytes; none where they are shorter. -/
def subSegs : List (Nat × Nat) → Nat → Nat → Option (List (Nat × Nat))
  | _, _, 0 => some []
  | [], _, _ => none
  | (a, l) :: t, off, n =>
    if l ≤ off then subSegs t (off - l) n
    else
      let k := Nat.min n (l - off)
      (subSegs t 0 (n - k)).map fun r => (a + off, k) :: r

/-- Data part of a virtio chain: what follows the 16 B header, or what precedes the status byte. -/
def chainSegs (chain : List (Nat × Nat × Bool)) (toHost : Bool) : Option (List (Nat × Nat)) :=
  let segs := (chain.filter fun d => d.2.2 == toHost).map fun d => (d.1, d.2.1)
  let total := sumBy (fun d => d.2) segs
  if 1024 < chain.length then none
  else if toHost then subSegs segs 0 (total - 1)
  else if total < 16 then none else subSegs segs 16 (total - 16)

/-- Units that an NVMe read, write or compare names; none for another command. -/
def nlb (c : StgCmd) : Option Nat :=
  let e := slice c.record 32 64
  if c.queue != 0 && [0x01, 0x02, 0x05].contains (sqeOp e) then some (fld (sqeDw e 12) 0 16 + 1) else none

/-- The segments that an XFER moves: the description walked and cut to the units asked for. -/
def State.walk (s : State) (c : StgCmd) (m : Fmt) (d : Bytes) (mem : List (Nat × Bytes)) : Walk :=
  let e := slice c.record 32 64
  let per := m.unit + m.inline
  let upTo := psUnitOff d + psUnits d
  let cut := fun (segs : List (Nat × Nat)) (rs : List Access) =>
    match subSegs segs (psUnitOff d * per) (psUnits d * per) with
    | some r => (Except.ok (r, rs) : Walk)
    | none => .error 2
  if s.persona c.fid == 3 then
    match fld (e.getD 1 0).toNat 6 2 with
    | 0 =>
      let n := (nlb c).getD upTo
      if n < upTo then .error 2
      else match prpWalk mem (s.nvme c.fid).page (sqePrp1 e) (sqePrp2 e) (n * per) with
        | .error x => .error x
        | .ok r => cut r.1 r.2
    | 1 => match sglWalk mem 64 (slice e 24 16) with
      | .error x => .error x
      | .ok r => cut r.1 r.2
    | 2 => .error 10
    | _ => .error 2
  else if m.separate && m.hostMd != 0 then .error 2
  else match chainSegs c.chain (psDir d) with
    | some segs => cut segs []
    | none => .error 2

/-! ### XFER (R381 to R384) -/

/-- First data unit of the command's LBA range. -/
def State.startLba (s : State) (c : StgCmd) (m : Fmt) : Nat :=
  let e := slice c.record 32 64
  if s.persona c.fid == 3 then leNat (slice e 40 8) else leNat (slice e 8 8) * 512 / m.unit

/-- What an XFER works with. -/
structure Xf where
  m : Fmt
  d : Bytes
  lba : Nat
  key : Option Bytes
  /-- first unit that failed a check, and how -/
  bad : Option (Nat × Nat)

def Xf.ref (x : Xf) (k : Nat) : Nat := if x.m.pi == 3 then psRefTag x.d else (psRefTag x.d + k) % 2 ^ 32

/-- The data of unit k under XTS, where the XFER asks for it. -/
def Xf.crypt (x : Xf) (dec : Bool) (k : Nat) (data : Bytes) : Bytes :=
  match x.key with
  | some key => bytesOf (xts dec (natsOf key) (natsOf data) x.m.unit (x.lba + psUnitOff x.d + k))
  | none => data

/-- The check of unit k. -/
def Xf.check (x : Xf) (k : Nat) (data md : Bytes) : Xf :=
  match x.bad, x.m.check (psPiChk x.d) (psAppTag x.d) (x.ref k) data md with
  | none, n + 1 => { x with bad := some (k, n + 1) }
  | _, _ => x

/-- Unit k from host to application memory: data and metadata as they are written. -/
def Xf.toApp (x : Xf) (k : Nat) (data md : Bytes) (s : State) : Xf × Bytes × State :=
  let m := x.m
  let x1 := if m.hostPi then x.check k data md else x
  let v := m.mapMd m.appMd md s
  let md1 := if m.appPi && !m.hostPi then
      splice v.1 (m.piAt m.appMd) (m.makePi (m.guard data v.1) (psAppTag x.d) (x.ref k)) else v.1
  (x1, x.crypt false k data ++ md1, v.2)

/-- Unit k from application memory to the host: its data, and its metadata. -/
def Xf.toHost (x : Xf) (k : Nat) (data md : Bytes) (s : State) : Xf × (Bytes × Bytes) × State :=
  let plain := x.crypt true k data
  let x1 := if x.m.appPi then x.check k plain md else x
  let v := x.m.mapMd x.m.hostMd md s
  (x1, (plain, v.1), v.2)

/-- Data scattered over segments. -/
def State.scatter (s : State) (f : Nat) : List (Nat × Nat) → Bytes → State
  | [], _ => s
  | (a, n) :: t, bs =>
    (s.jobWrite f { ro := false, ido := false, pasid := none, tph := none } a (bs.take n)).scatter f t (bs.drop n)

/-- The units of an XFER from the host, in order. -/
def unitsToApp (n : Nat) (host md : Bytes) (x : Xf) (s : State) : Xf × Bytes × State :=
  let m := x.m
  let per := m.unit + m.inline
  (List.range n).foldl (fun (a : Xf × Bytes × State) k =>
    let u := slice host (per * k) per
    let mdk := if m.separate then slice md (m.hostMd * k) m.hostMd else u.drop m.unit
    let r := a.1.toApp k (u.take m.unit) mdk a.2.2
    (r.1, a.2.1 ++ r.2.1, r.2.2)) (x, [], s)

/-- The units of an XFER to the host, in order: the bytes of the data description, and of the metadata buffer. -/
def unitsToHost (n : Nat) (app : Bytes) (x : Xf) (s : State) : Xf × (Bytes × Bytes) × State :=
  let m := x.m
  let per := m.unit + m.appMd
  (List.range n).foldl (fun (a : Xf × (Bytes × Bytes) × State) k =>
    let u := slice app (per * k) per
    let r := a.1.toHost k (u.take m.unit) (u.drop m.unit) a.2.2
    (r.1, (if m.separate then (a.2.1.1 ++ r.2.1.1, a.2.1.2 ++ r.2.1.2) else (a.2.1.1 ++ r.2.1.1 ++ r.2.1.2, [])), r.2.2))
    (x, ([], []), s)

/-- An XFER has moved its units. -/
def State.xferDone (s : State) (f q : Nat) (x : Xf) : State :=
  let s1 := { s with stg := { s.stg with xfer := dissoc s.stg.xfer (qpKey f q) } }
  let s2 := (s1.unhold (qpKey f q)).bumpN Obj.STG_PI_ERRORS (if x.bad.isSome then 1 else 0)
  let r := match x.bad with
    | some (k, e) => (e, k)
    | none => (0, psUnits x.d)
  s2.jobDone f q (pcEntry (psCookie x.d) 0 3 r.1 (psTag x.d) r.2)

/-- The move itself: description walked, translations there. -/
def State.xferMove (s : State) (f q : Nat) (c : StgCmd) (x : Xf) (segs : List (Nat × Nat)) (mptr : Nat)
    (mem : List (Nat × Bytes)) : State :=
  let m := x.m
  let n := psUnits x.d
  let mdLen := if m.separate then n * m.hostMd else 0
  let appLen := n * (m.unit + m.appMd)
  if !s.inApp (psAddr x.d) appLen then s.psFail f q x.d 3
  else if psDir x.d then
    match s.appRead (psAddr x.d) appLen with
    | none => s.psFail f q x.d 3
    | some app =>
      let r := unitsToHost n app x s
      let s1 := (r.2.2.scatter c.fid segs r.2.1.1).scatter c.fid [(mptr, mdLen)] r.2.1.2
      s1.xferDone f q r.1
  else match segs.mapM (fun g => hostBytes mem g.1 g.2), hostBytes mem mptr mdLen with
    | some hs, some md =>
      let r := unitsToApp n hs.flatten md x s
      (r.2.2.appWrite (psAddr x.d) r.2.1).xferDone f q r.1
    | _, _ => s.psFail f q x.d 3

/-- An XFER waits for the host: its tag, and its key, are kept. -/
def State.xferWait (s : State) (f q : Nat) (d : Bytes) (m : Fmt) (key : Option Bytes) : State :=
  let s1 := { s with stg := { s.stg with xfer := assoc s.stg.xfer (qpKey f q) (psTag d, psCookie d) } }
  match key with
  | some k => s1.holdKey (qpKey f q) m.slot k
  | none => s1

/-- An XFER whose key, if any, is known. -/
def State.xferRun (s : State) (f q : Nat) (c : StgCmd) (m : Fmt) (d : Bytes) (key : Option Bytes) (mem : List (Nat × Bytes))
    (fail : Option ReadFail) : State :=
  match s.walk c m d mem with
  | .error e => s.psFail f q d e
  | .ok (segs, lists) =>
    let mptr := sqeMptr (slice c.record 32 64) + m.hostMd * psUnitOff d
    let md := if m.separate then [(mptr, psUnits d * m.hostMd, psDir d)] else []
    let as := lists ++ segs.map (fun g => (g.1, g.2, psDir d)) ++ md
    match s.qp? c.fid c.queue with
    | none => s.psFail f q d 2
    | some y =>
      if y.page.isSome || !s.mayRead c.fid || !s.tagReady c.fid
          || (fail == some .timeout && (s.fn c.fid).cto.isNone) then s.xferWait f q d m key
      else match s.jobAccess c.fid c.queue y as with
        | .wait s1 => s1.xferWait f q d m key
        | .fail => (s.setQp c.fid c.queue { y with fail := false }).psFail f q d 3
        | .go =>
          let s1 := (as.filter fun a => !a.2.2).foldl (fun a x => a.fetchTlp c.fid (a.ringAttr c.fid y) x.1 x.2.1) s
          match fail with
          | some w => (s1.readFails c.fid w).psFail f q d 3
          | none => s1.xferMove f q c { m := m, d := d, lba := s1.startLba c m, key := key, bad := none } segs mptr mem

/-- An XFER: tag, format entry, a free lookaside engine and the key where it asks for XTS (R383), then the move. -/
def State.psXfer (s : State) (f q : Nat) (d : Bytes) (mem : List (Nat × Bytes)) (fail : Option ReadFail) : State :=
  match s.stgCmd? (qpKey f q) (psTag d), s.format f (psFormat d) with
  | some c, some m =>
    if psUnits d == 0 then s.psFail f q d 2
    else if !psXts d then s.xferRun f q c m d none mem fail
    else if s.laEngine.isNone then s
    else match s.ringKey (qpKey f q) m.slot (if m.xts512 then 6 else 5) m.label with
      | .key k s1 => (s1.useEngine 5 (psUnits d * m.unit)).2.xferRun f q c m d (some k) mem fail
      | .revoking => s.psFail f q d 7
      | .empty | .bad => s.psFail f q d 2
  | _, _ => s.psFail f q d 2

/-! ### The rows -/

/-- The descriptor in front of a PERSONA_SVC ring names operation `op`; a ring outside application memory and codes that name
none are met by POST. -/
def psIs (op : Nat) (d : Option Bytes) : Bool :=
  match d with
  | none => op == 1
  | some d => psOp d == op || (op == 1 && (psOp d == 0 || 3 < psOp d))

/-- A command that takes up the descriptor in front of a PERSONA_SVC ring. -/
def psCmd (op dt f q : Nat) (s : State) (act : State → Qp → Bytes → State) : Out :=
  work dt s (fun t => t.alive && t.jobReady f q 7
      && (match t.qp? f q with | some x => psIs op (t.jobDesc f x (.data [])) | none => false)) fun t =>
    match t.qp? f q with
    | none => t
    | some x => match t.jobDesc f x (.data []) with
      | none => t.jobDone f q (pcEntry 0 3 2 0 0 0)
      | some d => if psBad d then (t.bump Obj.STG_DESC_BAD).psFail f q d 2 else act t x d

/-- POST. -/
def execPost (dt f q : Nat) (s : State) : Out := psCmd 1 dt f q s fun t x d => t.psPost f q x d
/-- XFER; `mem`: what the host's memory returns, `fail`: how one of its reads fails. -/
def execXfer (dt f q : Nat) (mem : List (Nat × Bytes)) (fail : Option ReadFail) (s : State) : Out :=
  psCmd 2 dt f q s fun t _ d => t.psXfer f q d mem fail
/-- RESPOND. -/
def execRespond (dt f q : Nat) (s : State) : Out := psCmd 3 dt f q s fun t _ d => t.psRespond f q d

end Sys2Proof.Machine
end

