-- ==== Sys2Proof/Machine/Mmio.lean ====
section
/-!
DEFINITION. Function registers that have no command of their own: MMIO_WRITE, and what a function's register page reads
(spec/10 R291 to R294, spec/11 R329, spec/12 R377 and R382, spec/13 Table 13-1). NVMe and virtio registers are those of their
standards (log entry 21); controls of configuration space are named by a number of the model's own (log entry 25).
-/

namespace Sys2Proof.Machine

/-- An 8 B register with a write of 4 or 8 B at an offset. -/
def mergeReg (old off size val : Nat) : Nat :=
  if size == 8 then val % 2 ^ 64 else setFld old (8 * (off % 8)) 32 val

/-- A 4 B register with what an aligned write of 4 or 8 B at `off` holds for it at `reg`. -/
def part4 (reg off val : Nat) : Nat := fld val (8 * (reg - off)) 32

/-! ### The register page (Table 11-4) -/

/-- The function is the controlling function of a port, which has the migration registers. -/
def State.isMigCtl (s : State) (f : Nat) : Bool := s.migCtl 0 == f || s.migCtl 1 == f

/-- A write of a register of the register page; none where the offset is reserved. Command registers act as the rows of their
commands do. -/
def State.regWrite (s : State) (f off size val : Nat) : Option State :=
  let x := s.fn f
  let m := fun (old : Nat) => mergeReg old off size val
  match off / 8 * 8 with
  | 0x000 | 0x008 | 0x010 | 0x138 | 0x140 | 0x148 => some s
  | 0x018 => if coreFid f && m 0 == 1 then some (s.squash f) else none
  | 0x020 => if f % 8192 == 0 then some (s.release (fidPort f) (m 0)).2 else none
  | 0x130 => some (if off % 8 == 0 then s.qpcRun f (m 0) else s)
  | 0x100 => some (s.setFn f { x with qpcSel := m x.qpcSel % 2 ^ 16 })
  | 0x108 => some (s.setFn f { x with qpcCtrl := m x.qpcCtrl })
  | 0x110 => some (s.setFn f { x with qpcSq := m x.qpcSq })
  | 0x118 => some (s.setFn f { x with qpcCq := m x.qpcCq })
  | 0x120 => some (s.setFn f { x with qpcHead := m x.qpcHead })
  | 0x128 => some (s.setFn f { x with qpcAux := m x.qpcAux })
  | 0x200 => if s.isMigCtl f then some (s.setFn f { x with migFid := m x.migFid % 2 ^ 14 }) else none
  | 0x208 => if s.isMigCtl f then some (s.setFn f { x with migArg0 := m x.migArg0 }) else none
  | 0x210 => if s.isMigCtl f then some (s.setFn f { x with migArg1 := m x.migArg1 }) else none
  | 0x218 => if !s.isMigCtl f then none else some (if off % 8 == 0 then s.migCode f (m 0) else s)
  | 0x220 => if s.isMigCtl f then some s else none
  | _ => none

/-- 8 B of the register page, read; 0 at a reserved offset and where a register is write-only. -/
def State.regRead (s : State) (f off : Nat) : Nat :=
  let x := s.fn f
  let mig := fun (v : Nat) => if s.isMigCtl f then v else 0
  match off / 8 * 8 with
  | 0x000 => f + s.persona f * 2 ^ 16 + 2 ^ 32 + 0x9640 * 2 ^ 48
  | 0x008 => b2n (x.reset != 0) + 2 * b2n x.held + 4 * b2n (!coreFid f && s.frozen (fidPort f)) + 8 * b2n x.logOn
  | 0x010 => s.qpCount f + (s.fnCfg Obj.FN_VECTORS f - 1) * 2 ^ 17 + (s.qpsOf f).length * 2 ^ 32
  | 0x100 => x.qpcSel
  | 0x108 => x.qpcCtrl
  | 0x110 => x.qpcSq
  | 0x118 => x.qpcCq
  | 0x120 => x.qpcHead
  | 0x128 => x.qpcAux
  | 0x138 => x.qpcStatus
  | 0x140 => x.qpcSqIndex
  | 0x148 => x.qpcCqIndex
  | 0x200 => mig x.migFid
  | 0x208 => mig x.migArg0
  | 0x210 => mig x.migArg1
  | 0x220 => mig x.migStatus
  | _ => 0

/-- A write in the steering table, at an offset in it: [30:16] of an entry are reserved (R329). -/
def State.steerWrite (s : State) (f off size val : Nat) : State :=
  let put := fun (st : State) (o v : Nat) =>
    st.setFn f { st.fn f with steer := assoc (st.fn f).steer (o / 4) (setFld v 16 15 0) }
  let s1 := put s off (val % 2 ^ 32)
  if size == 8 then put s1 (off + 4) (fld val 32 32) else s1

/-- 8 B of a core-side function's page at an offset (R329); doorbells read 0 (R294). -/
def State.coreRead (s : State) (f off : Nat) : Nat :=
  let x := s.fn f
  if off < 0x1000 then s.regRead f off
  else if off < 0x1200 then
    let n := (off - 0x1000) / 8 * 2
    lookupD x.steer n 0 + lookupD x.steer (n + 1) 0 * 2 ^ 32
  else if 0x1400 ≤ off && off < 0x1C00 then lookupD x.page (off / 8 * 8) 0
  else if 0x4000 ≤ off && off < 0x8000 && (off - 0x4000) / 8 < s.fnCfg Obj.FN_VECTORS f then x.coreEntry ((off - 0x4000) / 8)
  else 0

/-! ### virtio (R324, R329) -/

/-- Features that a virtio function offers (Table 11-3; numbers of virtio 1.2, log entry 21). -/
def State.vioOffers (s : State) (f : Nat) : List Nat := if s.persona f == 1 then [5, 3, 22, 32, 33, 34, 35] else [6, 9, 12, 32, 33, 34]

/-- Word n of the offered features. -/
def State.vioOffer (s : State) (f n : Nat) : Nat :=
  (s.vioOffers f).foldl (fun a b => if b / 32 == n then setFld a (b % 32) 1 1 else a) 0

/-- The driver has accepted nothing that is not offered. -/
def State.vioAgreed (s : State) (f : Nat) : Bool :=
  [0, 1].all fun n => s.vio f 0 (vioFeat n) &&& s.vioOffer f n == s.vio f 0 (vioFeat n)

def State.setVio (s : State) (f q reg v : Nat) : State :=
  s.setFn f { s.fn f with page := assoc (s.fn f).page (vioKey q reg) v }

/-- Virtqueue that queue_select names. -/
def State.vioQ (s : State) (f : Nat) : Nat := s.vio f 0 22

/-- An 8 B address of the selected queue. -/
def State.vioAddr (s : State) (f q reg : Nat) : Nat := s.vio f q reg + s.vio f q (reg + 4) * 2 ^ 32

/-- queue_enable: the virtqueue's pair of the pool (R324). A queue's vector 0xFFFF means none. -/
def State.vioEnable (s : State) (f q : Nat) : State :=
  let vec := s.vio f (q + 1) 26
  let size := s.vio f (q + 1) 24
  if s.qpCount f ≤ q || (s.qp? f q).isSome then s
  else
    let ctrl := 8 + Nat.log2 size * 2 ^ 4 + (if vec < s.fnCfg Obj.FN_VECTORS f then vec * 2 ^ 16 + 2 ^ 28 else 0)
    s.setQp f q (Qp.fresh ctrl (s.vioAddr f (q + 1) 32) (s.vioAddr f (q + 1) 48) (s.vioAddr f (q + 1) 40) 0)

/-- A device reset by the driver: queues and registers are gone, commands cancelled. -/
def State.vioReset (s : State) (f : Nat) : State :=
  let s1 := s.stgSquashHost f
  let s2 : State := { s1 with hs := { s1.hs with qp := s1.hs.qp.filter fun q => q.1 / 65536 != f } }
  s2.setFn f { s2.fn f with page := [] }

/-- Writable registers of the common configuration: offset, bytes, whether each virtqueue has its own. -/
def vioRegs : List (Nat × Nat × Bool) :=
  [(0, 4, false), (8, 4, false), (12, 4, false), (16, 2, false), (20, 1, false), (22, 2, false), (24, 2, true), (26, 2, true),
    (28, 2, true), (32, 4, true), (36, 4, true), (40, 4, true), (44, 4, true), (48, 4, true), (52, 4, true)]

/-- One register of the common configuration is written: the driver's features word by word as driver_feature_select says;
FEATURES_OK stays clear where the driver accepts what is not offered. -/
def State.vioSet (s : State) (f reg : Nat) (own : Bool) (v : Nat) : State :=
  let q := s.vioQ f
  if reg == 12 then (if s.vio f 0 8 < 2 then s.setVio f 0 (vioFeat (s.vio f 0 8)) v else s)
  else
  let s1 := s.setVio f (if own then q + 1 else 0) reg v
  if reg == 20 && v == 0 then s.vioReset f
  else if reg == 20 && bit v 3 && !s.vioAgreed f then s.setVio f 0 20 (setFld v 3 1 0)
  else if reg == 28 then (if v == 1 then s1.vioEnable f q else s)
  else s1

/-- 4 B of the common configuration, read. The largest queue size is not stated (Config.standardReg). -/
def State.vioWord (s : State) (f off : Nat) : Nat :=
  let q := s.vioQ f
  let own := fun (reg : Nat) => s.vio f (q + 1) reg
  match off with
  | 4 => s.vioOffer f (s.vio f 0 0)
  | 12 => if s.vio f 0 8 < 2 then s.vio f 0 (vioFeat (s.vio f 0 8)) else 0
  | 16 => s.vio f 0 16 + s.qpCount f * 2 ^ 16
  | 20 => s.vio f 0 20 + q * 2 ^ 16
  | 24 => (if own 24 == 0 then Config.standardReg f 24 % 2 ^ 16 else own 24) + own 26 * 2 ^ 16
  | 28 => own 28 + q * 2 ^ 16
  | 0 | 8 => s.vio f 0 off
  | 32 | 36 | 40 | 44 | 48 | 52 => own off
  | _ => 0

/-- Byte of the device configuration of a virtio function; max_virtqueue_pairs of VNET and num_queues of VBLK follow from the
queue count, the rest is not stated (Config.standardReg). -/
def State.vioDevByte (s : State) (f off : Nat) : Nat :=
  let n := if s.persona f == 1 then s.qpCount f / 2 else s.qpCount f
  let at_ := if s.persona f == 1 then 8 else 34
  if off == at_ then n % 256 else if off == at_ + 1 then n / 256 % 256 else Config.standardReg f (0x3000 + off) % 256

/-- 8 B of the persona page of a host function at an aligned offset in it, read. -/
def State.personaRead (s : State) (f off : Nat) : Nat :=
  if s.persona f == 0 then
    (if off < 0x200 then lookupD (s.fn f).steer (off / 4) 0 + lookupD (s.fn f).steer (off / 4 + 1) 0 * 2 ^ 32 else 0)
  else if off < 0x40 then s.vioWord f off + s.vioWord f (off + 4) * 2 ^ 32
  else if off == 0x2000 then (s.fn f).isr
  else if 0x3000 ≤ off && off < 0x3040 then leNat ((List.range 8).map fun i => BitVec.ofNat 8 (s.vioDevByte f (off - 0x3000 + i)))
  else 0

/-- A write of 4 or 8 B in the common configuration: the registers that it covers, in order. -/
def State.vioWrite (s : State) (f off size val : Nat) : State :=
  (vioRegs.filter fun r => off ≤ r.1 && r.1 + r.2.1 ≤ off + size).foldl
    (fun a r => a.vioSet f r.1 r.2.2 (fld val (8 * (r.1 - off)) (8 * r.2.1))) s

/-- Buffers that a notification stands for: the manual's fetch finds out how many there are (log entry 26). -/
def vioKick : Nat := 32768

/-- A notification of virtqueue q. -/
def State.vioNotify (s : State) (f q : Nat) : State :=
  match s.qp? f q with
  | some x => if s.mode.mode == .drain then s.bump Obj.MODE_DRAIN_DOORBELLS
              else s.setQp f q { x with prod := (x.taken + vioKick) % 2 ^ 32, short := none }
  | none => s.bumpFn Obj.HST_DOORBELL_BAD f

/-- A write in the persona page of a host function, at an offset in it; none where the offset is reserved. -/
def State.personaWrite (s : State) (f off size val : Nat) : Option State :=
  if s.persona f == 0 then (if off + size ≤ 0x200 then some (s.steerWrite f off size val) else none)
  else if off < 0x40 then some (s.vioWrite f off size val)
  else if 0x1000 ≤ off && off < 0x2000 then some (s.vioNotify f ((off - 0x1000) / 4))
  else if (0x2000 ≤ off && off < 0x2008) || (0x3000 ≤ off && off < 0x3040) then some s
  else none

/-! ### NVMe controller registers (R377) -/

/-- 8 B of the controller registers, read: CAP with its doorbell stride 0 (R293), VS of NVMe 2.0, CC, CSTS, AQA, ASQ and ACQ. -/
def State.nvmeRead (s : State) (f off : Nat) : Nat :=
  let x := s.nvme f
  match off with
  | 0x00 => setFld (Config.standardReg f 0 % 2 ^ 64) 32 4 0
  | 0x08 => 0x00020000
  | 0x10 => x.cc * 2 ^ 32
  | 0x18 => x.csts * 2 ^ 32
  | 0x20 => x.aqa * 2 ^ 32
  | 0x28 => x.asq
  | 0x30 => x.acq
  | _ => 0

/-- A write in the controller registers: AQA, ASQ, ACQ, and CC where neither EN nor SHN changes. -/
def State.nvmeWrite (s : State) (f off size val : Nat) : State :=
  let x := s.nvme f
  let m := fun (old : Nat) => mergeReg old off size val
  let s1 := if off ≤ 0x14 && 0x14 < off + size then
      let cc := part4 0x14 off val
      if bit cc 0 == bit x.cc 0 && fld cc 14 2 == fld x.cc 14 2 then s.setNvme f { x with cc := cc } else s
    else s
  let y := s1.nvme f
  if off ≤ 0x24 && 0x24 < off + size then s1.setNvme f { y with aqa := part4 0x24 off val }
  else if 0x28 ≤ off && off < 0x30 then s1.setNvme f { y with asq := m y.asq }
  else if 0x30 ≤ off && off < 0x38 then s1.setNvme f { y with acq := m y.acq }
  else s1

/-! ### The mailbox of PF0 on HA (Table 13-1) -/

/-- A write in the mailbox registers, at an offset from 0x2_0000; none where it is reserved. -/
def State.mbxWrite (s : State) (off size val : Nat) : Option State :=
  if off < 0x20 then some s
  else if off < 0x28 then some { s with mgmt := { s.mgmt with mbxVector := mergeReg s.mgmt.mbxVector off size val % 2 ^ 11 } }
  else if 0x100 ≤ off && off < 0x600 then
    some { s with mgmt := { s.mgmt with h2dBuf := splice s.mgmt.h2dBuf (off - 0x100) (toLe size val) } }
  else if 0x800 ≤ off && off < 0xD00 then some s
  else none

/-- 8 B of the mailbox registers, read. -/
def State.mbxRead (s : State) (off : Nat) : Nat :=
  let m := s.mgmt
  if off == 0 then b2n m.h2dBusy + 2 * b2n m.d2hReady
  else if off == 0x10 then (if m.d2hReady then (m.d2h.headD []).length else 0)
  else if off == 0x20 then m.mbxVector
  else if 0x100 ≤ off && off < 0x600 then leNat (slice m.h2dBuf (off - 0x100) 8)
  else if 0x800 ≤ off && off < 0xD00 && m.d2hReady then leNat (slice (m.d2h.headD []) (off - 0x800) 8)
  else 0

/-! ### MSI-X (Table 10-2) -/

/-- 8 B of the MSI-X structures, read: table entries of the vectors that the function has, and the Pending Bit Array. -/
def State.msixRead (s : State) (f off : Nat) : Nat :=
  let x := s.fn f
  if 0x8000 ≤ off then
    (if off < 0x8100 then x.pba.foldl (fun a p => if p.1 / 64 == (off - 0x8000) / 8 then setFld a (p.1 % 64) 1 1 else a) 0 else 0)
  else if s.fnCfg Obj.FN_VECTORS f ≤ off / 16 then 0
  else
    let e := x.msixEntry (off / 16)
    if off % 16 == 0 then e.1 else e.2.1 + e.2.2 * 2 ^ 32

/-- A write in the MSI-X table; the pending bits are read-only. -/
def State.msixWrite (s : State) (f off size val : Nat) : Option State :=
  let vec := off / 16
  if 0x8000 ≤ off then (if off < 0x8100 then some s else none)
  else if s.fnCfg Obj.FN_VECTORS f ≤ vec then none
  else
    let x := s.fn f
    let e := x.msixEntry vec
    let e1 := match off % 16, size with
      | 8, 8 => (e.1, val % 2 ^ 32, fld val 32 32)
      | 8, _ => (e.1, val % 2 ^ 32, e.2.2)
      | 12, _ => (e.1, e.2.1, val % 2 ^ 32)
      | _, _ => (mergeReg e.1 off size val, e.2.1, e.2.2)
    some ((s.setFn f { x with msix := assoc x.msix vec e1 }).flushPba f)

/-! ### BARs (Table 10-3) -/

/-- First doorbell of a function's page. -/
def State.bellsFrom (s : State) (f : Nat) : Nat :=
  if coreFid f then 0x8000 else if s.persona f == 3 then 0x1000 else if fidVf f then 0x30000 else 0x100000

/-- Bytes of a doorbell: 4 in an NVMe controller (R293, R294). -/
def State.bellSize (s : State) (f : Nat) : Nat := if s.persona f == 3 then 4 else 8

/-- Bytes of a BAR of a host function, or of a core-side function's page. -/
def barBytes (f bar : Nat) : Nat :=
  if coreFid f || bar == 2 then 0x10000 else if bar != 0 then 0 else if fidVf f then 0x40000 else 0x200000

/-- A write in the doorbell area: ring r = 2q or 2q + 1 (R293), or ignored and counted for its size (R294). -/
def State.bellWrite (s : State) (f off size val : Nat) : State :=
  let r := (off - s.bellsFrom f) / s.bellSize f
  if size != s.bellSize f then s.bumpFn Obj.HST_DOORBELL_BAD f else s.doorbell f (r / 2) val (r % 2 == 1)

/-- A write at an offset of BAR0 of a host function below its doorbells; none where it is reserved. -/
def State.bar0Write (s : State) (f off size val : Nat) : Option State :=
  if s.persona f == 3 then some (s.nvmeWrite f off size val)
  else if off < 0x10000 then s.regWrite f off size val
  else if off < 0x20000 then s.personaWrite f (off - 0x10000) size val
  else if f == 0 && s.mailbox && off < 0x21000 then s.mbxWrite (off - 0x20000) size val
  else none

/-- 8 B of BAR0 of a host function at an aligned offset; doorbells and reserved offsets read 0 (R294). -/
def State.bar0Read (s : State) (f off : Nat) : Nat :=
  if s.bellsFrom f ≤ off then 0
  else if s.persona f == 3 then s.nvmeRead f off
  else if off < 0x10000 then s.regRead f off
  else if off < 0x20000 then s.personaRead f (off - 0x10000)
  else if f == 0 && s.mailbox && off < 0x21000 then s.mbxRead (off - 0x20000)
  else 0

/-- A write in a core-side function's page; none where it is reserved. Interrupt entries are commands of their own. -/
def State.coreWrite (s : State) (f off size val : Nat) : Option State :=
  if off < 0x1000 then s.regWrite f off size val
  else if off < 0x1200 then some (s.steerWrite f (off - 0x1000) size val)
  else if 0x1400 ≤ off && off < 0x1C00 then
    let k := off / 8 * 8
    let x := s.fn f
    some (s.setFn f { x with page := assoc x.page k (mergeReg (lookupD x.page k 0) off size val) })
  else if 0x4000 ≤ off && off < 0x8000 then (if (off - 0x4000) / 8 < s.fnCfg Obj.FN_VECTORS f then some s else none)
  else none

/-- A write that a function takes; none where it is discarded. -/
def State.mmioTake (s : State) (f bar off size val : Nat) : Option State :=
  let bell := bar == 0 && s.bellsFrom f ≤ off
  if (size != 4 && size != 8) || off % size != 0 then (if bell then some (s.bumpFn Obj.HST_DOORBELL_BAD f) else none)
  else if bell then some (s.bellWrite f off size val)
  else if coreFid f then s.coreWrite f off size val
  else if bar == 0 then s.bar0Write f off size val
  else s.msixWrite f off size val

/-- A write inside its BAR that reaches its function (R294). -/
def State.mmio (s : State) (f bar off size val : Nat) : State :=
  if barBytes f bar < off + size then s
  else match s.mmioTake f bar off size val with
    | some t => t
    | none => s.mmioDiscard f

/-- What a read inside a BAR of a function returns: 4 or 8 aligned bytes of its registers, else 0 (R294). -/
def State.mmioRead (s : State) (f bar off size : Nat) : Bytes :=
  if (size != 4 && size != 8) || off % size != 0 then List.replicate size 0
  else
    let w := if bar == 0 then s.bar0Read f (off / 8 * 8) else s.msixRead f (off / 8 * 8)
    toLe size (fld w (8 * (off % 8)) (8 * size))

/-- Reading the ISR status of a virtio function clears it (R329; virtio 1.2). -/
def State.readIsr (s : State) (f bar off : Nat) : State :=
  if bar == 0 && off / 8 * 8 == 0x12000 && (s.persona f == 1 || s.persona f == 2) then s.setFn f { s.fn f with isr := 0 } else s

/-- A memory read of the host at a BAR of a function, answered in its own step, so in request order (R294, R295, R318). -/
def State.hostRead (s : State) (f bar off size : Nat) (tlp : HostTlp) : State :=
  if barBytes f bar < off + size then s
  else match s.reach f with
    | .takes => (s.readIsr f bar off).reply (s.linkOf f) 0 tlp (s.mmioRead f bar off size)
    | .fenced => s.reply (s.linkOf f) 0 tlp (List.replicate size 0xFF)
    | .ur => s.urTlp f tlp
    | .nothing => s

/-! ### Configuration space (Table 10-2; the numbers of its fields are the model's, log entry 25) -/

/-- A control of configuration space is written. -/
def State.cfgWrite (s : State) (f field val : Nat) : State :=
  let x := s.fn f
  let on := val != 0
  let l := s.linkOf f
  let pf0 := f == linkPf0 l
  let put := fun (y : Fn) => s.setFn f y
  match field with
  | 1 => if on then ((put { x with msixEn := true }).resumeFn f) else put { x with msixEn := false }
  | 2 => (put { x with msixMask := on }).flushPba f
  | 3 => if on then put { x with ats := true }
         else
           let t := put { x with ats := false }
           { t with hs := { t.hs with xl := t.hs.xl.filter fun e => e.fid != f } }
  | 4 => put { x with pri := on, priStopped := x.priStopped && !on }
  | 5 => put { x with pasidEn := on }
  | 6 => put { x with atomicEn := on }
  | 7 => put { x with tphEn := on, tphIv := val == 2 }
  | 8 => put { x with roEn := on }
  | 9 => put { x with idoEn := on }
  | 10 => put { x with tag10 := on }
  | 11 => if val ≤ 5 then put { x with mps := 128 * 2 ^ val } else s
  | 12 => if val ≤ 5 then put { x with mrrs := 128 * 2 ^ val } else s
  | 13 => put { x with ctoVal := val % 16 }
  | 14 => put { x with ctoDis := on }
  | 15 => put { x with aspmL1 := on }
  | 16 => if fidVf f then s else put { x with pmeEn := on }
  | 17 => put { x with aer := x.aer - (x.aer &&& val), aerHdr := x.aerHdr.filter fun h => !bit val h.1 }
  | 18 => put { x with pmeStatus := x.pmeStatus && !on }
  | 19 => if pf0 then { s with hs := { s.hs with bus := assoc s.hs.bus l (fld val 0 16, fld val 16 16) } } else s
  | 20 => if !pf0 then s
          else { s with hs := { s.hs with l0p := if on then l :: s.hs.l0p.filter (fun y => y != l) else s.hs.l0p.filter fun y => y != l } }
  | 21 => put { x with aerSev := val % 2 ^ 32 }
  | 22 => put { x with aerMask := val % 2 ^ 32 }
  | 23 => put { x with errEn := val % 16 }
  | 24 => if pf0 then put { x with l1ss := val % 16 &&& s.l1ssOf l } else s
  | _ => s

/-- PCI vendor and device ID (R324, ID_PCI_VENDOR and the device IDs; virtio 1.2). -/
def State.pciId (s : State) (f : Nat) : Nat :=
  match s.persona f with
  | 0 => s.cfg Obj.ID_PCI_VENDOR + s.cfg Obj.ID_PCI_DEV_NET * 2 ^ 16
  | 1 => 0x1AF4 + 0x1041 * 2 ^ 16
  | 2 => 0x1AF4 + 0x1042 * 2 ^ 16
  | _ => s.cfg Obj.ID_PCI_VENDOR + s.cfg Obj.ID_PCI_DEV_NVME * 2 ^ 16

/-- Class code of a function: PFC_CLASS of its PF; a VF, and a PF whose field is 0, by persona (Table 11-2; log entry 25). -/
def State.classOf (s : State) (f : Nat) : Nat :=
  let own := fld (s.pfc (fidPort f) (fidNum f)) 24 24
  if !fidVf f && own != 0 then own
  else match s.persona f with
    | 2 => 0x018000
    | 3 => 0x010802
    | _ => 0x020000

/-- A field of configuration space, read: controls 1 to 24 as written, and what the capabilities of Table 10-2 report. -/
def State.cfgRead (s : State) (f field : Nat) : Nat :=
  let x := s.fn f
  let l := s.linkOf f
  let port := fidPort f
  let pf := !fidVf f
  let pf0 := f == linkPf0 l
  match field with
  | 0 => s.pciId f
  | 1 => b2n x.msixEn
  | 2 => b2n x.msixMask
  | 3 => b2n x.ats
  | 4 => b2n x.pri + 2 * b2n x.priStopped
  | 5 => b2n x.pasidEn
  | 6 => b2n x.atomicEn
  | 7 => if x.tphEn then (if x.tphIv then 2 else 1) else 0
  | 8 => b2n x.roEn
  | 9 => b2n x.idoEn
  | 10 => b2n x.tag10
  | 11 => Nat.log2 (x.mps / 128)
  | 12 => Nat.log2 (x.mrrs / 128)
  | 13 => x.ctoVal
  | 14 => b2n x.ctoDis
  | 15 => b2n x.aspmL1
  | 16 => b2n x.pmeEn
  | 17 => x.aer
  | 18 => b2n x.pmeStatus
  | 19 => let b := lookupD s.hs.bus l (0, 256); b.1 + b.2 * 2 ^ 16
  | 20 => b2n (s.hs.l0p.contains l)
  | 21 => x.aerSev
  | 22 => x.aerMask
  | 23 => x.errEn
  | 24 => x.l1ss
  -- Bus Master Enable, D3hot, VF Enable, NumVFs, which have commands of their own
  | 25 => b2n x.bme
  | 26 => b2n x.d3
  | 27 => b2n x.vfEn
  | 28 => x.numVfs
  -- header log and TLP prefix log, the first error's number
  | 29 => (x.aerHdr.getD (0, 0, 0)).2.1
  | 30 => (x.aerHdr.getD (0, 0, 0)).2.2
  | 31 => (x.aerHdr.getD (0, 0, 0)).1
  | 32 => s.classOf f
  -- Max_Payload_Size supported 4,096 B; FLR, Extended Tag, 14-Bit Tag Requester, completion timeout ranges A, B, C and disable
  | 33 => 5
  | 34 => 1 + 2 + 4 + 7 * 2 ^ 3 + 2 ^ 6
  -- PME from D3hot (PF)
  | 35 => b2n pf
  -- MSI-X: Table Size; table at 0x0 and PBA at 0x8000 of BAR2
  | 36 => s.fnCfg Obj.FN_VECTORS f
  | 37 => 2 + 0x8000 * 2 ^ 16
  -- SR-IOV (PF): TotalVFs, First VF Offset, VF Stride
  | 38 => if pf then pfcTotalVfs (s.pfc port (fidNum f)) else 0
  | 39 => if pf then s.firstVf port (fidNum f) else 0
  | 40 => b2n pf
  -- ATS: Invalidate Queue Depth, Page Aligned Request; PRI: Outstanding Page Request Capacity; PASID: width
  | 41 => 32
  | 42 => 1
  | 43 => 512
  | 44 => 20
  -- TPH: No ST and Interrupt Vector modes, ST table in the MSI-X table, extended tags
  | 45 => 1 + 2 + 2 * 2 ^ 2 + 2 ^ 4
  -- L1 PM Substates and Device Serial Number (PF0 of a link)
  | 46 => if pf0 then s.l1ssOf l else 0
  | 47 => if pf0 then s.cfg Obj.ID_SERIAL else 0
  -- sizes of BAR0, BAR2 and BAR4, as exponents; 0 hides BAR4
  | 48 => Nat.log2 (barBytes f 0)
  | 49 => 16
  | 50 => if pf && fidNum f == 0 then s.cfg (Obj.HST_PEER_BAR_LOG2 + port) else 0
  -- virtio capabilities: offsets in BAR0 of common configuration, notifications with their multiplier, ISR status, device
  -- configuration (R329)
  | 51 => 0x10000
  | 52 => 0x11000 + 4 * 2 ^ 32
  | 53 => 0x12000
  | 54 => 0x13000
  -- advertised exit latencies in ns: L0p, L1, L1.2 (R304, R305)
  | 55 => 2000
  | 56 => 4000
  | 57 => 20000
  | _ => 0

/-- MMIO_WRITE: a request of the host to function f at BAR 0 or 2 (7: configuration space, `off` then being the field's number),
offset, size in bytes, value of a write; `tlp` says whether it writes, reads or is an AtomicOp, which any address outside the
peer aperture answers with UR (R302). A core-side function has one page, taken as BAR 0, and is read by CORE_MEMORY_ACCESS. -/
def execMmioWrite (dt f bar off size val : Nat) (tlp : HostTlp) (s : State) : Out :=
  work dt s (fun _ => true) fun t =>
    if bar == 7 then
      t.cfgAsk f tlp fun u =>
        if tlp.kind == 0 then u.reply (u.linkOf f) 0 tlp (toLe size (u.cfgRead f off))
        else (u.cfgWrite f off val).reply (u.linkOf f) 0 { tlp with kind := 0 } []
    else if tlp.kind == 1 then t.pageWrite f fun u => u.mmio f bar off size val
    else if coreFid f || !t.linkUp (t.linkOf f) then t
    else if tlp.kind == 0 then t.hostRead f bar off size tlp
    else t.urTlp f tlp

end Sys2Proof.Machine
end

