-- ==== Sys2Proof/Machine/AppCores.lean ====
section
/-!
DEFINITION. Application cores as the device meets them: release and reset, accesses to the core address map, and the control
service mailbox (spec/01 R35 to R39, spec/13 R420, spec/16 R468). What the cores run is outside the model.
-/

namespace Sys2Proof.Machine

/-! ### CORE_RUN (R38) -/

/-- A write of 1: hart 0 is released at CORE_RESET_VECTOR, the others wait for an IPI. Cores that run already run on. -/
def State.runCores (s : State) : State :=
  if s.cfg Obj.CORE_RUN == 1 then s
  else
    let hs := .running :: List.replicate 31 .waitIpi
    ({ s with core := { s.core with harts := hs } }).latch Obj.CORE_RUN 1

/-- A write of 0: every core is reset and held at once. -/
def State.stopCores (s : State) : State := s.holdCores

/-! ### The control service mailbox (R420) -/

def csmOp (v : Nat) : Nat := fld v 0 8
def csmCluster (v : Nat) : Nat := fld v 8 2
def csmMhz (v : Nat) : Nat := fld v 16 12

/-- Clock limit of the thermal ladder in MHz (Table 14-8). -/
def State.thermalMhz (s : State) : Nat :=
  match s.cfg Obj.THERM_LEVEL with
  | 0 => 3000
  | 1 => 2400
  | 2 => 1600
  | _ => 800

/-- The granted frequency of a request: the lowest of the limits, rounded down to 25 MHz. -/
def State.grantMhz (s : State) (req : Nat) : Nat :=
  Nat.min req (Nat.min (s.cfg Obj.CORE_FREQ_MAX_MHZ) s.thermalMhz) / 25 * 25

/-- A request that the reply answers with `RANGE`. -/
def csmBad (v : Nat) : Bool :=
  csmOp v == 0 || 3 < csmOp v || fld v 10 6 != 0 || 2 ^ 28 ≤ v
    || (if csmOp v == 1 then csmMhz v < 800 || 3000 < csmMhz v else fld v 8 2 != 0 || csmMhz v != 0)

/-- CSM_REPLY. -/
def State.csmReply (s : State) (v : Nat) : Nat :=
  if csmBad v then 2 + csmOp v * 2 ^ 8
  else csmOp v * 2 ^ 8 + match csmOp v with
    | 1 => s.grantMhz (csmMhz v) * 2 ^ 16
    | 2 => s.cfg Obj.TIME_LOCK_STATE * 2 ^ 16 + s.cfg Obj.TIME_DISCIPLINE * 2 ^ 20
    | _ => s.mode.mode.num * 2 ^ 16 + s.mode.step * 2 ^ 20

/-- The reply to the request in progress. -/
def State.csmAnswer (s : State) (v : Nat) : State :=
  let clocks := if csmOp v == 1 && !csmBad v then s.core.clocks.set (csmCluster v) (csmMhz v) else s.core.clocks
  let s1 : State := { s with mgmt := { s.mgmt with csmReq := none, csmReply := s.csmReply v } }
  ({ s1 with core := { s1.core with clocks := clocks } }).aplic 4

/-- A write of CSM_REQ. -/
def State.csmWrite (s : State) (v : Nat) : State :=
  if s.mgmt.csmReq.isSome then s.bump Obj.MGMT_CSM_OVERLAP
  else { s with mgmt := { s.mgmt with csmReq := some v } }

/-- A request belongs to the command of its operation; those of no operation go with any. -/
def csmFor (op v : Nat) : Bool := csmOp v == op || csmOp v == 0 || 3 < csmOp v

/-- A command of the mailbox: a write of CSM_REQ, or with none the reply to the request in progress. -/
def csm (op dt : Nat) (req : Option Nat) (s : State) : Out :=
  match req with
  | some v => cmd dt s (fun t => t.alive && csmFor op v) fun t => t.csmWrite v
  | none => cmd dt s (fun t => t.alive && t.mgmt.csmReq.any (csmFor op)) fun t =>
      match t.mgmt.csmReq with
      | some v => t.csmAnswer v
      | none => t

/-- CSM_CLUSTER_CLOCK. -/
def execCsmClusterClock (dt : Nat) (req : Option Nat) (s : State) : Out := csm 1 dt req s
/-- CSM_TIME_STATE. -/
def execCsmTimeState (dt : Nat) (req : Option Nat) (s : State) : Out := csm 2 dt req s
/-- CSM_MODE. -/
def execCsmMode (dt : Nat) (req : Option Nat) (s : State) : Out := csm 3 dt req s

/-! ### Accesses of a hart (R36, Table 01-10) -/

/-- What lies at a core address. -/
inductive CoreAt where
  | app (off : Nat)
  | page (f off : Nat)
  | timer (off : Nat)
  | mailbox (off : Nat)
  /-- an IMSIC file: hart, level, offset -/
  | imsic (hart level off : Nat)
  | aplic
  | reserved

/-- Table 01-10, for n bytes at an address. -/
def State.coreAt (s : State) (a n : Nat) : CoreAt :=
  let within := fun lo hi => decide (lo ≤ a ∧ a + n ≤ hi)
  if s.inApp a n then .app (a - appBase)
  else if within 0x10000000 0x11000000 then .page (0x800 + (a - 0x10000000) / 0x10000) ((a - 0x10000000) % 0x10000)
  else if within 0x20000000 0x20008000 then .aplic
  else if within 0x21000000 0x21020000 then .imsic ((a - 0x21000000) / 4096) 0 (a % 4096)
  else if within 0x22000000 0x22020000 then .imsic ((a - 0x22000000) / 4096) 1 (a % 4096)
  else if within 0x23000000 0x23010000 then .timer (a - 0x23000000)
  else if within 0x24000000 0x24001000 then .mailbox (a - 0x24000000)
  else .reserved

/-- n bytes of an 8 B register, from an offset in it. -/
def partOf (v off n : Nat) : Bytes := slice (toLe 8 v) (off % 8) n

/-- Data of a load from a device address; a register of the interrupt controllers is free (log entry 27). -/
def State.coreLoad (s : State) (w : CoreAt) (n : Nat) : Bytes × State :=
  match w with
  | .app off => (memRead s.core.mem off n, s)
  | .page f off =>
    match s.reach f with
    | .takes => (partOf (s.coreRead f off) off n, s)
    | _ => (List.replicate n 0xFF, s)
  | .timer off =>
    let v := if off / 8 == 0 then s.now else if 0x100 ≤ off && off < 0x200 then lookupD s.core.mtimecmp ((off - 0x100) / 8) (2 ^ 64 - 1)
      else 0
    (partOf v off n, s)
  | .mailbox off =>
    let v := match off / 8 with
      | 1 => s.mgmt.csmReply
      | 2 => b2n s.mgmt.csmReq.isSome
      | _ => 0
    (partOf v off n, s)
  | _ =>
    let r := s.fresh (8 * n)
    (toLe n r.1, r.2)

/-- A store: application memory, MTIMECMP, or an identity to an IMSIC file, which is the IPI that a waiting hart starts with
(R38); pages and the mailbox have commands of their own. -/
def State.coreStore (s : State) (w : CoreAt) (data : Bytes) : State :=
  match w with
  | .app off => { s with core := { s.core with mem := memWrite s.core.mem off data } }
  | .timer off =>
    if 0x100 ≤ off && off < 0x200 && data.length == 8 && off % 8 == 0 then
      { s with core := { s.core with mtimecmp := assoc s.core.mtimecmp ((off - 0x100) / 8) (leNat data) } }
    else s
  | .imsic hart level off =>
    if off == 0 && data.length == 4 && 0 < leNat data && leNat data < 256 then
      let woken := if level == 0 && s.core.harts[hart]? == some .waitIpi then s.core.harts.set hart .running else s.core.harts
      ({ s with core := { s.core with harts := woken } }).msi hart level (leNat data)
    else s
  | _ => s

/-- CORE_MEMORY_ACCESS: hart h loads n bytes at an address, or stores `data` there. A reserved address and the application
window beyond MEM_APP_SIZE fault (R36), and so does a load of a poisoned line (R468). -/
def execCoreMemoryAccess (dt h a n : Nat) (data : Option Bytes) (s : State) : Out :=
  cmd dt s (fun t => t.alive && t.core.harts[h]? == some .running) fun t =>
    let len := match data with | some d => d.length | none => n
    match t.coreAt a len, data with
    | .reserved, _ => t.emit (.coreFault h)
    | .app off, none =>
      if t.poisoned off n then t.emit (.coreFault h) else t.emit (.coreData h (memRead t.core.mem off n))
    | w, none =>
      let r := t.coreLoad w n
      r.2.emit (.coreData h r.1)
    | w, some d => t.coreStore w d

end Sys2Proof.Machine
end

