-- ==== Sys2Proof/Machine/Power.lean ====
section
/-!
DEFINITION. Modes, power steps, thermal protection and supply (spec/14 R431 to R446).
-/

namespace Sys2Proof.Machine

/-! ### DRAIN (R432, R433) -/

/-- Activity that a mode change brings: the device is at step 0 (R436). -/
def State.wakeUp (s : State) : State := s.stir

/-- Entry to DRAIN: a test of a fenced region stops, a pending handover ends (R434, R463). -/
def State.enterDrain (s : State) : State :=
  let s1 := (s.wakeUp.setMode .drain 1).cancelHandover
  let st := s1.cfg Obj.FLT_REGION_TEST_STATE
  let s2 := if st == 2 || st == 3 then s1.latch Obj.FLT_REGION_TEST_STATE 1 else s1
  { s2 with
    pwr := { s2.pwr with drainAt := s2.clock, drainLimit := s2.cfg Obj.MODE_DRAIN_LIMIT_MS, drainForced := false }
    flt := { s2.flt with retestFrom := none } }

/-- A pair has nothing left to do: buffers and events are no work. Of a virtqueue that is what has been fetched (log entry 26). -/
def Qp.idle (x : Qp) : Bool :=
  (x.kind == 2 || x.kind == 5 || (if x.kind == 8 then x.cons == x.taken else x.cons == x.prod)) && x.staged.isEmpty

/-- A function still holds work (R433). -/
def State.holdsWork (s : State) (f : Nat) : Bool :=
  !((s.qpsOf f).all fun q => q.2.idle) || (s.stg.sq.any fun q => q.1 / 65536 == f && q.2.head != q.2.tail)
    || (s.hs.reqs.any fun r => r.fid == f) || (s.hs.works.any fun w => w.fid == f) || s.jobsRun f

/-- Functions with pairs, storage queues or requests. -/
def State.busyFns (s : State) : List Nat :=
  let qs : List Nat := (s.hs.qp.map fun q => q.1 / 65536) ++ (s.stg.sq.map fun q => q.1 / 65536)
  let ws : List Nat := (s.hs.reqs.map fun r => r.fid) ++ (s.hs.works.map fun w => w.fid)
  (qs ++ ws).eraseDups.filter s.holdsWork

/-- Every queue of the traffic managers, recirculation buffer and divert queue is empty, and no packet is on its way to one. -/
def State.queuesEmpty (s : State) : Bool :=
  !(s.pkts.any fun p => p.queued || (match p.loc with
    | .recirc | .divert | .lane _ _ | .cipher | .ciphered | .meter | .atTm | .bridge | .crossed => true
    | _ => false))

/-- The drain is done (R226, R433): the queues are empty, and the functions hold no work, or, past the limit, their resets have
completed. -/
def State.drainOver (s : State) : Bool :=
  s.queuesEmpty && ((s.busyFns.isEmpty && s.hs.reqs.isEmpty) || (s.pwr.drainForced && s.hs.fn.all fun x => x.2.reset == 0))

/-- DRAIN_DONE. -/
def execDrainDone (dt : Nat) (s : State) : Out :=
  cmd dt s (fun t => t.alive && t.mode.mode == .drain && t.cfg Obj.MODE_DRAIN_DONE == 0 && t.drainOver) fun t =>
    t.latch Obj.MODE_DRAIN_DONE 1

/-- MODE_DRAIN_LIMIT: functions that still hold work are squash-reset. -/
def execModeDrainLimit (dt : Nat) (s : State) : Out :=
  cmd dt s (fun t => t.alive && t.mode.mode == .drain && t.cfg Obj.MODE_DRAIN_DONE == 0 && !t.pwr.drainForced
      && t.pwr.drainAt + t.pwr.drainLimit * 1000000 ≤ t.clock) fun t =>
    let fs := t.busyFns
    let t1 := (fs.foldl State.squash t).bumpN Obj.MODE_DRAIN_FORCED fs.length
    { t1 with pwr := { t1.pwr with drainForced := true } }

/-! ### DORMANT (R434, R439 to R441) -/

/-- Every host link is in L2 or down, or its port is in PERST. -/
def State.hostsAsleep (s : State) : Bool :=
  (List.range 4).all fun l => s.linkState l == 7 || s.linkState l ≤ 1 || s.hs.perst.contains (l / 2)

/-- Entry to DORMANT begins: lanes off; a discipline by network goes to holdover. -/
def State.enterDormant (s : State) (step : Nat) : State :=
  let s1 := ((s.setMode .dormant 1).latch Obj.MODE_DRAIN_DONE 0).cancelHandover
  let s2 := (List.range 16).foldl (fun a n => a.netFall n (a.netIdle n)) s1
  let s3 := (List.range 8).foldl (fun a l => if a.wvState l == 0 then a else State.linkDown a l) s2
  let d := s3.cfg Obj.TIME_DISCIPLINE
  let lock := s3.cfg Obj.TIME_LOCK_STATE
  let s4 := if (d == 1 || d == 3 || d == 4) && lock == 2 then s3.setLock 3 else s3
  { s4 with pwr := { s4.pwr with aim := step, entering := true, wakePending := false, exit := none, lockedAtEntry := lock == 2 } }

/-- Step 4: the always-on island alone; it keeps the wake settings. -/
def State.toIsland (s : State) : State :=
  let t := s.wipe
  let t1 := [Obj.PWR_WAKE_SRC, Obj.PWR_WAKE_GPIO, Obj.PWR_WAKE_AT].foldl (fun (a : State) o => a.latch o (s.cfg o)) t
  let t2 : State := { t1 with
    mode := { mode := .dormant, step := 4, fenced := none }
    pwr := { t1.pwr with rails := .island } }
  (t2.latch Obj.MODE_CURRENT 5).latch Obj.MODE_POWER_STEP 4

/-- A wake source takes effect: the exit from step 3 begins, or the start from step 4; during entry it waits (R434). The
coarse counter of step 4 counts in 40 ns. -/
def State.wake (s : State) : State :=
  if s.pwr.entering then { s with pwr := { s.pwr with wakePending := true } }
  else if s.pwr.rails == .island then
    let r := s.fresh 6
    ({ r.2 with now := s.now - r.1 % 40 }).chipReset 8
  else if s.pwr.exit.isSome then s
  else { s with pwr := { s.pwr with exit := some 8 } }

/-- DORMANT_ENTRY_COMPLETE. -/
def execDormantEntryComplete (dt : Nat) (s : State) : Out :=
  cmd dt s (fun t => t.alive && t.mode.mode == .dormant && t.pwr.entering) fun t =>
    let woken := t.pwr.wakePending
    let t1 : State := { t with pwr := { t.pwr with entering := false, wakePending := false } }
    let t2 := t1.setStep t1.pwr.aim
    let t3 := if t1.pwr.aim == 4 then t2.toIsland else t2
    if woken then t3.wake else t3

/-- The fenced region's automatic test counts from the exit (R434). -/
def State.retestFromNow (s : State) : State :=
  if s.mode.fenced.isSome && s.cfg Obj.FLT_REGION_TEST_STATE == 1 && s.cfg Obj.FLT_REGION_RETEST == 1 then
    { s with flt := { s.flt with retestFrom := some s.clock } }
  else s

/-- DORMANT_EXIT_COMPLETE: SERVICE, or DEGRADED with MODE_REASON 8 where a region is fenced (R434, R440). -/
def execDormantExitComplete (dt : Nat) (s : State) : Out :=
  cmd dt s (fun t => t.alive && t.mode.mode == .dormant && t.pwr.exit.isSome) fun t =>
    let reason := if t.mode.fenced.isSome then 8 else t.pwr.exit.getD 1
    let t1 : State := { t with pwr := { t.pwr with exit := none, busyAt := t.clock } }
    let t2 := ((t1.setStep 0).setMode t1.serviceMode reason).retestFromNow
    let t3 := [0, 1].foldl (fun (a : State) p =>
      if a.linkState (2 * p) == 7 || a.linkState (2 * p + 1) == 7 then a.emit (.wake p) else a) t2
    (List.range 4).foldl (fun (a : State) l =>
      if a.linkState l == 0 && !a.hs.perst.contains (l / 2) && (l % 2 == 0 || a.cfg (Obj.HST_BIFURCATE + l / 2) == 1)
      then a.latch (Obj.HST_LINK_STATE + l) 1 else a) t3

/-- WAKE_TIMER: the time base reaches PWR_WAKE_AT. -/
def execWakeTimer (dt : Nat) (s : State) : Out :=
  cmd dt s (fun t => t.mode.mode == .dormant && bit (t.cfg Obj.PWR_WAKE_SRC) 3 && t.cfg Obj.PWR_WAKE_AT != 0
      && t.cfg Obj.PWR_WAKE_AT ≤ t.now) State.wake

/-- GPIO_WAKE_EDGE: a falling edge on GPIO g. -/
def execGpioWakeEdge (dt g : Nat) (s : State) : Out :=
  cmd dt s (fun t => t.mode.mode == .dormant && bit (t.cfg Obj.PWR_WAKE_SRC) 2 && t.cfg Obj.PWR_WAKE_GPIO == g) State.wake

/-- PERST_DEASSERT (R289, R441). In DORMANT the lanes stay off until the exit. -/
def execPerstDeassert (dt port : Nat) (s : State) : Out :=
  cmd dt s (fun t => port < 2 && t.hs.perst.contains port) fun t =>
    if t.alive && t.mode.mode != .dormant then (t.perstOff port).stir
    else
      let t1 := if t.alive then ((t.perstOff port).latch (Obj.HST_LINK_STATE + 2 * port) 0).latch (Obj.HST_LINK_STATE + 2 * port + 1) 0
        else { t with hs := { t.hs with perst := t.hs.perst.filter fun p => p != port } }
      if t1.mode.mode == .dormant && bit (t1.cfg Obj.PWR_WAKE_SRC) port then t1.wake else t1

/-! ### MODE_REQUEST (R431, R439) -/

/-- A write to MODE_REQUEST: status and state. -/
def State.writeModeRequest (s : State) (v : Nat) : Nat × State :=
  let done := s.mode.mode == .drain && s.cfg Obj.MODE_DRAIN_DONE == 1
  match v with
  | 1 => if s.mode.mode == .service || s.mode.mode == .degraded then (0, s.enterDrain) else (1, s)
  | 2 => if done then (0, s.chipReset 1) else (1, s)
  | 3 => if done && s.hostsAsleep then (0, s.enterDormant 3) else (1, s)
  | 4 => if done && s.hostsAsleep then (0, s.enterDormant 4) else (1, s)
  | 5 =>
    if s.mode.mode == .dormant && !s.pwr.entering && s.mode.step == 3 then
      (0, if s.pwr.exit.isSome then s else { s with pwr := { s.pwr with exit := some 1 } })
    else (1, s)
  | _ => (2, s)

/-! ### Steps 1 and 2 (R437, R438) -/

/-- Nothing moves: no packet, descriptor, request, lookaside or scan operation. -/
def State.quiet (s : State) : Bool :=
  s.pkts.isEmpty && s.hs.works.isEmpty && s.hs.reqs.isEmpty && (s.hs.qp.all fun q => q.2.kind == 2 || q.2.kind == 5 || q.2.avail == 0 || (q.2.kind == 8 && q.2.short == some q.2.prod))
    && s.hs.scans.isEmpty && s.hs.runs.isEmpty && s.cry.busy.all fun x => x.2 ≤ s.clock * engineUnits

/-- IDLE_ENTRY: `wfi`: every hart is in WFI. -/
def execIdleEntry (dt : Nat) (wfi : Bool) (s : State) : Out :=
  cmd dt s (fun t => t.alive && t.mode.mode == .service && t.mode.step == 0 && 1 ≤ t.cfg Obj.PWR_AUTO_MAX && t.quiet && wfi
      && t.pwr.busyAt + t.cfg Obj.PWR_IDLE_US * 1000 ≤ t.clock) fun t =>
    ({ t with pwr := { t.pwr with idleAt := t.clock } }).setStep 1

/-- `PWR_STEP2_BLOCKERS`. -/
def State.step2Blockers (s : State) : Nat :=
  b2n ((List.range 16).any fun n => s.portUp n && !s.usesLpi n)
    + b2n ((List.range 4).any fun l => s.linkState l == 2 || s.linkState l == 3) * 2
    + b2n ((List.range 8).any fun l => s.wvState l != 0) * 4
    + b2n (s.cfg Obj.CENSUS_EN != 0 || s.cfg Obj.CENSUS_IPFIX_EN != 0) * 8
    + b2n (s.cfg Obj.PWR_AUTO_MAX != 2) * 16

/-- QUIET_ENTRY. -/
def execQuietEntry (dt : Nat) (s : State) : Out :=
  cmd dt s (fun t => t.alive && t.mode.mode == .service && t.mode.step == 1 && t.step2Blockers == 0
      && t.pwr.idleAt + t.cfg Obj.PWR_QUIET_US * 1000 ≤ t.clock) fun t => t.setStep 2

/-- LPI_WAKE: an LPI wake is signalled on network port n. -/
def execLpiWake (dt n : Nat) (s : State) : Out :=
  cmd dt s (fun t => t.alive && decide (n < 16) && t.mode.step == 2 && t.portUp n && t.usesLpi n) State.stir

/-- HART_TIMER_EVENT: `mtime` has reached the `mtimecmp` of hart h; a comparator that nothing has written never is reached
(log entry 22). -/
def execHartTimerEvent (dt h : Nat) (s : State) : Out :=
  cmd dt s (fun t => t.alive && (match lookup? t.core.mtimecmp h with | some c => decide (c ≤ t.now) | none => false)) State.stir

/-! ### Heat and supply (R442 to R445) -/

/-- Groups of neighbouring sensors: first sensor and count, each group a ring (Table 17-12, R509). -/
def sensorGroups : List (Nat × Nat) := [(0, 10), (10, 10), (20, 6), (26, 6), (32, 8), (40, 4), (44, 2), (46, 2)]

/-- The two nearest neighbours of sensor i. -/
def neighbours (i : Nat) : Nat × Nat :=
  match sensorGroups.find? fun g => g.1 ≤ i && i < g.1 + g.2 with
  | some g => (g.1 + (i - g.1 + g.2 - 1) % g.2, g.1 + (i - g.1 + 1) % g.2)
  | none => (i, i)

/-- A reading is implausible: outside −55 to 150 °C, or more than 20 °C from both neighbours. -/
def badSensor (r : List Int) (i : Nat) : Bool :=
  let x := r.getD i 0
  let n := neighbours i
  let far := fun (y : Int) => decide (x - y > 20000 ∨ y - x > 20000)
  decide (x < -55000 ∨ x > 150000) || (far (r.getD n.1 0) && far (r.getD n.2 0))

/-- Threshold of a throttle level in m°C (Table 14-8). -/
def State.levelAt (s : State) (k : Nat) : Int := ((s.cfg Obj.THERM_THROTTLE_START_C + 5 * (k - 1)) * 1000 : Nat)

/-- The level that Tj asks for. -/
def State.levelFor (s : State) (tj : Int) : Nat := ((List.range 5).filter fun k => s.levelAt (k + 1) ≤ tj).length

/-- The throttle level changes: count, event, APLIC source 1. -/
def State.setLevel (s : State) (n : Nat) : State :=
  if s.cfg Obj.THERM_LEVEL == n then s
  else (((s.latch Obj.THERM_LEVEL n).bump Obj.THERM_LEVEL_CHANGES).raise 0x0013 1 0 (toBe 1 n)).aplic 1

/-- The part of the level that heat and missing sensors ask for. -/
def State.heatLevel (s : State) : Nat := s.cfg Obj.THERM_LEVEL - s.pwr.byCurrent

/-- The level after a reading of Tj, with `floor` the least that valid sensors allow: it rises at once, and falls by one after
100 ms more than 5 °C below its threshold. -/
def State.heat (s : State) (tj : Int) (floor : Nat) : State :=
  let cur := s.heatLevel
  let want := Nat.max floor (s.levelFor tj)
  let cool := decide (0 < cur ∧ floor < cur ∧ tj < s.levelAt cur - 5000)
  let since := if cool then some (s.pwr.coolSince.getD s.clock) else none
  let fall := match since with | some a => decide (a + 100000000 ≤ s.clock) | none => false
  let next := if cur < want then want else if fall then cur - 1 else cur
  let s1 : State := { s with pwr := { s.pwr with coolSince := if next == cur then since else none } }
  s1.setLevel (Nat.min 5 (next + s1.pwr.byCurrent))

/-- Sensors excluded from now on that were not before: counted and logged. -/
def State.exclude (s : State) (bad : List Nat) : State :=
  let new := bad.filter fun i => !s.pwr.excluded.contains i
  let s1 : State := { s with pwr := { s.pwr with excluded := bad } }
  new.foldl (fun a i => (a.bump Obj.THERM_SENSOR_FAULTS).logErr { ErrInfo.mk' 1 0 0x48 i 0x0F 8 with detail := i }) s1

/-- I32 of a temperature. -/
def i32 (x : Int) : Nat := (x % 2 ^ 32).toNat

/-- The readings of the 48 sensors in m°C (R442, R443). -/
def State.sensors (s : State) (r : List Int) : State :=
  let bad := (List.range 48).filter (badSensor r)
  let good := ((List.range 48).filter fun i => !bad.contains i).map fun i => r.getD i 0
  let s1 : State := { s.exclude bad with pwr := { (s.exclude bad).pwr with sensors := r } }
  let floor := if good.length < 24 then 3 else 0
  match good with
  | [] => s1.heat s.pwr.tj floor
  | x :: t =>
    let tj := t.foldl max x
    let s2 : State := { s1 with pwr := { s1.pwr with tj := tj, peak := some (max tj (s1.pwr.peak.getD tj)) } }
    (s2.latch Obj.THERM_TJ_MC (i32 tj)).heat tj floor

/-- A periodic act of the device is due: its period in ns has passed since the latest one. -/
def State.periodic (s : State) (last : Option Nat) (period : Nat) : Bool :=
  match last with
  | some a => decide (a + period ≤ s.clock)
  | none => true

/-- SENSOR_READ: every 100 µs, in DORMANT every 10 ms. -/
def execSensorRead (dt : Nat) (readings : List Int) (s : State) : Out :=
  cmd dt s (fun t => t.alive && readings.length == 48
      && t.periodic t.pwr.sensorAt (if t.mode.mode == .dormant then 10000000 else 100000)) fun t =>
    State.sensors { t with pwr := { t.pwr with sensorAt := some t.clock } } readings

/-- Levels raised by the input current: one more for each 1 ms at 36.5 A or above, one less after 100 ms below 35 A (R443). -/
def State.current (s : State) (ma : Nat) : State :=
  if 36500 ≤ ma then
    let s1 : State := { s with pwr := { s.pwr with currentLow := none } }
    if s1.cfg Obj.THERM_LEVEL < 5 then
      ({ s1 with pwr := { s1.pwr with byCurrent := s1.pwr.byCurrent + 1 } }).setLevel (s1.cfg Obj.THERM_LEVEL + 1)
    else s1
  else if ma < 35000 then
    let since := s.pwr.currentLow.getD s.clock
    if 0 < s.pwr.byCurrent && since + 100000000 ≤ s.clock then
      ({ s with pwr := { s.pwr with byCurrent := s.pwr.byCurrent - 1, currentLow := some s.clock } }).setLevel
        (s.cfg Obj.THERM_LEVEL - 1)
    else { s with pwr := { s.pwr with currentLow := some since } }
  else { s with pwr := { s.pwr with currentLow := none } }

/-- SUPPLY_MEASURE, every 1 ms: input voltage in mV, current in mA and power in mW, averaged over 1 ms (R445). -/
def execSupplyMeasure (dt mv ma mw : Nat) (s : State) : Out :=
  cmd dt s (fun t => t.alive && t.periodic t.pwr.supplyAt 1000000) fun t0 =>
    let t : State := { t0 with pwr := { t0.pwr with supplyAt := some t0.clock } }
    ((((t.latch Obj.SUPPLY_VIN_MV mv).latch Obj.SUPPLY_IIN_MA ma).latch Obj.SUPPLY_POWER_MW mw).ctrMax
      Obj.SUPPLY_POWER_PEAK_MW mw).current ma

/-- Powered: any state but off. -/
def State.powered (s : State) : Bool := s.pwr.rails != .off

/-- THERMTRIP: a comparator reads 135 °C for 10 µs (R444). -/
def execThermtrip (dt : Nat) (s : State) : Out :=
  cmd dt s State.powered fun t =>
    let t1 := (t.bumpStored Obj.THERM_TRIPS).railsOff
    { t1 with pwr := { t1.pwr with tripped := true, tripToLog := true } }

/-- UNDERVOLTAGE: the input below 10.2 V for 10 µs (R445). -/
def execUndervoltage (dt : Nat) (s : State) : Out :=
  cmd dt s State.powered fun t =>
    let t1 := (t.bumpStored Obj.SUPPLY_UV_EVENTS).railsOff
    { t1 with pwr := { t1.pwr with vin := false, supplyToLog := t1.pwr.supplyToLog + 1 } }

/-- OVERVOLTAGE: the input above 14.0 V for 10 µs (R445). -/
def execOvervoltage (dt : Nat) (s : State) : Out :=
  cmd dt s State.powered fun t =>
    let t1 := (t.bumpStored Obj.SUPPLY_OV_EVENTS).railsOff
    { t1 with pwr := { t1.pwr with vin := false, ovLatch := true, supplyToLog := t1.pwr.supplyToLog + 1 } }

end Sys2Proof.Machine
end

