-- ==== Sys2Proof/Machine/Images.lean ====
section
/-!
DEFINITION. Image containers, firmware banks and activation (spec/15 R447 to R463), and the writes of the flash (spec/13 R415,
spec/15 R454).
-/

namespace Sys2Proof.Machine

/-! ### Containers (R447 to R453) -/

/-- Bytes before the body. -/
def headLen : Nat := 8768

/-- Every byte is 0. -/
def zeros (bs : Bytes) : Bool := bs.all fun b => b == 0

def ihType (c : Bytes) : Nat := fld (leWord c 1) 16 8
def ihVersion (c : Bytes) : Nat := fld (leWord c 1) 32 32
def ihSvn (c : Bytes) : Nat := fld (leWord c 2) 0 6
def ihSigner (c : Bytes) : Nat := fld (leWord c 2) 6 2
def ihOwner (c : Bytes) : Bool := bit (leWord c 2) 8
def ihMajor (c : Bytes) : Nat := fld (leWord c 2) 16 16
def ihMinor (c : Bytes) : Nat := fld (leWord c 2) 32 16
def ihSlot (c : Bytes) : Nat := fld (leWord c 2) 48 13

/-- The bytes that both signatures sign, and that the body's tag covers. -/
def ihSigned (c : Bytes) : Bytes := c.take 3968

/-- Largest container that an object takes (R449); the two firmware types share an object. -/
def imageMax (obj : Nat) : Nat :=
  if obj == Obj.PIPE_IMAGE then 32 * 2 ^ 20
  else if obj == Obj.IMG_FW_WRITE_A || obj == Obj.IMG_FW_WRITE_B then 24 * 2 ^ 20
  else 136 * 2 ^ 20

/-- The object takes containers. -/
def containerObj (obj : Nat) : Bool :=
  obj == Obj.PIPE_IMAGE || obj == Obj.IMG_FW_WRITE_A || obj == Obj.IMG_FW_WRITE_B
    || (Obj.PAT_SET_IMAGE ≤ obj && obj < Obj.PAT_SET_IMAGE + 16)

/-- IH_TYPE is one of the object's. -/
def typeFits (obj typ : Nat) : Bool :=
  if obj == Obj.PIPE_IMAGE then typ == 3
  else if obj == Obj.IMG_FW_WRITE_A || obj == Obj.IMG_FW_WRITE_B then typ == 1 || typ == 2
  else typ == 4

/-- Step 1: magic, format, reserved fields. -/
def headFormat (c : Bytes) : Bool :=
  fld (leWord c 0) 0 32 == 0x4D495859 && fld (leWord c 0) 32 16 == 1
    && fld (leWord c 2) 9 7 == 0 && fld (leWord c 2) 61 3 == 0
    && zeros (slice c 60 4) && zeros (slice c 128 3840) && zeros (slice c 4064 32) && zeros (slice c (4096 + 4627) 45)

/-- Step 2. -/
def State.headDevice (s : State) (c : Bytes) : Bool :=
  let part := fld (leWord c 1) 0 16
  fld (leWord c 0) 48 16 == s.cfg Obj.ID_FAMILY && (part == 0 || part == s.cfg Obj.ID_PART)
    && fld (leWord c 1) 24 8 ≤ s.cfg Obj.ID_STEPPING

/-- Minimum security version of a container (R453). -/
def State.minSvn (s : State) (c : Bytes) : Nat :=
  match ihType c with
  | 1 => s.fuse.svnVigil
  | 2 => s.fuse.svnService
  | _ => if ihOwner c then s.cfg Obj.IMG_OWNER_SVN_MIN else 0

/-- `IMG_OWNER_KEY` (R452). -/
def State.ownerKey (s : State) : Bytes := toBe 2704 (s.cfg Obj.IMG_OWNER_KEY)

/-- Step 5: 0, or the status. -/
def State.signerStatus (s : State) (c : Bytes) : Nat :=
  if !ihOwner c then (if bit s.fuse.revoked (ihSigner c) then 3 else 0)
  else if zeros s.ownerKey then 3
  else match s.slot? (ihSlot c) with
    | none => 3
    | some x => if x.direct then 3 else if x.revoking then 7 else 0

/-- Public keys of the signer: ECDSA, ML-DSA. -/
def State.signerKeys (s : State) (c : Bytes) : Bytes × Bytes :=
  if ihOwner c then (slice s.ownerKey 0 97, slice s.ownerKey 97 2592)
  else (Config.gorostEcdsa (ihSigner c), Config.gorostMldsa (ihSigner c))

/-- Steps 1 to 8 of Table 15-2 on a header written to an object, for a transfer of `len` bytes: code and status, 0 and 0
where all pass. -/
def State.checkHead (s : State) (obj : Nat) (c : Bytes) (len : Nat) : Nat × Nat :=
  let keys := s.signerKeys c
  let own := s.signerStatus c
  if !headFormat c then (1, 2)
  else if !s.headDevice c then (2, 10)
  else if !typeFits obj (ihType c) || (ihOwner c && ihType c < 3) then (3, 2)
  else if ihSvn c < s.minSvn c then (4, 2)
  else if own == 3 then (5, 3)
  else if own == 7 then (5, 7)
  else if !Config.ecdsaOk keys.1 (ihSigned c) (slice c 3968 96) then (6, 3)
  else if !Config.mldsaOk keys.2 (ihSigned c) (slice c 4096 4627) then (7, 3)
  else if leWord c 3 + headLen != len || (ihType c == 1 && 4 * 2 ^ 20 < len) then (8, 2)
  else (0, 0)

/-- The body key (R450). -/
def State.bodyKey (s : State) (c : Bytes) : Bytes :=
  let root := if ihOwner c then (match s.slot? (ihSlot c) with | some x => x.key | none => []) else Config.imageRoot
  let label := [0x59, 0x58, 0x49, 0x4D] ++ natsOf (slice c 32 16)
  let context := listOf 2 (fld (leWord c 0) 48 16) ++ [ihType c] ++ listOf 4 (ihVersion c)
  bytesOf ([1, 2].flatMap fun i => cmac (natsOf root) ([i] ++ label ++ [0] ++ context ++ listOf 2 256))

/-- Plaintext of a container's body, and whether its tag verifies. -/
def State.openBody (s : State) (c : Bytes) : Bytes × Bool :=
  let r := aeadOpen 2 (natsOf (s.bodyKey c)) (natsOf (slice c 48 12)) (natsOf (ihSigned c)) (natsOf (c.drop headLen))
    (natsOf (slice c 64 16))
  (bytesOf r.1, r.2)

/-- Steps 9 and 10: the code, 0 where both pass. -/
def State.checkBody (s : State) (c : Bytes) : Nat :=
  if sha384 (c.drop headLen) != slice c 80 48 then 9
  else if !(s.openBody c).2 then 10
  else 0

/-- A pipeline image of a container, under the version of its header. -/
def State.pipeOf (s : State) (c : Bytes) : Option PipeImage :=
  (Config.pipeBody (s.openBody c).1).map fun i => { i with version := ihVersion c }

/-- A pattern set of a container. -/
def State.patOf (s : State) (c : Bytes) : Option PatSet :=
  (Config.patBody (s.openBody c).1).map fun p => { p with version := ihVersion c }

/-! ### Firmware banks (R453, R455) -/

/-- Bank that runs; none with the recovery firmware. -/
def State.runBank (s : State) : Option Nat := if s.cfg Obj.IMG_RUNNING < 2 then some (s.cfg Obj.IMG_RUNNING) else none

/-- A slot holds a valid image. -/
def State.slotValid (s : State) (k : Nat) : Bool := s.fwCheck [] k == 0

/-- `IMG_BANK_STATE`. -/
def State.bankState (s : State) (b : Nat) : Nat :=
  let writing := s.img.writes.any fun w => w.slot / 2 == b
  b2n (s.slotValid (2 * b)) + 2 * b2n (s.slotValid (2 * b + 1))
    + 4 * b2n (s.slotValid (2 * b) && s.slotValid (2 * b + 1) && (s.fwSlot (2 * b)).major == (s.fwSlot (2 * b + 1)).major)
    + 8 * b2n writing

/-- A firmware write is refused: it is to the running bank, or to one that an activation names. -/
def State.fwBusy (s : State) (obj : Nat) : Bool :=
  let b := nth obj Obj.IMG_FW_WRITE_A
  s.runBank == some b || (match s.img.act with | some a => a.target == b | none => false)

/-- Slot that a header selects. -/
def fwSlotOf (obj : Nat) (c : Bytes) : Nat := 2 * (nth obj Obj.IMG_FW_WRITE_A) + (ihType c - 1)

/-- A firmware header has passed: its slot is invalid from now on (R455). -/
def State.fwBegin (s : State) (obj : Nat) (c : Bytes) : State :=
  let k := fwSlotOf obj c
  let slots := assoc s.img.slots k { s.fwSlot k with valid := false }
  let ws := { slot := k, closed := none } :: s.img.writes.filter fun w => w.slot != k
  ({ s with img := { s.img with slots := slots, writes := ws } }).latch Obj.IMG_FW_WRITE_STATUS 5

/-- Bytes that the buffer of firmware writes holds at most: flash is programmed at 1 MiB/s or more while it has its supply
(R455, R495). -/
def State.fwLevel (s : State) : Nat :=
  if s.pkg.vflashOff.isSome then s.img.buf else s.img.buf - (s.clock - s.img.bufAt) * 2 ^ 20 / 1000000000

/-- The buffer's level is reckoned anew. -/
def State.fwSettle (s : State) (more : Nat) : State :=
  { s with img := { s.img with buf := Nat.min (4 * 2 ^ 20) (s.fwLevel + more), bufAt := s.clock } }

/-- A body chunk of n bytes is taken by the buffer: surely where it has room, and otherwise as programming has gone. -/
def State.fwTake (s : State) (n : Nat) : Bool × State :=
  if s.fwLevel + n ≤ 4 * 2 ^ 20 then (true, s.fwSettle n)
  else
    let r := s.fresh 1
    if r.1 == 1 then (true, r.2.fwSettle n) else (false, r.2)

/-- A firmware write's channel has been closed. -/
def State.fwClose (s : State) (k : Nat) (c : Bytes) : State :=
  { s with img := { s.img with writes := s.img.writes.map fun w => if w.slot == k then { w with closed := some c } else w } }

/-- What a valid slot's record says of its image. -/
def fwRecord (c : Bytes) : FwSlot :=
  { valid := true, version := ihVersion c, svn := ihSvn c, signer := ihSigner c, major := ihMajor c, minor := ihMinor c }

/-- Programming has ended: steps 9 and 10 over the body (R455). -/
def State.fwFinish (s : State) (k : Nat) (c : Bytes) : State :=
  let code := s.checkBody c
  if code == 0 then
    let t := (s.fwStatus k 0).fwDrop k
    { t with img := { t.img with slots := assoc t.img.slots k (fwRecord c) } }
  else (((s.imgReject code (fwObj (k / 2))).fwStatus k 2)).fwDrop k

/-- The container of a firmware write whose channel has been closed. -/
def State.fwClosed (s : State) (k : Nat) : Option Bytes :=
  (s.img.writes.find? fun w => w.slot == k).bind fun w => w.closed

/-- FW_WRITE_COMPLETE: of slot k. Flash is programmed only while it has its supply (R495). -/
def execFwWriteComplete (dt k : Nat) (s : State) : Out :=
  cmd dt s (fun t => t.alive && (t.fwClosed k).isSome && t.pkg.vflashOff.isNone) fun t =>
    match t.fwClosed k with
    | some c => t.fwFinish k c
    | none => t

/-- A write to IMG_SVN_RAISE (R453): status and state. -/
def State.writeSvnRaise (s : State) (v : Nat) : Nat × State :=
  if s.mode.mode != .service then (1, s)
  else match s.runBank with
    | none => (1, s)
    | some b =>
      match v with
      | 1 => (0, { s with fuse := { s.fuse with svnVigil := Nat.max s.fuse.svnVigil (s.fwSlot (2 * b)).svn } })
      | 2 => (0, { s with fuse := { s.fuse with svnService := Nat.max s.fuse.svnService (s.fwSlot (2 * b + 1)).svn } })
      | _ => (2, s)

/-- The running bank's images use a Gorost key. -/
def State.signerUsed (s : State) (k : Nat) : Bool :=
  match s.runBank with
  | some b => (s.fwSlot (2 * b)).signer == k || (s.fwSlot (2 * b + 1)).signer == k
  | none => false

/-- A write to IMG_SIGNER_REVOKE (R453). -/
def State.writeSignerRevoke (s : State) (k : Nat) : Nat × State :=
  if s.signerUsed k then (1, s)
  else if 3 < k || s.fuse.revoked ||| 2 ^ k == 15 then (2, s)
  else (0, { s with fuse := { s.fuse with revoked := s.fuse.revoked ||| 2 ^ k } })

/-! ### Activation (R459 to R463) -/

/-- The target bank: the one that does not run; with the recovery firmware the first valid one, `IMG_BOOT_BANK` before the
other (log entry 33). -/
def State.targetBank (s : State) : Nat :=
  match s.runBank with
  | some b => 1 - b
  | none =>
    let b := s.cfg Obj.IMG_BOOT_BANK
    if s.bankState b % 8 == 7 then b else 1 - b

/-- Why a bank cannot be activated: a code of Table 15-2, 0 where it can. -/
def State.bankCode (s : State) (b : Nat) : Nat :=
  let v := s.fwCheck [] (2 * b)
  let w := s.fwCheck [] (2 * b + 1)
  if v != 0 then v else if w != 0 then w
  else if (s.fwSlot (2 * b)).major != (s.fwSlot (2 * b + 1)).major then 11 else 0

/-- T of forms 2 and 3 is out of range. -/
def State.activateAtBad (s : State) : Bool :=
  let t := s.cfg Obj.IMG_ACTIVATE_AT
  t < s.now + s.cfg Obj.IMG_AT_MIN_LEAD_MS * 1000000 || s.now + 86400000000000 < t

/-- An accepted activation. -/
def State.activate (s : State) (form : Nat) : State :=
  let a : Activ := { form := form, t := s.cfg Obj.IMG_ACTIVATE_AT, target := s.targetBank, ready := form == 3, started := false }
  let s1 : State := { s with img := { s.img with act := some a, standby := s.img.standby && form == 3 } }
  (s1.latch Obj.IMG_ACTIVATE_STATE (if form == 3 then 2 else 1)).latch Obj.IMG_ACTIVATE_STATUS 5

/-- A write to IMG_ACTIVATE (R459): status and state. -/
def State.writeActivate (s : State) (form : Nat) : Nat × State :=
  let code := s.bankCode s.targetBank
  if form == 0 || 3 < form then (2, s)
  else if s.img.act.isSome || s.mode.mode == .handover then (1, s)
  else if code != 0 then (2, s.latch Obj.IMG_REJECT_CODE code)
  else if form != 3 && (s.runBank.isNone || s.mode.mode != .service || (form == 1 && s.ep.member.isSome)) then (1, s)
  else if form != 3 && (s.fwSlot (2 * s.targetBank)).major != s.cfg Obj.IMG_SETTINGS_MAJOR then (10, s)
  else if form != 1 && s.activateAtBad then (2, s)
  else if form == 3 && s.mode.mode == .dormant then (1, s)
  else (0, s.activate form)

/-- A write to IMG_ACTIVATE_CANCEL: nothing to cancel is `OK` as well. -/
def State.writeActivateCancel (s : State) (v : Nat) : Nat × State :=
  if v != 1 then (2, s)
  else match s.img.act with
    | some a => if a.started then (0, s) else (0, s.endFree 6)
    | none => (0, s)

/-- A handover that has not reached its start instant. -/
def State.handover? (s : State) : Option Activ := s.img.act.filter fun a => a.form ≤ 2 && !a.started

/-- HANDOVER_PREPARED: code 0 where the standby pair runs the target image; 1 to 11: the image fails that check of
Table 15-2; others: its self-test or lockstep fails (R463). -/
def execHandoverPrepared (dt code : Nat) (s : State) : Out :=
  cmd dt s (fun t => t.alive && (match t.handover? with | some a => !a.ready | none => false)) fun t =>
    match t.handover? with
    | none => t
    | some a =>
      if code == 0 then ({ t with img := { t.img with act := some { a with ready := true } } }).latch Obj.IMG_ACTIVATE_STATE 2
      else if code ≤ 11 then (t.imgReject code (fwObj a.target)).endFree 5
      else t.endFree 5

/-- No commit is queued, applies or is prepared. -/
def State.commitsDone (s : State) : Bool := s.ep.queued.isNone && s.ep.applying.isEmpty && s.ep.member.isNone

/-- The start instant of a handover has come (R460). -/
def State.startDue (s : State) : Bool :=
  match s.handover? with
  | some a => a.ready && s.mode.mode == .service && s.commitsDone
      && (a.form == 1 || (a.t ≤ s.now && s.now ≤ a.t + 2000000000))
  | none => false

/-- HANDOVER_START: mode HANDOVER; the dictionary is unavailable from the checkpoint on, at most 5 ms later. -/
def execHandoverStart (dt : Nat) (s : State) : Out :=
  cmd dt s (fun t => t.alive && t.startDue) fun t =>
    let r := t.fresh 23
    let t1 := (r.2.stir.setMode .handover 6).latch Obj.IMG_ACTIVATE_STATE 3
    { t1 with
      img := { t1.img with act := t1.img.act.map fun a => { a with started := true } }
      mgmt := { t1.mgmt with unavail := some (t1.clock + r.1 % 5000001) } }

/-- HANDOVER_DEFERRAL_EXPIRY: a handover at T has been deferred beyond T + 2 s. -/
def execHandoverDeferralExpiry (dt : Nat) (s : State) : Out :=
  cmd dt s (fun t => t.alive && (match t.handover? with
      | some a => a.form == 2 && decide (a.t + 2000000000 < t.now)
      | none => false)) fun t => t.endActivation 5 9

/-- A restart whose T has come, in a mode that allows it. -/
def State.restartDue (s : State) : Option Activ :=
  s.img.act.filter fun a => a.form == 3 && a.t ≤ s.now && s.mode.mode != .handover && s.mode.mode != .dormant

/-- RESTART_INSTANT (R462). -/
def execRestartInstant (dt : Nat) (s : State) : Out :=
  cmd dt s (fun t => t.alive && t.restartDue.isSome) fun t =>
    match t.restartDue with
    | some a => (t.latchStored Obj.IMG_BOOT_BANK a.target).chipReset 0
    | none => t

/-! ### The flash (R415, R454, R480) -/

/-- SETTINGS_STORE_WRITE: the older copy takes the place of the newer, with the stored values that waited. -/
def execSettingsStoreWrite (dt : Nat) (s : State) : Out :=
  cmd dt s (fun t => t.alive && !t.dict.toFlash.isEmpty && t.pkg.vflashOff.isNone) fun t =>
    let new := t.dict.toFlash.foldl (fun a p => Store.put a p.1 (objDefault (keyObj p.1) (keyElem p.1)) p.2) t.dict.flash
    { t with dict := { t.dict with flashOld := t.dict.flash, flash := new, toFlash := [] } }

/-- The bulk value removes its image. -/
def BulkVal.gone : BulkVal → Bool
  | .pipe none => true
  | .pat _ none => true
  | _ => false

/-- The stored images with one more. -/
def putImage (held : List BulkVal) (b : BulkVal) : List BulkVal :=
  held.filter (fun x => !(BulkVal.same b x)) ++ (if b.gone then [] else [b])

/-- IMAGE_STORE_WRITE: the oldest container on its way reaches the image store. -/
def execImageStoreWrite (dt : Nat) (s : State) : Out :=
  cmd dt s (fun t => t.alive && !t.store.coming.isEmpty && t.pkg.vflashOff.isNone) fun t =>
    match t.store.coming with
    | x :: rest => { t with store := { held := putImage t.store.held x.1, coming := rest } }
    | [] => t

end Sys2Proof.Machine
end

