-- ==== Sys2Proof/Machine/Start.lean ====
section
/-!
DEFINITION. From VIGIL to SERVICE (spec/14 R426 to R430, spec/15 R456, spec/13 R417), the switch instant of a local commit
(spec/02 R66), and the rescue NIC's receive path (R427).
-/

namespace Sys2Proof.Machine

/-! ### Device memory (R429, R33, R39) -/

/-- The memory system's settings take effect at the passage to SERVICE, with the stacks that have passed. -/
def State.startMemory (s : State) (ok : List Bool) : State :=
  let s1 := s.applyQui fun o => o == Obj.MEM_APP_MODE || o == Obj.MEM_RESERVE_GIB
  let inter := s1.cfg Obj.MEM_APP_MODE == 1
  let s2 : State := { s1 with
    pwr := { s1.pwr with hbmDone := true, stackOk := ok }
    core := { s1.core with interleaved := inter, memUp := !inter || ok.all id } }
  (s2.latch Obj.MEM_APP_SIZE s2.appBytes).emit (.stage 2)

/-- The record of a stack that failed training or its test. -/
def hbmFault (k : Nat) : ErrInfo := ErrInfo.mk' 2 (2 + k) 0x17 k 0x0C 6

/-- One stack has failed: its region is fenced; the mode is VIGIL still. -/
def State.startLame (s : State) (k : Nat) : State :=
  let s1 : State := { s with flt := { s.flt with stackBad := [k] } }
  s1.fenceRegion k (hbmFault k)

/-- HBM_TRAINING_COMPLETE: which of the two stacks passed training and test. -/
def execHbmTrainingComplete (dt : Nat) (ok0 ok1 : Bool) (s : State) : Out :=
  cmd dt s (fun t => t.alive && t.mode.mode == .vigil && !t.pwr.hbmDone) fun t =>
    match ok0, ok1 with
    | true, true => t.startMemory [true, true]
    | false, true => (t.startMemory [false, true]).startLame 0
    | true, false => (t.startMemory [true, false]).startLame 1
    | false, false => (t.logErr { hbmFault 0 with action := 8 }).logErr { hbmFault 1 with action := 8 }

/-! ### The SERVICE image (R456) -/

/-- Code with which bank b's SERVICE image fails beside the running VIGIL image of bank `run`, 0 where it passes. -/
def State.serviceCode (s : State) (bad : List (Nat × Nat)) (run b : Nat) : Nat :=
  let c := s.fwCheck bad (2 * b + 1)
  if c != 0 then c else if (s.fwSlot (2 * b + 1)).major != (s.fwSlot (2 * run)).major then 11 else 0

/-- The SERVICE image runs, on both pairs. -/
def State.serviceRuns (s : State) : State :=
  { s with pwr := { s.pwr with svcRunning := true }, img := { s.img with standby := true } }.emit (.stage 3)

/-- The SERVICE image of the running bank is loaded, or else the other bank's. -/
def State.loadService (s : State) (bad : List (Nat × Nat)) (b : Nat) : State :=
  let c := s.serviceCode bad b b
  if c == 0 then s.serviceRuns
  else
    let s1 := s.fallback c b
    let d := s1.serviceCode bad b (1 - b)
    if d == 0 then s1.serviceRuns
    else (s1.imgReject d (fwObj (1 - b))).logErr { ErrInfo.mk' 3 6 0x44 0 0x13 8 with detail := d }

/-- SERVICE_IMAGE_RUNNING: `bad` lists images whose bytes in flash fail a check: (slot, code). -/
def execServiceImageRunning (dt : Nat) (bad : List (Nat × Nat)) (s : State) : Out :=
  cmd dt s (fun t => t.alive && t.mode.mode == .vigil && t.pwr.hbmDone && !t.pwr.svcRunning && t.runBank.isSome
      && t.pkg.vflashOff.isNone) fun t =>
    match t.runBank with
    | some b => t.loadService bad b
    | none => t

/-! ### Epoch 1 (R60, R417, R429, R430) -/

/-- Images that are stored, or on their way to the flash. -/
def State.storedImages (s : State) : List BulkVal := s.store.coming.foldl (fun l x => putImage l x.1) s.store.held

/-- Object and container of a stored image. -/
def BulkVal.cont? : BulkVal → Option (Nat × Bytes)
  | .pipe (some x) => some (Obj.PIPE_IMAGE, x.2)
  | .pat n (some x) => some (Obj.PAT_SET_IMAGE + n, x.2)
  | _ => none

/-- The code with which a stored container fails when it is loaded (R451), 0 where it passes. -/
def State.loadCode (s : State) (obj : Nat) (c : Bytes) : Nat :=
  let h := (s.checkHead obj c c.length).1
  if h != 0 then h else s.checkBody c

/-- The first stored image that fails: object and code. -/
def State.badImage (s : State) : Option (Nat × Nat) :=
  s.storedImages.findSome? fun b => b.cont?.bind fun x =>
    let code := s.loadCode x.1 x.2
    if code == 0 then none else some (x.1, code)

/-- A stored value belongs to an EPOCH object. -/
def epochKey (k : Nat) : Bool := match keyRow? k with | some r => r.app == .epoch | none => false

/-- What epoch 1 is made of: stored EPOCH values, and the stored images. -/
def State.epochOne (s : State) : Staging :=
  { vals := (s.dict.flash ++ s.dict.toFlash).filter (fun p => epochKey p.1), bulk := s.storedImages }

/-- The SERVICE firmware commits epoch 1. -/
def State.commitOne (s : State) : State :=
  match s.badImage with
  | some x => (s.imgReject x.2 x.1).latch Obj.EPOCH_REJECT_INDEX x.1
  | none =>
    let v := Ver.with_ Ver.empty s.ep.openNum s.epochOne
    match s.checkVer v v.held with
    | some o => s.latch Obj.EPOCH_REJECT_INDEX o
    | none =>
      let c : Sealed := { ver := v, stage := Staging.none_, sess := (0, 0) }
      let s1 : State := { s with ep := { s.ep with openNum := (s.ep.openNum + 1) % 2 ^ 32 } }
      (s1.latch Obj.EPOCH_REJECT_INDEX 0).apply c

/-- EPOCH_ONE_COMMIT. -/
def execEpochOneCommit (dt : Nat) (s : State) : Out :=
  cmd dt s (fun t => t.alive && t.mode.mode == .vigil && t.pwr.svcRunning && t.ep.live.isEmpty && t.ep.applying.isEmpty)
    State.commitOne

/-- SERVICE begins at the switch instant of epoch 1: mode, PF0 of HA, ports (R429, R430). -/
def State.enterService (s : State) : State :=
  let s1 := (s.setMode .service 2)
  let s2 := if s1.mode.fenced.isSome then s1.setMode .degraded 3 else s1
  let s3 := s2.squash 0
  let s4 : State := { s3 with
    hs := { s3.hs with qp := s3.hs.qp.filter fun q => q.1 / 65536 != 0 }
    pwr := { s3.pwr with busyAt := s3.clock } }
  s4.netRetrain.emit (.stage 4)

/-- EPOCH_SWITCH: the switch instant of the oldest commit that applies. -/
def execEpochSwitch (dt : Nat) (s : State) : Out :=
  cmd dt s (fun t => t.alive && !t.ep.applying.isEmpty) fun t =>
    match t.ep.applying with
    | [] => t
    | a :: rest =>
      let first := t.ep.live.isEmpty
      let t1 : State := { t with ep := { t.ep with applying := rest } }
      let t2 := t1.switchTo a.1
      if first then t2.enterService else t2

/-! ### The rescue NIC (R427) -/

/-- A destination that the rescue NIC takes: its own address, broadcast, multicast. -/
def State.rescueTakes (s : State) (f : Bytes) : Bool :=
  beNat (f.take 6) == s.cfg Obj.ID_BASE_MAC + 2 || bit (f.headD 0).toNat 0

/-- RESCUE_FRAME_RECEIVE: frame f, without FCS, at the rescue port; `fcsOk`: its FCS is good; `given` are the buffer descriptors
that the host's memory returned. The port's MAC checks it as it does any frame (R213, R483). -/
def execRescueFrameReceive (dt : Nat) (f : Bytes) (fcsOk : Bool) (given : HostRead) (s : State) : Out :=
  work dt s (fun t => t.alive && t.mode.mode == .vigil && t.cfg (Obj.NET_LINK_STATE + t.rescuePort) == 4) fun t =>
    if f.length + 4 < 64 then t.bump (Obj.NET_RX_RUNT + t.rescuePort)
    else if !fcsOk then t.bump (Obj.NET_RX_FCS_ERR + t.rescuePort)
    else if beNat (slice f 12 2) == 0x8808 then t.macControl t.rescuePort f
    else if 9600 < f.length || !t.rescueTakes f then t
    else
      let p := newPkt .data .staged f true t.clock 0 t.rescuePort t.now
      let q := { p with id := t.nextPkt }
      (t.addPkt p).deliver 0 q given

end Sys2Proof.Machine
end

