-- ==== Sys2Proof/Machine/TableOps.lean ====
section
/-!
DEFINITION. Table-operation records: INSERT, DELETE, MODIFY and CLEAR_HIT, and the scanners of ageing and of the ternary
scrub (spec/05 R147 to R165, spec/06 R179 to R186, spec/02 R73 to R76).
-/

namespace Sys2Proof.Machine

/-! ### The record (Tables 05-3 and 06-2) -/

def topOp (r : Bytes) : Nat := fld (leWord r 0) 0 4
def topReplace (r : Bytes) : Bool := bit (leWord r 0) 4
def topExt (r : Bytes) : Bool := bit (leWord r 0) 5
def topRegion (r : Bytes) : Nat := fld (leWord r 0) 6 1
def topStatic (r : Bytes) : Bool := bit (leWord r 0) 7
def topTable (r : Bytes) : Nat := fld (leWord r 0) 8 8
def topPlen (r : Bytes) : Nat := fld (leWord r 0) 16 8
def topEpoch (r : Bytes) : Nat := fld (leWord r 0) 32 32
def topCookie (r : Bytes) : Nat := leWord r 1
def topAction (r : Bytes) : Nat := fld (leWord r 2) 0 12
def ttopIndex (r : Bytes) : Nat := fld (leWord r 2) 16 15
def topAddr (r : Bytes) : Nat := leWord r 3
def topLen (r : Bytes) : Nat := fld (leWord r 4) 0 8

/-- Bytes of action data of a table. -/
def dataLen (t : TInfo) : Nat := t.dataBits / 8

/-- Payload length of a record of a table: key area and data, or V, M and data (R159, R179). -/
def payloadLen (t : TInfo) : Nat := (if t.kind == 4 then 40 * t.units else keyAreaLen t) + dataLen t

/-- All bytes are 0. -/
def allZero (bs : Bytes) : Bool := bs.all fun b => b == 0

/-- A reserved bit of the record is set, read by the layout of its table where there is one (R11, Tables 05-3 and 06-2). -/
def topReserved (r : Bytes) (t : Option TInfo) : Bool :=
  let tern := match t with | some i => i.kind == 4 | none => false
  let tail := fld (leWord r 4) 8 56 != 0 || leWord r 5 != 0 || leWord r 6 != 0 || leWord r 7 != 0
  fld (leWord r 0) 24 8 != 0
    || (if tern then fld (leWord r 2) 12 4 != 0 || fld (leWord r 2) 31 33 != 0 else fld (leWord r 2) 12 52 != 0)
    || (if tern || topExt r then tail
        else match t with
          | some i => payloadLen i ≤ 40 && !allZero (r.drop (24 + payloadLen i))
          | none => false)

/-! ### Which table a record means (R158, R159) -/

/-- The function may change a table: one of the writers that name it may. DESIGN CHOICE (log entry 68): the manual does not
say what holds where two do. -/
def State.mayChange (s : State) (f table : Nat) : Bool :=
  (s.writersNaming f).any fun w => bit ((toBe 32 (s.cfg (Obj.TBL_WRITER_TABLES + w))).getD (table / 8) 0).toNat (table % 8)

/-- The version of the newest epoch that has taken its number and still stands (R159). -/
def State.newestVer (s : State) : Ver :=
  match s.ep.queued, s.ep.member, s.ep.applying.getLast? with
  | some q, _, _ => q.ver
  | none, some m, _ => m.contents.ver
  | none, none, some a => a.1.ver
  | none, none, none => s.curVer

/-- A table as a record meets it: its declaration and the epoch that brought it; none where it does not exist. -/
def State.tableFor (s : State) (id : Nat) : Option (TInfo × Nat) :=
  let live := (s.curVer.pipe.bind fun i => tinfo? i id).filter fun t => !t.epoch
  let next := (s.newestVer.pipe.bind fun i => tinfo? i id).filter fun t => t.epoch
  match next, live with
  | some t, _ => some (t, lookupD s.newestVer.inc id 0)
  | none, some t => some (t, lookupD s.curVer.inc id 0)
  | none, none => none

/-- Regions whose copies a record changes (R29, R163). -/
def State.copiesOf (s : State) (t : TInfo) (r : Bytes) : List Nat :=
  if t.local_ then [topRegion r] else [0, 1].filter fun g => s.mode.fenced != some g

/-! ### What a record carries -/

/-- Key, mask and prefix length that a record names, with its action data. -/
structure TopKey where
  key : Nat
  mask : Nat
  plen : Nat
  data : Nat

/-- The key and data of a record, from itself or from the payload that was fetched (R149, R159, R179). -/
def topKey (t : TInfo) (r payload : Bytes) : TopKey :=
  if t.kind == 4 then
    let w := 20 * t.units
    { key := beNat (slice payload 0 w), mask := beNat (slice payload w w), plen := 0,
      data := leNat (slice payload (2 * w) (dataLen t)) }
  else
    let k := keyAreaLen t
    let area := if topExt r then payload else r.drop 24
    { key := beNat (slice area 0 k), mask := 0, plen := topPlen r, data := leNat (slice area k (dataLen t)) }

/-- The record needs its payload. -/
def needsPayload (t : TInfo) (r : Bytes) : Bool :=
  if t.kind == 4 then topOp r == 1 || topOp r == 3 else topExt r

/-- The key and data checks of R159 step 7 that need no fetch. -/
def topShapeOk (t : TInfo) (r : Bytes) : Bool :=
  if t.kind == 4 then
    topOp r != 4 && !topStatic r && ttopIndex r < t.size
      && (topOp r == 2 || (topExt r && topLen r == payloadLen t))
  else if topExt r then topLen r == payloadLen t && topLen r ≤ 112
  else payloadLen t ≤ 40

/-- The key and data checks of R159 step 7 on the key itself. -/
def topKeyOk (t : TInfo) (r : Bytes) (k : TopKey) : Bool :=
  match t.kind with
  | 4 => topOp r == 2 || (k.key &&& k.mask) == k.key
  | 0 => k.key < 2 ^ t.keyWidth && k.key < t.size
  | 3 =>
    let aw := t.keyWidth - 12
    k.key < 2 ^ t.keyWidth && k.plen ≤ t.maxLen && (k.key % 2 ^ (aw - k.plen) == 0)
  | _ => k.key < 2 ^ t.keyWidth

/-! ### One copy of a table -/

/-- Stored entries of a copy, held ones and superseded ones among them. -/
def copyOf (tbl : List TEntry) (t : TInfo) (inc region : Nat) : List TEntry := tbl.filter fun e => e.ofCopy t.id inc region

/-- The entry is the one that a record names. -/
def names (t : TInfo) (idx : Nat) (k : TopKey) (e : TEntry) : Bool :=
  if t.kind == 4 then e.slot == idx else e.key == k.key && (t.kind != 3 || e.plen == k.plen)

/-- The entry present for a record in a copy, in the version it acts on (R160, R180). -/
def presentIn (es : List TEntry) (t : TInfo) (epoch idx : Nat) (k : TopKey) : Option TEntry :=
  es.find? fun e => names t idx k e && !e.super && (if t.epoch then e.visible epoch else true)

/-- Prefix units of an entry (R156). -/
def prefixUnits (t : TInfo) (plen : Nat) : Nat := if t.keyWidth == 44 || plen ≤ 64 then 1 else 2

/-- A way of a bucket is taken: by an entry that is there or is still held (R76). -/
def wayTaken (es : List TEntry) (slot : Nat) : Bool := es.any fun e => (e.place == 0 || e.place == 1) && e.slot == slot

/-- Lowest free way of a bucket. -/
def freeWay (es : List TEntry) (bucket : Nat) : Option Nat := findFrom (fun s => !wayTaken es s) (bucket * 4) 4

/-- Lowest free entry of the overflow store. -/
def freeOvf (es : List TEntry) : Option Nat := findFrom (fun s => !es.any fun e => e.place == 2 && e.slot == s) 0 16384

/-- Where a new key goes: (place, slot); none where there is no room (R148, R151, R153, R156, R181). An index of an EPOCH
direct-index table whose deleted entry an older version still holds is no room, as R76 has it of every deleted entry's location:
TABLE_FULL. DESIGN CHOICE (log entry 68). -/
def placeFor (es : List TEntry) (t : TInfo) (idx : Nat) (k : TopKey) : Option (Nat × Nat) :=
  match t.kind with
  | 0 => if es.any fun e => e.key == k.key then none else some (3, k.key)
  | 1 =>
    (match freeWay es (bucketA t k.key) with
     | some w => some (0, w)
     | none => match freeWay es (bucketB t k.key) with
       | some w => some (1, w)
       | none => (freeOvf es).map fun o => (2, o))
  | 2 =>
    let b := bucketA t k.key
    let clash := es.any fun e => e.place == 0 && e.slot / 4 == b && e.key != k.key && farCheck t e.key == farCheck t k.key
    (match (if clash then none else freeWay es b) with
     | some w => some (0, w)
     | none => (freeOvf es).map fun o => (2, o))
  | 3 =>
    let used := sumBy (fun e => prefixUnits t e.plen) (es.filter fun e => !e.super)
    if used + prefixUnits t k.plen ≤ t.size then some (3, 0) else none
  | _ => if es.any fun e => e.slot == idx then none else some (3, idx)

/-- A new entry. -/
def newEntry (t : TInfo) (inc region : Nat) (k : TopKey) (r : Bytes) (loc : Nat × Nat) (born : Option Nat) : TEntry :=
  { table := t.id, inc := inc, region := region, key := k.key, mask := k.mask, plen := k.plen, action := topAction r,
    data := k.data, static := topStatic r, hit := false, reported := false, visit := none, place := loc.1, slot := loc.2, born := born,
    died := none, journal := false, super := false }

/-- Superseded entries in a region's journal (R76). -/
def journalUsed (tbl : List TEntry) (region : Nat) : Nat := (tbl.filter fun e => e.region == region && e.journal).length

/-- Result of a record on one copy. -/
inductive CopyRes where
  /-- the new table; the entry lay there before; something changed; location of an insert; old hit bit -/
  | ok (tbl : List TEntry) (existed changed : Bool) (place : Nat) (hit : Bool)
  | full (existed held : Bool)
  | journalFull (existed : Bool)

/-- Replacement of an entry in place: in an EPOCH table the old one goes to the journal and its successor is born (R76). -/
def replaceIn (tbl : List TEntry) (t : TInfo) (epoch : Nat) (r : Bytes) (k : TopKey) (e : TEntry) : List TEntry :=
  let n := { e with action := topAction r, data := k.data, static := topStatic r, reported := false }
  if t.epoch then
    tbl.map (fun x => if x == e then { e with died := some epoch, journal := true, super := true } else x)
      ++ [{ n with born := some epoch }]
  else tbl.map fun x => if x == e then n else x

/-- A record on one copy of its table (Tables 05-4 and 06-3). -/
def runCopy (tbl : List TEntry) (t : TInfo) (inc region epoch : Nat) (r : Bytes) (k : TopKey) : CopyRes :=
  let es := copyOf tbl t inc region
  let idx := ttopIndex r
  let full := journalUsed tbl region ≥ 1048576
  match topOp r, presentIn es t epoch idx k with
  | 1, some e =>
    if t.kind == 4 && !(e.key == k.key && e.mask == k.mask) then .full true false
    else if !topReplace r then .ok tbl true false e.place false
    else if t.epoch && full then .journalFull true
    else .ok (replaceIn tbl t epoch r k e) true true e.place false
  | 1, none =>
    (match placeFor es t idx k with
     | none => .full false (t.kind == 4)
     | some loc => .ok (tbl ++ [newEntry t inc region k r loc (if t.epoch then some epoch else none)]) false true loc.1 false)
  | 3, some e =>
    if t.kind == 4 && !(e.key == k.key && e.mask == k.mask) then .ok tbl true false 3 false
    else if t.epoch && full then .journalFull true
    else .ok (replaceIn tbl t epoch r k e) true true 3 false
  | 2, some e =>
    if !t.epoch then .ok (tbl.erase e) true true 3 false
    else if t.kind != 4 && full then .journalFull true
    else .ok (tbl.map fun x => if x == e then { e with died := some epoch, journal := t.kind != 4 } else x) true true 3 false
  | 4, some e => .ok (tbl.map fun x => if x == e then { e with hit := false } else x) true e.hit 3 e.hit
  | _, none => .ok tbl false false 3 false
  | _, some _ => .ok tbl true false 3 false

/-- A record on every copy it concerns; a refusal in one refuses it whole. -/
def runCopies (t : TInfo) (inc epoch : Nat) (r : Bytes) (k : TopKey) : List Nat → CopyRes → CopyRes
  | [], acc => acc
  | g :: gs, acc =>
    match acc with
    | .ok tbl ex ch pl hit =>
      (match runCopy tbl t inc g epoch r k with
       | .ok tbl1 ex1 ch1 pl1 hit1 =>
         runCopies t inc epoch r k gs (.ok tbl1 (ex && ex1) (ch || ch1) (if ch && !ch1 then pl else pl1) (hit || hit1))
       | x => x)
    | x => x

/-! ### Completion -/

/-- Completion entry (Table 05-5). -/
def topEntry (r : Bytes) (status where_ : Nat) (hit existed : Bool) (epoch : Nat) : Bytes :=
  toLe 8 (topCookie r) ++ toLe 8 (status + where_ * 2 ^ 8 + b2n hit * 2 ^ 10 + b2n existed * 2 ^ 11 + epoch % 2 ^ 32 * 2 ^ 32)

/-- Counters of a table engine moved in the regions given. -/
def State.bumpIn (s : State) (o : Nat) (regions : List Nat) : State := regions.foldl (fun a g => a.bump (o + g)) s

/-- The counter of a status (R159, R173). -/
def statusCtr (status : Nat) : Option Nat :=
  match status with
  | 2 => some Obj.TBL_OP_BAD
  | 3 => some Obj.TBL_OP_DENIED
  | 6 => some Obj.TBL_OP_FULL
  | _ => none

/-- The key was present before a record that is refused (R160, R180). -/
def State.wasPresent (s : State) (t : TInfo) (inc : Nat) (r payload : Bytes) : Bool :=
  let k := topKey t r payload
  ((if t.local_ then [topRegion r] else s.copiesOf t r).any fun g =>
    (presentIn (copyOf s.tbl t inc g) t s.ep.openNum (ttopIndex r) k).isSome) && (t.kind == 4 || topKeyOk t r k)

/-- The first check of R159 that a record fails before its key is looked at: its status, and the step. -/
def State.topCheck (s : State) (f : Nat) (r : Bytes) : Option (Nat × Nat) :=
  let tab := s.tableFor (topTable r)
  if topReserved r (tab.map fun x => x.1) || topOp r == 0 || 4 < topOp r then some (2, 1)
  else if !s.mayChange f (topTable r) then some (3, 2)
  else match tab with
    | none => some (2, 3)
    | some (t, _) =>
      if (topRegion r == 1 && !t.local_) || (topPlen r != 0 && t.kind != 3) then some (2, 4)
      else if t.local_ && s.mode.fenced == some (topRegion r) then some (1, 5)
      else if t.epoch && topEpoch r != s.ep.openNum then some (8, 6)
      else if !topShapeOk t r then some (2, 7)
      else none

/-- A record that is refused completes, and is counted in the regions it is counted in. -/
def State.topRefuse (s : State) (f q : Nat) (r payload : Bytes) (status step : Nat) : State :=
  let tab := s.tableFor (topTable r)
  let regions := match tab with
    | some (t, _) => if step ≤ 3 then [s.fnRegion s.curVer f] else if t.local_ then [topRegion r] else s.copiesOf t r
    | none => [s.fnRegion s.curVer f]
  let existed := match tab with | some (t, inc) => s.wasPresent t inc r payload | none => false
  let epoch := match tab with | some (t, _) => if t.epoch then s.ep.openNum else s.ep.current | none => s.ep.current
  let s1 := s.bumpIn Obj.TBL_OPS regions
  let s2 := match statusCtr status with | some c => s1.bumpIn c regions | none => s1
  let s3 := if step == 5 then s2.bumpIn Obj.TBL_OP_BUSY regions else if step == 6 then s2.bump Obj.EPOCH_STALE_OPS else s2
  s3.jobDone f q (topEntry r status 3 false existed epoch)

/-- Time of a record in a region's table engine, ns (R164, R182). -/
def tableTime (t : TInfo) : Nat :=
  match t.kind with
  | 0 => 50
  | 1 => 50
  | 2 => 125
  | 3 => 500
  | _ => 250

/-- A record of a table waits while an engine that it needs works (R163, R164, R182). -/
def State.engineFree (s : State) (r : Bytes) : Bool :=
  match s.tableFor (topTable r) with
  | some (t, _) => (s.copiesOf t r).all fun g => lookupD s.tern.engine g 0 ≤ s.clock
  | none => true

/-- The engines of the copies that a record changes work on it. -/
def State.engineBusy (s : State) (t : TInfo) (r : Bytes) : State :=
  { s with tern := { s.tern with engine := (s.copiesOf t r).foldl (fun l g => assoc l g (s.clock + tableTime t)) s.tern.engine } }

/-- An operation writes the shadow and then the bank: flipped bits of its entry are gone (R183). -/
def State.rewritten (s : State) (t : TInfo) (r : Bytes) : State :=
  let c := bankPlace t (ttopIndex r)
  let hit := fun (f : Nat × TernFlip) => (s.copiesOf t r).contains f.1 && f.2.bank == c.1 && f.2.entry == c.2
  if t.kind == 4 then { s with tern := { s.tern with flips := s.tern.flips.filter fun f => !hit f } } else s

/-- A record that passed the checks is executed (R160, R163). -/
def State.topRun (s : State) (f q : Nat) (t : TInfo) (inc : Nat) (r : Bytes) (k : TopKey) : State :=
  let regions := s.copiesOf t r
  let s1 := s.bumpIn Obj.TBL_OPS regions
  let epoch := if t.epoch then s.ep.openNum else s.ep.current
  match runCopies t inc s.ep.openNum r k regions (.ok s.tbl true false 3 false) with
  | .ok tbl existed changed place hit =>
    let s2 := { s1 with tbl := tbl }
    let s3 := if changed then s2.rewritten t r else s2.bumpIn Obj.TBL_OP_NOCHANGE regions
    let s4 := if topOp r == 1 && !existed && place == 2 then s3.bumpIn Obj.TBL_OVF_INSERTS regions else s3
    let where_ := if topOp r == 1 && (t.kind == 1 || t.kind == 2) then place else 3
    s4.jobDone f q (topEntry r 0 where_ hit existed epoch)
  | .full existed held =>
    let s2 := s1.bumpIn Obj.TBL_OP_FULL regions
    let s3 := if held then s2.bumpIn Obj.TCAM_INDEX_HELD regions else s2
    s3.jobDone f q (topEntry r 6 3 false existed epoch)
  | .journalFull existed =>
    (s1.bump Obj.EPOCH_JOURNAL_FULL).jobDone f q (topEntry r 1 3 false existed epoch)

/-- One record: the checks of R159, the payload, the execution. `payload` is what the host's memory returned. -/
def State.takeRecord (s : State) (f q : Nat) (x : Qp) (r : Bytes) (payload : HostRead) : State :=
  match s.topCheck f r with
  | some (status, step) => s.topRefuse f q r (payload.bytes.getD []) status step
  | none =>
    match s.tableFor (topTable r) with
    | none => s
    | some (t, inc) =>
      let go := fun (st : State) (body : Bytes) =>
        let k := topKey t r body
        if topKeyOk t r k then (st.engineBusy t r).topRun f q t inc r k else st.topRefuse f q r body 2 7
      if !needsPayload t r then go s []
      else match s.fetch f q x (s.ringAttr f x) [(topAddr r, topLen r, false)] payload with
        | .wait s1 => s1
        | .lost s1 => s1.topRefuse f q r [] 2 7
        | .got b s1 => go s1 b

/-- A record of an operation is in front of table-operation ring q of a function; an unused code counts as an insert's. -/
def State.recordOf (s : State) (f q op : Nat) (given : HostRead) : Option (Qp × Bytes) :=
  (s.qp? f q).bind fun x => (s.jobDesc f x given).bind fun r =>
    if topOp r == op || (op == 1 && (topOp r == 0 || 4 < topOp r)) then some (x, r) else none

/-- The record in front of a ring cannot be read: outside application memory (R332), or the host's answer fails (R312). -/
def State.ringLost (s : State) (f q : Nat) (given : HostRead) : Bool :=
  match s.qp? f q with
  | some x => (s.jobDesc f x given).isNone
  | none => false

/-- The command of one operation: the record in front of ring q of function f; `given` and `payload` are what the host's
memory returned for them. -/
def tableOp (op dt f q : Nat) (given payload : HostRead) (s : State) : Out :=
  work dt s (fun t => t.traffic && t.jobReady f q 3 && t.mayAnswer f given && t.mayAnswer f payload
      && ((t.recordOf f q op given).any (fun x => t.engineFree x.2) || (op == 1 && t.ringLost f q given)))
    fun t => match t.qp? f q with
      | none => t
      | some x => match t.jobFetch f q x given with
        | .wait t1 => t1
        | .lost t1 => t1.jobDone f q (topEntry [] 3 3 false false t.ep.current)
        | .got r t1 => t1.takeRecord f q x r payload

/-- INSERT. -/
def execInsert (dt f q : Nat) (given payload : HostRead) (s : State) : Out := tableOp 1 dt f q given payload s
/-- DELETE. -/
def execDelete (dt f q : Nat) (given payload : HostRead) (s : State) : Out := tableOp 2 dt f q given payload s
/-- MODIFY. -/
def execModify (dt f q : Nat) (given payload : HostRead) (s : State) : Out := tableOp 3 dt f q given payload s
/-- CLEAR_HIT. -/
def execClearHit (dt f q : Nat) (given payload : HostRead) (s : State) : Out := tableOp 4 dt f q given payload s

/-! ### Ageing (R165) -/

/-- The region whose scanner visits a MIRRORED table. -/
def State.scanRegion (s : State) (table : Nat) : Nat :=
  s.eff (((s.learnRing table).bind fun r => s.ringRegion r).getD 0)

/-- A table of EPOCH_CURRENT that is aged, with the epoch of its declaration. -/
def State.agedTable (s : State) (table : Nat) : Option (TInfo × Nat) :=
  ((s.curVer.pipe.bind fun i => tinfo? i table).filter fun t => t.age).map fun t => (t, lookupD s.curVer.inc table 0)

/-- The scanner's pass through a table now: its start on the device clock and its period (R174). -/
def State.passNow (s : State) (table : Nat) : Option (Nat × Nat) :=
  agePass (lookup? s.lrn.agePass table) (s.cfg (tblObj Obj.TBL_AGE_PERIOD_S table) * 1000000000) s.clock

/-- An entry is due for its one visit of this pass, a period after the visit before (R165). Where in the pass an entry comes is
the scanner's own order: the command gives the instant (log entry 71). -/
def TEntry.visitDue (e : TEntry) (pass : Nat × Nat) (clock : Nat) : Bool :=
  match e.visit with
  | none => true
  | some v => decide (v < pass.1) && decide (v + pass.2 ≤ clock)

/-- The entry of a region's copy that the scanner visits. -/
def State.scanned (s : State) (region table key : Nat) : Option (TInfo × Nat × TEntry) :=
  (s.agedTable table).bind fun x =>
    if !x.1.local_ && s.scanRegion table != region then none
    else (s.passNow table).bind fun p =>
      ((copyOf s.tbl x.1 x.2 region).find? fun e =>
        e.key == key && !e.static && e.visible s.ep.current && e.visitDue p s.clock).map fun e => (x.1, x.2, e)

/-- AGE_SCAN: the scanner of a region visits the entry of a key. -/
def execAgeScan (dt region table key : Nat) (s : State) : Out :=
  cmd dt s (fun t => t.traffic && decide (region < 2) && t.mode.fenced != some region && (t.scanned region table key).isSome)
    fun t => match t.scanned region table key with
      | none => t
      | some (i, inc, e) =>
        let mine := fun (x : TEntry) => x.table == table && x.inc == inc && x.key == key && x.born == e.born && x.died == e.died
          && (!i.local_ || x.region == region)
        let hit := t.tbl.any fun x => mine x && x.hit
        let report := !hit && !e.reported
        let mark := fun (x : TEntry) => if mine x then { x with hit := false, reported := !hit, visit := some t.clock } else x
        let t1 := { t with tbl := t.tbl.map mark }
        if !report then t1
        else
          let t2 := if (t.learnRing table).isSome then t1.bump (Obj.LRN_AGE_RECORDS + region) else t1
          t2.produce table key (keyArea i key)
            { kind := 2, region := region, epoch := t.ep.current, time := t.now, srcKind := 0, srcId := 0, hops := 0, pass := 0,
              context := e.action + e.data % 2 ^ 52 * 2 ^ 12 }

/-! ### The ternary scrub (R184, R186) -/

/-- The ternary table of a bank in EPOCH_CURRENT. -/
def State.bankTable (s : State) (bank : Nat) : Option TInfo :=
  s.curVer.pipe.bind fun i => ((i.tern.map ternInfoOf).find? fun t => bit t.banks bank)

/-- Location as `TCAM_SCRUB_LAST` gives it. -/
def scrubLoc (region bank entry : Nat) : Nat := region + bank * 2 + entry * 16

/-- The banks in use in EPOCH_CURRENT, ascending. -/
def State.banksUsed (s : State) : List Nat := (List.range 8).filter fun b => (s.bankTable b).isSome

/-- The unit of a pass that comes after one, none at the pass's end (R184). -/
def scrubAfter (used : List Nat) (last : Option (Nat × Nat)) : Option (Nat × Nat) :=
  match last with
  | none => used.head?.map fun b => (b, 0)
  | some (b, u) =>
    if u < 4095 && used.contains b then some (b, u + 1) else (used.find? fun x => decide (b < x)).map fun x => (x, 0)

/-- A scrub period: 10 ms (R184). -/
abbrev scrubPeriod : Nat := 10000000

/-- The pass and the unit of it that a region's scrubber comes to next; passes begin a whole number of periods after each other,
and the units of one follow evenly (R184). -/
def State.scrubNext (s : State) (region : Nat) : Option (ScrubPass × Nat × Nat) :=
  let used := s.banksUsed
  let due := fun (p : ScrubPass) (x : Nat × Nat) =>
    decide (p.start + ((used.findIdx fun b => b == x.1) * 4096 + x.2) * scrubPeriod / (used.length * 4096) ≤ s.clock)
  let fresh := fun (start : Nat) => (scrubAfter used none).map fun x => ((⟨start, none, none⟩ : ScrubPass), x.1, x.2)
  match lookup? s.tern.pass region with
  | none => fresh s.clock
  | some p =>
    match scrubAfter used p.last with
    | some x => if due p x then some (p, x.1, x.2) else none
    | none =>
      if p.start + scrubPeriod ≤ s.clock then fresh (p.start + (s.clock - p.start) / scrubPeriod * scrubPeriod) else none

/-- The scrubber rewrites an entry from its shadow: counted once, logged; until the end it matches nothing (R184). The repair
takes a free time of at most 200 ns. -/
def State.scrubFix (s : State) (region bank entry : Nat) : State :=
  let loc := scrubLoc region bank entry
  let x := s.fresh 8
  let rest := s.tern.repair.filter fun r => s.clock < r.2.2
  let t := { s.tern with
    flips := s.tern.flips.filter fun f => !(f.1 == region && f.2.bank == bank && f.2.entry == entry)
    repair := rest ++ [(region, (bank, entry), s.clock + x.1 % 201)] }
  ((({ x.2 with tern := t }.bump (Obj.TCAM_SCRUB_FIX + region)).latch Obj.TCAM_SCRUB_LAST loc).latch Obj.TCAM_SCRUB_LAST_TIME
    s.now).logCell { ErrInfo.mk' 0 (2 + region) 0x13 bank 0x07 0 with addr := loc }

/-- Both shadow copies are gone: the entry is cleared (R186). -/
def State.scrubLose (s : State) (i : TInfo) (region bank u : Nat) : State :=
  let gone := fun (x : TEntry) => x.table == i.id && x.region == region && x.slot == unitIndex i bank u
  let t := { s.tern with
    flips := s.tern.flips.filter fun f => !(f.1 == region && f.2.bank == bank && f.2.entry == u / i.units) }
  (({ s with tbl := s.tbl.filter fun x => !gone x, tern := t }).bump (Obj.TCAM_SHADOW_LOST + region)).raise 0x0090 9 0
    (toBe 8 (scrubLoc region bank (u / i.units)))

/-- The scrubber is done with a unit of a pass: at the last unit of the last bank the pass is complete (R199). -/
def State.scrubbed (s : State) (region : Nat) (p : ScrubPass) (bank u : Nat) (fixed : Option (Nat × Nat)) : State :=
  let s1 := { s with tern := { s.tern with pass := assoc s.tern.pass region ⟨p.start, some (bank, u), fixed⟩ } }
  if (scrubAfter s.banksUsed (some (bank, u))).isNone then s1.bump (Obj.TCAM_SCRUB_PASSES + region) else s1

/-- SCRUB_VISIT of unit u of a bank of a region, the next of the pass. Bank and shadow differ where bits have flipped, or as
`found` says (log entry 14). -/
def execScrubVisit (dt region bank u : Nat) (found : ScrubFind) (s : State) : Out :=
  cmd dt s (fun t => t.traffic && decide (region < 2) && t.mode.fenced != some region
      && (t.scrubNext region).map (fun x => x.2) == some (bank, u)) fun t =>
    match t.bankTable bank, t.scrubNext region with
    | some i, some (p, _) =>
      let entry := u / i.units
      let flipped := t.tern.flips.any fun f => f.1 == region && f.2.bank == bank && f.2.entry == entry
      let fix := flipped || (found == .differs && p.fixed != some (bank, entry))
      if found == .lost then (t.scrubLose i region bank u).scrubbed region p bank u p.fixed
      else if fix then (t.scrubFix region bank entry).scrubbed region p bank u (some (bank, entry))
      else t.scrubbed region p bank u p.fixed
    | _, _ => t

end Sys2Proof.Machine
end

