-- ==== Sys2Proof/Machine/Dict.lean ====
section
/-!
DEFINITION. Reading the object dictionary (spec/13 R395, R400, R412 to R417): which objects and elements exist, and what each
reads as. Values are big-endian numbers of their length in bytes; octets stand in order.
-/

namespace Sys2Proof.Machine

/-! ### What exists (R412, R414, R418) -/

/-- Rows of an object's index. -/
def indexRows (o : Nat) : List ObjRow := catalog.filter fun r => r.idx == rowIndex o

/-- Subindex 0 of a record or array: a U8 that holds its highest subindex (R412). -/
def subZero (o : Nat) : ObjRow :=
  row (rowIndex o) 0 0 2 1 .ro .none ((indexRows o).foldl (fun a r => Nat.max a r.hi) 0) false false .any none

/-- The row of an object that exists; the recovery firmware has indexes 0x1000 to 0x17FF alone (R456). -/
def State.rowOf? (s : State) (o : Nat) : Option ObjRow :=
  if s.cfg Obj.IMG_RUNNING == 2 && !(0x100000 ≤ o && o < 0x180000) then none
  else match objRow? o with
    | some r => some r
    | none => if o % 256 == 0 && !(indexRows o).isEmpty then some (subZero o) else none

/-! ### Stored values and versions (R51, R417) -/

/-- Values of EPOCH objects in effect in EPOCH_CURRENT; before epoch 1 those that are stored, or on their way there. -/
def State.epochStore (s : State) : Store :=
  if s.ep.live.isEmpty then
    s.dict.toFlash.foldl (fun a p => Store.put a p.1 (objDefault (keyObj p.1) (keyElem p.1)) p.2) s.dict.flash
  else s.curVer.objs

/-- Values of EPOCH objects as a session sees them: with its staged values where it asks for them. -/
def State.epochView (s : State) (k : Nat × Nat) (staged : Bool) : Store :=
  if staged then stagedObjs s.epochStore (s.stageOf k) else s.epochStore

/-- Containers of images in effect; before epoch 1 those that are stored. -/
def State.contsNow (s : State) : List (Nat × Bytes) :=
  if s.ep.live.isEmpty then s.storedImages.filterMap BulkVal.cont? else s.curVer.conts

/-- The container of an image object as a session sees it; empty where there is none. -/
def State.imageBytes (s : State) (k : Nat × Nat) (staged : Bool) (o : Nat) : Bytes :=
  let held := lookupD s.contsNow o []
  let st := s.stageOf k
  if !staged then held
  else if o == Obj.PIPE_IMAGE then
    match stagedPipe st with
    | some i => (i.map fun x => x.2).getD []
    | none => held
  else match stagedPat st (nth o Obj.PAT_SET_IMAGE) with
    | some i => (i.map fun x => x.2).getD []
    | none => held

/-- An accepted value of a QUIESCE object, or the value in effect. -/
def State.wanted (s : State) (o e : Nat) : Nat :=
  match s.dict.qui.find? fun p => p.1 == okey o e with
  | some p => p.2
  | none => s.cfg o e

/-! ### Elements -/

/-- Elements that a TABLE has (R128, R356, R401). -/
def State.elemCount (s : State) (k : Nat × Nat) (staged : Bool) (r : ObjRow) (o : Nat) : Nat :=
  match o / 256 with
  | 0x4430 => s.curVer.bank (o % 256 - 1)
  | 0x3404 => (if o % 256 == 3 then 256 else 4104) * 65536
  | 0x5803 => ((s.epochView k staged).elems o).length
  | 0x1500 => s.flt.log.length
  | 0x1150 => s.mgmt.evLog.length
  | _ => match r.elem with
    | some x => x.1
    | none => 0

/-- Words laid end to end, the first in front. -/
def joinWords (l : List Nat) : Nat := l.foldl (fun a w => a * 2 ^ 64 + w % 2 ^ 64) 0

/-- One region's half of a counter pair; that of a fenced region reads 0 (R128). -/
def State.pairHalf (s : State) (region bank i : Nat) : List Nat :=
  if s.mode.fenced == some region then [0, 0]
  else
    let st := s.settleCounts.tm.count
    let key := pairKey region bank i
    [st.get key 0, st.get (key + 1) 0]

/-- An SA entry (Table 12-5): words big-endian, octets in order. -/
def saNumber (ent : Bytes) : Nat :=
  let be := fun (w : Nat) => toBe 8 (leWord ent w)
  beNat (be 0 ++ be 1 ++ slice ent 16 16 ++ be 4 ++ be 5 ++ slice ent 48 80)

/-- An element of MGMT_SESSIONS: 0 to 7 MA, 8 to 15 MB on Ethernet, 16 the mailbox. -/
def State.sessionElem (s : State) (e : Nat) : Nat :=
  let k := if e == 16 then (1, 1) else (e / 8, e % 8 + 1)
  if (e == 16) != (s.mailbox && k.1 == 1) then 0
  else match s.sess? k with
    | none => 0
    | some x =>
      let w := 1 + x.port * 2 + x.num * 4 + b2n (s.mgmt.holder == some k) * 64
      beNat (toBe 8 w ++ toBe 16 x.peer ++ toBe 8 x.cert)

/-! ### Values that follow from the state -/

/-- EPOCH_COMMIT_STATE: applying before queued, before prepared. -/
def State.commitState (s : State) : Nat :=
  if !s.ep.applying.isEmpty then 2 else if s.ep.queued.isSome then 1 else if s.ep.member.isSome then 3 else 0

/-- Length of a staged value in bytes. -/
def valueLen (key : Nat) : Nat :=
  match objRow? (keyObj key) with
  | some r => (match r.elem with | some x => x.2.2 | none => r.len)
  | none => 0

/-- Value bytes of a staging area. -/
def Staging.bytes (st : Staging) : Nat := sumBy (fun p => valueLen p.1) st.vals

/-- A per-table object (Table 05-9). -/
def State.tableObject (s : State) (t sub : Nat) : Option Nat :=
  match s.curVer.pipe.bind fun i => tinfo? i t with
  | none => if sub == 1 then some 0xFF else if sub ≤ 9 then some 0 else none
  | some x =>
    let inc := lookupD s.curVer.inc t 0
    let copy := fun r => if s.mode.fenced == some r then [] else s.tbl.filter fun y => y.ofCopy t inc r && !y.super
    let used := fun r => sumBy (fun y => if x.kind == 3 then prefixUnits x y.plen else 1) (copy r)
    let ovf := fun r => ((copy r).filter fun y => y.place == 2).length
    match sub with
    | 1 => some x.kind
    | 2 => some (b2n x.local_)
    | 3 => some (b2n x.epoch)
    | 4 => some x.size
    | 5 => some (trieLevels x)
    | 6 => some (used 0)
    | 7 => some (used 1)
    | 8 => some (ovf 0)
    | 9 => some (ovf 1)
    | _ => none

/-- GATE_LONGEST_NS of a port (R246). -/
def State.gateLongest (s : State) (pn : Nat) : Nat :=
  let g := s.gateOf pn
  (List.range 8).foldl (fun a t =>
    let w := if g.enable then (match g.cyc.longest t with | some x => Nat.min x 0xFFFFFFFE | none => 0xFFFFFFFF) else 0xFFFFFFFF
    a * 2 ^ 32 + w) 0

/-- Local index and function of an element of FN_QP_MAP. -/
def State.qpMap (s : State) (sub e : Nat) : Nat :=
  match fidAt sub (e / 65536) with
  | some f => (s.fn f).qpids.getD (e % 65536) 0xFFFFFFFF
  | none => 0xFFFFFFFF

/-- Queue pairs of the pool that functions have taken. -/
def State.takenPairs (s : State) : List Nat := s.hs.fn.flatMap fun x => x.2.qpids

/-- What an object that follows from the state reads as; none for one that holds a value. -/
def State.computed (s : State) (k : Nat × Nat) (o e : Nat) : Option Nat :=
  let sub := o % 256
  let i := sub - 1
  let v := s.curVer
  if o / 65536 == 0x49 then s.tableObject (o / 256 - 0x4900) sub
  else match o / 256 with
  | 0x2011 => some (s.netRegion v i)
  | 0x2411 => some (s.wvRegion v i)
  | 0x7012 => some (if s.pwr.hbmDone then s.reserveSum s.heldVers i else 0)
  | 0x1200 => match sub with
    | 1 => some s.ep.current
    | 2 => some ((s.ep.live.head?.map fun x => x.num).getD 0)
    | 3 => some s.ep.live.length
    | 4 => some s.ep.openNum
    | 5 => some s.commitState
    | 9 => some (s.stageOf k).vals.length
    | 10 => some (s.stageOf k).bytes
    | _ => none
  | 0x1210 => match sub with
    | 5 => some s.ep.atState
    | 6 => some (beNat (toLe 128 (match s.ep.initiated with | some x => x.acked | none => 0)))
    | _ => none
  | 0x4001 =>
    let img := v.pipe
    some (match img, sub with
      | none, _ => 0
      | some x, 1 => (x.nodes.filter fun n => bit n.2 0).length
      | some x, 2 => (x.trans.filter fun n => bit n.2 42).length
      | some x, _ => x.assist.length)
  | 0x4401 => some (match v.pipe, sub with
      | none, _ => 0
      | some x, 1 => x.version
      | some x, _ => (x.slots.filter fun d => bit d.2 0 && fld d.2 1 3 == 2).length)
  | 0x4430 => some (joinWords (s.pairHalf 0 i e ++ s.pairHalf 1 i e))
  | 0x4C00 => some (match s.bankTable i with | some t => t.units | none => 0)
  | 0x4C01 => some (match s.bankTable i with | some t => t.id | none => 0xFF)
  | 0x4C02 => some (match s.bankTable i with | some t => t.position | none => 0)
  | 0x4E01 => some (match lookup? v.pats i with | some p => p.patterns.length | none => 0)
  | 0x4E02 => some (match lookup? v.pats i with | some p => p.version | none => 0)
  | 0x4E03 => some (patSum s.heldVers)
  | 0x5020 => some (s.frontUsed i)
  | 0x5021 => some (s.carveUsed i)
  | 0x5022 => some (s.sharedFree i).toNat
  | 0x5023 => some (minReserved v i)
  | 0x5411 => some (joinWords ((List.range 6).map fun j => s.tm.polStat.get (e * 8 + j) 0))
  | 0x5810 => some (b2n (lookup? s.tm.gatePend i).isSome)
  | 0x5811 => (lookup? s.tm.gatePend i).map fun p => p.2
  | 0x5812 => some (s.gateLongest i)
  | 0x5C50 => if sub == 7 then some (Config.ipfixPen % 2 ^ 32) else none
  | 0x2421 => match sub with
    | 1 => some s.wv.cal.digest
    | 2 => some (b2n s.wv.calPend.isSome)
    | _ => s.wv.calPend.map fun p => p.2
  | 0x2430 => some (s.destOf e)
  | 0x2431 => if sub == 2 then some (s.wv.lsdb.map fun x => x.identity).eraseDups.length else none
  | 0x2440 => match sub with
    | 2 => some (s.advertised.getD 2 0)
    | 3 => some (s.advertised.getD 3 0)
    | 4 => some (s.parentLink.getD 0xFF)
    | _ => none
  | 0x3014 => (fidAt i e).map s.quotaEff
  | 0x3404 => some (s.qpMap i e)
  | 0x3405 => some (262144 - s.takenPairs.length)
  | 0x6000 => if sub == 2 then some (match s.cry.kek with | some x => kcv x | none => 0) else none
  | 0x6002 => some (s.slotState e)
  | 0x6011 => some (match lookup? s.cry.sas e with | some x => saNumber x.ent | none => 0)
  | 0x6410 => if sub == 6 then some (65536 - s.stg.cmds.length) else none
  | 0x1310 => if sub == 4 then some s.step2Blockers else none
  | 0x1400 => if sub == 1 then some s.now else none
  | 0x1500 => if sub == 1 then some (beNat (s.flt.log.getD e [])) else none
  | 0x1100 => match sub with
    | 1 => some (match s.mgmt.holder with | some x => holderByte x | none => 0)
    | 4 => some s.mgmt.waiting.length
    | 5 => some (if s.mgmt.holder.isSome then (s.mgmt.leaseEnd - s.clock) / 1000000 else 0)
    | 6 => some (b2n ((List.range 4).all fun a => s.cfg (Obj.MGMT_TRUST_ANCHOR + a) == 0))
    | _ => none
  | 0x1130 => some (s.sessionElem e)
  | 0x1150 => some (beNat (s.mgmt.evLog.getD e []))
  | 0x1701 => some (if s.pwr.excluded.contains e then 0x80000000 else i32 (s.pwr.sensors.getD e 0))
  | 0x1601 => some (s.bankState i)
  | 0x1602 => some (if s.slotValid i then (s.fwSlot i).version else 0)
  | 0x1603 => some (if s.slotValid i then (s.fwSlot i).svn else 0)
  | 0x1630 => match sub with
    | 1 => some s.fuse.svnVigil
    | 2 => some s.fuse.svnService
    | 4 => some s.fuse.revoked
    | _ => none
  | 0x1700 => if sub == 4 then some (i32 (s.pwr.peak.getD s.pwr.tj)) else none
  | _ => none

/-- What an object or element reads as. -/
def State.valueOf (s : State) (k : Nat × Nat) (staged : Bool) (r : ObjRow) (o e : Nat) : Nat :=
  match s.computed k o e with
  | some v => v
  | none =>
    if o % 256 == 0 && (objRow? o).isNone then r.dflt
    else if r.app == .epoch then (s.epochView k staged).get (okey o e) (objDefault o e)
    else if r.acc == .rc then s.dict.ctr.get (okey o e) 0
    else s.wanted o e

/-- A clear-on-read object is cleared (R14); `THERM_TJ_PEAK_MC` returns to the present Tj. `SUPPLY_POWER_PEAK_MW` restarts at 0:
DESIGN CHOICE (log entry 68), since its meaning names no value. -/
def State.clearRead (s : State) (r : ObjRow) (o : Nat) : State :=
  if r.acc != .rc then s
  else if o == Obj.THERM_TJ_PEAK_MC then { s with pwr := { s.pwr with peak := some s.pwr.tj } }
  else { s with dict := { s.dict with ctr := s.dict.ctr.put (okey o 0) 0 0 } }

/-- A STRING's bytes: without leading zeros of its number. -/
def stringBytes (v : Nat) : Bytes := (toBe 64 v).dropWhile fun b => b == 0

/-- Bytes of a value of a type and length. -/
def valueBytes (typ len v : Nat) : Bytes := if typ == 11 then stringBytes v else toBe len v

/-! ### Types (R395) -/

/-- Type code and length of an object, or of an element. -/
def typeOf (r : ObjRow) (elem : Bool) : Nat × Nat :=
  if elem then (match r.elem with | some x => x.2 | none => (0, 0)) else (r.typ, r.len)

/-- An object that only bulk channels reach: TABLE, IMAGE, or more than 1,024 B. -/
def bulkOnly (r : ObjRow) : Bool := r.typ == 12 || r.typ == 13 || 1024 < r.len

/-- Bytes of an object or element range as a bulk read carries them. -/
def State.bulkBytes (s : State) (k : Nat × Nat) (staged : Bool) (r : ObjRow) (o first n : Nat) : Bytes :=
  if r.typ == 12 then
    (List.range n).flatMap fun i => toBe (typeOf r true).2 (s.valueOf k staged r o (first + i))
  else if o == Obj.ID_CERT_CHAIN then Config.certChain
  else if r.typ == 13 then s.imageBytes k staged o
  else valueBytes r.typ r.len (s.valueOf k staged r o 0)

end Sys2Proof.Machine
end

