-- ==== Sys2Proof/Machine/DictWrite.lean ====
section
/-!
DEFINITION. Writing the object dictionary (spec/02 R47 to R58, spec/13 R413 to R417): the checks in their order, what each
object accepts, and what an accepted write does.
-/

namespace Sys2Proof.Machine

/-! ### QUIESCE objects (R47, R50 and the idle conditions of their chapters) -/

/-- Every logical port of a network port is disabled (R45). -/
def State.portDisabled (s : State) (p : Nat) : Bool :=
  (List.range 8).all fun i => !s.netPresent (8 * p + i) || s.cfg (Obj.NET_PORT_ENABLE + (8 * p + i)) == 0

/-- One of the n objects from o on. -/
def within (x o n : Nat) : Bool := o ≤ x && x < o + n

/-- The block of a QUIESCE object is idle. That of CORE_RESET_VECTOR is not in DRAIN while the cores run (R38). -/
def State.quiIdle (s : State) (o e : Nat) : Bool :=
  if o == Obj.CORE_RESET_VECTOR then s.cfg Obj.CORE_RUN == 0
  else s.mode.mode == .drain || s.mode.mode == .vigil
    || (if within o Obj.NET_PORT_MODE 2 then s.portDisabled (nth o Obj.NET_PORT_MODE)
        else if o == Obj.WV_ADDR_SRC || o == Obj.WV_ADDR || o == Obj.WV_FABRIC_ID then
          (List.range 8).all fun l => s.wvState l == 0
        else if portQuiesce 0 o then s.hs.perst.contains 0
        else if portQuiesce 1 o then s.hs.perst.contains 1
        else if within o Obj.FN_VECTORS 3 then
          match fidAt (nth o Obj.FN_VECTORS) e with
          | some f => !(s.fn f).msixEn && (s.qpsOf f).isEmpty
          | none => true
        else false)

/-- An accepted value waits for an event of its own: the passage to SERVICE (R33) or the port's PERST deassertion (R320). -/
def waitsElsewhere (o : Nat) : Bool :=
  o == Obj.MEM_APP_MODE || o == Obj.MEM_RESERVE_GIB || portQuiesce 0 o || portQuiesce 1 o

/-- An accepted value is due: its block has left idle; DORMANT is not a leaving. -/
def State.quiDue (s : State) (x : Nat × Nat) : Bool :=
  !(waitsElsewhere (keyObj x.1)) && s.mode.mode != .dormant && !(s.quiIdle (keyObj x.1) (keyElem x.1))

/-- Lanes of a network port train again under a new mode (R45). -/
def State.retrainPort (s : State) (p : Nat) : State :=
  (List.range 8).foldl (fun a i => a.netFall (8 * p + i) (a.netIdle (8 * p + i))) s

/-- Accepted values whose blocks have left idle take effect. -/
def State.settleQui (s : State) : State :=
  let due := s.dict.qui.filter s.quiDue
  let s1 : State := { s with dict := { s.dict with qui := s.dict.qui.filter fun x => !(s.quiDue x) } }
  due.foldl (fun a x =>
    let o := keyObj x.1
    let b := a.setCfg o (keyElem x.1) x.2
    if within o Obj.NET_PORT_MODE 2 then b.retrainPort (nth o Obj.NET_PORT_MODE)
    else if o == Obj.WV_ADDR_SRC || o == Obj.WV_ADDR then b.latch Obj.WV_ADDR_EFFECTIVE b.chosenAddr
    else b) s1

/-- QUIESCE_APPLY. -/
def execQuiesceApply (dt : Nat) (s : State) : Out :=
  cmd dt s (fun t => t.alive && t.dict.qui.any t.quiDue) State.settleQui

/-! ### Values in range (R11, R56) -/

/-- Level of a traffic-manager node below the ports: 1 to 3, 4 a leaf (R215). -/
def nodeLevel (n : Nat) : Nat := if n < 256 then 1 else if n < 4352 then 2 else if n < 20736 then 3 else 4

/-- A node word in range (Table 07-3). -/
def nodeWordOk (n w : Nat) : Bool :=
  fld w 1 3 < nodeLevel n && fld w 4 14 < [27, 256, 4096, 16384].getD (fld w 1 3) 0 && !bit w 31 && fld w 48 16 == 0
    && (nodeLevel n == 4 || (tnTc w == 0 && tnAdm w == 0))

/-- An admission profile in range (Table 07-1). -/
def admOk (w : Nat) : Bool := 1 ≤ admMax w && fld w 44 4 ≤ 10 && fld w 48 4 ≤ 10 && fld w 52 12 == 0

/-- A peer window in range (Table 10-4). -/
def peerWordOk (w : Nat) : Bool :=
  let w0 := elemWord 4 w 0
  fld w0 11 5 == 0 && fld w0 48 16 == 0 && elemWord 4 w 3 == 0 && (!bit w0 0 || (12 ≤ fld w0 5 6 && fld w0 5 6 ≤ 40))

/-- A sampler in range (Table 08-7). -/
def samplerOk (w : Nat) : Bool := w < 2 ^ 37 && fld w 25 8 ≤ 224

/-- An SA writer in range. -/
def saWriterOk (w : Nat) : Bool :=
  let w0 := elemWord 2 w 0
  fidUsed (fld w0 0 14) && !bit w0 14 && fld w0 54 10 == 0 && elemWord 2 w 1 == fld (elemWord 2 w 1) 0 13 + fld (elemWord 2 w 1) 16 13 * 2 ^ 16

/-- A PF configuration element in range beside the others of its port (R322). -/
def State.pfConfigOk (s : State) (port n w : Nat) : Bool :=
  let elem := fun i => if i == n then w else s.wanted (Obj.FN_PF_CONFIG + port) i
  let vfs := sumBy (fun i => if pfcEnable (elem i) then pfcTotalVfs (elem i) else 0) (List.range 8)
  fld w 18 6 == 0 && fld w 48 16 == 0 && pfcTotalVfs w ≤ 4096 && vfs ≤ 4096
    && (n != 0 || (pfcEnable w && (port != 0 || pfcPersona w == 0)))

/-- MSI-X vectors of the functions of a port, with one function's entry replaced (R326). -/
def State.vectorsOf (s : State) (port e v : Nat) : Nat :=
  let o := Obj.FN_VECTORS + port
  let pfs := (List.range 8).filter fun n => pfcEnable (s.wanted (Obj.FN_PF_CONFIG + port) n)
  let vfs := sumBy (fun n => pfcTotalVfs (s.wanted (Obj.FN_PF_CONFIG + port) n)) pfs
  let one := fun i => if i == e then v else s.wanted o i
  sumBy one pfs + sumBy (fun i => one (8 + i)) (List.range vfs)

/-- Beyond its row's own column: what the object's chapter checks when it is written. -/
def State.ownOk (s : State) (o e v : Nat) : Bool :=
  let ix := o / 256
  if 0x4900 ≤ ix && ix < 0x4A00 && 10 ≤ o % 256 then
    match s.curVer.pipe.bind fun i => tinfo? i (ix - 0x4900) with
    | some t => if o % 256 == 10 then t.age else t.learn
    | none => false
  else match ix with
  | 0x7010 =>
    if o == Obj.CORE_RESET_VECTOR then v % 4 == 0 && appBase ≤ v && v < appBase + s.appBytes
    else if o == Obj.MEM_RESERVE_GIB then [0, 1].all fun k => s.reserveSum s.heldVers k ≤ v * 2 ^ 30
    else true
  | 0x5001 =>
    let k := nth o Obj.TM_HBM_BUF_MIB
    s.reserveSum s.heldVers k - s.cfg o * 2 ^ 20 + v * 2 ^ 20 ≤ s.cfg Obj.MEM_RESERVE_GIB * 2 ^ 30
  | 0x5010 => nodeWordOk e v
  | 0x5013 => admOk v
  | 0x5400 => shpOk v
  | 0x5410 => polReservedOk v
  | 0x5803 => gateEntryOk v
  | 0x5C30 => samplerOk v
  | 0x2420 =>
    if o == Obj.WV_CAL_CYCLE_NS then 2000 ≤ v && v ≤ 1000000
    else if o == Obj.WV_CAL_WINDOWS then winOk v
    else (List.range 8).all fun t => 2 ≤ fld v (2 * t) 2
  | 0x3012 => peerWordOk v
  | 0x3022 => v == 1 || v == 2
  | 0x3409 => v == 0 || (8000 ≤ v && v ≤ 1600000000000)
  | 0x3400 => s.pfConfigOk (nth o Obj.FN_PF_CONFIG) e v
  | 0x3403 => o % 256 == 3 || s.vectorsOf (nth o Obj.FN_VECTORS) e v ≤ 65536
  | 0x340A => fidUsed (fld v 0 14) && (fld v 14 2 == 1 || fld v 14 2 == 2) && v < 2 ^ 16
  | 0x4810 => v == 0xFFFF || !fidVf v
  | 0x3410 => fidUsed v && (coreFid v || (!fidVf v && fidPort v == nth o Obj.MIG_CTL_FID))
  | 0x6010 => saWriterOk v
  | 0x6400 => fld v 24 7 == 0
  | 0x1310 => if o == Obj.PWR_WAKE_GPIO then !((v == 0 || v == 1) && s.wanted (Obj.HST_CLKREQ_GPIO + v) 0 == 1) else true
  | 0x1640 => if o == Obj.IMG_OWNER_SVN_MIN then s.cfg o ≤ v else beNat ((toBe 2704 v).drop 2689) == 0
  | 0x7F00 => if o == Obj.DIAG_INJECT then djOk v else true
  | _ => true

/-- The range that an object's row gives. -/
def rngOk (r : ObjRow) (v : Nat) : Bool :=
  match r.rng with
  | .any => true
  | .range lo hi => lo ≤ v && v ≤ hi
  | .rangeOr lo hi x => (lo ≤ v && v ≤ hi) || v == x
  | .mask m => v &&& m == v
  | .signed b => v ≤ b || 2 ^ 32 - b ≤ v
  | .fid => fidUsed v || v == 0xFFFF
  | .own => true

/-! ### The checks of an operation (R413, R414, R416) -/

/-- The three item operations. -/
inductive ItemOp where
  | read | write | stage
  deriving DecidableEq, Repr

/-- Access code and operation agree (Table 13-8). -/
def State.accOk (s : State) (r : ObjRow) (op : ItemOp) : Bool :=
  match op with
  | .read => r.acc != .wo
  | .write => r.acc == .rw || r.acc == .wo || (r.acc == .rws && s.mode.mode == .vigil)
  | .stage => r.acc == .rws

/-- The mode refuses a write (R416). -/
def State.modeBusy (s : State) (o : Nat) : Bool :=
  (s.mode.mode == .handover && o != Obj.MGMT_SEM_HEARTBEAT)
    || (s.mode.mode == .dormant && o != Obj.MGMT_SEM_HEARTBEAT && o != Obj.MODE_REQUEST)

/-- The mode refuses a write (R416), or a QUIESCE block is busy (R47). -/
def State.writeBusy (s : State) (r : ObjRow) (o e : Nat) : Bool :=
  s.modeBusy o || (r.app == .quiesce && !(s.quiIdle o e))

/-- Checks 1 to 4 of R414 on an item: the status, 0 where all pass. -/
def State.itemStatus (s : State) (k : Nat × Nat) (op : ItemOp) (staged : Bool) (o : Nat) (elem : Option Nat) : Nat :=
  match s.rowOf? o with
  | none => 10
  | some r =>
    if elem.any fun e => s.elemCount k (staged || op == .stage) r o ≤ e then 2
    else if (elem.isNone && bulkOnly r) || !(s.accOk r op) then 3
    else if op != .read && s.mgmt.holder != some k then 4
    else if op != .read && s.writeBusy r o (elem.getD 0) then 1
    else 0

/-- Check 5 on a written value. -/
def State.valueStatus (s : State) (r : ObjRow) (o : Nat) (e v : Nat) : Nat := if rngOk r v && s.ownOk o e v then 0 else 2

/-! ### What an accepted write does -/

/-- A stored value is on its way to the flash (R415). -/
def State.toStore (s : State) (r : ObjRow) (o e v : Nat) : State :=
  if r.stored then { s with dict := { s.dict with toFlash := s.dict.toFlash ++ [(okey o e, v)] } } else s

/-- A value is taken: at once, when its block leaves idle, or from epoch 1 on (R417). -/
def State.putValue (s : State) (r : ObjRow) (o e v : Nat) : State :=
  let s1 := s.toStore r o e v
  match r.app with
  | .epoch => s1
  | .quiesce =>
    let q := s1.dict.qui.filter fun p => p.1 != okey o e
    { s1 with dict := { s1.dict with qui := q ++ [(okey o e, v)] } }
  | _ => s1.setCfg o e v

/-- Sessions of a port that were opened at an address that is no more (R388). -/
def State.closeLost (s : State) (port : Nat) (lost : Nat → Bool) : State :=
  (s.mgmt.sessions.filter fun x => x.port == port && lost x.local_).foldl (fun (a : State) x => a.closeSess (x.port, x.num)) s

/-- What follows from a value that has been taken; `old` is the one before. -/
def State.afterWrite (s : State) (o v old : Nat) : State :=
  if within o Obj.NET_PORT_ENABLE 16 then
    let n := nth o Obj.NET_PORT_ENABLE
    if !s.netPresent n then s
    else if v == 0 then s.netFall n 1
    else if s.cfg (Obj.NET_LINK_STATE + n) == 1 then s.latch (Obj.NET_LINK_STATE + n) (s.netIdle n) else s
  else if within o Obj.WV_LINK_ENABLE 8 && v == 0 && s.wvState (nth o Obj.WV_LINK_ENABLE) != 0 then
    State.linkDown s (nth o Obj.WV_LINK_ENABLE)
  else if within o Obj.WV_LINK_COST 8 && v != old then
    { s with wv := { s.wv with lsDirty := true, routeDirty := true } }
  else if o / 65536 == 0x49 && o % 256 == 0x0A && v != old then s.changePeriod (o / 256 % 256) old
  else if o == Obj.TIME_DISCIPLINE && v != old then s.writeDiscipline
  else if o == Obj.PWR_AUTO_MAX && v < s.mode.step && s.mode.step ≤ 2 then s.stir
  else if within o Obj.MGMT_IPV6_ADDR 2 && v != old then s.closeLost (nth o Obj.MGMT_IPV6_ADDR) fun l => l == 1
  else if within o Obj.MGMT_IPV4_ADDR 2 && v != old then s.closeLost (nth o Obj.MGMT_IPV4_ADDR) fun l => l == 2
  else if within o Obj.MGMT_AUTOCONF 2 then
    s.closeLost (nth o Obj.MGMT_AUTOCONF) fun l => (l == 3 && !bit v 0) || (l == 4 && !bit v 1)
  else s

/-- The n lowest queue pairs of the pool that no function has taken (R325; log entry 24). -/
def freePairs (taken : List Nat) : Nat → Nat → List Nat
  | 0, _ => []
  | n + 1, from_ =>
    match findFrom (fun q => !taken.contains q) from_ (taken.length + 1) with
    | some q => q :: freePairs taken n (q + 1)
    | none => []

/-- Most queue pairs of a function, by its kind and persona (Tables 11-1 and 11-3). -/
def State.pairLimit (s : State) (f : Nat) : Nat :=
  let kind := if coreFid f then 2048 else if fidVf f then 4096 else 65536
  match s.persona f with
  | 0 => kind
  | 3 => Nat.min kind 65
  | _ => Nat.min kind 1024

/-- A write of FN_QP_COUNT (R325): status and state. -/
def State.writeCount (s : State) (r : ObjRow) (o e n : Nat) : Nat × State :=
  match fidAt (nth o Obj.FN_QP_COUNT) e with
  | none => (2, s)
  | some f =>
    let x := s.fn f
    let had := x.qpids.length
    if s.pairLimit f < n then (2, s)
    else if had < n then
      if 262144 < s.takenPairs.length + (n - had) then (2, s)
      else (0, (s.setFn f { x with qpids := x.qpids ++ freePairs s.takenPairs (n - had) 0 }).putValue r o e n)
    else if (s.qpsOf f).any fun q => n ≤ q.1 then (1, s)
    else (0, (s.setFn f { x with qpids := x.qpids.take n }).putValue r o e n)

/-- A write of FN_RESET_CMD (R346, R347). A reset that runs already runs on; a squash overtakes a drain. -/
def State.writeReset (s : State) (v : Nat) : State :=
  let f := fld v 0 14
  let st := (s.fn f).reset
  if !s.fnExists f then s
  else if fld v 14 2 == 1 then (if st == 1 || st == 3 then s else s.squash f)
  else if st == 0 then s.drainReset f else s

/-- A heartbeat of the holder renews its lease (R408). -/
def State.heartbeat (s : State) : State := { s with mgmt := { s.mgmt with leaseEnd := s.clock + s.leaseNs } }

/-- A discipline that sets the time by itself, so that TIME_SET answers BUSY (R247, Table 13-15). -/
def State.timeLed (s : State) : Bool :=
  let d := s.cfg Obj.TIME_DISCIPLINE
  d == 1 || d == 3 || d == 4

/-- A write to a control: an object whose write is a command. None for an object that takes a value. -/
def State.control (s : State) (k : Nat × Nat) (r : ObjRow) (o e v : Nat) : Option (Nat × State) :=
  if o == Obj.CORE_RUN then some (0, if v == 1 then s.runCores else s.stopCores)
  else if o == Obj.EPOCH_DISCARD then some (0, s.discardStage k 0)
  else if o == Obj.EPOCH_AT_ARM then some (0, (s.latch o v).writeArm v)
  else if o == Obj.EPOCH_AT_CANCEL then some (if s.cancelLate then (1, s) else (0, s.writeCancel))
  else if o == Obj.EPOCH_AT_RESYNC then some (0, s.writeResync)
  else if o == Obj.MODE_REQUEST then some (s.writeModeRequest v)
  else if o == Obj.TIME_SET then
    some (if s.timeLed then (1, s) else (0, s.writeTimeSet v))
  else if o == Obj.ERR_LOG_CLEAR then some (0, s.clearLog)
  else if o == Obj.MGMT_SEM_HEARTBEAT then some (0, s.heartbeat)
  else if within o Obj.HST_PORT_RELEASE 2 then some (s.release (nth o Obj.HST_PORT_RELEASE) v)
  else if o == Obj.FN_RESET_CMD then some (0, s.writeReset v)
  else if within o Obj.FN_QP_COUNT 3 then some (s.writeCount r o e v)
  else if within o Obj.SHP_NODE 2 then some (0, ((s.writeShp (nth o Obj.SHP_NODE) e v).toStore r o e v))
  else if o == Obj.KEY_KEK then some (s.writeKek v)
  else if o == Obj.KEY_SLOT_WRITE then some (s.writeSlot v)
  else if o == Obj.KEY_SLOT_ERASE then some (s.eraseSlot v)
  else if o == Obj.IMG_ACTIVATE then some (s.writeActivate v)
  else if o == Obj.IMG_ACTIVATE_CANCEL then some (s.writeActivateCancel v)
  else if o == Obj.IMG_SVN_RAISE then some (s.writeSvnRaise v)
  else if o == Obj.IMG_SIGNER_REVOKE then some (s.writeSignerRevoke v)
  else if o == Obj.FLT_REGION_TEST then some (s.writeRegionTest v)
  else if o == Obj.DIAG_INJECT then some (s.writeInject v)
  else none

/-- A write of a value whose checks have passed: status and state. -/
def State.writeValue (s : State) (k : Nat × Nat) (r : ObjRow) (o e v : Nat) : Nat × State :=
  match s.control k r o e v with
  | some x => (x.1, if x.2.alive then x.2.settleQui else x.2)
  | none => (0, ((s.putValue r o e v).settleQui).afterWrite o v (s.cfg o e))

/-- A write of one object or element, with every check from the first on. -/
def State.writeOne (s : State) (k : Nat × Nat) (r : ObjRow) (o e v : Nat) : Nat × State :=
  if s.writeBusy r o e then (1, s)
  else
    let st := s.valueStatus r o e v
    if st != 0 then (st, s) else s.writeValue k r o e v

/-! ### Staging (R54 to R56) -/

/-- A staging area above a limit of R55, as returned contents can leave it (R59). -/
def Staging.above (st : Staging) : Bool := 16384 < st.vals.length || 2 ^ 20 < st.bytes || 4 < st.bulk.length

/-- A staged value is taken, or the staging area is full (R55). -/
def State.stageValue (s : State) (k : Nat × Nat) (o e v : Nat) : Nat × State :=
  let st := s.stageOf k
  let key := okey o e
  let others := st.vals.filter fun p => p.1 != key
  let new : Staging := { st with vals := others ++ [(key, v)] }
  if st.above || 16384 < new.vals.length || 2 ^ 20 < new.bytes then (1, s.bump Obj.EPOCH_STAGE_FULL)
  else (0, s.setStage k new)

/-- One more bulk object would not fit. -/
def Staging.bulkFull (st : Staging) (b : BulkVal) : Bool :=
  st.above || 4 < (st.bulk.filter fun x => !(BulkVal.same b x)).length + 1

/-- A staged bulk object is taken; of a TABLE it takes the place of element values staged before. -/
def State.stageBulk (s : State) (k : Nat × Nat) (b : BulkVal) : Nat × State :=
  let st := s.stageOf k
  if st.bulkFull b then (1, s.bump Obj.EPOCH_STAGE_FULL)
  else
    let vals := match b with
      | .table o _ => st.vals.filter fun p => keyObj p.1 != o
      | _ => st.vals
    (0, s.setStage k { vals := vals, bulk := st.bulk.filter (fun x => !(BulkVal.same b x)) ++ [b] })

end Sys2Proof.Machine
end

