-- ==== Sys2Proof/Machine/Omp.lean ====
section
/-!
DEFINITION. OMP requests (spec/13 R393 to R399, R403 to R411): the header, items, and every operation but the bulk ones.
-/

namespace Sys2Proof.Machine

/-! ### The header (R393) -/

/-- Word w of a message, byte 0 in its high bits. -/
def ompWord (m : Bytes) (w : Nat) : Nat := beNat (slice m (8 * w) 8)

def ompVer (m : Bytes) : Nat := fld (ompWord m 0) 60 4
def ompOp (m : Bytes) : Nat := fld (ompWord m 0) 48 8
def ompStagedView (m : Bytes) : Bool := bit (ompWord m 0) 41
def ompScheduled (m : Bytes) : Bool := bit (ompWord m 0) 42
def ompReq (m : Bytes) : Nat := fld (ompWord m 0) 0 32
def ompLen (m : Bytes) : Nat := fld (ompWord m 1) 48 16
def ompCount (m : Bytes) : Nat := fld (ompWord m 1) 40 8
def ompAux (m : Bytes) : Nat := fld (ompWord m 1) 0 32
def ompBody (m : Bytes) : Bytes := m.drop 16

/-- Reserved bits of the header are 0. -/
def ompClear (m : Bytes) : Bool :=
  fld (ompWord m 0) 56 4 == 0 && fld (ompWord m 0) 43 5 == 0 && fld (ompWord m 1) 32 8 == 0

/-- A record that gets no response (R398). -/
def ompBad (m : Bytes) : Bool := m.length < 16 || ompLen m != m.length - 16

/-! ### Items (R395) -/

/-- One item of a request: the object, byte 3 of the header, element, IT_TYPE, IT_LEN, IT_STATUS, and the value's bytes. -/
structure Item where
  obj : Nat
  b3 : Nat
  element : Nat
  typ : Nat
  len : Nat
  status : Nat
  data : Bytes
  deriving DecidableEq, Repr

/-- Length with padding to a multiple of 4 B. -/
def pad4 (n : Nat) : Nat := (n + 3) / 4 * 4

/-- Element that an item names. -/
def Item.elem (i : Item) : Option Nat := if bit i.b3 0 then some i.element else none

/-- Its value as a number. -/
def Item.value (i : Item) : Nat := beNat i.data

/-- n items that take a body exactly; those of a READ carry no value. -/
def parseItems (read : Bool) : Nat → Bytes → Option (List Item)
  | 0, b => if b.isEmpty then some [] else none
  | n + 1, b =>
    let len := beNat (slice b 8 2)
    let size := if read then 0 else len
    if b.length < 12 + pad4 size then none
    else
      let it : Item :=
        { obj := beNat (slice b 0 3), b3 := beNat (slice b 3 1), element := beNat (slice b 4 4),
          typ := beNat (slice b 10 1), len := len, status := beNat (slice b 11 1), data := slice b 12 size }
      (parseItems read n (b.drop (12 + pad4 size))).map fun l => it :: l

/-- The items of a READ, WRITE or STAGE; none where they do not parse. -/
def ompItems (m : Bytes) : Option (List Item) :=
  if ompOp m == 1 || ompOp m == 2 || ompOp m == 3 then parseItems (ompOp m == 1) (ompCount m) (ompBody m) else some []

/-- A message that gets a response with RANGE before anything else (R398). -/
def ompRange (m : Bytes) : Bool :=
  ompVer m != 1 || !ompClear m || 1184 < ompLen m || 64 < ompCount m || (ompItems m).isNone

/-- An item of a response. -/
def Item.bytes (i : Item) (typ status : Nat) (data : Bytes) : Bytes :=
  toBe 3 i.obj ++ toBe 1 i.b3 ++ toBe 4 i.element ++ toBe 2 data.length ++ toBe 1 typ ++ toBe 1 status
    ++ padTo (pad4 data.length) data

/-- Fields of an item's header out of order: reserved bits, an element where none is named, a status. -/
def Item.headBad (i : Item) : Bool := 1 < i.b3 || (i.b3 == 0 && i.element != 0) || i.status != 0

/-- Check 5 of R414 on type and length. -/
def Item.typeBad (i : Item) (r : ObjRow) (op : ItemOp) : Bool :=
  let t := typeOf r (i.elem).isSome
  i.headBad || ((i.elem).isSome && r.elem.isNone) || i.typ != t.1
    || (if op == .read then i.len != 0 else if t.1 == 11 then 64 < i.len else i.len != t.2)

/-! ### Item operations (R396, R414) -/

/-- Most bytes of an item in the answer of a READ. -/
def State.readMax (s : State) (i : Item) : Nat :=
  match s.rowOf? i.obj with
  | none => 12
  | some r =>
    let t := typeOf r (i.elem).isSome
    if t.1 == 11 then 76 else if (i.elem).isNone && bulkOnly r then 12 else 12 + pad4 t.2

/-- One item is read: status, its item of the response, and the state. -/
def State.readItem (s : State) (k : Nat × Nat) (staged : Bool) (i : Item) : Nat × Bytes × State :=
  let e := (i.elem).getD 0
  match s.rowOf? i.obj with
  | none => (10, i.bytes i.typ 10 [], s)
  | some r =>
    let st := s.itemStatus k .read staged i.obj i.elem
    if st != 0 then (st, i.bytes i.typ st [], s)
    else if i.typeBad r .read then (2, i.bytes i.typ 2 [], s)
    else
      let t := typeOf r (i.elem).isSome
      (0, i.bytes t.1 0 (valueBytes t.1 t.2 (s.valueOf k staged r i.obj e)), s.clearRead r i.obj)

/-- One item is written or staged: status and state. -/
def State.writeItem (s : State) (k : Nat × Nat) (op : ItemOp) (i : Item) : Nat × State :=
  let e := (i.elem).getD 0
  match s.rowOf? i.obj with
  | none => (10, s)
  | some r =>
    let st := s.itemStatus k op false i.obj i.elem
    if st != 0 then (st, s)
    else if i.typeBad r op then (2, s)
    else
      let v := s.valueStatus r i.obj e i.value
      if v != 0 then (v, s)
      else if op == .stage then s.stageValue k i.obj e i.value
      else s.writeValue k r i.obj e i.value

/-- One item of a request: its status, its item of the response, state. A write echoes the item. -/
def State.oneItem (s : State) (k : Nat × Nat) (op : ItemOp) (staged : Bool) (i : Item) : Nat × Bytes × State :=
  match op with
  | .read => s.readItem k staged i
  | _ => let w := s.writeItem k op i; (w.1, i.bytes i.typ w.1 i.data, w.2)

/-- Items in order: first failing status, items of the response, state. A chip reset on the way ends them. -/
def State.runItems (s : State) (k : Nat × Nat) (op : ItemOp) (staged : Bool) : List Item → Nat × Bytes × State
  | [] => (0, [], s)
  | i :: rest =>
    let one := s.oneItem k op staged i
    if one.2.2.alive then
      let more := one.2.2.runItems k op staged rest
      (if one.1 != 0 then one.1 else more.1, one.2.1 ++ more.2.1, more.2.2)
    else one

/-! ### Other operations -/

/-- A response: OH_STATUS, OH_COUNT, OH_AUX, body. -/
structure Reply where
  status : Nat
  count : Nat
  aux : Nat
  body : Bytes
  deriving DecidableEq, Repr

/-- A response of a status alone. -/
def Reply.of (status : Nat) : Reply := { status := status, count := 0, aux := 0, body := [] }

/-- READ, WRITE, STAGE. -/
def State.doItems (s : State) (k : Nat × Nat) (m : Bytes) (op : ItemOp) : Reply × State :=
  let l := (ompItems m).getD []
  if op == .read && 1184 < sumBy s.readMax l then (Reply.of 2, s)
  else
    let r := s.runItems k op (ompStagedView m) l
    ({ status := r.1, count := l.length, aux := 0, body := r.2.1 }, r.2.2)

/-- COMMIT (R65, R79, R394). -/
def State.doCommit (s : State) (k : Nat × Nat) (m : Bytes) : Reply × State :=
  if s.mgmt.holder != some k then (Reply.of 4, s)
  else if s.mode.mode == .handover || s.mode.mode == .dormant then (Reply.of 1, s)
  else if !(ompBody m).isEmpty then (Reply.of 2, s)
  else if ompScheduled m then
    let r := s.commitScheduled
    (Reply.of r.1, r.2)
  else
    let r := s.commitLocal k
    ({ status := r.1, count := 0, aux := r.2.1, body := [] }, r.2.2)

/-- SUBSCRIBE (R403). -/
def State.doSubscribe (s : State) (k : Nat × Nat) (m : Bytes) : Reply × State :=
  if s.mode.mode == .dormant then (Reply.of 1, s)
  else if (ompBody m).length != 8 then (Reply.of 2, s)
  else match s.sess? k with
    | some x => (Reply.of 0, s.setSess { x with mask := beNat (ompBody m) })
    | none => (Reply.of 0, s)

/-- A session leaves the waiting queue. -/
def State.leaveQueue (s : State) (k : Nat × Nat) : State :=
  { s with mgmt := { s.mgmt with waiting := s.mgmt.waiting.filter fun x => x != k } }

/-- SEM with OH_AUX 1 (R406). -/
def State.semAcquire (s : State) (k : Nat × Nat) : Nat × State :=
  if s.mgmt.holder == some k then (0, s)
  else if s.mgmt.holder.isNone && s.mgmt.waiting.isEmpty then (0, s.grantSem k)
  else if s.mgmt.waiting.contains k then (5, s)
  else if 16 ≤ s.mgmt.waiting.length then (1, s)
  else (5, { s with mgmt := { s.mgmt with waiting := s.mgmt.waiting ++ [k] } })

/-- SEM with OH_AUX 2 (R411). -/
def State.semRelease (s : State) (k : Nat × Nat) : Nat × State :=
  if s.mgmt.holder == some k then (0, s.freeSem false)
  else if s.mgmt.waiting.contains k then (0, s.leaveQueue k)
  else (4, s)

/-- SEM. -/
def State.doSem (s : State) (k : Nat × Nat) (m : Bytes) : Reply × State :=
  if !(ompBody m).isEmpty then (Reply.of 2, s)
  else
    let r := match ompAux m with
      | 1 => s.semAcquire k
      | 2 => s.semRelease k
      | _ => (2, s)
    (Reply.of r.1, r.2)

end Sys2Proof.Machine
end

