-- ==== Sys2Proof/Machine/Bulk.lean ====
section
/-!
DEFINITION. Bulk channels (spec/13 R400 to R402, spec/15 R451 and R455, spec/01 R38).
-/

namespace Sys2Proof.Machine

/-! ### Channels -/

/-- The state with a session's channel put in place of the one of its number. -/
def State.putChan (s : State) (k : Nat × Nat) (c : Chan) : State :=
  match s.sess? k with
  | some x => s.setSess { x with chans := x.chans.filter (fun y => y.num != c.num) ++ [c] }
  | none => s

/-- A channel is free again. -/
def State.freeChan (s : State) (k : Nat × Nat) (n : Nat) : State :=
  match s.sess? k with
  | some x => s.setSess { x with chans := x.chans.filter fun y => y.num != n }
  | none => s

/-- An open channel of a session. -/
def State.chan? (s : State) (k : Nat × Nat) (n : Nat) : Option Chan :=
  (s.sess? k).bind fun x => x.chans.find? fun c => c.num == n

/-- Lowest free channel of a session. -/
def Session.freeNum (x : Session) : Option Nat := [1, 2, 3, 4].find? fun n => !(x.chans.any fun c => c.num == n)

/-- Byte of a transfer, as its latest chunk gives it; none until it has arrived. -/
def Chan.byteAt (c : Chan) (i : Nat) : Option Byte :=
  c.chunks.findSome? fun x => if x.1 ≤ i then x.2[i - x.1]? else none

/-- The first n bytes of a transfer; none until all have arrived. -/
def Chan.gather (c : Chan) (n : Nat) : Option Bytes := (List.range n).mapM c.byteAt

/-- An object that takes firmware. -/
def fwObject (o : Nat) : Bool := o == Obj.IMG_FW_WRITE_A || o == Obj.IMG_FW_WRITE_B

/-! ### Opening (R400, R401, R414, R451, R455) -/

/-- A TABLE whose element count varies: a transfer may begin at its end. -/
def varies (o : Nat) : Bool := o / 256 == 0x5803 || o == Obj.ERR_LOG || o == Obj.MGMT_EVENT_LOG

/-- Room from the accepted CORE_RESET_VECTOR to the end of application memory. -/
def State.loadRoom (s : State) : Nat := appBase + s.appSize - s.wanted Obj.CORE_RESET_VECTOR 0

/-- The length of a transfer is out of range. -/
def State.lengthBad (s : State) (r : ObjRow) (o first len : Nat) (wr : Bool) (count : Nat) : Bool :=
  if r.typ == 12 then
    let z := (typeOf r true).2
    let most := if o / 256 == 0x5803 then (match r.elem with | some x => x.1 | none => 0) else count
    len % z != 0 || (wr && ((len == 0 && o / 256 != 0x5803) || most < first + len / z))
  else if first != 0 then true
  else if !wr then false
  else if containerObj o then len < headLen || imageMax o < len
  else if o == Obj.CORE_LOAD then len == 0 || s.loadRoom < len
  else len != r.len

/-- The staged bulk object that a write channel of an object makes, as far as its place is concerned. -/
def bulkPlace (o : Nat) : BulkVal :=
  if o == Obj.PIPE_IMAGE then .pipe none else if containerObj o then .pat (nth o Obj.PAT_SET_IMAGE) none else .table o []

/-- A write channel makes a staged bulk object. -/
def State.stagesBulk (s : State) (r : ObjRow) : Bool := r.acc == .rws && (r.typ == 12 || r.typ == 13) && s.mode.mode != .vigil

/-- Bulk reading or writing is allowed by the access code (Table 13-8). -/
def bulkAcc (r : ObjRow) (wr : Bool) : Bool :=
  if wr then r.acc == .rw || r.acc == .wo || r.acc == .rws else r.acc == .ro || r.acc == .rw || r.acc == .rws

/-- Elements that a write channel of an object covers, at most `count` of them; element 0 stands for an object without any. -/
def chanElems (r : ObjRow) (first len count : Nat) : List Nat :=
  if r.typ == 12 then (List.range (Nat.min (len / (typeOf r true).2) (count - first))).map fun i => first + i else [0]

/-- A write channel is refused: by the mode, by a busy block of an element it covers (R47), by CORE_RUN, or by the bank. -/
def State.bulkBusy (s : State) (r : ObjRow) (o first len count : Nat) : Bool :=
  s.modeBusy o || (r.app == .quiesce && (chanElems r first len count).any fun e => !(s.quiIdle o e)) || (o == Obj.CORE_LOAD && s.cfg Obj.CORE_RUN == 1) || (fwObject o && s.fwBusy o)

/-- Status of an opening, but for a full staging area or session. -/
def State.openStatus (s : State) (k : Nat × Nat) (staged : Bool) (o dir first len : Nat) : Nat :=
  match s.rowOf? o with
  | none => 10
  | some r =>
    let wr := dir == 1
    let count := s.elemCount k (staged || wr) r o
    if 1 < dir then 2
    else if r.typ == 12 && (if varies o then count < first else count ≤ first) then 2
    else if !bulkAcc r wr then 3
    else if wr && s.mgmt.holder != some k then 4
    else if wr && s.bulkBusy r o first len count then 1
    else if s.lengthBad r o first len wr count then 2
    else 0

/-- Length of a reading transfer: to the end of the object, or BK_LEN where that is smaller. -/
def State.readLength (s : State) (k : Nat × Nat) (staged : Bool) (r : ObjRow) (o first len : Nat) : Nat :=
  let all :=
    if r.typ == 12 then (s.elemCount k staged r o - first) * (typeOf r true).2 else (s.bulkBytes k staged r o 0 0).length
  if len == 0 then all else Nat.min len all

/-- BULK_OPEN. -/
def State.doOpen (s : State) (k : Nat × Nat) (m : Bytes) : Reply × State :=
  let b := ompBody m
  let o := beNat (slice b 0 3)
  let dir := beNat (slice b 3 1)
  let first := beNat (slice b 4 4)
  let len := beNat (slice b 8 8)
  let staged := ompStagedView m
  let st := s.openStatus k staged o dir first len
  if b.length != 16 then (Reply.of 2, s)
  else if st != 0 then (Reply.of st, s)
  else match s.rowOf? o, s.sess? k with
    | some r, some x =>
      let wr := dir == 1
      if wr && s.stagesBulk r && (s.stageOf k).bulkFull (bulkPlace o) then (Reply.of 1, s.bump Obj.EPOCH_STAGE_FULL)
      else match x.freeNum with
        | none => (Reply.of 1, s)
        | some n =>
          let l := if wr then len else s.readLength k staged r o first len
          let c : Chan :=
            { num := n, obj := o, wr := wr, staged := staged, first := first, len := l, chunks := [], passed := none,
              last := s.clock }
          ({ status := 0, count := 0, aux := n, body := toBe 8 l }, s.putChan k c)
    | _, _ => (Reply.of 10, s)

/-! ### Data (R401, R451, R455) -/

/-- A container's header and signature block have arrived: steps 1 to 8. -/
def State.headArrived (s : State) (k : Nat × Nat) (c : Chan) (head : Bytes) : Nat × State :=
  let x := s.checkHead c.obj head c.len
  if x.1 != 0 then (x.2, (s.imgReject x.1 c.obj).freeChan k c.num)
  else
    let slot := if fwObject c.obj then fwSlotOf c.obj head else 0
    let t := if fwObject c.obj then s.fwBegin c.obj head else s
    (0, t.putChan k { c with passed := some slot })

/-- A chunk of a write channel: status and state. -/
def State.writeChunk (s : State) (k : Nat × Nat) (c : Chan) (off : Nat) (data : Bytes) : Nat × State :=
  let new : Chan := { c with chunks := (off, data) :: c.chunks }
  let stop := off + data.length
  if data.isEmpty || 1024 < data.length || c.len < stop then (2, s)
  else if !containerObj c.obj then (0, s.putChan k new)
  else if c.passed.isNone then
    if headLen < stop then (1, s)
    else match new.gather headLen with
      | some head => s.headArrived k new head
      | none => (0, s.putChan k new)
  else if fwObject c.obj && headLen < stop then
    let r := s.fwTake (stop - Nat.max off headLen)
    if r.1 then (0, r.2.putChan k new) else (1, r.2)
  else (0, s.putChan k new)

/-- What a read channel carries. -/
def State.chanBytes (s : State) (k : Nat × Nat) (c : Chan) : Bytes :=
  match s.rowOf? c.obj with
  | none => []
  | some r =>
    let n := if r.typ == 12 then c.len / (typeOf r true).2 else 0
    (s.bulkBytes k c.staged r c.obj c.first n).take c.len

/-- A request on a read channel. Bytes 8 to 11 of the response have no stated value: free. -/
def State.readChunk (s : State) (k : Nat × Nat) (c : Chan) (off n : Nat) : Reply × State :=
  if n == 0 || 1024 < n || c.len ≤ off then (Reply.of 2, s)
  else
    let r := s.fresh 32
    let data := slice (s.chanBytes k c) off n
    ({ status := 0, count := 0, aux := 0, body := toBe 8 off ++ toBe 4 r.1 ++ data }, r.2)

/-- The mode refuses what a write channel brings (R416). -/
def State.chanBusy (s : State) (c : Chan) : Bool := c.wr && (s.mode.mode == .handover || s.mode.mode == .dormant)

/-- BULK_DATA. -/
def State.doData (s : State) (k : Nat × Nat) (m : Bytes) : Reply × State :=
  let b := ompBody m
  match s.chan? k (ompAux m) with
  | none => (Reply.of 2, s)
  | some c0 =>
    let c : Chan := { c0 with last := s.clock }
    let t := s.putChan k c
    let off := beNat (slice b 0 8)
    if t.chanBusy c then (Reply.of 1, t)
    else if c.wr then
      if b.length < 8 then (Reply.of 2, t)
      else
        let r := t.writeChunk k c off (b.drop 8)
        (Reply.of r.1, r.2)
    else if b.length != 12 then (Reply.of 2, t)
    else t.readChunk k c off (beNat (slice b 8 4))

/-! ### Closing (R401, R417) -/

/-- When a container that is on its way now reaches the image store at the latest (R454). -/
def State.storeBy (s : State) (b : BulkVal) : Nat := s.clock + 1000000000 + 1000000000 * ((b.size + 2 ^ 20 - 1) / 2 ^ 20)

/-- The staged value that a container makes; none where its body does not parse. An empty pattern set removes the set. -/
def State.imageVal (s : State) (o : Nat) (c : Bytes) : Option BulkVal :=
  if o == Obj.PIPE_IMAGE then (s.pipeOf c).map fun i => .pipe (some (i, c))
  else if c.length == headLen then some (.pat (nth o Obj.PAT_SET_IMAGE) none)
  else (s.patOf c).map fun p => .pat (nth o Obj.PAT_SET_IMAGE) (some (p, c))

/-- The reserve of each stack holds the state that there would be with one more bulk value staged, or stored in VIGIL (R32). -/
def State.loadFits (s : State) (k : Nat × Nat) (b : BulkVal) : Bool :=
  let st := if s.mode.mode == .vigil then s.epochOne else s.stageOf k
  let base := if s.mode.mode == .vigil then Ver.empty else s.baseVer
  let v := Ver.with_ base s.ep.openNum { st with bulk := st.bulk.filter (fun x => !(BulkVal.same b x)) ++ [b] }
  s.reserveOk (s.heldVers ++ [v])

/-- A pipeline image or pattern set whose container is complete: steps 9 and 10, the reserve of R32, then staged, or stored in
VIGIL. -/
def State.finishImage (s : State) (k : Nat × Nat) (o : Nat) (c : Bytes) : Nat × State :=
  let code := s.checkBody c
  if code != 0 then (2, s.imgReject code o)
  else match s.imageVal o c with
    | none => (2, s)
    | some b =>
      if !s.loadFits k b then (2, s)
      else if s.mode.mode == .vigil then
        (0, { s with store := { s.store with coming := s.store.coming ++ [(b, s.storeBy b)] } })
      else s.stageBulk k b

/-- Values of z bytes each. -/
def splitValues (z : Nat) : Nat → Bytes → List Nat
  | 0, _ => []
  | n + 1, b => beNat (b.take z) :: splitValues z n (b.drop z)

/-- Elements that a transfer of a TABLE carries. -/
def carried (r : ObjRow) (first : Nat) (b : Bytes) : List (Nat × Nat) :=
  let z := (typeOf r true).2
  let vs := splitValues z (b.length / z) b
  (List.range vs.length).map fun i => (first + i, vs.getD i 0)

/-- A TABLE of EPOCH values with the carried elements in it (R401). -/
def overlay (o first : Nat) (old es : List (Nat × Nat)) : List (Nat × Nat) :=
  let kept := if o / 256 == 0x5803 then old.filter fun e => e.1 < first else old
  es.foldl (fun l e => assoc l e.1 e.2) kept

/-- A transfer of an RWS TABLE: staged, or stored in VIGIL. -/
def State.finishTable (s : State) (k : Nat × Nat) (r : ObjRow) (o first : Nat) (b : Bytes) : Nat × State :=
  let es := carried r first b
  if es.any fun e => s.valueStatus r o e.1 e.2 != 0 then (2, s)
  else if s.mode.mode == .vigil then
    let n := s.elemCount k false r o
    let gone := if o / 256 == 0x5803 then (List.range (n - (first + es.length))).map (fun i => first + es.length + i) else []
    let s1 := es.foldl (fun (a : State) e => a.toStore r o e.1 e.2) s
    (0, gone.foldl (fun (a : State) e => a.toStore r o e (objDefault o e)) s1)
  else s.stageBulk k (.table o (overlay o first (Store.elems (s.epochView k true) o) es))

/-- Elements of an RW TABLE, each as a separate write: the first failing status, and the state. -/
def State.writeElems (s : State) (k : Nat × Nat) (r : ObjRow) (o : Nat) (es : List (Nat × Nat)) : Nat × State :=
  es.foldl (fun a e =>
    let w := a.2.writeOne k r o e.1 e.2
    (if a.1 != 0 then a.1 else w.1, w.2)) (0, s)

/-- Core software is loaded (R38). -/
def State.loadCore (s : State) (b : Bytes) : Nat × State :=
  let a := s.wanted Obj.CORE_RESET_VECTOR 0
  if s.cfg Obj.CORE_RUN == 1 then (1, s)
  else if s.inApp a b.length then
    let t := s.appWrite a b
    (0, { t with core := { t.core with reload := false } })
  else (2, s)

/-- A complete transfer is applied: status and state. -/
def State.applyTransfer (s : State) (k : Nat × Nat) (c : Chan) (b : Bytes) : Nat × State :=
  match s.rowOf? c.obj with
  | none => (10, s)
  | some r =>
    if fwObject c.obj then
      (match c.passed with
      | some slot => (5, s.fwClose slot b)
      | none => (2, s))
    else if containerObj c.obj then s.finishImage k c.obj b
    else if c.obj == Obj.CORE_LOAD then s.loadCore b
    else if r.typ == 12 && r.acc == .rws then s.finishTable k r c.obj c.first b
    else if r.typ == 12 then s.writeElems k r c.obj (carried r c.first b)
    else
      let v := beNat b
      let st := s.valueStatus r c.obj 0 v
      if r.acc == .rws && s.mode.mode != .vigil then (if st != 0 then (st, s) else s.stageValue k c.obj 0 v)
      else s.writeOne k r c.obj 0 v

/-- BULK_CLOSE with finish. -/
def State.finishChan (s : State) (k : Nat × Nat) (c : Chan) : Nat × State :=
  if !c.wr then (0, s.freeChan k c.num)
  else match c.gather c.len with
    | none => (2, s)
    | some b => (s.freeChan k c.num).applyTransfer k c b

/-- BULK_CLOSE. -/
def State.doClose (s : State) (k : Nat × Nat) (m : Bytes) : Reply × State :=
  let b := ompBody m
  match s.chan? k (ompAux m) with
  | none => (Reply.of 2, s)
  | some c0 =>
    let c : Chan := { c0 with last := s.clock }
    let t := s.putChan k c
    let how := beNat (slice b 0 1)
    if b.length != 4 || 1 < how || !zeros (b.drop 1) then (Reply.of 2, t)
    else if how == 1 then (Reply.of 0, t.dropChans k fun y => y.num == c.num)
    else if t.chanBusy c then (Reply.of 1, t)
    else
      let r := t.finishChan k c
      (Reply.of r.1, r.2)

/-! ### Time (R402) -/

/-- A channel on which there has been no message for 10 s. -/
def State.chanStale (s : State) (c : Chan) : Bool := c.last + 10000000000 ≤ s.clock

/-- BULK_IDLE_TIMEOUT: channel n of a session. -/
def execBulkIdleTimeout (dt port sess n : Nat) (s : State) : Out :=
  cmd dt s (fun t => t.alive && (match t.chan? (port, sess) n with | some c => t.chanStale c | none => false)) fun t =>
    t.dropChans (port, sess) fun c => c.num == n

end Sys2Proof.Machine
end

