-- ==== Sys2Proof/Machine/Census.lean ====
section
/-!
DEFINITION. Gate events, the switch of gate lists, the queue census and its IPFIX export (spec/08 R241 to R252 and R255).
-/

namespace Sys2Proof.Machine

/-! ### Gates (R241, R242, R246) -/

/-- Gates open at a port now, bit t for class t. -/
def State.gateMask (s : State) (pn : Nat) : Nat :=
  let g := s.gateOf pn
  if g.enable then g.cyc.maskAt s.now else 0xFF

/-- GATE_EVENT at port node pn: the gates stand as the running list has them. -/
def execGateEvent (dt pn : Nat) (s : State) : Out :=
  cmd dt s (fun t => t.traffic && decide (pn < 24) && (t.gateOf pn).enable && lookupD t.tm.gateNow pn 0xFF != t.gateMask pn)
    fun t =>
      ({ t with tm := { t.tm with gateNow := assoc t.tm.gateNow pn (t.gateMask pn) } }).retestPort pn

/-- The pending list of a port takes over; head packets are tested again (R242, R246). -/
def State.switchGate (s : State) (pn : Nat) (g : Gate) : State :=
  let s1 := { s with tm := { s.tm with gate := assoc s.tm.gate pn g, gatePend := dissoc s.tm.gatePend pn } }
  ({ s1 with tm := { s1.tm with gateNow := assoc s1.tm.gateNow pn (s1.gateMask pn) } }).retestPort pn

/-- GATE_LIST_SWITCH at port node pn. -/
def execGateListSwitch (dt pn : Nat) (s : State) : Out :=
  cmd dt s (fun t => t.alive && (match lookup? t.tm.gatePend pn with | some p => decide (p.2 ≤ t.now) | none => false)) fun t =>
    match lookup? t.tm.gatePend pn with
    | some p => (t.latch (Obj.GATE_SWITCH_AT + pn) p.2).switchGate pn p.1
    | none => t

/-! ### The census (R248 to R252) -/

/-- The census runs in these modes (R248). -/
def State.censusRuns (s : State) : Bool :=
  s.alive && (match s.mode.mode with | .service | .handover | .degraded | .drain => true | _ => false)

/-- A record is written to census ring n and counted, where its owner and its room allow. -/
def State.censWrite (s : State) (n owner : Nat) (record : Bytes) : Option State :=
  match (if owner == 0xFFFF then RingPut.down else s.putRecord owner 2 n record) with
  | .put s1 => some (s1.bump (Obj.CENSUS_RECORDS + n))
  | _ => none

/-- A census record of ring n, without the marker of earlier losses: written, or counted as lost. -/
def State.censPut1 (s : State) (n owner : Nat) (record : Bytes) : Bool × State :=
  match s.censWrite n owner record with
  | some s1 => (true, s1)
  | none =>
    let lost := lookupD s.tm.censLost n 0 + 1
    (false, ({ s with tm := { s.tm with censLost := assoc s.tm.censLost n lost } }).bump (Obj.CENSUS_DROP_RING_FULL + n))

/-- Loss marker (Table 08-6, kind 2). -/
def lossMarker (n sweep time lost : Nat) : Bytes :=
  toLe 8 (2 + n * 8192 * 2 ^ 2 + sweep % 2 ^ 32 * 2 ^ 32) ++ toLe 8 time ++ toLe 8 (Nat.min lost (2 ^ 32 - 1)) ++ toLe 8 0

/-- Sweep marker (Table 08-6, kind 1). -/
def sweepMarker (n sweep start : Nat) : Bytes :=
  toLe 8 (1 + n * 8192 * 2 ^ 2 + sweep % 2 ^ 32 * 2 ^ 32) ++ toLe 8 start ++ toLe 16 0

/-- A census record of ring n; a loss marker goes first where records were lost and there is room again (R251). -/
def State.censPut (s : State) (n owner sweep : Nat) (record : Bytes) : Bool × State :=
  let lost := lookupD s.tm.censLost n 0
  if lost == 0 then s.censPut1 n owner record
  else match s.censWrite n owner (lossMarker n sweep s.now lost) with
    | some s1 => ({ s1 with tm := { s1.tm with censLost := dissoc s1.tm.censLost n } }).censPut1 n owner record
    | none => s.censPut1 n owner record

/-- CENSUS_SWEEP_START of a region, at a multiple of the period (R248). -/
def execCensusSweepStart (dt region : Nat) (s : State) : Out :=
  cmd dt s (fun t => t.censusRuns && decide (region < 2) && t.mode.fenced != some region && t.cfg Obj.CENSUS_EN == 1
      && t.now % (t.cfg Obj.CENSUS_PERIOD * 1000) == 0
      && (match lookup? t.tm.sweep region with | some w => w.start != t.now | none => true)) fun t =>
    let period := t.cfg Obj.CENSUS_PERIOD * 1000
    let rings := (List.range 8).map fun k => 8 * region + k
    let w : Sweep := { start := t.now, at_ := t.clock, num := t.now / period, period := period, next := 0,
                       owners := rings.map fun n => t.cfg (Obj.CENSUS_RING_FID + n) }
    let t1 := ({ t with tm := { t.tm with sweep := assoc t.tm.sweep region w } }).latch Obj.CENSUS_SWEEP (w.num % 2 ^ 32)
    rings.foldl (fun a n =>
      let owner := a.cfg (Obj.CENSUS_RING_FID + n)
      if owner == 0xFFFF then a else (a.censPut n owner w.num (sweepMarker n w.num w.start)).2) t1

/-- Queue record (Table 08-6, kind 0). -/
def State.queueRecord (s : State) (eqid sweep : Nat) : Bytes :=
  let ps := s.queue eqid
  let head := match ps.head? with | some p => s.clock - p.enqAt | none => 0
  let c := s.censOf eqid
  let u32 := 2 ^ 32 - 1
  toLe 8 (eqid * 2 ^ 2 + b2n (tnValid (s.nodeWord (eqid / 65536) (leafNode (eqid % 65536)))) * 2 ^ 19
      + b2n (ps.any fun p => p.loc == .carve) * 2 ^ 20 + sweep % 2 ^ 32 * 2 ^ 32)
    ++ toLe 8 (sumBy Pkt.tmLen ps % 2 ^ 32 + ps.length % 2 ^ 24 * 2 ^ 32)
    ++ toLe 8 (Nat.min head u32 + Nat.min (Nat.max head c.maxSojourn) u32 * 2 ^ 32)
    ++ toLe 8 (Nat.min c.dropAdmit (2 ^ 24 - 1) + Nat.min c.dropQueued (2 ^ 24 - 1) * 2 ^ 24 + Nat.min c.overdue 65535 * 2 ^ 48)

/-- What the export gathers of a queue at a sample (R255). -/
def State.gather (s : State) (eqid : Nat) : State :=
  let ps := s.queue eqid
  let head := match ps.head? with | some p => s.clock - p.enqAt | none => 0
  let c := s.censOf eqid
  let old := match lookup? s.tm.ipfix eqid with | some x => x | none => (0, 0, 0, 0)
  let new := (Nat.max old.1 (sumBy Pkt.tmLen ps), Nat.max old.2.1 (Nat.max head c.nowSojourn), old.2.2.1 + c.nowAdmit,
    old.2.2.2 + c.nowQueued)
  let s1 := s.setCens eqid { c with nowSojourn := 0, nowAdmit := 0, nowQueued := 0 }
  if s.tm.ipfixOn then { s1 with tm := { s1.tm with ipfix := assoc s1.tm.ipfix eqid new } } else s1

/-- A queue has nothing to say under `CENSUS_SKIP_IDLE` (R250). -/
def State.censIdle (s : State) (eqid : Nat) : Bool :=
  let c := s.censOf eqid
  (s.queue eqid).isEmpty && c.maxSojourn == 0 && c.dropAdmit == 0 && c.dropQueued == 0 && c.overdue == 0

/-- A queue's sample within a sweep. -/
def State.censSample (s : State) (w : Sweep) (eqid : Nat) : State :=
  let region := eqid / 65536
  let n := eqid / 8192
  let owner := w.owners.getD (n % 8) 0xFFFF
  let s0 := { s with tm := { s.tm with sweep := assoc s.tm.sweep region { w with next := eqid % 65536 + 1 } } }
  let idle := s0.censIdle eqid
  let record := s0.queueRecord eqid w.num
  let s1 := s0.gather eqid
  if owner == 0xFFFF || (s.cfg Obj.CENSUS_SKIP_IDLE == 1 && idle) then s1
  else
    let r := s1.censPut n owner w.num record
    if r.1 then
      let c := r.2.censOf eqid
      r.2.setCens eqid { c with maxSojourn := 0, dropAdmit := 0, dropQueued := 0, overdue := 0 }
    else r.2

/-- Device clock at which a sweep samples queue q of its region (R248): a step of the time base meanwhile does not move it
(DEDUCED, log entry 70). -/
def Sweep.due (w : Sweep) (q : Nat) : Nat := w.at_ + q * w.period / 65536

/-- The sweep in which queue eqid is sampled now: every queue in its turn, at its instant (R248). -/
def State.sampleDue (s : State) (eqid : Nat) : Option Sweep :=
  (lookup? s.tm.sweep (eqid / 65536)).filter fun w => w.next == eqid % 65536 && w.due (eqid % 65536) == s.clock

/-- CENSUS_SAMPLE of a queue (R249 to R251). -/
def execCensusSample (dt eqid : Nat) (s : State) : Out :=
  cmd dt s (fun t => t.censusRuns && decide (eqid < 131072) && t.mode.fenced != some (eqid / 65536) && (t.sampleDue eqid).isSome)
    fun t => match t.sampleDue eqid with
      | some w => t.censSample w eqid
      | none => t

/-! ### IPFIX (R255) -/

/-- The SERVICE firmware runs and keeps the export's intervals: not in HANDOVER, where export pauses. -/
def State.ipfixRuns (s : State) : Bool :=
  s.alive && (match s.mode.mode with | .service | .degraded | .drain => true | _ => false)

/-- Records cut into messages of n. -/
def chunks {α : Type} (n : Nat) : Nat → List α → List (List α)
  | 0, _ => []
  | _, [] => []
  | k + 1, l => l.take n :: chunks n k (l.drop n)

/-- observationTimeMilliseconds of this instant: UTC, which TAI is ahead of by `TIME_UTC_OFFSET_S` (spec/13 Table 13-12). -/
def State.utcMillis (s : State) : Nat := (s.now - s.cfg Obj.TIME_UTC_OFFSET_S * 1000000000) / 1000000

/-- Messages are sent with consecutive sequence numbers, or counted as dropped. -/
def State.sendIpfix (s : State) (sent : Bool) (ms : List (List (Nat × Nat × Nat × Nat × Nat))) : State :=
  ms.foldl (fun a m =>
    if sent then
      let msg := Output.ipfix (a.cfg Obj.CENSUS_IPFIX_PORT) (a.cfg Obj.CENSUS_IPFIX_DEST) (a.cfg Obj.CENSUS_IPFIX_UDP)
        (a.cfg Obj.CENSUS_IPFIX_DOMAIN) a.tm.ipfixSeq a.utcMillis m
      let a1 := (a.emit msg).bump Obj.CENSUS_IPFIX_MSGS
      { a1 with tm := { a1.tm with ipfixSeq := (a1.tm.ipfixSeq + m.length) % 2 ^ 32 } }
    else a.bump Obj.CENSUS_IPFIX_DROPS) s

/-- An interval begins: it is exported where `CENSUS_IPFIX_EN` is 1 now (Table 08-9: acts at the next interval). -/
def State.startInterval (s : State) : State :=
  let on := s.cfg Obj.CENSUS_IPFIX_EN == 1
  { s with tm := { s.tm with
      ipfix := [], ipfixAt := s.clock, ipfixOn := on, ipfixTpl := if s.tm.ipfixOn then s.tm.ipfixTpl else none } }

/-- The records of the interval that ends are sent; how many a message holds is a free value (log entry 16). -/
def State.exportInterval (s : State) (sent : Bool) : State :=
  let per := s.fresh 8
  per.2.sendIpfix sent (chunks (per.1 + 1) s.tm.ipfix.length s.tm.ipfix)

/-- IPFIX_EXPORT: an interval ends, and the next begins; `sent`: messages can be sent. An interval in which a HANDOVER was is
not exported (R255). -/
def execIpfixExport (dt : Nat) (sent : Bool) (s : State) : Out :=
  cmd dt s (fun t => t.ipfixRuns && t.tm.ipfixAt + t.cfg Obj.CENSUS_IPFIX_INTERVAL_S * 1000000000 ≤ t.clock) fun t =>
    (if t.tm.ipfixOn then t.exportInterval sent else t).startInterval

/-- IPFIX_TEMPLATE: at start and every 60 s. -/
def execIpfixTemplate (dt : Nat) (sent : Bool) (s : State) : Out :=
  cmd dt s (fun t => t.ipfixRuns && t.tm.ipfixOn && (match t.tm.ipfixTpl with | some a => decide (a + 60000000000 ≤ t.clock) | none => true))
    fun t =>
      let t1 := t.sendIpfix sent [[]]
      { t1 with tm := { t1.tm with ipfixTpl := some t1.clock } }

end Sys2Proof.Machine
end

