-- ==== Sys2Proof/Machine/Cycle.lean ====
section
/-!
DEFINITION. Commands of one control-clock cycle (spec/13 R407, spec/14 R434): which of the waiting commands fall into the cycle of
an instant, and the order of requests among each other.
-/

namespace Sys2Proof.Machine

/-- Cycle of the 400 MHz control clock, 2.5 ns each, at an instant of the device clock. -/
def controlCycle (clock : Nat) : Nat := clock * 2 / 5

/-- Time between the command before and a command. -/
def cmdTime : Instr → Nat
  | .netFrameReceive dt _ _ _ _ | .pauseExpiry dt _ | .cutThroughFrameBad dt _ _ | .ingressPass dt _ _
  | .deferredMetering dt _ | .bridgeCrossing dt _ | .tmAdmission dt _ _ | .carveOutFetch dt _ _
  | .schedulingDecision dt _ _ _ | .inlineCipherOp dt _ | .overdueCheck dt _ | .maxAgeCheck dt | .stageAgeCheck dt
  | .divertScanStart dt _ | .divertScanEnd dt _ | .scrubVisit dt _ _ _ _ | .ageScan dt _ _ _ | .gateEvent dt _
  | .gateListSwitch dt _ | .censusSweepStart dt _ | .censusSample dt _ | .ipfixExport dt _ | .ipfixTemplate dt _
  | .netLinkUp dt _ _ _ _ | .netLinkDown dt _ | .quiesceApply dt | .read dt _ _ _ | .write dt _ _ _ | .stage dt _ _ _
  | .commit dt _ _ _ | .scheduledCommit dt _ _ _ | .epochSwitch dt | .queuedCommitRun dt | .epochRetire dt
  | .epochDiscard dt _ _ _ | .epochAtArm dt _ _ _ | .epochAtCancel dt _ _ _ | .epochAtResync dt _ _ _
  | .prepare dt _ _ | .prepareResend dt | .ack dt _ _ | .nak dt _ _ | .ackDeadline dt | .cancel dt _ _
  | .scheduledSwitch dt | .outcomeFlood dt | .outcome dt _ _ | .insert dt _ _ _ _ | .delete dt _ _ _ _
  | .modify dt _ _ _ _ | .clearHit dt _ _ _ _ | .shuttleBridge dt _ | .shuttle dt _ _ | .helloSend dt _
  | .hello dt _ _ | .helloTimeout dt _ | .weaveLaneLock dt _ | .weaveLinkLoss dt _ | .weaveFrameReceive dt _ _ _
  | .linkState dt _ _ | .linkStateOriginate dt | .lsdbExpiry dt | .routeRecompute dt | .calendarWindow dt _
  | .calendarSwitch dt | .timeSet dt _ _ _ | .ppsInEdge dt | .ppsMissing dt | .perstAssert dt _ | .perstDeassert dt _
  | .hotReset dt _ | .hostLinkDown dt _ | .hostLinkUp dt _ _ _ _ | .mmioWrite dt _ _ _ _ _ _
  | .submissionDoorbell dt _ _ _ | .completionDoorbell dt _ _ _ | .completionArrival dt _ _ _ _ _
  | .completionTimeout dt _ _ | .malformedTlp dt _ | .peerTlp dt _ _ _ _ _ _ _ _ | .atsInvalidation dt _ _ _ _ _
  | .atsInvalidationDone dt _ _ | .pageRequestResponse dt _ _ _ | .priTimeout dt _ _ | .l1Entry dt _ _ _
  | .l0pWidthChange dt _ _ _ _ | .portReleaseResume dt _ _ | .portReleaseReset dt _ _ | .bmeClear dt _ | .bmeSet dt _
  | .flr dt _ | .dStateChange dt _ _ | .msixUnmask dt _ _ | .qpcCreate dt _ | .qpcModify dt _ | .qpcQuery dt _
  | .fnSelfReset dt _ _ | .txPacketFetch dt _ _ _ | .txDataComplete dt _ _ | .rxPacketDelivery dt _ _
  | .moderationTimer dt _ _ | .squashReset dt _ _ _ | .drainReset dt _ _ _ | .drainLimit dt _
  | .functionResetComplete dt _ | .startLog dt _ | .sync dt _ | .stopLog dt _ | .hold dt _ | .holdComplete dt _
  | .save dt _ | .restore dt _ _ _ _ | .release dt _ | .coreIntEntryWrite dt _ _ _ | .keyKek dt _ _ _
  | .keySlotWrite dt _ _ _ | .keySlotErase dt _ _ _ | .keyZeroise dt _ | .saCheckpoint dt | .encrypt dt _ _ _ _ _
  | .decrypt dt _ _ _ _ _ | .mac dt _ _ _ _ _ | .verify dt _ _ _ _ _ | .tlsSeal dt _ _ _ _ _ | .tlsOpen dt _ _ _ _ _
  | .xtsEnc dt _ _ _ _ _ | .xtsDec dt _ _ _ _ _ | .saWrite dt _ _ _ _ _ | .saRead dt _ _ _ _ _
  | .patternScan dt _ _ _ _ | .storageCommandArrival dt _ _ _ _ _ | .post dt _ _ | .xfer dt _ _ _ _ | .respond dt _ _
  | .controllerEnable dt _ _ | .controllerReset dt _ _ | .controllerShutdown dt _ _ | .createIoSubmissionQueue dt _ _
  | .deleteIoSubmissionQueue dt _ _ | .createIoCompletionQueue dt _ _ | .deleteIoCompletionQueue dt _ _
  | .bulkOpen dt _ _ _ | .bulkData dt _ _ _ | .bulkCloseFinish dt _ _ _ | .bulkCloseAbort dt _ _ _
  | .bulkIdleTimeout dt _ _ _ | .subscribe dt _ _ _ | .unknownOperation dt _ _ _ | .semAcquire dt _ _ _
  | .semRelease dt _ _ _ | .mgmtSemHeartbeat dt _ _ _ | .leaseLapse dt | .clientHello dt _ _ | .sessionClose dt _ _
  | .sessionIdleTimeout dt _ _ | .mgmtFrameReceive dt _ _ | .mbxH2dLen dt _ | .mbxD2hAck dt _ | .csmClusterClock dt _
  | .csmTimeState dt _ | .csmMode dt _ | .errLogClear dt _ _ _ | .coreRunRelease dt _ _ _ | .coreRunReset dt _ _ _
  | .coreMemoryAccess dt _ _ _ _ | .coldStart dt _ _ _ _ _ | .resetNAssert dt | .vigilFirmwareStart dt _ _ _ _
  | .hbmTrainingComplete dt _ _ | .serviceImageRunning dt _ | .epochOneCommit dt | .rescueFrameReceive dt _ _ _
  | .drainRequest dt _ _ _ | .vigilRequest dt _ _ _ | .hibernateRequest dt _ _ _ | .offWakeRequest dt _ _ _
  | .serviceRequest dt _ _ _ | .drainDone dt | .modeDrainLimit dt | .dormantEntryComplete dt
  | .dormantExitComplete dt | .idleEntry dt _ | .quietEntry dt | .lpiWake dt _ | .wakeTimer dt | .gpioWakeEdge dt _
  | .sensorRead dt _ | .supplyMeasure dt _ _ _ | .thermtrip dt | .undervoltage dt | .overvoltage dt
  | .fwWriteComplete dt _ | .handoverNow dt _ _ _ | .handoverAt dt _ _ _ | .restartAt dt _ _ _
  | .imgActivateCancel dt _ _ _ | .handoverPrepared dt _ | .handoverStart dt | .handoverComplete dt
  | .handoverDeferralExpiry dt | .restartInstant dt | .imgSvnRaise dt _ _ _ | .imgSignerRevoke dt _ _ _
  | .settingsStoreWrite dt | .imageStoreWrite dt | .eccError dt _ _ _ _ _ _ | .parityError dt _ _ _ _ _ _
  | .blockStall dt _ _ _ _ _ | .holdOutRetest dt _ _ | .clockLoss dt _ | .watchdogMiss dt _ | .lockstepMismatch dt _
  | .regionRetest dt | .fltRegionTest dt _ _ _ | .regionTestComplete dt _ | .cellLogWindow dt _ _
  | .diagInjectCorrectable dt _ _ _ | .diagInjectUncorrectable dt _ _ _ | .diagInjectBlockReset dt _ _ _
  | .diagInjectRegionFault dt _ _ _ | .jtagInstruction dt _ | .testLogicReset dt | .outputOverload dt _
  | .outputRetry dt _ | .hbmTrainingLoss dt _ | .internalRailFault dt _ _ | .takeoverComplete dt
  | .standbyReloadComplete dt | .hostL2Entry dt _ | .vfEnable dt _ _ _ | .hartTimerEvent dt _ => dt

/-- A command that is a request of a management session. -/
def isRequest : Instr → Bool
  | .read _ _ _ _ | .write _ _ _ _ | .stage _ _ _ _ | .commit _ _ _ _ | .scheduledCommit _ _ _ _
  | .epochDiscard _ _ _ _ | .epochAtArm _ _ _ _ | .epochAtCancel _ _ _ _ | .epochAtResync _ _ _ _ | .timeSet _ _ _ _
  | .squashReset _ _ _ _ | .drainReset _ _ _ _ | .keyKek _ _ _ _ | .keySlotWrite _ _ _ _ | .keySlotErase _ _ _ _
  | .bulkOpen _ _ _ _ | .bulkData _ _ _ _ | .bulkCloseFinish _ _ _ _ | .bulkCloseAbort _ _ _ _ | .subscribe _ _ _ _
  | .unknownOperation _ _ _ _ | .semAcquire _ _ _ _ | .semRelease _ _ _ _ | .mgmtSemHeartbeat _ _ _ _
  | .errLogClear _ _ _ _ | .coreRunRelease _ _ _ _ | .coreRunReset _ _ _ _ | .drainRequest _ _ _ _
  | .vigilRequest _ _ _ _ | .hibernateRequest _ _ _ _ | .offWakeRequest _ _ _ _ | .serviceRequest _ _ _ _
  | .handoverNow _ _ _ _ | .handoverAt _ _ _ _ | .restartAt _ _ _ _ | .imgActivateCancel _ _ _ _
  | .imgSvnRaise _ _ _ _ | .imgSignerRevoke _ _ _ _ | .fltRegionTest _ _ _ _ | .diagInjectCorrectable _ _ _ _
  | .diagInjectUncorrectable _ _ _ _ | .diagInjectBlockReset _ _ _ _ | .diagInjectRegionFault _ _ _ _ => true
  | .portReleaseResume _ (.omp _ _ _) _ | .portReleaseReset _ (.omp _ _ _) _ => true
  | _ => false

/-- A command that may bring a region fault or a fatal error (R434). -/
def isFault : Instr → Bool
  | .eccError _ _ _ _ _ _ _ | .parityError _ _ _ _ _ _ _ | .blockStall _ _ _ _ _ _ | .hbmTrainingLoss _ _
  | .internalRailFault _ _ _ | .clockLoss _ _ | .lockstepMismatch _ _ | .watchdogMiss _ _ => true
  | _ => false

/-- One of the waiting commands is a request, or a fault, and comes in a cycle that lasts at an instant. -/
def comesIn (cycle : Nat) : Nat → List Instr → Bool
  | _, [] => false
  | clock, c :: t =>
    let at_ := clock + cmdTime c
    controlCycle at_ == cycle && (isRequest c || isFault c || comesIn cycle at_ t)

/-- A request or a fault of this very cycle is still to come. -/
def State.moreRequests (s : State) : Bool := comesIn (controlCycle s.clock) s.clock s.pending

/-- A request among those of its cycle, MA's before MB's, then by session number; those of one session in their order (R407). -/
def insertRequest (x : Nat × Nat × Bytes) : List (Nat × Nat × Bytes) → List (Nat × Nat × Bytes)
  | [] => [x]
  | y :: t => if x.1 * 2 ^ 32 + x.2.1 < y.1 * 2 ^ 32 + y.2.1 then x :: y :: t else y :: insertRequest x t

end Sys2Proof.Machine
end

