-- ==== Sys2Proof/Machine/Requests.lean ====
section
/-!
DEFINITION. How a request is taken and answered (spec/13 R394 to R399), and the commands that are OMP requests: one row each for
an operation, or for a write to an object that is a command of its own.
-/

namespace Sys2Proof.Machine

/-! ### Taking a request -/

/-- The operation of a request: its response and what it does (Table 13-3). -/
def State.doOp (s : State) (k : Nat × Nat) (m : Bytes) : Reply × State :=
  if ompRange m then (Reply.of 2, s)
  else match ompOp m with
    | 1 => s.doItems k m .read
    | 2 => s.doItems k m .write
    | 3 => s.doItems k m .stage
    | 4 => s.doCommit k m
    | 5 => s.doOpen k m
    | 6 => s.doData k m
    | 7 => s.doClose k m
    | 8 => s.doSubscribe k m
    | 10 => s.doSem k m
    | _ => (Reply.of 10, s)

/-- OH_AUX of a response: that of the operation; where the request uses it and Table 13-3 gives the response none, free. -/
def State.replyAux (s : State) (op : Nat) (r : Reply) : Nat × State :=
  if op == 6 || op == 7 || op == 10 then s.fresh 32 else (r.aux, s)

/-- The response of a request (R394). -/
def response (m : Bytes) (r : Reply) (aux : Nat) : Bytes :=
  ompHeader (ompOp m) true r.status (ompReq m) r.body.length r.count aux ++ r.body

/-- A response leaves; the mailbox of a device that has just been reset is empty. -/
def State.answer (s : State) (k : Nat × Nat) (msg : Bytes) : State :=
  if s.alive then s.sendOmp k.1 k.2 msg else if k.1 == 1 && s.mailbox then s else s.emit (.omp k.1 k.2 msg)

/-- A session keeps a response among its latest 64 (R397). -/
def State.keepReply (s : State) (k : Nat × Nat) (m msg : Bytes) : State :=
  match s.sess? k with
  | some x => s.setSess { x with kept := ((ompOp m, ompReq m, msg) :: x.kept).take 64 }
  | none => s

/-- The response that a session keeps for a request. -/
def State.keptReply (s : State) (k : Nat × Nat) (m : Bytes) : Option Bytes :=
  (s.sess? k).bind fun x => (x.kept.find? fun e => e.1 == ompOp m && e.2.1 == ompReq m).map fun e => e.2.2

/-- A request is executed and answered. -/
def State.ompExec (s : State) (k : Nat × Nat) (m : Bytes) : State :=
  let r := s.doOp k m
  let a := r.2.replyAux (ompOp m) r.1
  let msg := response m r.1 a.1
  ((a.2.keepReply k m msg).bump (Obj.MGMT_RX_MSGS + k.1)).answer k msg

/-- A record's plaintext is executed (R397, R398). -/
def State.ompRun (s : State) (k : Nat × Nat) (m : Bytes) : State :=
  if ompBad m || ompOp m == 9 then s.bump (Obj.MGMT_RX_BAD + k.1)
  else match s.keptReply k m with
    | some msg => (s.bump Obj.MGMT_RESENT).answer k msg
    | none => s.ompExec k m

/-- A session can be heard: it exists, and on the mailbox a datagram waits. -/
def State.hears (s : State) (k : Nat × Nat) : Bool :=
  s.alive && (s.sess? k).isSome && (!(k.1 == 1 && s.mailbox) || s.mgmt.h2dBusy)

/-- A valid record has come in. -/
def State.touch (s : State) (k : Nat × Nat) : State :=
  let t := match s.sess? k with
    | some x => s.setSess { x with last := s.clock }
    | none => s
  if k.1 == 1 && s.mailbox then { t with mgmt := { t.mgmt with h2dBusy := false } } else t

/-- A valid record of a session: executed, or kept until the dictionary is available (R399). -/
def State.takeOmp (s : State) (k : Nat × Nat) (m : Bytes) : State :=
  let t := s.touch k
  if t.unavailable then { t with mgmt := { t.mgmt with deferred := t.mgmt.deferred ++ [(k.1, k.2, m)] } }
  else t.ompRun k m

/-! ### The order within a control-clock cycle (R407) -/

/-- The requests of a cycle are taken, those that a session still sends. -/
def State.takeCycle (s : State) (l : List (Nat × Nat × Bytes)) : State :=
  l.foldl (fun a x => if a.hears (x.1, x.2.1) then a.takeOmp (x.1, x.2.1) x.2.2 else a) s

/-- A request that can be heard joins those of its cycle, which are taken with the last of them, and after a fault of that cycle
(R407, R434). -/
def State.takeInOrder (s : State) (ok : Bool) (k : Nat × Nat) (m : Bytes) : State :=
  let l := if ok then insertRequest (k.1, k.2, m) s.mgmt.cycle else s.mgmt.cycle
  if s.moreRequests then { s with mgmt := { s.mgmt with cycle := l } }
  else State.takeCycle { s with mgmt := { s.mgmt with cycle := [] } } l

/-- A command that is a request; `want` says which requests it stands for. -/
def ompCmd (dt : Nat) (s : State) (want : Bool) (k : Nat × Nat) (m : Bytes) : Out :=
  cmd dt s (fun _ => true) fun t => t.takeInOrder (want && t.hears k) k m

/-! ### Operations -/

/-- READ. A record that is too short for a header goes with this row as well. -/
def execRead (dt port sess : Nat) (req : Bytes) (s : State) : Out := ompCmd dt s (ompOp req == 1 || ompBad req) (port, sess) req

/-- WRITE, of any object. -/
def execWrite (dt port sess : Nat) (req : Bytes) (s : State) : Out := ompCmd dt s (ompOp req == 2) (port, sess) req

/-- STAGE. -/
def execStage (dt port sess : Nat) (req : Bytes) (s : State) : Out := ompCmd dt s (ompOp req == 3) (port, sess) req

/-- COMMIT without OH_SCHEDULED (R65). -/
def execCommit (dt port sess : Nat) (req : Bytes) (s : State) : Out :=
  ompCmd dt s (ompOp req == 4 && !ompScheduled req) (port, sess) req

/-- COMMIT with OH_SCHEDULED (R79). -/
def execScheduledCommit (dt port sess : Nat) (req : Bytes) (s : State) : Out :=
  ompCmd dt s (ompOp req == 4 && ompScheduled req) (port, sess) req

def execBulkOpen (dt port sess : Nat) (req : Bytes) (s : State) : Out := ompCmd dt s (ompOp req == 5) (port, sess) req

def execBulkData (dt port sess : Nat) (req : Bytes) (s : State) : Out := ompCmd dt s (ompOp req == 6) (port, sess) req

/-- Byte 0 of the body of BULK_CLOSE. -/
def closeHow (m : Bytes) : Nat := beNat (slice (ompBody m) 0 1)

def execBulkCloseFinish (dt port sess : Nat) (req : Bytes) (s : State) : Out :=
  ompCmd dt s (ompOp req == 7 && closeHow req != 1) (port, sess) req

def execBulkCloseAbort (dt port sess : Nat) (req : Bytes) (s : State) : Out :=
  ompCmd dt s (ompOp req == 7 && closeHow req == 1) (port, sess) req

def execSubscribe (dt port sess : Nat) (req : Bytes) (s : State) : Out := ompCmd dt s (ompOp req == 8) (port, sess) req

/-- An operation that Table 13-3 does not list, or EVENT, which a manager may not send (R394). -/
def execUnknownOperation (dt port sess : Nat) (req : Bytes) (s : State) : Out :=
  ompCmd dt s (ompOp req == 0 || ompOp req == 9 || 10 < ompOp req) (port, sess) req

def execSemAcquire (dt port sess : Nat) (req : Bytes) (s : State) : Out :=
  ompCmd dt s (ompOp req == 10 && ompAux req != 2) (port, sess) req

def execSemRelease (dt port sess : Nat) (req : Bytes) (s : State) : Out :=
  ompCmd dt s (ompOp req == 10 && ompAux req == 2) (port, sess) req

/-! ### Writes that are commands -/

/-- A request is a WRITE whose first item names an object, with a value that satisfies a test. -/
def writes (req : Bytes) (o : Nat) (p : Nat → Bool := fun _ => true) : Bool :=
  ompOp req == 2 && (match (ompItems req).getD [] with | i :: _ => i.obj == o && p i.value | [] => false)

def execMgmtSemHeartbeat (dt port sess : Nat) (req : Bytes) (s : State) : Out :=
  ompCmd dt s (writes req Obj.MGMT_SEM_HEARTBEAT) (port, sess) req

def execEpochDiscard (dt port sess : Nat) (req : Bytes) (s : State) : Out :=
  ompCmd dt s (writes req Obj.EPOCH_DISCARD) (port, sess) req

def execEpochAtArm (dt port sess : Nat) (req : Bytes) (s : State) : Out :=
  ompCmd dt s (writes req Obj.EPOCH_AT_ARM) (port, sess) req

def execEpochAtCancel (dt port sess : Nat) (req : Bytes) (s : State) : Out :=
  ompCmd dt s (writes req Obj.EPOCH_AT_CANCEL) (port, sess) req

def execEpochAtResync (dt port sess : Nat) (req : Bytes) (s : State) : Out :=
  ompCmd dt s (writes req Obj.EPOCH_AT_RESYNC) (port, sess) req

def execTimeSet (dt port sess : Nat) (req : Bytes) (s : State) : Out := ompCmd dt s (writes req Obj.TIME_SET) (port, sess) req

def execErrLogClear (dt port sess : Nat) (req : Bytes) (s : State) : Out :=
  ompCmd dt s (writes req Obj.ERR_LOG_CLEAR) (port, sess) req

def execKeyKek (dt port sess : Nat) (req : Bytes) (s : State) : Out := ompCmd dt s (writes req Obj.KEY_KEK) (port, sess) req

def execKeySlotWrite (dt port sess : Nat) (req : Bytes) (s : State) : Out :=
  ompCmd dt s (writes req Obj.KEY_SLOT_WRITE) (port, sess) req

def execKeySlotErase (dt port sess : Nat) (req : Bytes) (s : State) : Out :=
  ompCmd dt s (writes req Obj.KEY_SLOT_ERASE) (port, sess) req

def execCoreRunRelease (dt port sess : Nat) (req : Bytes) (s : State) : Out :=
  ompCmd dt s (writes req Obj.CORE_RUN fun v => v != 0) (port, sess) req

def execCoreRunReset (dt port sess : Nat) (req : Bytes) (s : State) : Out :=
  ompCmd dt s (writes req Obj.CORE_RUN fun v => v == 0) (port, sess) req

/-- MODE_REQUEST 1; values that name no mode go with this row. -/
def execDrainRequest (dt port sess : Nat) (req : Bytes) (s : State) : Out :=
  ompCmd dt s (writes req Obj.MODE_REQUEST fun v => v < 2 || 5 < v) (port, sess) req

def execVigilRequest (dt port sess : Nat) (req : Bytes) (s : State) : Out :=
  ompCmd dt s (writes req Obj.MODE_REQUEST fun v => v == 2) (port, sess) req

def execHibernateRequest (dt port sess : Nat) (req : Bytes) (s : State) : Out :=
  ompCmd dt s (writes req Obj.MODE_REQUEST fun v => v == 3) (port, sess) req

def execOffWakeRequest (dt port sess : Nat) (req : Bytes) (s : State) : Out :=
  ompCmd dt s (writes req Obj.MODE_REQUEST fun v => v == 4) (port, sess) req

def execServiceRequest (dt port sess : Nat) (req : Bytes) (s : State) : Out :=
  ompCmd dt s (writes req Obj.MODE_REQUEST fun v => v == 5) (port, sess) req

/-- IMG_ACTIVATE 1; values that name no form go with this row. -/
def execHandoverNow (dt port sess : Nat) (req : Bytes) (s : State) : Out :=
  ompCmd dt s (writes req Obj.IMG_ACTIVATE fun v => v < 2 || 3 < v) (port, sess) req

def execHandoverAt (dt port sess : Nat) (req : Bytes) (s : State) : Out :=
  ompCmd dt s (writes req Obj.IMG_ACTIVATE fun v => v == 2) (port, sess) req

def execRestartAt (dt port sess : Nat) (req : Bytes) (s : State) : Out :=
  ompCmd dt s (writes req Obj.IMG_ACTIVATE fun v => v == 3) (port, sess) req

def execImgActivateCancel (dt port sess : Nat) (req : Bytes) (s : State) : Out :=
  ompCmd dt s (writes req Obj.IMG_ACTIVATE_CANCEL) (port, sess) req

def execImgSvnRaise (dt port sess : Nat) (req : Bytes) (s : State) : Out :=
  ompCmd dt s (writes req Obj.IMG_SVN_RAISE) (port, sess) req

def execImgSignerRevoke (dt port sess : Nat) (req : Bytes) (s : State) : Out :=
  ompCmd dt s (writes req Obj.IMG_SIGNER_REVOKE) (port, sess) req

def execFltRegionTest (dt port sess : Nat) (req : Bytes) (s : State) : Out :=
  ompCmd dt s (writes req Obj.FLT_REGION_TEST) (port, sess) req

/-- DIAG_INJECT of kind 1; kinds that are not listed go with this row. -/
def execDiagInjectCorrectable (dt port sess : Nat) (req : Bytes) (s : State) : Out :=
  ompCmd dt s (writes req Obj.DIAG_INJECT fun v => djKind v < 2 || 4 < djKind v) (port, sess) req

def execDiagInjectUncorrectable (dt port sess : Nat) (req : Bytes) (s : State) : Out :=
  ompCmd dt s (writes req Obj.DIAG_INJECT fun v => djKind v == 2) (port, sess) req

def execDiagInjectBlockReset (dt port sess : Nat) (req : Bytes) (s : State) : Out :=
  ompCmd dt s (writes req Obj.DIAG_INJECT fun v => djKind v == 3) (port, sess) req

def execDiagInjectRegionFault (dt port sess : Nat) (req : Bytes) (s : State) : Out :=
  ompCmd dt s (writes req Obj.DIAG_INJECT fun v => djKind v == 4) (port, sess) req

/-- FN_RESET_CMD of kind 1; kinds that are not listed go with this row. -/
def execSquashReset (dt port sess : Nat) (req : Bytes) (s : State) : Out :=
  ompCmd dt s (writes req Obj.FN_RESET_CMD fun v => fld v 14 2 != 2) (port, sess) req

def execDrainReset (dt port sess : Nat) (req : Bytes) (s : State) : Out :=
  ompCmd dt s (writes req Obj.FN_RESET_CMD fun v => fld v 14 2 == 2) (port, sess) req

/-- A release of port p: by the manager, or through the release register of its PF0 (R315). -/
def releaseCmd (dt : Nat) (via : Via) (p : Nat) (s : State) (want : Nat → Bool) (v : Nat) : Out :=
  match via with
  | .omp port sess req => ompCmd dt s (p < 2 && writes req (Obj.HST_PORT_RELEASE + p) want) (port, sess) req
  | .page => pageCmd dt (8192 * p) s fun t => if p < 2 then (t.release p v).2 else t

/-- PORT_RELEASE_RESUME; other values than 1 and 2 go with this row. -/
def execPortReleaseResume (dt : Nat) (via : Via) (p : Nat) (s : State) : Out := releaseCmd dt via p s (fun v => v != 2) 1

def execPortReleaseReset (dt : Nat) (via : Via) (p : Nat) (s : State) : Out := releaseCmd dt via p s (fun v => v == 2) 2

/-! ### Time of the semaphore (R409) -/

/-- LEASE_LAPSE: the lease has run out while the dictionary is available. -/
def execLeaseLapse (dt : Nat) (s : State) : Out :=
  cmd dt s (fun t => t.alive && t.mgmt.holder.isSome && t.mgmt.leaseEnd ≤ t.clock && !t.unavailable) fun t => t.freeSem true

end Sys2Proof.Machine
end

