-- ==== Sys2Proof/Machine/FaultCmds.lean ====
section
/-!
DEFINITION. The commands that bring a fault (spec/16 R465 to R472, R478, R479; spec/01 R40). A fault acts before the requests of its
control-clock cycle (spec/14 R434).
-/

namespace Sys2Proof.Machine

/-- After a fault the requests of its cycle are taken, from what the fault left, unless more of that cycle comes (R434). -/
def State.thenRequests (t u : State) : State :=
  if t.mgmt.cycle.isEmpty || t.moreRequests then u
  else State.takeCycle { u with mgmt := { u.mgmt with cycle := [] } } t.mgmt.cycle

/-- A command that brings a fault where `cond` holds. -/
def faultCmd (dt : Nat) (s : State) (cond : State → Bool) (act : State → State) : Out :=
  cmd dt s (fun _ => true) fun t => t.thenRequests (if cond t then act t else t)

/-- ECC_ERROR: in a block (Table 16-5 codes) at a cell address; `correctable`: a single-bit error. -/
def execEccError (dt : Nat) (at_ : EccAt) (region block inst addr : Nat) (correctable : Bool) (s : State) : Out :=
  faultCmd dt s (fun t => t.alive) fun t =>
    let e := errAt region block inst addr
    if correctable then t.cellCorrected e else t.cellUncorrected at_ e

/-- PARITY_ERROR: an access is retried `retries` times; `ok`: the last retry succeeded (R465). -/
def execParityError (dt region block inst addr retries : Nat) (ok : Bool) (s : State) : Out :=
  faultCmd dt s (fun t => t.alive && 1 ≤ retries && retries ≤ 3 && (ok || retries == 3)) fun t =>
    let e := { errAt region block inst addr with detail := retries }
    let t1 := t.bumpN Obj.FLT_CELL_RETRIES retries
    if ok then t1.logRate { e with cls := 3, action := 1 } else t1.blockReset { e with cls := 4, escalated := true } false

/-- BLOCK_STALL: no progress for 100 µs with work pending, or a self-check failed after a reset (`selfCheck`); `slow`: the
block's reset does not complete within 5 µs. -/
def execBlockStall (dt region block inst : Nat) (selfCheck slow : Bool) (s : State) : Out :=
  faultCmd dt s (fun t => t.alive && (selfCheck || watched block)) fun t =>
    t.blockReset (ErrInfo.mk' 1 region block inst (if selfCheck then 0x0B else 0x0A) 4) slow

/-- HBM_TRAINING_LOSS: stack k's controller loses training, or its rail or temperature leaves its limits. -/
def execHbmTrainingLoss (dt k : Nat) (s : State) : Out :=
  faultCmd dt s (fun t => t.alive && decide (k < 2) && t.pwr.hbmDone) fun t => t.stackFault k (ErrInfo.mk' 2 (2 + k) 0x17 k 0x0C 6)

/-- INTERNAL_RAIL_FAULT: a rail, or with `clock` a clock, of packet region r is out of limits. -/
def execInternalRailFault (dt r : Nat) (clock : Bool) (s : State) : Out :=
  faultCmd dt s (fun t => t.alive && decide (r < 2)) fun t =>
    t.regionFault r (if clock then ErrInfo.mk' 2 (2 + r) 0x45 0 0x0D 6 else ErrInfo.mk' 2 (2 + r) 0x47 0 0x0E 6)

/-- CLOCK_LOSS: 0 CLK25 or 1 REFCLK_NET is lost for 10 µs: fatal; 2 REFCLK_HA or 3 REFCLK_HB: that port's links go down
(Table 16-8, R289). -/
def execClockLoss (dt which : Nat) (s : State) : Out :=
  faultCmd dt s (fun t => t.alive && decide (which < 4)) fun t =>
    if which < 2 then t.fatal (ErrInfo.mk' 3 0 0x45 which 0x0D 7)
    else
      let port := which - 2
      [2 * port, 2 * port + 1].foldl (fun a l =>
        if a.linkUp l then
          let b := ((a.bump (Obj.HST_LINK_DOWNS + l)).squashLink l).hostDown l
          if b.frozen port then b.unfreeze port else b
        else a) t

/-- LOCKSTEP_MISMATCH. -/
def execLockstepMismatch (dt : Nat) (active : Bool) (s : State) : Out := faultCmd dt s (fun t => t.alive) fun t => t.pairFault active 8

/-- WATCHDOG_MISS: a pair's watchdog is missed for 100 ms. -/
def execWatchdogMiss (dt : Nat) (active : Bool) (s : State) : Out := faultCmd dt s (fun t => t.alive) fun t => t.pairFault active 9

end Sys2Proof.Machine
end

