-- ==== Sys2Proof/Machine/Manage.lean ====
section
/-!
DEFINITION. Management ports and the mailbox (spec/13 R388 to R392), and the end of a handover or takeover (spec/01 R40,
spec/15 R460).
-/

namespace Sys2Proof.Machine

/-! ### Addresses of an Ethernet management port (R388) -/

/-- MAC address of a port. -/
def State.mgmtMac (s : State) (port : Nat) : Nat := (s.cfg Obj.ID_BASE_MAC + port) % 2 ^ 48

/-- Link-local address by modified EUI-64. -/
def State.linkLocal (s : State) (port : Nat) : Nat :=
  let m := s.mgmtMac port
  0xFE80 * 2 ^ 112 + ((m / 2 ^ 24) ^^^ 0x020000) * 2 ^ 40 + 0xFFFE * 2 ^ 24 + m % 2 ^ 24

/-- The port has an address of a kind: 0 link-local, 1 static IPv6, 2 static IPv4, 3 by SLAAC, 4 by DHCPv4. -/
def State.hasAddr (s : State) (port kind : Nat) : Bool :=
  match kind with
  | 0 => true
  | 1 => s.cfg (Obj.MGMT_IPV6_ADDR + port) != 0
  | 2 => s.cfg (Obj.MGMT_IPV4_ADDR + port) != 0
  | 3 => bit (s.cfg (Obj.MGMT_AUTOCONF + port)) 0
  | 4 => bit (s.cfg (Obj.MGMT_AUTOCONF + port)) 1
  | _ => false

/-- The address that a frame asks for is one of the port's. -/
def State.ownAddr (s : State) (port : Nat) (f : MgmtFrame) : Bool :=
  if f.ask == 0 || f.ask == 2 then
    (s.hasAddr port 2 && f.addr == s.cfg (Obj.MGMT_IPV4_ADDR + port)) || (f.auto && s.hasAddr port 4)
  else
    f.addr == s.linkLocal port || (s.hasAddr port 1 && f.addr == s.cfg (Obj.MGMT_IPV6_ADDR + port))
      || (f.auto && s.hasAddr port 3)

/-- Length and tag are in order. -/
def State.frameOk (s : State) (port : Nat) (f : MgmtFrame) : Bool :=
  f.len ≤ 1522 && (match f.tag with | none => true | some v => v != 0 && v == s.cfg (Obj.MGMT_VLAN + port))

/-- A datagram of the mailbox has been taken. -/
def State.mailTaken (s : State) : State := { s with mgmt := { s.mgmt with h2dBusy := false } }

/-- MGMT_FRAME_RECEIVE: on the mailbox, the datagram that waits and is no record of a session. -/
def execMgmtFrameReceive (dt port : Nat) (f : MgmtFrame) (s : State) : Out :=
  cmd dt s (fun t => t.alive && decide (port < 2) && (!(port == 1 && t.mailbox) || t.mgmt.h2dBusy)) fun t =>
    if port == 1 && t.mailbox then t.mailTaken.bump (Obj.MGMT_RX_DISCARD + 1)
    else if f.ask < 4 && t.frameOk port f && t.ownAddr port f then t.emit (.mgmtAnswer port f.ask f.addr)
    else t.bump (Obj.MGMT_RX_DISCARD + port)

/-! ### Sessions (R389 to R391) -/

/-- The client's chain ends at a stored trust anchor, or none is stored. -/
def State.trusts (s : State) (h : Hello) : Bool :=
  let anchors := (List.range 4).map fun a => s.cfg (Obj.MGMT_TRUST_ANCHOR + a)
  anchors.all (fun x => x == 0) || (h.root != 0 && anchors.contains h.root)

/-- The handshake succeeds (Table of R390; registered numbers are those of RFC 8446, log entry 21). -/
def State.helloOk (s : State) (h : Hello) : Bool :=
  h.suites.any (fun x => x == 0x1302 || x == 0x1301) && h.groups.any (fun x => x == 0x18 || x == 0x1D)
    && h.sigs.any (fun x => x == 0x0503 || x == 0x0403) && h.sound && (h.dated || s.cfg Obj.TIME_LOCK_STATE != 2) && s.trusts h

/-- Numbers that a new session of a port can take. -/
def State.freeSess (s : State) (port : Nat) : List Nat :=
  let all := if port == 1 && s.mailbox then [1] else [1, 2, 3, 4, 5, 6, 7, 8]
  all.filter fun n => (s.sess? (port, n)).isNone

/-- A session opens. -/
def State.openSess (s : State) (port n : Nat) (h : Hello) : State :=
  let x : Session :=
    { port := port, num := n, last := s.clock, mask := 0, evSeq := 0, kept := [], stage := Staging.none_, chans := [],
      peer := h.peer, local_ := h.at_, cert := h.cert }
  { s with mgmt := { s.mgmt with sessions := s.mgmt.sessions ++ [x] } }

/-- CLIENT_HELLO: with the handshake that follows it. -/
def execClientHello (dt port : Nat) (h : Hello) (s : State) : Out :=
  cmd dt s (fun t => t.alive && decide (port < 2) && (!(port == 1 && t.mailbox) || t.mgmt.h2dBusy)) fun t =>
    let mail := port == 1 && t.mailbox
    let u := if mail then t.mailTaken else t
    if !mail && !u.hasAddr port h.at_ then u.bump (Obj.MGMT_RX_DISCARD + port)
    else match u.freeSess port with
      | [] => u.bump (Obj.MGMT_DTLS_FAIL + port)
      | n :: rest =>
        if u.helloOk h then u.openSess port (if (n :: rest).contains h.num then h.num else n) h
        else u.bump (Obj.MGMT_DTLS_FAIL + port)

/-- SESSION_CLOSE: close_notify or a fatal alert. -/
def execSessionClose (dt port sess : Nat) (s : State) : Out :=
  cmd dt s (fun t => t.hears (port, sess)) fun t => (t.touch (port, sess)).closeSess (port, sess)

/-- A session that has had no valid record for 60 s. -/
def State.sessStale (s : State) (k : Nat × Nat) : Bool :=
  match s.sess? k with
  | some x => x.last + 60000000000 ≤ s.clock
  | none => false

/-- SESSION_IDLE_TIMEOUT. -/
def execSessionIdleTimeout (dt port sess : Nat) (s : State) : Out :=
  cmd dt s (fun t => t.alive && t.sessStale (port, sess)) fun t => t.closeSess (port, sess)

/-! ### The mailbox (R392) -/

/-- MBX_H2D_LEN: a write of v. -/
def execMbxH2dLen (dt v : Nat) (s : State) : Out :=
  pageCmd dt 0 s fun t =>
    let n := fld v 0 11
    if !t.mailbox then t
    else if t.mgmt.h2dBusy || n == 0 || 1280 < n then t.bump Obj.MGMT_MBX_OVERLAP
    else { t with mgmt := { t.mgmt with h2dBusy := true } }

/-- The next outgoing datagram takes the freed buffer. -/
def State.nextMail (s : State) : State :=
  let rest := s.mgmt.d2h.drop 1
  let t : State := { s with mgmt := { s.mgmt with d2h := rest, d2hReady := !rest.isEmpty } }
  if rest.isEmpty then t else t.deliverInt 0 t.mgmt.mbxVector none

/-- MBX_D2H_ACK: a write of v. -/
def execMbxD2hAck (dt v : Nat) (s : State) : Out :=
  pageCmd dt 0 s fun t => if t.mailbox && bit v 0 && t.mgmt.d2hReady then t.nextMail else t

/-! ### The dictionary is available again (R399, R404, R408) -/

/-- How long it has been unavailable. -/
def State.unavailFor (s : State) : Nat :=
  match s.mgmt.unavail with
  | some t => s.clock - t
  | none => 0

/-- Requests taken meanwhile are answered, in their order. -/
def State.runDeferred (s : State) : State :=
  let l := s.mgmt.deferred
  let t : State := { s with mgmt := { s.mgmt with deferred := [] } }
  l.foldl (fun a x => if a.alive && (a.sess? (x.1, x.2.1)).isSome then a.ompRun (x.1, x.2.1) x.2.2 else a) t

/-- Events raised meanwhile are sent. -/
def State.sendHeld (s : State) : State :=
  let l := s.mgmt.evHeld
  let t : State := { s with mgmt := { s.mgmt with evHeld := [] } }
  l.foldl (fun a x => a.deliverEvent x.1 x.2.1 x.2.2) t

/-- Unavailability ends: lease time has not run. -/
def State.endUnavail (s : State) : State :=
  { s with mgmt := { s.mgmt with unavail := none, leaseEnd := s.mgmt.leaseEnd + s.unavailFor } }

/-- Steps 3 to 5 of R460: the standby pair is in control under the target image. -/
def State.finishHandover (s : State) (a : Activ) : State :=
  let t0 := s.endUnavail
  let t := t0.sendHeld.setMode t0.serviceMode 7
  let t1 := (t.latch Obj.IMG_RUNNING a.target).latchStored Obj.IMG_BOOT_BANK a.target
  let t2 := (t1.raise 0x0071 7 0 (toBe 1 2 ++ List.replicate 3 0 ++ toBe 4 (t1.fwSlot (2 * a.target + 1)).version)).bump
    Obj.IMG_HANDOVERS
  let t3 := t2.endActivation 4 0
  ({ t3 with img := { t3.img with standby := false } }).runDeferred

/-- A handover that switches. -/
def State.switching (s : State) : Option Activ := s.img.act.filter fun a => a.started

/-- HANDOVER_COMPLETE. -/
def execHandoverComplete (dt : Nat) (s : State) : Out :=
  cmd dt s (fun t => t.alive && t.switching.isSome) fun t =>
    match t.switching with
    | some a => t.finishHandover a
    | none => t

/-- TAKEOVER_COMPLETE: staged changes are gone, the event is raised (R40, R58). -/
def execTakeoverComplete (dt : Nat) (s : State) : Out :=
  cmd dt s (fun t => t.alive && t.img.takeover) fun t =>
    let t0 := t.endUnavail
    let t1 := t0.sendHeld
    let t2 := t1.mgmt.sessions.foldl (fun (a : State) x => a.discardStage (x.port, x.num) 3) t1
    let t3 := t2.raise 0x0021 2 0 []
    ({ t3 with img := { t3.img with takeover := false } }).runDeferred

end Sys2Proof.Machine
end

