-- ==== Sys2Proof/Machine/PackagePins.lean ====
section
/-!
DEFINITION. The switched supply outputs and the test access port (spec/17 R495 and R502).
-/

namespace Sys2Proof.Machine

/-! ### VIO18_OUT and VFLASH_OUT (R495): 0 and 1 -/

def State.outputOff (s : State) (which : Nat) : Option Nat := if which == 0 then s.pkg.vioOff else s.pkg.vflashOff

def State.setOutput (s : State) (which : Nat) (v : Option Nat) : State :=
  if which == 0 then { s with pkg := { s.pkg with vioOff := v } } else { s with pkg := { s.pkg with vflashOff := v } }

/-- The outputs have power: every state but off and step 4. -/
def State.outputsPowered (s : State) : Bool := s.pwr.rails != .off && s.pwr.rails != .island

/-- OUTPUT_OVERLOAD: more than 200 mA for 1 ms. -/
def execOutputOverload (dt which : Nat) (s : State) : Out :=
  cmd dt s (fun t => decide (which < 2) && t.outputsPowered && (t.outputOff which).isNone) fun t =>
    ((t.fwSettle 0).setOutput which (some t.clock)).logErr (ErrInfo.mk' 3 0 0x47 which 0x0E 8)

/-- OUTPUT_RETRY: 100 ms after it was turned off the output is turned on again. -/
def execOutputRetry (dt which : Nat) (s : State) : Out :=
  cmd dt s (fun t => decide (which < 2) && t.outputsPowered && (match t.outputOff which with
      | some a => decide (a + 100000000 ≤ t.clock)
      | none => false)) fun t => (t.fwSettle 0).setOutput which none

/-! ### Output pins: what each is driven to follows from the state -/

/-- FAULT_N is asserted: from a fatal error to the next VIGIL firmware, and for a fenced region where the manager asks (R473). -/
def State.faultPin (s : State) : Bool := s.flt.faultN || (s.mode.fenced.isSome && s.cfg Obj.FLT_FAULTN_FENCE == 1)

/-- THERMTRIP_N is asserted (R444, R474). -/
def State.thermtripPin (s : State) : Bool := s.pwr.tripped

/-- PPS_OUT: not driven while VIO18_OUT is off, else high from each second of the time base for its width (R497). -/
def State.ppsOut (s : State) : Option Bool :=
  if s.outputsPowered && s.pkg.vioOff.isNone then
    some (s.cfg Obj.TIME_PPS_OUT_EN == 1 && decide (s.now % 1000000000 < s.cfg Obj.TIME_PPS_OUT_WIDTH_US * 1000))
  else none

/-- CLKREQ# of a host port on its GPIO, where that carries it: asserted but while every link that is up is in L1.1 or L1.2
(R306). -/
def State.clkreqPin (s : State) (port : Nat) : Option Bool :=
  if s.cfg (Obj.HST_CLKREQ_GPIO + port) == 1 then
    some ([2 * port, 2 * port + 1].any fun l => s.linkState l != 0 && s.linkState l != 5 && s.linkState l != 6)
  else none

/-! ### The test access port (R502) -/

/-- What the instruction IDCODE shifts out: version, part and manufacturer. -/
def idcode : Nat := 0x09640B67


/-- Instructions that leave the chip alone. -/
def tapQuiet : TapInst → Bool
  | .bypass | .idcode | .samplePreload => true
  | _ => false

/-- JTAG_INSTRUCTION: an instruction takes effect. -/
def execJtagInstruction (dt : Nat) (i : TapInst) (s : State) : Out :=
  cmd dt s (fun _ => true) fun t =>
    if tapQuiet i then { t with pkg := { t.pkg with jtag := false } }
    else
      let t1 := t.wipe
      let rails := if t.pwr.rails == .off then Rails.off else Rails.held
      { t1 with pwr := { t1.pwr with rails := rails }, pkg := { t1.pkg with jtag := true } }

/-- TEST_LOGIC_RESET: after an instruction that held the chip in reset a cold start begins, where nothing else holds it. -/
def execTestLogicReset (dt : Nat) (s : State) : Out :=
  cmd dt s (fun t => t.pkg.jtag) fun t =>
    let t1 : State := { t with pkg := { t.pkg with jtag := false } }
    if t1.mayStart false false false false && t1.pwr.vin then
      let t2 := t1.wipe
      let t3 : State := { t2 with now := 0, pwr := { t2.pwr with lockedAtEntry := false } }
      t3.toBoot 0 none []
    else t1

end Sys2Proof.Machine
end

