-- ==== Sys2Proof/Machine/Dispatch.lean ====
section
/-!
DEFINITION. Every command to its meaning: one arm for each constructor of Instr.
-/

namespace Sys2Proof.Machine

def exec (i : Instr) (s : State) : Host.Outcome State Fault Refusal :=
  match i with
  | .netFrameReceive dt n f fcsOk overrun => Sys2Proof.Machine.execNetFrameReceive dt n f fcsOk overrun s
  | .pauseExpiry dt n => Sys2Proof.Machine.execPauseExpiry dt n s
  | .cutThroughFrameBad dt id tooLong => Sys2Proof.Machine.execCutThroughFrameBad dt id tooLong s
  | .ingressPass dt id look => Sys2Proof.Machine.execIngressPass dt id look s
  | .deferredMetering dt id => Sys2Proof.Machine.execDeferredMetering dt id s
  | .bridgeCrossing dt region => Sys2Proof.Machine.execBridgeCrossing dt region s
  | .tmAdmission dt id saturated => Sys2Proof.Machine.execTmAdmission dt id saturated s
  | .carveOutFetch dt eqid bad => Sys2Proof.Machine.execCarveOutFetch dt eqid bad s
  | .schedulingDecision dt region pn look => Sys2Proof.Machine.execSchedulingDecision dt region pn look s
  | .inlineCipherOp dt id => Sys2Proof.Machine.execInlineCipherOp dt id s
  | .overdueCheck dt region => Sys2Proof.Machine.execOverdueCheck dt region s
  | .maxAgeCheck dt => Sys2Proof.Machine.execMaxAgeCheck dt s
  | .stageAgeCheck dt => Sys2Proof.Machine.execStageAgeCheck dt s
  | .divertScanStart dt region => Sys2Proof.Machine.execDivertScanStart dt region s
  | .divertScanEnd dt id => Sys2Proof.Machine.execDivertScanEnd dt id s
  | .scrubVisit dt region bank u found => Sys2Proof.Machine.execScrubVisit dt region bank u found s
  | .ageScan dt region table key => Sys2Proof.Machine.execAgeScan dt region table key s
  | .gateEvent dt pn => Sys2Proof.Machine.execGateEvent dt pn s
  | .gateListSwitch dt pn => Sys2Proof.Machine.execGateListSwitch dt pn s
  | .censusSweepStart dt region => Sys2Proof.Machine.execCensusSweepStart dt region s
  | .censusSample dt eqid => Sys2Proof.Machine.execCensusSample dt eqid s
  | .ipfixExport dt sent => Sys2Proof.Machine.execIpfixExport dt sent s
  | .ipfixTemplate dt sent => Sys2Proof.Machine.execIpfixTemplate dt sent s
  | .netLinkUp dt n an techs lpi => Sys2Proof.Machine.execNetLinkUp dt n an techs lpi s
  | .netLinkDown dt n => Sys2Proof.Machine.execNetLinkDown dt n s
  | .quiesceApply dt => Sys2Proof.Machine.execQuiesceApply dt s
  | .read dt port sess req => Sys2Proof.Machine.execRead dt port sess req s
  | .write dt port sess req => Sys2Proof.Machine.execWrite dt port sess req s
  | .stage dt port sess req => Sys2Proof.Machine.execStage dt port sess req s
  | .commit dt port sess req => Sys2Proof.Machine.execCommit dt port sess req s
  | .scheduledCommit dt port sess req => Sys2Proof.Machine.execScheduledCommit dt port sess req s
  | .epochSwitch dt => Sys2Proof.Machine.execEpochSwitch dt s
  | .queuedCommitRun dt => Sys2Proof.Machine.execQueuedCommitRun dt s
  | .epochRetire dt => Sys2Proof.Machine.execEpochRetire dt s
  | .epochDiscard dt port sess req => Sys2Proof.Machine.execEpochDiscard dt port sess req s
  | .epochAtArm dt port sess req => Sys2Proof.Machine.execEpochAtArm dt port sess req s
  | .epochAtCancel dt port sess req => Sys2Proof.Machine.execEpochAtCancel dt port sess req s
  | .epochAtResync dt port sess req => Sys2Proof.Machine.execEpochAtResync dt port sess req s
  | .prepare dt l f => Sys2Proof.Machine.execPrepare dt l f s
  | .prepareResend dt => Sys2Proof.Machine.execPrepareResend dt s
  | .ack dt l f => Sys2Proof.Machine.execAck dt l f s
  | .nak dt l f => Sys2Proof.Machine.execNak dt l f s
  | .ackDeadline dt => Sys2Proof.Machine.execAckDeadline dt s
  | .cancel dt l f => Sys2Proof.Machine.execCancel dt l f s
  | .scheduledSwitch dt => Sys2Proof.Machine.execScheduledSwitch dt s
  | .outcomeFlood dt => Sys2Proof.Machine.execOutcomeFlood dt s
  | .outcome dt l f => Sys2Proof.Machine.execOutcome dt l f s
  | .insert dt f q given payload => Sys2Proof.Machine.execInsert dt f q given payload s
  | .delete dt f q given payload => Sys2Proof.Machine.execDelete dt f q given payload s
  | .modify dt f q given payload => Sys2Proof.Machine.execModify dt f q given payload s
  | .clearHit dt f q given payload => Sys2Proof.Machine.execClearHit dt f q given payload s
  | .shuttleBridge dt region => Sys2Proof.Machine.execShuttleBridge dt region s
  | .shuttle dt l f => Sys2Proof.Machine.execShuttle dt l f s
  | .helloSend dt l => Sys2Proof.Machine.execHelloSend dt l s
  | .hello dt l f => Sys2Proof.Machine.execHello dt l f s
  | .helloTimeout dt l => Sys2Proof.Machine.execHelloTimeout dt l s
  | .weaveLaneLock dt l => Sys2Proof.Machine.execWeaveLaneLock dt l s
  | .weaveLinkLoss dt l => Sys2Proof.Machine.execWeaveLinkLoss dt l s
  | .weaveFrameReceive dt l f overrun => Sys2Proof.Machine.execWeaveFrameReceive dt l f overrun s
  | .linkState dt l f => Sys2Proof.Machine.execLinkState dt l f s
  | .linkStateOriginate dt => Sys2Proof.Machine.execLinkStateOriginate dt s
  | .lsdbExpiry dt => Sys2Proof.Machine.execLsdbExpiry dt s
  | .routeRecompute dt => Sys2Proof.Machine.execRouteRecompute dt s
  | .calendarWindow dt l => Sys2Proof.Machine.execCalendarWindow dt l s
  | .calendarSwitch dt => Sys2Proof.Machine.execCalendarSwitch dt s
  | .timeSet dt port sess req => Sys2Proof.Machine.execTimeSet dt port sess req s
  | .ppsInEdge dt => Sys2Proof.Machine.execPpsInEdge dt s
  | .ppsMissing dt => Sys2Proof.Machine.execPpsMissing dt s
  | .perstAssert dt port => Sys2Proof.Machine.execPerstAssert dt port s
  | .perstDeassert dt port => Sys2Proof.Machine.execPerstDeassert dt port s
  | .hotReset dt l => Sys2Proof.Machine.execHotReset dt l s
  | .hostLinkDown dt l => Sys2Proof.Machine.execHostLinkDown dt l s
  | .hostLinkUp dt l speed width flit => Sys2Proof.Machine.execHostLinkUp dt l speed width flit s
  | .mmioWrite dt f bar off size val tlp => Sys2Proof.Machine.execMmioWrite dt f bar off size val tlp s
  | .submissionDoorbell dt f q v => Sys2Proof.Machine.execSubmissionDoorbell dt f q v s
  | .completionDoorbell dt f q v => Sys2Proof.Machine.execCompletionDoorbell dt f q v s
  | .completionArrival dt l tag status ep data => Sys2Proof.Machine.execCompletionArrival dt l tag status ep data s
  | .completionTimeout dt l tag => Sys2Proof.Machine.execCompletionTimeout dt l tag s
  | .malformedTlp dt l => Sys2Proof.Machine.execMalformedTlp dt l s
  | .peerTlp dt port tlp op off rid n ep data => Sys2Proof.Machine.execPeerTlp dt port tlp op off rid n ep data s
  | .atsInvalidation dt f id pasid page n => Sys2Proof.Machine.execAtsInvalidation dt f id pasid page n s
  | .atsInvalidationDone dt f id => Sys2Proof.Machine.execAtsInvalidationDone dt f id s
  | .pageRequestResponse dt f page code => Sys2Proof.Machine.execPageRequestResponse dt f page code s
  | .priTimeout dt f page => Sys2Proof.Machine.execPriTimeout dt f page s
  | .l1Entry dt l sub idleNs => Sys2Proof.Machine.execL1Entry dt l sub idleNs s
  | .l0pWidthChange dt l width sent waiting => Sys2Proof.Machine.execL0pWidthChange dt l width sent waiting s
  | .portReleaseResume dt via p => Sys2Proof.Machine.execPortReleaseResume dt via p s
  | .portReleaseReset dt via p => Sys2Proof.Machine.execPortReleaseReset dt via p s
  | .bmeClear dt f => Sys2Proof.Machine.execBmeClear dt f s
  | .bmeSet dt f => Sys2Proof.Machine.execBmeSet dt f s
  | .flr dt f => Sys2Proof.Machine.execFlr dt f s
  | .dStateChange dt f d3 => Sys2Proof.Machine.execDStateChange dt f d3 s
  | .msixUnmask dt f vec => Sys2Proof.Machine.execMsixUnmask dt f vec s
  | .qpcCreate dt f => Sys2Proof.Machine.execQpcCreate dt f s
  | .qpcModify dt f => Sys2Proof.Machine.execQpcModify dt f s
  | .qpcQuery dt f => Sys2Proof.Machine.execQpcQuery dt f s
  | .fnSelfReset dt f v => Sys2Proof.Machine.execFnSelfReset dt f v s
  | .txPacketFetch dt f q given => Sys2Proof.Machine.execTxPacketFetch dt f q given s
  | .txDataComplete dt f q => Sys2Proof.Machine.execTxDataComplete dt f q s
  | .rxPacketDelivery dt f given => Sys2Proof.Machine.execRxPacketDelivery dt f given s
  | .moderationTimer dt f q => Sys2Proof.Machine.execModerationTimer dt f q s
  | .squashReset dt port sess req => Sys2Proof.Machine.execSquashReset dt port sess req s
  | .drainReset dt port sess req => Sys2Proof.Machine.execDrainReset dt port sess req s
  | .drainLimit dt f => Sys2Proof.Machine.execDrainLimit dt f s
  | .functionResetComplete dt f => Sys2Proof.Machine.execFunctionResetComplete dt f s
  | .startLog dt c => Sys2Proof.Machine.execStartLog dt c s
  | .sync dt c => Sys2Proof.Machine.execSync dt c s
  | .stopLog dt c => Sys2Proof.Machine.execStopLog dt c s
  | .hold dt c => Sys2Proof.Machine.execHold dt c s
  | .holdComplete dt f => Sys2Proof.Machine.execHoldComplete dt f s
  | .save dt c => Sys2Proof.Machine.execSave dt c s
  | .restore dt c hdr b fail => Sys2Proof.Machine.execRestore dt c hdr b fail s
  | .release dt c => Sys2Proof.Machine.execRelease dt c s
  | .coreIntEntryWrite dt f e v => Sys2Proof.Machine.execCoreIntEntryWrite dt f e v s
  | .keyKek dt port sess req => Sys2Proof.Machine.execKeyKek dt port sess req s
  | .keySlotWrite dt port sess req => Sys2Proof.Machine.execKeySlotWrite dt port sess req s
  | .keySlotErase dt port sess req => Sys2Proof.Machine.execKeySlotErase dt port sess req s
  | .keyZeroise dt n => Sys2Proof.Machine.execKeyZeroise dt n s
  | .saCheckpoint dt => Sys2Proof.Machine.execSaCheckpoint dt s
  | .encrypt dt f q given param data => Sys2Proof.Machine.execEncrypt dt f q given param data s
  | .decrypt dt f q given param data => Sys2Proof.Machine.execDecrypt dt f q given param data s
  | .mac dt f q given param data => Sys2Proof.Machine.execMac dt f q given param data s
  | .verify dt f q given param data => Sys2Proof.Machine.execVerify dt f q given param data s
  | .tlsSeal dt f q given param data => Sys2Proof.Machine.execTlsSeal dt f q given param data s
  | .tlsOpen dt f q given param data => Sys2Proof.Machine.execTlsOpen dt f q given param data s
  | .xtsEnc dt f q given param data => Sys2Proof.Machine.execXtsEnc dt f q given param data s
  | .xtsDec dt f q given param data => Sys2Proof.Machine.execXtsDec dt f q given param data s
  | .saWrite dt f q given param data => Sys2Proof.Machine.execSaWrite dt f q given param data s
  | .saRead dt f q given param data => Sys2Proof.Machine.execSaRead dt f q given param data s
  | .patternScan dt f q given data => Sys2Proof.Machine.execPatternScan dt f q given data s
  | .storageCommandArrival dt f q ctx entry chain => Sys2Proof.Machine.execStorageCommandArrival dt f q ctx entry chain s
  | .post dt f q => Sys2Proof.Machine.execPost dt f q s
  | .xfer dt f q mem fail => Sys2Proof.Machine.execXfer dt f q mem fail s
  | .respond dt f q => Sys2Proof.Machine.execRespond dt f q s
  | .controllerEnable dt f cc => Sys2Proof.Machine.execControllerEnable dt f cc s
  | .controllerReset dt f cc => Sys2Proof.Machine.execControllerReset dt f cc s
  | .controllerShutdown dt f cc => Sys2Proof.Machine.execControllerShutdown dt f cc s
  | .createIoSubmissionQueue dt f entry => Sys2Proof.Machine.execCreateIoSubmissionQueue dt f entry s
  | .deleteIoSubmissionQueue dt f entry => Sys2Proof.Machine.execDeleteIoSubmissionQueue dt f entry s
  | .createIoCompletionQueue dt f entry => Sys2Proof.Machine.execCreateIoCompletionQueue dt f entry s
  | .deleteIoCompletionQueue dt f entry => Sys2Proof.Machine.execDeleteIoCompletionQueue dt f entry s
  | .bulkOpen dt port sess req => Sys2Proof.Machine.execBulkOpen dt port sess req s
  | .bulkData dt port sess req => Sys2Proof.Machine.execBulkData dt port sess req s
  | .bulkCloseFinish dt port sess req => Sys2Proof.Machine.execBulkCloseFinish dt port sess req s
  | .bulkCloseAbort dt port sess req => Sys2Proof.Machine.execBulkCloseAbort dt port sess req s
  | .bulkIdleTimeout dt port sess n => Sys2Proof.Machine.execBulkIdleTimeout dt port sess n s
  | .subscribe dt port sess req => Sys2Proof.Machine.execSubscribe dt port sess req s
  | .unknownOperation dt port sess req => Sys2Proof.Machine.execUnknownOperation dt port sess req s
  | .semAcquire dt port sess req => Sys2Proof.Machine.execSemAcquire dt port sess req s
  | .semRelease dt port sess req => Sys2Proof.Machine.execSemRelease dt port sess req s
  | .mgmtSemHeartbeat dt port sess req => Sys2Proof.Machine.execMgmtSemHeartbeat dt port sess req s
  | .leaseLapse dt => Sys2Proof.Machine.execLeaseLapse dt s
  | .clientHello dt port h => Sys2Proof.Machine.execClientHello dt port h s
  | .sessionClose dt port sess => Sys2Proof.Machine.execSessionClose dt port sess s
  | .sessionIdleTimeout dt port sess => Sys2Proof.Machine.execSessionIdleTimeout dt port sess s
  | .mgmtFrameReceive dt port f => Sys2Proof.Machine.execMgmtFrameReceive dt port f s
  | .mbxH2dLen dt v => Sys2Proof.Machine.execMbxH2dLen dt v s
  | .mbxD2hAck dt v => Sys2Proof.Machine.execMbxD2hAck dt v s
  | .csmClusterClock dt req => Sys2Proof.Machine.execCsmClusterClock dt req s
  | .csmTimeState dt req => Sys2Proof.Machine.execCsmTimeState dt req s
  | .csmMode dt req => Sys2Proof.Machine.execCsmMode dt req s
  | .errLogClear dt port sess req => Sys2Proof.Machine.execErrLogClear dt port sess req s
  | .coreRunRelease dt port sess req => Sys2Proof.Machine.execCoreRunRelease dt port sess req s
  | .coreRunReset dt port sess req => Sys2Proof.Machine.execCoreRunReset dt port sess req s
  | .coreMemoryAccess dt h a n data => Sys2Proof.Machine.execCoreMemoryAccess dt h a n data s
  | .coldStart dt straps rose removed dipped hot => Sys2Proof.Machine.execColdStart dt straps rose removed dipped hot s
  | .resetNAssert dt => Sys2Proof.Machine.execResetNAssert dt s
  | .vigilFirmwareStart dt samples bad copies corrupt => Sys2Proof.Machine.execVigilFirmwareStart dt samples bad copies corrupt s
  | .hbmTrainingComplete dt ok0 ok1 => Sys2Proof.Machine.execHbmTrainingComplete dt ok0 ok1 s
  | .serviceImageRunning dt bad => Sys2Proof.Machine.execServiceImageRunning dt bad s
  | .epochOneCommit dt => Sys2Proof.Machine.execEpochOneCommit dt s
  | .rescueFrameReceive dt f fcsOk given => Sys2Proof.Machine.execRescueFrameReceive dt f fcsOk given s
  | .drainRequest dt port sess req => Sys2Proof.Machine.execDrainRequest dt port sess req s
  | .vigilRequest dt port sess req => Sys2Proof.Machine.execVigilRequest dt port sess req s
  | .hibernateRequest dt port sess req => Sys2Proof.Machine.execHibernateRequest dt port sess req s
  | .offWakeRequest dt port sess req => Sys2Proof.Machine.execOffWakeRequest dt port sess req s
  | .serviceRequest dt port sess req => Sys2Proof.Machine.execServiceRequest dt port sess req s
  | .drainDone dt => Sys2Proof.Machine.execDrainDone dt s
  | .modeDrainLimit dt => Sys2Proof.Machine.execModeDrainLimit dt s
  | .dormantEntryComplete dt => Sys2Proof.Machine.execDormantEntryComplete dt s
  | .dormantExitComplete dt => Sys2Proof.Machine.execDormantExitComplete dt s
  | .idleEntry dt wfi => Sys2Proof.Machine.execIdleEntry dt wfi s
  | .quietEntry dt => Sys2Proof.Machine.execQuietEntry dt s
  | .lpiWake dt n => Sys2Proof.Machine.execLpiWake dt n s
  | .wakeTimer dt => Sys2Proof.Machine.execWakeTimer dt s
  | .gpioWakeEdge dt g => Sys2Proof.Machine.execGpioWakeEdge dt g s
  | .sensorRead dt readings => Sys2Proof.Machine.execSensorRead dt readings s
  | .supplyMeasure dt mv ma mw => Sys2Proof.Machine.execSupplyMeasure dt mv ma mw s
  | .thermtrip dt => Sys2Proof.Machine.execThermtrip dt s
  | .undervoltage dt => Sys2Proof.Machine.execUndervoltage dt s
  | .overvoltage dt => Sys2Proof.Machine.execOvervoltage dt s
  | .fwWriteComplete dt k => Sys2Proof.Machine.execFwWriteComplete dt k s
  | .handoverNow dt port sess req => Sys2Proof.Machine.execHandoverNow dt port sess req s
  | .handoverAt dt port sess req => Sys2Proof.Machine.execHandoverAt dt port sess req s
  | .restartAt dt port sess req => Sys2Proof.Machine.execRestartAt dt port sess req s
  | .imgActivateCancel dt port sess req => Sys2Proof.Machine.execImgActivateCancel dt port sess req s
  | .handoverPrepared dt code => Sys2Proof.Machine.execHandoverPrepared dt code s
  | .handoverStart dt => Sys2Proof.Machine.execHandoverStart dt s
  | .handoverComplete dt => Sys2Proof.Machine.execHandoverComplete dt s
  | .handoverDeferralExpiry dt => Sys2Proof.Machine.execHandoverDeferralExpiry dt s
  | .restartInstant dt => Sys2Proof.Machine.execRestartInstant dt s
  | .imgSvnRaise dt port sess req => Sys2Proof.Machine.execImgSvnRaise dt port sess req s
  | .imgSignerRevoke dt port sess req => Sys2Proof.Machine.execImgSignerRevoke dt port sess req s
  | .settingsStoreWrite dt => Sys2Proof.Machine.execSettingsStoreWrite dt s
  | .imageStoreWrite dt => Sys2Proof.Machine.execImageStoreWrite dt s
  | .eccError dt at_ region block inst addr correctable => Sys2Proof.Machine.execEccError dt at_ region block inst addr correctable s
  | .parityError dt region block inst addr retries ok => Sys2Proof.Machine.execParityError dt region block inst addr retries ok s
  | .blockStall dt region block inst selfCheck slow => Sys2Proof.Machine.execBlockStall dt region block inst selfCheck slow s
  | .holdOutRetest dt place pass => Sys2Proof.Machine.execHoldOutRetest dt place pass s
  | .clockLoss dt which => Sys2Proof.Machine.execClockLoss dt which s
  | .watchdogMiss dt active => Sys2Proof.Machine.execWatchdogMiss dt active s
  | .lockstepMismatch dt active => Sys2Proof.Machine.execLockstepMismatch dt active s
  | .regionRetest dt => Sys2Proof.Machine.execRegionRetest dt s
  | .fltRegionTest dt port sess req => Sys2Proof.Machine.execFltRegionTest dt port sess req s
  | .regionTestComplete dt pass => Sys2Proof.Machine.execRegionTestComplete dt pass s
  | .cellLogWindow dt place addr => Sys2Proof.Machine.execCellLogWindow dt place addr s
  | .diagInjectCorrectable dt port sess req => Sys2Proof.Machine.execDiagInjectCorrectable dt port sess req s
  | .diagInjectUncorrectable dt port sess req => Sys2Proof.Machine.execDiagInjectUncorrectable dt port sess req s
  | .diagInjectBlockReset dt port sess req => Sys2Proof.Machine.execDiagInjectBlockReset dt port sess req s
  | .diagInjectRegionFault dt port sess req => Sys2Proof.Machine.execDiagInjectRegionFault dt port sess req s
  | .jtagInstruction dt ins => Sys2Proof.Machine.execJtagInstruction dt ins s
  | .testLogicReset dt => Sys2Proof.Machine.execTestLogicReset dt s
  | .outputOverload dt which => Sys2Proof.Machine.execOutputOverload dt which s
  | .outputRetry dt which => Sys2Proof.Machine.execOutputRetry dt which s
  | .hbmTrainingLoss dt k => Sys2Proof.Machine.execHbmTrainingLoss dt k s
  | .internalRailFault dt r clock => Sys2Proof.Machine.execInternalRailFault dt r clock s
  | .takeoverComplete dt => Sys2Proof.Machine.execTakeoverComplete dt s
  | .standbyReloadComplete dt => Sys2Proof.Machine.execStandbyReloadComplete dt s
  | .hostL2Entry dt l => Sys2Proof.Machine.execHostL2Entry dt l s
  | .vfEnable dt f en n => Sys2Proof.Machine.execVfEnable dt f en n s
  | .hartTimerEvent dt h => Sys2Proof.Machine.execHartTimerEvent dt h s

end Sys2Proof.Machine
end

