-- ==== Sys2Proof/Safety.lean ====
section
/-!
DEFINITION. What a safe run keeps, in the terms that statements use.
-/

namespace Sys2Proof.Machine

/-- No fuse is undone (R453): minimum versions do not fall, revoked keys stay revoked, and while a Gorost key is left one
stays left. -/
def Fuses.le (a b : Fuses) : Prop :=
  a.svnVigil ≤ b.svnVigil ∧ a.svnService ≤ b.svnService ∧ (∀ k, a.revoked.testBit k = true → b.revoked.testBit k = true)
    ∧ (a.revoked < 15 → b.revoked < 15)

/-- Of the four Gorost keys one is not revoked. -/
def Fuses.keyLeft (f : Fuses) : Prop := f.revoked < 15

/-- What a command may not touch after time has passed: the model's clock and the queue are the same, and no fuse is undone. -/
def Grows (s t : State) : Prop := t.clock = s.clock ∧ t.pending = s.pending ∧ s.fuse.le t.fuse

/-- The outcome is a next state (no fault, no refusal) that `Grows` from the state once `dt` ns have passed. -/
def Kept (dt : Nat) (s : State) (o : Out) : Prop := ∃ t, o = .next t ∧ Grows (s.tick dt) t

/-- The state in which a command acts that is activity of the datapath or of a host: dt ns later, stirred (R437). -/
def State.after (s : State) (dt : Nat) : State := (s.tick dt).stir

/-- The outcome is a next state that differs from the one in which `dt` ns have passed neither in the clock and the queue nor
in the fuses. -/
def Still (dt : Nat) (s : State) (o : Out) : Prop :=
  ∃ t, o = .next t ∧ t.clock = (s.tick dt).clock ∧ t.pending = (s.tick dt).pending ∧ t.fuse = (s.tick dt).fuse

/-! ### Messages on Weave links -/

/-- A frame on link l that passes every check of Table 09-10 up to its source, and carries a message of type `typ` (R275). -/
def State.passes (s : State) (l typ : Nat) (f : Bytes) : Bool :=
  s.wvListens l && fcsGood f && headerOk (unFcs f) && whType (unFcs f) != 0 && msgType (wvBody (unFcs f)) == typ
    && s.wvState l == 2 && s.windowOk (unFcs f) && (whClass (unFcs f) == 0 || !s.outOfStep) && s.sourceOk (unFcs f)

/-- As `passes`, a routed message for this device. -/
def State.hearsRouted (s : State) (l typ : Nat) (f : Bytes) : Bool :=
  s.passes l typ f && whType (unFcs f) == 1 && whDst (unFcs f) == s.wvAddr

/-- As `passes`, a flooded message that is newer than the last of its type from its source (R262). -/
def State.hearsFlooded (s : State) (l typ : Nat) (f : Bytes) : Bool :=
  s.passes l typ f && whType (unFcs f) == 2
    && (match lookup? s.wv.newest (whSrc (unFcs f) * 256 + typ) with
      | some n => epochBefore n (msgSeqOf (wvBody (unFcs f)))
      | none => true)

/-! ### Requests of management sessions -/

/-- A row whose command is a WRITE with this first item: WRITE itself, or the row of the object that the item names. -/
def Writes (dt port sess : Nat) (m : Bytes) (i : Item) (c : Instr) : Prop :=
  c = .write dt port sess m
    ∨ i.obj = Obj.MGMT_SEM_HEARTBEAT ∧ c = .mgmtSemHeartbeat dt port sess m
    ∨ i.obj = Obj.EPOCH_DISCARD ∧ c = .epochDiscard dt port sess m
    ∨ i.obj = Obj.EPOCH_AT_ARM ∧ c = .epochAtArm dt port sess m
    ∨ i.obj = Obj.EPOCH_AT_CANCEL ∧ c = .epochAtCancel dt port sess m
    ∨ i.obj = Obj.EPOCH_AT_RESYNC ∧ c = .epochAtResync dt port sess m
    ∨ i.obj = Obj.TIME_SET ∧ c = .timeSet dt port sess m
    ∨ i.obj = Obj.ERR_LOG_CLEAR ∧ c = .errLogClear dt port sess m
    ∨ i.obj = Obj.KEY_KEK ∧ c = .keyKek dt port sess m
    ∨ i.obj = Obj.KEY_SLOT_WRITE ∧ c = .keySlotWrite dt port sess m
    ∨ i.obj = Obj.KEY_SLOT_ERASE ∧ c = .keySlotErase dt port sess m
    ∨ i.obj = Obj.CORE_RUN ∧ i.value ≠ 0 ∧ c = .coreRunRelease dt port sess m
    ∨ i.obj = Obj.CORE_RUN ∧ i.value = 0 ∧ c = .coreRunReset dt port sess m
    ∨ i.obj = Obj.MODE_REQUEST ∧ (i.value < 2 ∨ 5 < i.value) ∧ c = .drainRequest dt port sess m
    ∨ i.obj = Obj.MODE_REQUEST ∧ i.value = 2 ∧ c = .vigilRequest dt port sess m
    ∨ i.obj = Obj.MODE_REQUEST ∧ i.value = 3 ∧ c = .hibernateRequest dt port sess m
    ∨ i.obj = Obj.MODE_REQUEST ∧ i.value = 4 ∧ c = .offWakeRequest dt port sess m
    ∨ i.obj = Obj.MODE_REQUEST ∧ i.value = 5 ∧ c = .serviceRequest dt port sess m
    ∨ i.obj = Obj.IMG_ACTIVATE ∧ (i.value < 2 ∨ 3 < i.value) ∧ c = .handoverNow dt port sess m
    ∨ i.obj = Obj.IMG_ACTIVATE ∧ i.value = 2 ∧ c = .handoverAt dt port sess m
    ∨ i.obj = Obj.IMG_ACTIVATE ∧ i.value = 3 ∧ c = .restartAt dt port sess m
    ∨ i.obj = Obj.IMG_ACTIVATE_CANCEL ∧ c = .imgActivateCancel dt port sess m
    ∨ i.obj = Obj.IMG_SVN_RAISE ∧ c = .imgSvnRaise dt port sess m
    ∨ i.obj = Obj.IMG_SIGNER_REVOKE ∧ c = .imgSignerRevoke dt port sess m
    ∨ i.obj = Obj.FLT_REGION_TEST ∧ c = .fltRegionTest dt port sess m
    ∨ i.obj = Obj.DIAG_INJECT ∧ (djKind i.value < 2 ∨ 4 < djKind i.value) ∧ c = .diagInjectCorrectable dt port sess m
    ∨ i.obj = Obj.DIAG_INJECT ∧ djKind i.value = 2 ∧ c = .diagInjectUncorrectable dt port sess m
    ∨ i.obj = Obj.DIAG_INJECT ∧ djKind i.value = 3 ∧ c = .diagInjectBlockReset dt port sess m
    ∨ i.obj = Obj.DIAG_INJECT ∧ djKind i.value = 4 ∧ c = .diagInjectRegionFault dt port sess m
    ∨ i.obj = Obj.FN_RESET_CMD ∧ fld i.value 14 2 ≠ 2 ∧ c = .squashReset dt port sess m
    ∨ i.obj = Obj.FN_RESET_CMD ∧ fld i.value 14 2 = 2 ∧ c = .drainReset dt port sess m
    ∨ (∃ p, p < 2 ∧ i.obj = Obj.HST_PORT_RELEASE + p ∧ i.value ≠ 2 ∧ c = .portReleaseResume dt (.omp port sess m) p)
    ∨ ∃ p, p < 2 ∧ i.obj = Obj.HST_PORT_RELEASE + p ∧ i.value = 2 ∧ c = .portReleaseReset dt (.omp port sess m) p

/-- A row whose command is this request. -/
def Requests (dt port sess : Nat) (m : Bytes) (c : Instr) : Prop :=
  (ompOp m = 1 ∨ ompBad m = true) ∧ c = .read dt port sess m
    ∨ ompOp m = 2 ∧ c = .write dt port sess m
    ∨ (∃ i rest, ompOp m = 2 ∧ ompItems m = some (i :: rest) ∧ Writes dt port sess m i c)
    ∨ ompOp m = 3 ∧ c = .stage dt port sess m
    ∨ ompOp m = 4 ∧ ompScheduled m = false ∧ c = .commit dt port sess m
    ∨ ompOp m = 4 ∧ ompScheduled m = true ∧ c = .scheduledCommit dt port sess m
    ∨ ompOp m = 5 ∧ c = .bulkOpen dt port sess m
    ∨ ompOp m = 6 ∧ c = .bulkData dt port sess m
    ∨ ompOp m = 7 ∧ closeHow m ≠ 1 ∧ c = .bulkCloseFinish dt port sess m
    ∨ ompOp m = 7 ∧ closeHow m = 1 ∧ c = .bulkCloseAbort dt port sess m
    ∨ ompOp m = 8 ∧ c = .subscribe dt port sess m
    ∨ (ompOp m = 0 ∨ ompOp m = 9 ∨ 10 < ompOp m) ∧ c = .unknownOperation dt port sess m
    ∨ ompOp m = 10 ∧ ompAux m ≠ 2 ∧ c = .semAcquire dt port sess m
    ∨ ompOp m = 10 ∧ ompAux m = 2 ∧ c = .semRelease dt port sess m

/-- A session's request is heard, the last of its control clock cycle, with none of that cycle kept before it (R407). -/
def State.hearsAlone (s : State) (k : Nat × Nat) : Bool := s.hears k && s.mgmt.cycle.isEmpty && !s.moreRequests

/-- A session's request is executed at once: it is heard, the last of its control clock cycle, with none of that cycle kept
before it (R407), the dictionary is available, the record is a request, and no response to it is kept (R397 to R399). -/
def State.executes (s : State) (k : Nat × Nat) (m : Bytes) : Bool :=
  s.hearsAlone k && !(s.touch k).unavailable && !ompBad m && ompOp m != 9 && ((s.touch k).keptReply k m).isNone

/-- An executed request passes the checks on the whole message (R398). -/
def State.wellPut (s : State) (k : Nat × Nat) (m : Bytes) : Bool := s.executes k m && !ompRange m

/-- A WRITE of one item that passes every check of R398 and R414, in the order of R414. -/
def State.accepts (s : State) (k : Nat × Nat) (m : Bytes) (r : ObjRow) (i : Item) : Bool :=
  s.wellPut k m && ompOp m == 2 && ompItems m == some [i] && (s.touch k).rowOf? i.obj == some r
    && (s.touch k).itemStatus k .write false i.obj i.elem == 0 && !i.typeBad r .write
    && (s.touch k).valueStatus r i.obj (i.elem.getD 0) i.value == 0

/-- A request has been executed: its response is kept, counted and sent. -/
def State.answered (s : State) (k : Nat × Nat) (m : Bytes) (r : Reply) : State :=
  let a := s.replyAux (ompOp m) r
  let msg := response m r a.1
  ((a.2.keepReply k m msg).bump (Obj.MGMT_RX_MSGS + k.1)).answer k msg

/-- The response to a WRITE of one item. -/
def oneReply (status : Nat) (i : Item) : Reply :=
  { status := status, count := 1, aux := 0, body := i.bytes i.typ status i.data }

/-- What an accepted write of a control leaves: its effect `x`, QUIESCE values whose blocks it has brought out of idle taken
over, and the response. -/
def State.written (x : State) (k : Nat × Nat) (m : Bytes) (i : Item) (status : Nat) : State :=
  (if x.alive then x.settleQui else x).answered k m (oneReply status i)

end Sys2Proof.Machine
end

