-- ==== Sys2Proof/Certificates/Slice0/Obligations.lean ====
section
/-!
DEFINITION. The statements for the provers. Every statement about a command gives its outcome: a next state, and what it holds.
`s.tick dt` is the state in which dt ns have passed, `s.after dt` the one in which a command acts that is activity.
-/

open Sys2Proof Sys2Proof.Machine

/-- For every command c and state s, a step of s with c at the front of its queue is exec of c on s with the queue's
rest; with an empty queue the step answers the state unchanged (the idle step is the model's choice, log entry 2). -/
def Obligations.StepRunsTheFrontCommand : Prop :=
  (∀ (c : Instr) (rest : List Instr) (s : State), step { s with pending := c :: rest } = exec c { s with pending := rest }) ∧
  (∀ s : State, s.pending = [] → step s = .next s)

/-- In the reset state the device is held, firmware is not alive, no traffic runs, no packet, table entry, epoch,
session, semaphore holder, key slot or association exists, no fuse is burnt, every object reads its default and every
counter reads 0. That the mode field already says VIGIL and that application memory lists nothing are the model's
choices (log entry 22). -/
def Obligations.ResetState : Prop :=
  State.reset.pwr.rails = .held ∧ State.reset.alive = false ∧ State.reset.traffic = false ∧ State.reset.mode.mode = .vigil ∧
    State.reset.pending = [] ∧ State.reset.pkts = [] ∧ State.reset.tbl = [] ∧ State.reset.ep.live = [] ∧
    State.reset.mgmt.sessions = [] ∧ State.reset.mgmt.holder = none ∧ State.reset.cry.slots = [] ∧
    State.reset.cry.sas = [] ∧ State.reset.core.mem = [] ∧ State.reset.fuse.svnVigil = 0 ∧
    State.reset.fuse.svnService = 0 ∧ State.reset.fuse.revoked = 0 ∧
    (∀ o e, State.reset.cfg o e = objDefault o e) ∧ ∀ o, State.reset.ctr o = 0

/-- Every counter reads 0 at reset; counting n adds n where the sum fits a U64 and gives 2^64 - 1 where it does not,
never more; counting one counter changes no other counter and no object's value. -/
def Obligations.CountersSaturate : Prop :=
  (∀ o, State.reset.ctr o = 0) ∧
    ∀ (o n : Nat) (s : State),
      (s.ctr o + n ≤ 2 ^ 64 - 1 → (s.bumpN o n).ctr o = s.ctr o + n) ∧
      (2 ^ 64 - 1 < s.ctr o + n → (s.bumpN o n).ctr o = 2 ^ 64 - 1) ∧
      ((s.bumpN o n).ctr o ≤ 2 ^ 64 - 1) ∧ (∀ p, p ≠ o → (s.bumpN o n).ctr p = s.ctr p) ∧
      ∀ p e, (s.bumpN o n).cfg p e = s.cfg p e

/-- For every state with a command in front, the step answers a next state (no fault, no refusal) whose queue is the
rest, whose clock has not gone back, whose minimum security versions are not lower and in which every revoked Gorost key
is still revoked. -/
def Obligations.EveryStepAnswers : Prop :=
  ∀ (c : Instr) (rest : List Instr) (s : State), s.pending = c :: rest →
    ∃ t, step s = .next t ∧ t.pending = rest ∧ s.clock ≤ t.clock ∧ s.fuse.svnVigil ≤ t.fuse.svnVigil ∧
      s.fuse.svnService ≤ t.fuse.svnService ∧ ∀ k, s.fuse.revoked.testBit k = true → t.fuse.revoked.testBit k = true

/-- From every state in which not all four Gorost keys are revoked, every step leads to such a state. -/
def Obligations.EveryStepKeepsAKey : Prop :=
  ∀ s t : State, s.fuse.keyLeft → step s = .next t → t.fuse.keyLeft

/-- In the reset state not all four Gorost keys are revoked. -/
def Obligations.ResetHasAKey : Prop :=
  State.reset.fuse.keyLeft

/-- A command that is no management request, and none with which kept requests run (the end of a hand-over or take-over, and
a fault in whose control clock cycle requests have come), leaves the fuses exactly as they are. -/
def Obligations.OnlyRequestsBurnFuses : Prop :=
  ∀ (c : Instr) (s t : State), (∀ dt port sess m, ¬ Requests dt port sess m c) → (∀ dt, c ≠ .handoverComplete dt) →
    (∀ dt, c ≠ .takeoverComplete dt) → (isFault c = true → s.mgmt.cycle = []) → exec c s = .next t → t.fuse = s.fuse

/-- A write to memory in canonical form keeps the form, reads back byte for byte, and changes no byte outside the
written ones. -/
def Obligations.MemoryReadsWhatWasWritten : Prop :=
  ∀ (m : List Host.Cell) (a : Nat) (d : Bytes), Memory.wf m = true →
    Memory.wf (memWrite m a d) = true ∧
      (∀ i, i < d.length → memGet (memWrite m a d) (a + i) = d.getD i 0) ∧
      (∀ b, b < a ∨ a + d.length ≤ b → memGet (memWrite m a d) b = memGet m b) ∧
      memRead (memWrite m a d) a d.length = d

/-- A read of n > 0 bytes at offset o whose last byte lies at 384 or beyond fails with DEPTH; one whose last byte lies
at or beyond a known packet length and below 384 fails with TRUNCATED; every other read succeeds. A node's check answers
the failure of its select field (read only where TRANS_COUNT is not 0) first, then that of the advance field in ADV_MODE
1, then that of the first failing enabled slot, and none where all succeed. -/
def Obligations.PacketReadsAreChecked : Prop :=
  (∀ (e : ParseEnv) (o n : Nat), 0 < n →
    (384 ≤ o + n - 1 → readErr e o n = some errDepth) ∧
    (∀ l, e.len = some l → o + n - 1 < 384 → l ≤ o + n - 1 → readErr e o n = some errTruncated) ∧
    (∀ l, e.len = some l → o + n - 1 < 384 → o + n - 1 < l → readErr e o n = none) ∧
    (e.len = none → o + n - 1 < 384 → readErr e o n = none)) ∧
  ∀ (e : ParseEnv) (w start c : Nat),
    (fld w (192 + 24) 5 ≠ 0 → readErr e (start + fld w 48 8) (if bit w 56 then 2 else 1) = some c →
      nodeReadErr e w start = some c) ∧
    (fld w (192 + 24) 5 = 0 → fld w 4 2 = 1 → readErr e (start + fld w 16 8) 2 = some c → nodeReadErr e w start = some c) ∧
    (fld w (192 + 24) 5 = 0 → fld w 4 2 ≠ 1 → ∀ x rest, nodeSlots w = x :: rest → exEn x = true →
      readErr e (start + fld x 0 8) (exLen x) = some c → nodeReadErr e w start = some c) ∧
    (fld w (192 + 24) 5 = 0 → fld w 4 2 ≠ 1 →
      (∀ x ∈ nodeSlots w, exEn x = true → readErr e (start + fld x 0 8) (exLen x) = none) → nodeReadErr e w start = none)

/-- The colour decision of a metering, case by case: a red packet stays red under a colour-aware policer; too few peak
tokens give red; a yellow packet or too few committed tokens give yellow and take peak tokens; otherwise green takes
both; red takes none. -/
def Obligations.PolicersDecideTheColour : Prop :=
  ∀ (e incoming : Nat) (b : Bucket) (len : Int),
    (polAware e = true → 2 ≤ incoming → polColor e incoming b len = (2, b)) ∧
    (polAware e = false ∨ incoming < 2 →
      (b.p < len → polColor e incoming b len = (2, b)) ∧
      (len ≤ b.p → (polAware e = true ∧ incoming = 1) ∨ b.c < len →
        polColor e incoming b len = (1, { b with p := b.p - len })) ∧
      (len ≤ b.p → len ≤ b.c → polAware e = false ∨ incoming = 0 →
        polColor e incoming b len = (0, { b with p := b.p - len, c := b.c - len })))

/-- A candidate that the filter holds is only counted; any other enters the filter, with an expiry LRN_SUPPRESS_MS
later, and produces its record; the filter holds nothing else that it did not hold before; packets and tables are
untouched. -/
def Obligations.LearnCandidatesMeetTheFilter : Prop :=
  ∀ (t key : Nat) (area : Bytes) (i : LrInfo) (s : State),
    (s.suppressed i.region t key = true → s.learn t key area i = s.bump (Obj.LRN_SUPPRESSED + i.region)) ∧
    (s.suppressed i.region t key = false → 0 < s.cfg Obj.LRN_SUPPRESS_MS → ∃ u : State,
      s.learn t key area i = u.produce t key area i ∧ u.suppressed i.region t key = true ∧
        (∀ x ∈ u.lrn.filter, x ∈ s.lrn.filter ∨
          x = (i.region, t, key, s.clock + s.cfg Obj.LRN_SUPPRESS_MS * 1000000)) ∧ u.pkts = s.pkts ∧ u.tbl = s.tbl)

/-- NET_FRAME_RECEIVE on a port that is up: runt, too long, bad FCS are each counted and dropped in this order; a MAC
control frame pauses classes; otherwise, outside DRAIN, the frame overruns and is counted, or enters the receive FIFO as
a new packet with its port and receive time. -/
def Obligations.NetworkFrameIsTakenOrCounted : Prop :=
  (∀ (dt n : Nat) (f : Bytes) (fcsOk overrun : Bool) (s : State), s.traffic = true → n < 16 → s.portUp n = true →
    (f.length + 4 < 64 →
      exec (.netFrameReceive dt n f fcsOk overrun) s = .next ((s.after dt).bump (Obj.NET_RX_RUNT + n))) ∧
    (64 ≤ f.length + 4 → (s.after dt).cfg (Obj.NET_RX_MAX_FRAME + n) < f.length →
      exec (.netFrameReceive dt n f fcsOk overrun) s = .next ((s.after dt).bump (Obj.NET_RX_TOO_LONG + n))) ∧
    (64 ≤ f.length + 4 → f.length ≤ (s.after dt).cfg (Obj.NET_RX_MAX_FRAME + n) →
      exec (.netFrameReceive dt n f false overrun) s = .next ((s.after dt).bump (Obj.NET_RX_FCS_ERR + n))) ∧
    (64 ≤ f.length + 4 → f.length ≤ (s.after dt).cfg (Obj.NET_RX_MAX_FRAME + n) → beNat (slice f 12 2) ≠ 0x8808 →
      s.mode.mode ≠ .drain →
      exec (.netFrameReceive dt n f true true) s = .next ((s.after dt).bump (Obj.NET_RX_DROP_OVERRUN + n)) ∧
      ∃ t p, exec (.netFrameReceive dt n f true false) s = .next t ∧ t.pkts = s.pkts ++ [p] ∧ t.nextPkt = s.nextPkt + 1 ∧
        p.id = s.nextPkt ∧ p.bytes = f ∧ p.loc = .rxFifo ∧ p.srcKind = 0 ∧ p.srcId = n ∧ p.rxTime = (s.tick dt).now)) ∧
  (∀ (dt n : Nat) (f : Bytes) (overrun : Bool) (s : State), s.traffic = true → n < 16 → s.portUp n = true →
    64 ≤ f.length + 4 → f.length ≤ (s.after dt).cfg (Obj.NET_RX_MAX_FRAME + n) → beNat (slice f 12 2) = 0x8808 →
    exec (.netFrameReceive dt n f true overrun) s = .next ((s.after dt).macControl n f))

/-- NET_LINK_UP with a partner that fits the port latches state 4 and whether Low Power Idle is agreed, with another one
state 2, and touches no packet; NET_LINK_DOWN latches 2, counts and discards the port's queues; PAUSE_EXPIRY ends exactly
the expired pauses of the port, and drops no packet where a network port has no gate; CUT_THROUGH_FRAME_BAD counts the failure
and drops the packet that is still in its FIFO. -/
def Obligations.NetworkLinkEvents : Prop :=
  ∀ (dt n id : Nat) (s : State),
    (∀ an techs lpi, s.netMayRise n = true → s.cfg (Obj.NET_LINK_STATE + n) ≠ 4 →
      (an = s.netAn n → s.netMode n ∈ techs → ∃ t, exec (.netLinkUp dt n an techs lpi) s = .next t ∧
        t.cfg (Obj.NET_LINK_STATE + n) = 4 ∧ bit t.pwr.lpi n = lpi ∧ t.pkts = s.pkts ∧ t.tm = s.tm) ∧
      (an ≠ s.netAn n ∨ s.netMode n ∉ techs → ∃ t, exec (.netLinkUp dt n an techs lpi) s = .next t ∧
        t.cfg (Obj.NET_LINK_STATE + n) = 2 ∧ t.pkts = s.pkts ∧ t.tm = s.tm)) ∧
    (s.alive = true → n < 16 → s.cfg (Obj.NET_LINK_STATE + n) = 4 →
      exec (.netLinkDown dt n) s =
        .next ((((s.tick dt).latch (Obj.NET_LINK_STATE + n) 2).bump (Obj.NET_LINK_DOWNS + n)).discardPort n)) ∧
    ((∃ x ∈ s.tm.pause, x.1 / 16 = n ∧ x.2 ≤ s.clock + dt) →
      ∃ t, exec (.pauseExpiry dt n) s = .next t ∧ (∀ p ∈ t.pkts, p ∈ s.pkts) ∧
        (n < 16 → (s.gateOf n).enable = false → t.pkts = s.pkts ∧ t.dict = s.dict) ∧
        t.tm.pause = s.tm.pause.filter fun x => !(x.1 / 16 == n && decide (x.2 ≤ s.clock + dt))) ∧
    (∀ p, s.traffic = true → (s.tick dt).receiving id = true → s.pkt? id = some p → p.loc = .rxFifo → p.srcKind = 0 →
      exec (.cutThroughFrameBad dt id false) s =
        .next (((s.tick dt).bump (Obj.NET_RX_FCS_ERR + p.srcId)).dropPkt p.id) ∧
      exec (.cutThroughFrameBad dt id true) s =
        .next (((s.tick dt).bump (Obj.NET_RX_TOO_LONG + p.srcId)).dropPkt p.id))

/-- INGRESS_PASS of a packet at its first pass stamps it with the current epoch and the instant, gives it a pipeline of
its source's region, counts it and runs ingress from the start node; a recirculated packet keeps its version and starts
as its last pass said; DEFERRED_METERING hands the packet, and those of its flow that waited behind it, to the traffic
manager. -/
def Obligations.IngressPassStampsThePacket : Prop :=
  ∀ (dt id : Nat) (look : Look) (p : Pkt) (s : State), s.traffic = true → s.pkt? id = some p →
    ((s.tick dt).mayEnter id = true → p.loc ≠ .recirc →
      ∃ q v, exec (.ingressPass dt id look) s =
          .next ((((s.after dt).setPkt q).bump (Obj.PIPE_PACKETS + q.pipe)).ingress v (startNode v q) q look) ∧
        v = (s.after dt).curVer ∧ q.id = p.id ∧ q.bytes = p.bytes ∧ q.epoch = some s.ep.current ∧
        q.stampAt = s.clock + dt ∧ q.region = (s.after dt).sourceRegion v p ∧ q.pipe / 4 = q.region) ∧
    ((s.tick dt).mayEnter id = true → p.loc = .recirc →
      ∃ q v u, exec (.ingressPass dt id look) s =
          .next (((State.setPkt u q).bump (Obj.PIPE_RECIRC_PASSES + q.pipe)).ingress v (nextStart v p) q look) ∧
        v = (s.after dt).pktVer p ∧ q = { p with lenKnown := true, md := p.nextMd } ∧
        u = { s.after dt with tm := { s.tm with recircAt := assoc s.tm.recircAt p.pipe (s.clock + dt) } }) ∧
    ((s.tick dt).mayMeter id = true →
      exec (.deferredMetering dt id) s = .next (((s.tick dt).toTm ((s.tick dt).pktVer p) p).releaseFlow p))

/-- TM_ADMISSION drops and counts a packet that a host refuses or a check turns away, and else queues it in the front
buffer, the carve-out, or the wait for a saturated write path, with its time of entry; BRIDGE_CROSSING moves the first
packet over; CARVE_OUT_FETCH brings the head packet to the front, or drops and logs it where it cannot be read; testing a
queue's port anew adds and changes no packet, and drops none where a network port has no gate. -/
def Obligations.QueuesTakeMoveAndFetchPackets : Prop :=
  (∀ (dt id region eqid : Nat) (p : Pkt) (rest : List Pkt) (s : State), s.traffic = true →
    (∀ full u, s.pkt? id = some p → (s.tick dt).mayAdmit id = true → p.loc ≠ .crossed → p.eqid / 65536 = p.region →
      u = (if full = true then s.after dt else (s.after dt).writeOut p.region) →
      (∀ c, State.hostRefuses u p = some c →
        exec (.tmAdmission dt id full) s = .next (((u.bump c).dropPkt p.id).retestQueue p.eqid)) ∧
      (u.hostRefuses p = none →
        (∀ c, u.admitFails p (u.testCells p) full = some c → ∃ t : State,
          exec (.tmAdmission dt id full) s = .next (t.retestQueue p.eqid) ∧
          t.ctr (c + p.region) = Nat.min u64Max ((s.after dt).ctr (c + p.region) + 1) ∧
          t.pkts = u.pkts.filter fun q => q.id != p.id) ∧
        (u.admitFails p (u.testCells p) full = none → ∃ (t : State) (q : Pkt),
          exec (.tmAdmission dt id full) s = .next (t.retestQueue p.eqid) ∧
          t.pkts = (u.pkts.filter fun x => x.id != p.id) ++ [q] ∧ q.bytes = p.bytes ∧ q.eqid = p.eqid ∧
          q.enqAt = s.clock + dt ∧ q.loc = (if u.goesFront p (u.testCells p) then .front else if full then .spill else .carve)))) ∧
    (s.mode.fenced = none → (s.pkts.find? fun x => x.loc == .bridge && x.region == region) = some p →
      exec (.bridgeCrossing dt region) s = .next ((s.after dt).requeue { p with loc := .crossed, enqAt := s.clock + dt })) ∧
    (s.queue eqid = p :: rest → (s.tick dt).mayFetch eqid = true →
      exec (.carveOutFetch dt eqid false) s = .next (((s.after dt).setPkt { p with loc := .front }).retestQueue eqid) ∧
      (p.loc = .carve → exec (.carveOutFetch dt eqid true) s = .next ((((s.after dt).dropQueued p Obj.TM_DROP_BUF_ECC).logCell
        (ErrInfo.mk' 0 (2 + eqid / 65536) 0x17 0 0x02 8)).retestQueue eqid)) ∧
      (p.loc ≠ .carve →
        exec (.carveOutFetch dt eqid true) s = .next (((s.after dt).setPkt { p with loc := .front }).retestQueue eqid)))) ∧
  (∀ (eqid : Nat) (s : State), (s.retestQueue eqid).clock = s.clock ∧ (s.retestQueue eqid).ep = s.ep ∧
    (s.retestQueue eqid).hs = s.hs ∧ (∀ p ∈ (s.retestQueue eqid).pkts, p ∈ s.pkts) ∧
    (∀ pn, s.queuePort eqid = some pn → pn < 16 → (s.gateOf pn).enable = false →
      (s.retestQueue eqid).pkts = s.pkts ∧ (s.retestQueue eqid).dict = s.dict))

/-- SCHEDULING_DECISION sends a waiting control frame first, else the packet that the decision picks, else nothing;
INLINE_CIPHER_OP occupies its engine for at least 10 ns, makes its SA the one used last in the region and runs the
operation on the packet in turn, which leaves no sooner; a packet whose operation has ended goes on. -/
def Obligations.DecisionsSendPackets : Prop :=
  ∀ (dt region pn id : Nat) (look : Look) (s : State), s.traffic = true →
    (∀ u, u = ((s.tick dt).reap.sendAgain).retest region pn → region < 2 → pn < 27 → s.mode.fenced ≠ some region →
      (∀ f q, 16 ≤ pn → pn < 24 → State.portReady u region pn = true → takeFirst (pn - 16) u.wv.ctlQ = some (f, q) →
        exec (.schedulingDecision dt region pn look) s =
          .next ({ u with wv := { u.wv with ctlQ := q } }.sendFrame region (pn - 16) f)) ∧
      (∀ p picks cut w, (pn < 16 ∨ 24 ≤ pn) → u.decide_ region pn = (some (p, picks, cut), w) →
        exec (.schedulingDecision dt region pn look) s = .next ((w.stir.dequeue region pn p picks cut look).retest region pn)) ∧
      (∀ w, (pn < 16 ∨ 24 ≤ pn) → u.decide_ region pn = (none, w) →
        exec (.schedulingDecision dt region pn look) s = .next w)) ∧
    (∀ p, s.pkt? id = some p →
      (p.loc = .cipher → (s.tick dt).cipherTurn p = true → ∃ (n m : Nat) (u : State),
        exec (.inlineCipherOp dt id) s = .next (u.cipherOp { p with readyAt := m }) ∧ u.clock = s.clock + dt ∧ u.pkts = s.pkts ∧
          lookup? u.cry.busy p.engineNum = some n ∧ (s.clock + dt + 10) * engineUnits ≤ n ∧ s.clock + dt + 50 ≤ m ∧
          (lookupD u.cry.saCache p.region []).head? = some (mdCipherSa p.md)) ∧
      (p.loc = .ciphered → (s.tick dt).cipherOut p = true →
        exec (.inlineCipherOp dt id) s = .next ((s.tick dt).afterCipher p)))

/-- OVERDUE_CHECK promotes a queue that has waited longer than its leaf's limit, counts and records it; MAX_AGE_CHECK
drops a packet that is too old wherever it waits and counts it in its place; STAGE_AGE_CHECK does so for packets staged
for a host function. -/
def Obligations.WaitingAndAgeChecks : Prop :=
  ∀ (dt region : Nat) (s : State), s.traffic = true →
    (∀ q since u, region < 2 → u = (List.range 27).foldl (fun a pn => State.refreshWait a region pn) (s.tick dt) →
      u.tm.wait = [(q, since)] → q / 65536 = region → lookup? s.tm.promo q = none →
      s.cfg (Obj.TM_OVERDUE_US + region) (leafNode (q % 65536)) * 1000 < s.clock + dt - since →
      ∃ t, exec (.overdueCheck dt region) s = .next t ∧ lookup? t.tm.promo q = some (s.clock + dt, 0) ∧
        t.ctr (Obj.TM_OVERDUE + region) = Nat.min u64Max (s.ctr (Obj.TM_OVERDUE + region) + 1) ∧
        t.cfg (Obj.TM_OVERDUE_LAST + region) = q ∧ t.pkts = s.pkts) ∧
    (∀ p, (s.pkts.filter fun x => (s.tick dt).tooOld x) = [p] → s.wv.ctlQ = [] → s.wv.shuttleQ = [] →
      ∃ u : State, exec (.maxAgeCheck dt) s = .next ((List.range 27).foldl (fun a pn => a.retestPort pn) u) ∧
      (p.loc = .recirc ∨ p.loc = .divert ∨ (∃ n e, p.loc = .lane n e) → u.pkts = (s.pkts.filter fun x => x.id != p.id) ∧
        u.ctr (Obj.PIPE_DROP_MAX_AGE + p.pipe) = Nat.min u64Max (s.ctr (Obj.PIPE_DROP_MAX_AGE + p.pipe) + 1)) ∧
      (p.loc = .bridge ∨ p.loc = .meter ∨ p.loc = .atTm ∨ p.loc = .crossed →
        u.pkts = (s.pkts.filter fun x => x.id != p.id) ∧
        u.ctr (Obj.TM_DROP_MAX_AGE + p.region) = Nat.min u64Max (s.ctr (Obj.TM_DROP_MAX_AGE + p.region) + 1)) ∧
      (p.loc = .front ∨ p.loc = .spill ∨ p.loc = .carve → u.pkts = (s.pkts.filter fun x => x.id != p.id) ∧
        u.ctr (Obj.TM_DROP_MAX_AGE + p.eqid / 65536) =
          Nat.min u64Max (s.ctr (Obj.TM_DROP_MAX_AGE + p.eqid / 65536) + 1))) ∧
    (∀ p, (s.pkts.filter fun x => x.loc == .staged && !coreFid x.dest && (s.tick dt).tooOld x) = [p] →
      ∃ t, exec (.stageAgeCheck dt) s = .next t ∧ t.pkts = (s.pkts.filter fun x => x.id != p.id) ∧
        t.ctr (Obj.HST_DROP_STAGE_AGE + fidPort p.dest) =
          Nat.min u64Max (s.ctr (Obj.HST_DROP_STAGE_AGE + fidPort p.dest) + 1))

/-- DIVERT_SCAN_START puts the first diverted packet of the region in turn on a free lane until its scan ends;
DIVERT_SCAN_END writes the match word and sends it to recirculation; PATTERN_SCAN completes the oldest scan of the ring
where it has ended, and else, in the ring's turn, takes its next descriptor, or completes with ACCESS where that cannot be
read. -/
def Obligations.ScansOfPackets : Prop :=
  ∀ (dt region id f q lane : Nat) (p : Pkt) (x : Qp) (given data : HostRead) (s : State), s.traffic = true →
    (region < 2 → (s.tick dt).scanPick.1 = some region → (s.tick dt).freeLane = some lane → s.divertHead region = some p →
      ∃ t, exec (.divertScanStart dt region) s = .next t ∧
        t.pkts = s.pkts.map fun y => if y.id == p.id then { p with loc := .lane lane (s.clock + dt + scanTime p.scanned.length) } else y) ∧
    (∀ e, s.pkt? id = some p → p.loc = .lane lane e → e ≤ s.clock + dt →
      exec (.divertScanEnd dt id) s = .next (((s.tick dt).countScan p.region p.scanned.length (s.scanPkt p).length).toRecirc
        { p with md := mdSet p.md 448 64 (scanWord (mdDivertSet p.md) (s.scanPkt p)) })) ∧
    (∀ u, (s.tick dt).mayAnswer f given = true → (s.tick dt).mayAnswer f data = true → s.qp? f q = some x →
      (s.tick dt).scanEnded f q = none → (s.tick dt).scanTurn f q = true → (s.after dt).freeLane = some lane →
      (s.after dt).scanEnded f q = none →
      u = { (s.after dt).scanPick.2 with tm := { (s.after dt).scanPick.2.tm with patRing := qpKey f q } } →
      (∀ t, State.jobFetch u f q x given = .wait t → exec (.patternScan dt f q given data) s = .next t) ∧
      (∀ t, u.jobFetch f q x given = .lost t → (∀ y ∈ s.hs.scans, ¬(y.fid = f ∧ y.q = q)) →
        exec (.patternScan dt f q given data) s = .next (t.jobDone f q (pscEntry [] 3 false 0 0))) ∧
      (∀ d t, u.jobFetch f q x given = .got d t →
        exec (.patternScan dt f q given data) s = .next (t.scanTake f q x d lane data))) ∧
    (∀ e, (s.tick dt).mayAnswer f given = true → (s.tick dt).mayAnswer f data = true → s.qp? f q = some x →
      (s.hs.scans.find? fun y => y.fid == f && y.q == q) = some e → e.ends ≤ s.clock + dt →
      exec (.patternScan dt f q given data) s = .next ((s.after dt).scanFinish e x))

/-- SCRUB_VISIT of an intact unit only takes the pass on, repairs, counts and logs one that differs, the first time in an
entry, and drops an entry whose shadow is lost; the last unit of a pass counts it; AGE_SCAN clears the hit bit of a key
that was hit; SHUTTLE_BRIDGE enters the key in the other region's filter and brings the record to its ring. -/
def Obligations.TablesAreScrubbedAgedAndBridged : Prop :=
  (∀ (dt region bank u table key : Nat) (i : TInfo) (s : State), s.traffic = true → region < 2 →
    s.mode.fenced ≠ some region →
    (∀ p, (s.tick dt).scrubNext region = some (p, bank, u) → (s.tick dt).bankTable bank = some i →
      ((∀ f ∈ s.tern.flips, ¬(f.1 = region ∧ f.2.bank = bank ∧ f.2.entry = u / i.units)) →
        exec (.scrubVisit dt region bank u .same) s = .next ((s.tick dt).scrubbed region p bank u p.fixed)) ∧
      ((∃ f ∈ s.tern.flips, f.1 = region ∧ f.2.bank = bank ∧ f.2.entry = u / i.units) →
        exec (.scrubVisit dt region bank u .same) s = .next (((s.tick dt).scrubFix region bank (u / i.units)).scrubbed region p
          bank u (some (bank, u / i.units)))) ∧
      (p.fixed ≠ some (bank, u / i.units) → ∃ v : State, v = (s.tick dt).scrubFix region bank (u / i.units) ∧
        exec (.scrubVisit dt region bank u .differs) s = .next (v.scrubbed region p bank u (some (bank, u / i.units))) ∧
        v.cfg Obj.TCAM_SCRUB_LAST = scrubLoc region bank (u / i.units) ∧ v.cfg Obj.TCAM_SCRUB_LAST_TIME = (s.tick dt).now ∧
        (∀ f ∈ v.tern.flips, ¬(f.1 = region ∧ f.2.bank = bank ∧ f.2.entry = u / i.units)) ∧ v.tbl = s.tbl) ∧
      ∃ v : State, exec (.scrubVisit dt region bank u .lost) s = .next (((v.bump (Obj.TCAM_SHADOW_LOST + region)).raise 0x0090 9 0
          (toBe 8 (scrubLoc region bank (u / i.units)))).scrubbed region p bank u p.fixed) ∧
        v.tbl = s.tbl.filter fun x => !(x.table == i.id && x.region == region && x.slot == unitIndex i bank u)) ∧
    (∀ p last, (lookup? ((s.tick dt).scrubbed region p bank u last).tern.pass region).map (fun w => (w.start, w.last)) =
        some (p.start, some (bank, u)) ∧
      (scrubAfter s.banksUsed (some (bank, u)) = none →
        ((s.tick dt).scrubbed region p bank u last).ctr (Obj.TCAM_SCRUB_PASSES + region) =
          Nat.min u64Max (s.ctr (Obj.TCAM_SCRUB_PASSES + region) + 1)) ∧
      (scrubAfter s.banksUsed (some (bank, u)) ≠ none → ((s.tick dt).scrubbed region p bank u last).dict = s.dict)) ∧
    (∀ inc e, (s.tick dt).scanned region table key = some (i, inc, e) → (∃ x ∈ s.tbl, x.table = table ∧ x.inc = inc ∧
        x.key = key ∧ x.born = e.born ∧ x.died = e.died ∧ (i.local_ = true → x.region = region) ∧ x.hit = true) →
      ∃ t, exec (.ageScan dt region table key) s = .next t ∧ t.tbl.length = s.tbl.length ∧ t.lrn = s.lrn ∧
        ∀ y ∈ t.tbl, y.table = table → y.inc = inc → y.key = key → y.born = e.born → y.died = e.died →
          (i.local_ = true → y.region = region) → y.hit = false)) ∧
  (∀ (dt region : Nat) (b : Nat × Nat × Nat × Nat × Bytes) (s : State), s.traffic = true →
    (s.lrn.bridge.find? fun x => x.1 == region) = some b →
    ∃ u : State, u = { s.tick dt with lrn := { s.lrn with bridge := s.lrn.bridge.erase b } } ∧
      exec (.shuttleBridge dt region) s =
        .next ((u.suppress b.1 b.2.2.1 b.2.2.2.1).toRing b.2.1 b.1 b.2.2.2.2).1 ∧
      (u.suppress b.1 b.2.2.1 b.2.2.2.1).suppressed b.1 b.2.2.1 b.2.2.2.1 =
        decide (0 < s.cfg Obj.LRN_SUPPRESS_MS))

/-- INSERT, DELETE, MODIFY and CLEAR_HIT with their record, the engines of their copies free: refused with the status and
step of the first failing check; the engines are occupied, and they run on their table, where the key is in order; the
payload is read first where the operation needs one, and one that cannot be read is refused as a key that is not in order.
A record that cannot be read completes with ACCESS. -/
def Obligations.TableOperationsAreTaken : Prop :=
  ∀ (dt f q op : Nat) (given payload : HostRead) (x : Qp) (r : Bytes) (s t : State) (c : Instr),
    (op = 1 ∧ c = .insert dt f q given payload ∨ op = 2 ∧ c = .delete dt f q given payload ∨
      op = 3 ∧ c = .modify dt f q given payload ∨ op = 4 ∧ c = .clearHit dt f q given payload) →
    s.traffic = true → (s.tick dt).jobReady f q 3 = true → (s.tick dt).mayAnswer f given = true →
    (s.tick dt).mayAnswer f payload = true → s.qp? f q = some x →
    ((s.tick dt).recordOf f q op given = some (x, r) → (s.tick dt).engineFree r = true →
      (s.after dt).jobFetch f q x given = .got r t →
      (∀ st step, t.topCheck f r = some (st, step) →
        exec c s = .next (t.topRefuse f q r (payload.bytes.getD []) st step)) ∧
      (∀ i inc, t.topCheck f r = none → t.tableFor (topTable r) = some (i, inc) →
        (needsPayload i r = false →
          exec c s = .next (if topKeyOk i r (topKey i r []) then (t.engineBusy i r).topRun f q i inc r (topKey i r [])
            else t.topRefuse f q r [] 2 7)) ∧
        (∀ b v, needsPayload i r = true →
          t.fetch f q x (t.ringAttr f x) [(topAddr r, topLen r, false)] payload = .got b v →
          exec c s = .next (if topKeyOk i r (topKey i r b) then (State.engineBusy v i r).topRun f q i inc r (topKey i r b)
            else v.topRefuse f q r b 2 7)) ∧
        (∀ v, needsPayload i r = true →
          t.fetch f q x (t.ringAttr f x) [(topAddr r, topLen r, false)] payload = .lost v →
          exec c s = .next (State.topRefuse v f q r [] 2 7)))) ∧
    (op = 1 → (s.tick dt).ringLost f q given = true → (s.after dt).jobFetch f q x given = .lost t →
      exec c s = .next (t.jobDone f q (topEntry [] 3 3 false false t.ep.current))) ∧
    (∀ (i : TInfo) (inc : Nat) (k : TopKey) (u : State), u = t.topRun f q i inc r k →
      (∀ e ∈ t.tbl, e.table ≠ i.id → e ∈ u.tbl) ∧ (∀ e ∈ u.tbl, e.table ≠ i.id → e ∈ t.tbl) ∧ u.ep = t.ep ∧ u.pkts = t.pkts)

/-- A record for a table of EPOCH entries that names another epoch than the open one, and passes the checks before that
one, fails the check with STALE_EPOCH; it is counted as EPOCH_STALE_OPS, completes with the present open epoch, and
changes no table entry, learn state, epoch or packet. -/
def Obligations.StaleRecordsChangeNothing : Prop :=
  ∀ (f q : Nat) (r payload : Bytes) (t : TInfo) (inc : Nat) (s : State), s.tableFor (topTable r) = some (t, inc) →
    topReserved r (some t) = false → 1 ≤ topOp r → topOp r ≤ 4 → s.mayChange f (topTable r) = true →
    ¬((topRegion r = 1 ∧ t.local_ = false) ∨ (topPlen r ≠ 0 ∧ t.kind ≠ 3)) →
    ¬(t.local_ = true ∧ s.mode.fenced = some (topRegion r)) →
    t.epoch = true → topEpoch r ≠ s.ep.openNum →
    s.topCheck f r = some (8, 6) ∧
    ∃ u : State, s.topRefuse f q r payload 8 6 = (u.bump Obj.EPOCH_STALE_OPS).jobDone f q
        (topEntry r 8 3 false (s.wasPresent t inc r payload) s.ep.openNum) ∧
      u.tbl = s.tbl ∧ u.lrn = s.lrn ∧ u.ep = s.ep ∧ u.pkts = s.pkts

/-- GATE_EVENT shows the gate's present mask; GATE_LIST_SWITCH takes the pending list at its instant; CENSUS_SWEEP_START
begins a numbered sweep; CENSUS_SAMPLE samples the queue due, and the next one is then in turn; IPFIX_EXPORT begins a new
interval, exported where the export is enabled now, and sends nothing of one that was not; IPFIX_TEMPLATE counts a message
sent or dropped; PPS_IN_EDGE rejects an edge off its second and accepts one in time, PPS_MISSING forgets the
reference, with the lock state each leads to. -/
def Obligations.TimeDrivenEventsKeepTime : Prop :=
  (∀ (dt pn region eqid : Nat) (s : State),
    (s.traffic = true → pn < 24 → (s.gateOf pn).enable = true → lookupD s.tm.gateNow pn 0xFF ≠ (s.tick dt).gateMask pn →
      ∃ t, exec (.gateEvent dt pn) s = .next t ∧ lookup? t.tm.gateNow pn = some ((s.tick dt).gateMask pn) ∧
        (∀ p ∈ t.pkts, p ∈ s.pkts) ∧ t.ep = s.ep ∧ t.hs = s.hs) ∧
    (∀ g at_, s.alive = true → lookup? s.tm.gatePend pn = some (g, at_) → at_ ≤ (s.tick dt).now →
      ∃ t, exec (.gateListSwitch dt pn) s = .next t ∧ t = ((s.tick dt).latch (Obj.GATE_SWITCH_AT + pn) at_).switchGate pn g ∧
        t.gateOf pn = g ∧ lookup? t.tm.gatePend pn = none ∧ t.cfg (Obj.GATE_SWITCH_AT + pn) = at_ ∧ ∀ p ∈ t.pkts, p ∈ s.pkts) ∧
    (s.censusRuns = true → region < 2 → s.mode.fenced ≠ some region → s.cfg Obj.CENSUS_EN = 1 →
      (s.tick dt).now % (s.cfg Obj.CENSUS_PERIOD * 1000) = 0 → lookup? s.tm.sweep region = none →
      (∀ n, n < 16 → s.cfg (Obj.CENSUS_RING_FID + n) = 0xFFFF) →
      ∃ t w, exec (.censusSweepStart dt region) s = .next t ∧ lookup? t.tm.sweep region = some w ∧
        w.start = (s.tick dt).now ∧ w.at_ = s.clock + dt ∧ w.next = 0 ∧ w.period = s.cfg Obj.CENSUS_PERIOD * 1000 ∧
        w.num = (s.tick dt).now / w.period ∧
        t.cfg Obj.CENSUS_SWEEP = w.num % 2 ^ 32) ∧
    (∀ w, s.censusRuns = true → eqid < 131072 → s.mode.fenced ≠ some (eqid / 65536) →
      (s.tick dt).sampleDue eqid = some w →
      exec (.censusSample dt eqid) s = .next ((s.tick dt).censSample w eqid) ∧ w.next = eqid % 65536 ∧
        ∃ v, lookup? ((s.tick dt).censSample w eqid).tm.sweep (eqid / 65536) = some v ∧ v = { w with next := eqid % 65536 + 1 }) ∧
    (∀ sent, s.ipfixRuns = true → s.tm.ipfixAt + s.cfg Obj.CENSUS_IPFIX_INTERVAL_S * 1000000000 ≤ s.clock + dt →
      ∃ t, exec (.ipfixExport dt sent) s = .next t ∧ t.tm.ipfix = [] ∧ t.tm.ipfixAt = s.clock + dt ∧
        (t.tm.ipfixOn = true ↔ s.cfg Obj.CENSUS_IPFIX_EN = 1) ∧ (s.tm.ipfixOn = false → t.out = s.out)) ∧
    (s.ipfixRuns = true → s.tm.ipfixOn = true → s.tm.ipfixTpl = none →
      (∃ t, exec (.ipfixTemplate dt true) s = .next t ∧ t.tm.ipfixTpl = some (s.clock + dt) ∧
        t.ctr Obj.CENSUS_IPFIX_MSGS = Nat.min u64Max (s.ctr Obj.CENSUS_IPFIX_MSGS + 1)) ∧
      (∃ t, exec (.ipfixTemplate dt false) s = .next t ∧ t.tm.ipfixTpl = some (s.clock + dt) ∧
        t.ctr Obj.CENSUS_IPFIX_DROPS = Nat.min u64Max (s.ctr Obj.CENSUS_IPFIX_DROPS + 1)))) ∧
  (∀ (dt : Nat) (s : State), s.alive = true →
    (s.pps.ref = none → exec (.ppsInEdge dt) s = .next ({ s.tick dt with pps := { s.pps with ref := some (s.clock + dt) } }.ppsReject)) ∧
    (∀ r, s.pps.ref = some r →
      (s.clock + dt - r < 999900000 ∨ 1000100000 < s.clock + dt - r →
        ∃ t, exec (.ppsInEdge dt) s = .next t ∧ t.pps.good = 0 ∧ t.pps.off = [] ∧ t.pps.ref = some (s.clock + dt) ∧
          t.ctr Obj.TIME_PPS_REJECTS = Nat.min u64Max (s.ctr Obj.TIME_PPS_REJECTS + 1) ∧
          (s.usesPps = true → s.cfg Obj.TIME_LOCK_STATE = 2 → t.cfg Obj.TIME_LOCK_STATE = 3)) ∧
      (999900000 ≤ s.clock + dt - r → s.clock + dt - r ≤ 1000100000 →
        s.cfg Obj.TIME_LOCK_STATE = 0 ∨ s.cfg Obj.TIME_LOCK_STATE = 1 →
        ∃ t, exec (.ppsInEdge dt) s = .next t ∧ t.pps.good = s.pps.good + 1 ∧ t.pps.ref = some (s.clock + dt) ∧
          t.cfg Obj.TIME_OFFSET_NS = i64 (secondPhase (s.tick dt).now) ∧
          (s.usesPps = true → 3 ≤ s.pps.good → t.cfg Obj.TIME_LOCK_STATE = 2)) ∧
      (r + 1000100000 ≤ s.clock + dt →
        ∃ t, exec (.ppsMissing dt) s = .next t ∧ t.pps = { ref := none, good := 0, off := [] } ∧
          (s.usesPps = true → s.cfg Obj.TIME_LOCK_STATE = 2 → t.cfg Obj.TIME_LOCK_STATE = 3))))

/-- EPOCH_SWITCH switches to the oldest commit being applied, whose number is then current, counted and shown, and enters
SERVICE with the first; QUEUED_COMMIT_RUN starts the queued commit when fewer than four versions live or apply; EPOCH_RETIRE drops the oldest version that no packet carries, keeps
the current one and adds no table entry. -/
def Obligations.EpochsSwitchInOrder : Prop :=
  ∀ (dt : Nat) (s : State), s.alive = true →
    (∀ c at_ rest, s.ep.applying = (c, at_) :: rest →
      (∃ u : State, u = { s.tick dt with ep := { s.ep with applying := rest } } ∧
        exec (.epochSwitch dt) s = .next (if s.ep.live.isEmpty then (u.switchTo c).enterService else u.switchTo c)) ∧
      (s.ep.live ≠ [] → ∃ t v, exec (.epochSwitch dt) s = .next t ∧ t.ep.live = s.ep.live ++ [v] ∧ v.num = c.ver.num ∧
        v.swClock = s.clock + dt ∧ t.ep.current = c.ver.num ∧ t.ep.applying = rest ∧
        t.cfg Obj.EPOCH_SWITCHED_AT = (s.tick dt).now ∧ t.cfg Obj.EPOCH_LAST_STATUS = 0 ∧
        t.ctr Obj.EPOCH_COMMITS = Nat.min u64Max (s.ctr Obj.EPOCH_COMMITS + 1))) ∧
    (∀ c, s.ep.queued = some c → s.liveCount < 4 →
      exec (.queuedCommitRun dt) s = .next { s.tick dt with ep := { s.ep with
        queued := none, applying := s.ep.applying ++ [(c, s.clock + dt + 2000)] } }) ∧
    (∀ v w rest, s.ep.live = v :: w :: rest → s.pkts.any ((s.tick dt).carries v.num) = false →
      ∃ t, exec (.epochRetire dt) s = .next t ∧ t.ep.live = w :: rest ∧ t.ep.current = s.ep.current ∧ t.pkts = s.pkts ∧
        ∀ e ∈ t.tbl, e ∈ s.tbl)

/-- SCHEDULED_SWITCH switches where the contents were whole in time and otherwise records a miss and gives them back;
PREPARE_RESEND sends the PREPARE, with its number, again to the members that have not acknowledged; ACK_DEADLINE cancels
unless every member has acknowledged, and the CANCEL goes out now and twice more, 1 µs apart; OUTCOME_FLOOD sends the
outcome on every UP link whose control queue has room, and makes it known. -/
def Obligations.ScheduledCommitsMeetTheirInstant : Prop :=
  ∀ (dt : Nat) (s : State), s.alive = true →
    (∀ m, s.ep.applying = [] → s.ep.member = some m → m.t ≤ (s.tick dt).now →
      ∃ u : State, u = ({ s.tick dt with ep := { s.ep with member := none } }).disarm ∧
        (m.wholeAt ≤ s.clock + dt →
          exec (.scheduledSwitch dt) s =
            .next (((({ u with ep := { u.ep with own := some (m.id, 1) } }).switchTo m.contents).atGo 3).bump
              Obj.EPOCH_AT_EXECUTED) ∧
          ∃ t, exec (.scheduledSwitch dt) s = .next t ∧ t.ep.current = m.contents.ver.num ∧ t.ep.member = none ∧
            t.ep.armed = none ∧ t.ep.own = some (m.id, 1) ∧ t.cfg Obj.EPOCH_AT_ARM = 0 ∧
            t.ctr Obj.EPOCH_AT_EXECUTED = Nat.min u64Max (s.ctr Obj.EPOCH_AT_EXECUTED + 1) ∧
            t.ep.atState = (if s.ep.atState = 5 ∨ s.ep.atState = 6 then s.ep.atState else 3)) ∧
        (s.clock + dt < m.wholeAt →
          exec (.scheduledSwitch dt) s =
            .next (((((u.latch Obj.EPOCH_LAST_STATUS 9).raise 0x0030 3 0 (toBe 4 m.id)).giveBack m.contents).atState 5).bump
              Obj.EPOCH_AT_MISSED) ∧
          ∃ t, exec (.scheduledSwitch dt) s = .next t ∧ t.ep.current = s.ep.current ∧ t.ep.live = s.ep.live ∧
            t.ep.member = none ∧ t.ep.armed = none ∧ t.ep.atState = 5 ∧ t.cfg Obj.EPOCH_LAST_STATUS = 9 ∧
            t.ctr Obj.EPOCH_AT_MISSED = Nat.min u64Max (s.ctr Obj.EPOCH_AT_MISSED + 1))) ∧
    (∀ i, s.ep.initiated = some i → i.verdict = 0 →
      ((s.tick dt).now + 20000 < i.t → i.sentAt + 50000 ≤ s.clock + dt →
        ∃ t dst, exec (.prepareResend dt) s = .next t ∧
          dst = ((membersOf i.members).filter fun a => !bit i.acked a && a != s.wvAddr) ∧
          t = { List.foldl (fun (a : State) m => a.sendRouted 0x10 i.seq m (atBody i.id 0 i.t)) (s.tick dt) dst with
            ep := { s.ep with initiated := some { i with sentAt := s.clock + dt } } } ∧ t.pkts = s.pkts) ∧
      (i.t ≤ (s.tick dt).now + 20000 → (s.tick dt).now < i.t →
        (i.acked &&& i.members = i.members → exec (.ackDeadline dt) s = .next (s.tick dt)) ∧
        (i.acked &&& i.members ≠ i.members → exec (.ackDeadline dt) s = .next ((s.tick dt).sendCancel i) ∧
          ∃ t frame, exec (.ackDeadline dt) s = .next t ∧ t.ep.initiated = some { i with verdict := 2 } ∧
            t.wv.again = s.wv.again ++ [(s.clock + dt + 1000, frame), (s.clock + dt + 2000, frame)] ∧
            (∀ m, s.ep.member = some m → m.id = i.id → (s.tick dt).now < m.t → t.ep.member = none ∧ t.ep.own = some (i.id, 2)) ∧
            t.ep.current = s.ep.current))) ∧
    (∀ i, s.ep.initiated = some i → i.t ≤ (s.tick dt).now → i.flooded = false → s.ep.untold = [] →
      ∃ t out, exec (.outcomeFlood dt) s = .next t ∧ out = (if i.verdict = 2 then 2 else 1) ∧
        t.ep.initiated = some { i with verdict := out, flooded := true } ∧ t.ep.known = some (i.id, out, s.wvAddr) ∧
        ∀ l, l < 8 → s.wvState l = 2 → (s.wv.ctlQ.filter fun x => x.link == l).length < 64 → ∃ x ∈ t.wv.ctlQ, x.link = l ∧
          wvBody x.bytes = pdu 0x14 ((lookupD s.wv.msgSeq 0x14 0 + 1) % 2 ^ 32) (atBody i.id out i.t))

/-- WEAVE_FRAME_RECEIVE and the eight message rows: a failed FCS is counted; then header, hello, link state, window, out of
step and source are checked in this order, and the first failing one counts the frame and drops it. A message that passes
all has its effect: HELLO is remembered and leads its link on; LINK_STATE enters the database; an unarmed PREPARE is
answered with code 3, and one whose contents stand the checks makes this device a prepared member; ACK marks its sender;
NAK and CANCEL cancel; OUTCOME is known; SHUTTLE reaches the ring of its channel or is counted. -/
def Obligations.WeaveFramesAreCheckedInOrder : Prop :=
  (∀ (dt l typ : Nat) (f : Bytes) (overrun : Bool) (s : State) (c : Instr), s.traffic = true → l < 8 →
    (s.wvLink l).locked = true →
    (c = .weaveFrameReceive dt l f overrun ∨
      overrun = false ∧ whType f ≠ 0 ∧ msgType (wvBody f) = typ ∧
        (typ = 0x01 ∧ c = .hello dt l f ∨ typ = 0x02 ∧ c = .linkState dt l f ∨
          typ = 0x10 ∧ c = .prepare dt l f ∨ typ = 0x11 ∧ c = .ack dt l f ∨
          typ = 0x12 ∧ c = .nak dt l f ∨ typ = 0x13 ∧ c = .cancel dt l f ∨
          typ = 0x14 ∧ c = .outcome dt l f ∨ typ = 0x20 ∧ c = .shuttle dt l f)) →
    ∃ (g : Bytes) (u : State), g = unFcs f ∧
      u = (if fcsGood f = true then (s.after dt).bump (Obj.WV_RX_FRAMES + l)
        else ((s.after dt).bump (Obj.WV_RX_FRAMES + l)).bump (Obj.WV_RX_FCS_ERR + l)) ∧
      (headerOk g = false → exec c s = .next (u.bump (Obj.WV_DROP_HEADER + l))) ∧
      (headerOk g = true →
        (whType g = 3 → fcsGood f = true → exec c s = .next (u.takeHello l (whSrc g) (wvBody g))) ∧
        (whType g = 3 → fcsGood f = false → exec c s = .next u) ∧
        (whType g ≠ 3 → s.wvState l ≠ 2 → exec c s = .next (u.bump (Obj.WV_DROP_LINK_STATE + l))) ∧
        (whType g ≠ 3 → s.wvState l = 2 → u.windowOk g = false → exec c s = .next (u.bump (Obj.WV_DROP_WINDOW + l))) ∧
        (whType g ≠ 3 → s.wvState l = 2 → u.windowOk g = true → whClass g ≠ 0 → u.outOfStep = true →
          exec c s = .next (u.bump (Obj.WV_DROP_OUT_OF_STEP + l))) ∧
        (whType g ≠ 3 → s.wvState l = 2 → u.windowOk g = true → (whClass g = 0 ∨ u.outOfStep = false) →
          exec c s = .next (if u.sourceOk g then u.wvRoute l g (fcsGood f) overrun else u.bump (Obj.WV_DROP_UNKNOWN_SRC + l))))) ∧
  (∀ (dt l : Nat) (f : Bytes) (s : State) (c : Instr),
    (∀ n, s.wvListens l = true → fcsGood f = true → headerOk (unFcs f) = true → whType (unFcs f) = 3 →
      msgType (wvBody (unFcs f)) = 0x01 → whType f ≠ 0 → msgType (wvBody f) = 0x01 → n = s.clock + dt →
      (c = .hello dt l f ∨ c = .weaveFrameReceive dt l f false) → ∃ t, exec c s = .next t ∧
        (t.wvLink l).helloAt = some n ∧ (t.wvLink l).echoTx = beWord (wvBody (unFcs f)) 4 ∧
        t.cfg (Obj.WV_LINK_PEER_ID + l) = beWord (wvBody (unFcs f)) 1 ∧
        (whSrc (unFcs f) = s.wvAddr → t.wvState l = 3) ∧
        (whSrc (unFcs f) ≠ s.wvAddr → fld (beWord (wvBody (unFcs f)) 2) 32 32 ≠ s.cfg Obj.WV_FABRIC_ID → t.wvState l = 4)) ∧
    (∀ (typ : Nat) (p : Bytes) (u : State), p = wvBody (unFcs f) → whType f ≠ 0 → msgType (wvBody f) = typ →
      u = (s.after dt).bump (Obj.WV_RX_FRAMES + l) →
      ((s.tick dt).wvListens l = true → (s.after dt).hearsRouted l typ f = true →
        (typ = 0x10 → c = .prepare dt l f → s.ep.answer = none →
          (s.ep.armed ≠ some (atId p) → ∃ t, exec c s = .next t ∧ t.ep.answer = some (atId p, whSrc (unFcs f), 3) ∧
            t.ep.member = s.ep.member ∧ t.ep.current = s.ep.current) ∧
          (∀ v, u.prepareCheck (atId p) (s.mgmt.holder.getD (0, 0)) = .inl v → ∃ t m, exec c s = .next t ∧
            t.ep.answer = some (atId p, whSrc (unFcs f), 0) ∧ t.ep.member = some m ∧ m.id = atId p ∧ m.t = atTime p ∧
            m.initiator = whSrc (unFcs f) ∧ m.contents.ver = v ∧ t.ep.current = s.ep.current)) ∧
        (∀ i, s.ep.initiated = some i → i.id = atId p → i.verdict = 0 →
          (typ = 0x11 → c = .ack dt l f → ∃ t, exec c s = .next t ∧
            t.ep = { s.ep with initiated := some { i with acked := i.acked ||| 2 ^ whSrc (unFcs f) } } ∧ t.wv = s.wv) ∧
          (typ = 0x12 → c = .nak dt l f → (s.tick dt).now < i.t → ∃ t, exec c s = .next t ∧
            t.ep.initiated = some { i with verdict := 2 } ∧ t.ep.current = s.ep.current)) ∧
        (typ = 0x20 → c = .shuttle dt l f → ∃ k, k = fld (setFld (leWord (slice p 8 64) 0) 5 1 1) 24 8 ∧
          (k = 0 ∨ s.cfg (Obj.LRN_CHANNEL_RING + (k - 1)) = 0xFF → exec c s = .next (u.bump Obj.LRN_SHUTTLE_DROP)) ∧
          (k ≠ 0 → s.cfg (Obj.LRN_CHANNEL_RING + (k - 1)) ≠ 0xFF → ∃ (region : Nat) (record : Bytes) (r : State × Bool),
            r = u.toRing (s.cfg (Obj.LRN_CHANNEL_RING + (k - 1))) region record ∧
            exec c s = .next (if r.2 then r.1.bump Obj.LRN_SHUTTLES_IN else r.1)))) ∧
      ((s.tick dt).wvListens l = true → (s.after dt).hearsFlooded l typ f = true →
        (typ = 0x02 → c = .linkState dt l f → ∃ t e, exec c s = .next t ∧ e ∈ t.wv.lsdb ∧ e.origin = whSrc (unFcs f) ∧
          e.identity = beWord p 1 ∧ e.links = lsLinks p ∧ e.at_ = s.clock + dt) ∧
        (typ = 0x13 → c = .cancel dt l f → ∀ m, s.ep.member = some m → m.id = atId p → (s.tick dt).now < m.t →
          ∃ t, exec c s = .next t ∧ t.ep.member = none ∧ t.ep.own = some (m.id, 2) ∧ t.ep.current = s.ep.current ∧
            t.ctr Obj.EPOCH_AT_CANCELLED = Nat.min u64Max ((s.after dt).ctr Obj.EPOCH_AT_CANCELLED + 1)) ∧
        (typ = 0x14 → c = .outcome dt l f → ∃ t, exec c s = .next t ∧
          t.ep.known = some (atId p, atCode p, whSrc (unFcs f)) ∧ t.ep.current = s.ep.current))))

/-- HELLO_SEND emits one hello frame of 80 B and its FCS on a locked link when it is due, notes the instant and counts it; HELLO_TIMEOUT takes a link back to state 1 and
forgets its hello; WEAVE_LANE_LOCK takes an enabled idle link to state 1; WEAVE_LINK_LOSS takes it to 0 afresh, counting
a loss of an up link and marking link state and routes as changed. -/
def Obligations.WeaveLinksComeAndGo : Prop :=
  ∀ (dt l : Nat) (s : State), s.alive = true → l < 8 →
    ((s.tick dt).helloDue l = true → s.wvAddr < 1024 → ∃ t b, exec (.helloSend dt l) s = .next t ∧
      t.out = s.out ++ [(s.clock + dt, .weave l b)] ∧ b.length = 84 ∧ whType b = 3 ∧ fcsGood b = true ∧
      (t.wvLink l).sentAt = some (s.clock + dt) ∧ t.wvState l = s.wvState l ∧
      t.ctr (Obj.WV_TX_FRAMES + l) = Nat.min u64Max (s.ctr (Obj.WV_TX_FRAMES + l) + 1)) ∧
    (2 ≤ s.wvState l → (s.tick dt).helloLate l = true → ∃ t, exec (.helloTimeout dt l) s = .next t ∧ t.wvState l = 1 ∧
      (t.wvLink l).helloAt = none ∧ bit (t.cfg (Obj.WV_LINK_PEER + l)) 13 = false) ∧
    (s.traffic = true → s.wvState l = 0 → s.cfg (Obj.WV_LINK_ENABLE + l) = 1 → s.flt.held = [] →
      ∃ t, exec (.weaveLaneLock dt l) s = .next t ∧ t.wvState l = 1 ∧ t.wvLink l = { WvLink.fresh with locked := true }) ∧
    (s.wvState l ≠ 0 → ∃ t, exec (.weaveLinkLoss dt l) s = .next t ∧ t.wvState l = 0 ∧ t.wvLink l = WvLink.fresh ∧
      bit (t.cfg (Obj.WV_LINK_PEER + l)) 13 = false ∧
      (s.wvState l = 2 → Nat.min u64Max (s.ctr (Obj.WV_LINK_DOWNS + l) + 1) ≤ t.ctr (Obj.WV_LINK_DOWNS + l) ∧
        t.wv.lsDirty = true ∧ t.wv.routeDirty = true))

/-- LINK_STATE_ORIGINATE floods with the next sequence and is no longer due; ROUTE_RECOMPUTE takes the computed routes
and counts; LSDB_EXPIRY drops exactly the entries past 3.5 s; WV_LSDB_DEVICES shows the devices in the database at any
instant; CALENDAR_WINDOW tests the link's queues anew and admits no packet; CALENDAR_SWITCH takes the pending calendar,
remembers the old one and shows the instant. -/
def Obligations.WeaveRoutesFollowTheDatabase : Prop :=
  ∀ (dt l : Nat) (s : State),
    (s.traffic = true → s.mode.mode ≠ .handover →
      (s.wv.lsDirty = true ∨ s.wv.lsAt + 1000000000 ≤ s.clock + dt →
        ∃ t, exec (.linkStateOriginate dt) s = .next t ∧ t.wv.lsAt = s.clock + dt ∧ t.wv.lsDirty = false ∧
          lookupD t.wv.msgSeq 0x02 0 = (lookupD s.wv.msgSeq 0x02 0 + 1) % 2 ^ 32) ∧
      (s.wv.routeDirty = true → ∃ t, exec (.routeRecompute dt) s = .next t ∧ t.wv.dest = s.routes ∧
        t.wv.routeDirty = false ∧ t.wv.lsdb = s.wv.lsdb ∧
        t.ctr Obj.WV_ROUTE_RECOMPUTES = Nat.min u64Max (s.ctr Obj.WV_ROUTE_RECOMPUTES + 1))) ∧
    (s.alive = true → (∃ e ∈ s.wv.lsdb, e.at_ + 3500000000 ≤ s.clock + dt) →
      exec (.lsdbExpiry dt) s = .next { s.tick dt with wv := { s.wv with
        lsdb := s.wv.lsdb.filter fun e => s.clock + dt < e.at_ + 3500000000, routeDirty := true } }) ∧
    (∀ k, s.computed k Obj.WV_LSDB_DEVICES 0 = some ((s.wv.lsdb.map fun e => e.identity).eraseDups).length) ∧
    (s.traffic = true → l < 8 → exec (.calendarWindow dt l) s = .next ((s.tick dt).retestPort (16 + l)) ∧
      ∃ t, exec (.calendarWindow dt l) s = .next t ∧ (∀ p ∈ t.pkts, p ∈ s.pkts) ∧ t.wv = s.wv ∧ t.ep = s.ep ∧ t.hs = s.hs) ∧
    (∀ c at_, s.alive = true → s.wv.calPend = some (c, at_) → at_ ≤ (s.tick dt).now →
      ∃ t, exec (.calendarSwitch dt) s = .next t ∧ t.wv.cal = c ∧ t.wv.calPend = none ∧
        t.wv.calOld = some (s.wv.cal, s.clock + dt) ∧ t.cfg Obj.WV_CAL_SWITCH_AT = at_ ∧ ∀ p ∈ t.pkts, p ∈ s.pkts)

/-- For every row that is an OMP request: one with more requests or a fault of its control clock cycle to come is kept with
those of its cycle, MA's before MB's, then by session number; of the others, while the dictionary is unavailable it is kept; a bad record is counted and
gets no answer; a request already answered gets the kept answer again; one that fails the checks on the whole message
gets RANGE; any other is executed and answered. -/
def Obligations.RequestsAreAnsweredOnce : Prop :=
  (∀ (dt port sess : Nat) (m : Bytes) (c : Instr) (s : State), Requests dt port sess m c → s.hears (port, sess) = true →
    (s.tick dt).moreRequests = true → ∃ t a b, exec c s = .next t ∧ s.mgmt.cycle = a ++ b ∧
      t = { s.tick dt with mgmt := { s.mgmt with cycle := a ++ (port, sess, m) :: b } } ∧
      (∀ x ∈ a, x.1 * 2 ^ 32 + x.2.1 ≤ port * 2 ^ 32 + sess) ∧
      ∀ x ∈ b.head?, port * 2 ^ 32 + sess < x.1 * 2 ^ 32 + x.2.1) ∧
  ∀ (dt port sess : Nat) (m : Bytes) (c : Instr) (s : State), Requests dt port sess m c →
    (s.tick dt).hearsAlone (port, sess) = true →
    ∃ u : State, u = (s.tick dt).touch (port, sess) ∧
      (u.unavailable = true → exec c s =
        .next { u with mgmt := { u.mgmt with deferred := u.mgmt.deferred ++ [(port, sess, m)] } }) ∧
      (u.unavailable = false → ompBad m = true ∨ ompOp m = 9 → exec c s = .next (u.bump (Obj.MGMT_RX_BAD + port))) ∧
      (u.unavailable = false → ompBad m = false → ompOp m ≠ 9 →
        (∀ msg, u.keptReply (port, sess) m = some msg →
          exec c s = .next ((u.bump Obj.MGMT_RESENT).answer (port, sess) msg)) ∧
        (u.keptReply (port, sess) m = none →
          (ompRange m = true → exec c s = .next (u.answered (port, sess) m (Reply.of 2))) ∧
          (ompRange m = false → exec c s =
            .next ((u.doOp (port, sess) m).2.answered (port, sess) m (u.doOp (port, sess) m).1))))

/-- For every row that is a WRITE of one item which passes the checks: the object's write happens, and the response
carries its status and echoes the item. An answer leaves everything but sessions, mailbox, PF0's interrupt and counters
unchanged: time, epochs, tables, packets, modes, keys, images, fuses, cores, faults, power, semaphore and staging area. -/
def Obligations.AcceptedWritesAreDone : Prop :=
  (∀ (dt port sess : Nat) (m : Bytes) (r : ObjRow) (i : Item) (c : Instr) (s : State), Writes dt port sess m i c →
    (s.tick dt).accepts (port, sess) m r i = true →
    ∃ w, w = ((s.tick dt).touch (port, sess)).writeValue (port, sess) r i.obj (i.elem.getD 0) i.value ∧
      exec c s = .next (w.2.answered (port, sess) m (oneReply w.1 i))) ∧
  (∀ (k : Nat × Nat) (m : Bytes) (r : Reply) (s : State), ∃ t, t = s.answered k m r ∧ t.now = s.now ∧ t.clock = s.clock ∧
    t.pending = s.pending ∧ t.store = s.store ∧ t.ep = s.ep ∧ t.tbl = s.tbl ∧ t.lrn = s.lrn ∧ t.pkts = s.pkts ∧ t.tm = s.tm ∧
    t.mode = s.mode ∧ t.wv = s.wv ∧ t.pps = s.pps ∧ t.core = s.core ∧ t.flt = s.flt ∧ t.pwr = s.pwr ∧ t.cry = s.cry ∧
    t.stg = s.stg ∧ t.img = s.img ∧ t.fuse = s.fuse ∧ t.pkg = s.pkg ∧ t.mgmt.holder = s.mgmt.holder ∧
    t.mgmt.waiting = s.mgmt.waiting ∧ t.mgmt.leaseEnd = s.mgmt.leaseEnd ∧ t.stageOf k = s.stageOf k)

/-- WRITE of an object that is no control: a stored value is on its way to flash; an EPOCH object's present value stays;
a QUIESCE object's value is pending; any other is in effect at once; packets and epochs are untouched. QUIESCE_APPLY
puts the values whose blocks have left idle into effect: each is pending no longer, and its object (but for a port's link
state and the effective Weave address, which the device sets) reads it; those whose blocks are still idle stay pending in
their order; where no port's mode changes, the other objects keep their values (but for the effective Weave address), and
epochs and packets are untouched. -/
def Obligations.ValuesAreTakenAsTheirObjectsSay : Prop :=
  ∀ (dt port sess : Nat) (m : Bytes) (r : ObjRow) (i : Item) (s : State),
    ((s.tick dt).accepts (port, sess) m r i = true →
      ((s.tick dt).touch (port, sess)).control (port, sess) r i.obj (i.elem.getD 0) i.value = none →
      ∃ u x : State, u = (s.tick dt).touch (port, sess) ∧ exec (.write dt port sess m) s =
          .next ((x.settleQui.afterWrite i.obj i.value (s.cfg i.obj (i.elem.getD 0))).answered (port, sess) m (oneReply 0 i)) ∧
        x.dict.toFlash = (if r.stored then s.dict.toFlash ++ [(okey i.obj (i.elem.getD 0), i.value)] else s.dict.toFlash) ∧
        (r.app = .epoch → ∀ o e, x.cfg o e = s.cfg o e) ∧
        (r.app = .quiesce → x.wanted i.obj (i.elem.getD 0) = i.value ∧ ∀ o e, x.cfg o e = s.cfg o e) ∧
        (r.app ≠ .epoch → r.app ≠ .quiesce → x.cfg i.obj (i.elem.getD 0) = i.value) ∧
        x.mgmt = u.mgmt ∧ x.ep = s.ep ∧ x.pkts = s.pkts) ∧
    (s.alive = true → s.dict.qui.any (s.tick dt).quiDue = true →
      exec (.quiesceApply dt) s = .next (s.tick dt).settleQui ∧
      ∃ t, exec (.quiesceApply dt) s = .next t ∧
        t.dict.qui = s.dict.qui.filter (fun x => !(s.tick dt).quiDue x) ∧
        (∀ x ∈ s.dict.qui, (s.tick dt).quiDue x = true → (∀ y ∈ s.dict.qui, y.1 = x.1 → y = x) →
          within (keyObj x.1) Obj.NET_LINK_STATE 16 = false → keyObj x.1 ≠ Obj.WV_ADDR_EFFECTIVE →
          t.cfg (keyObj x.1) (keyElem x.1) = x.2) ∧
        ((∀ x ∈ s.dict.qui, (s.tick dt).quiDue x = true → within (keyObj x.1) Obj.NET_PORT_MODE 2 = false) →
          (∀ o e, okey o e ≠ okey Obj.WV_ADDR_EFFECTIVE 0 → (∀ x ∈ s.dict.qui, x.1 ≠ okey o e) → t.cfg o e = s.cfg o e) ∧
          t.ep = s.ep ∧ t.pkts = s.pkts))

/-- READ of one item answers UNSUPPORTED, the failing check's status, or the value, and clears an RC counter and nothing
else; STAGE puts the value into the session's staging area, or answers BUSY when that is full, or NO_SEMAPHORE to a
session that does not hold the semaphore; SUBSCRIBE sets the session's mask, BUSY in DORMANT; an unknown operation
answers UNSUPPORTED. -/
def Obligations.ReadsStagesAndSubscriptions : Prop :=
  (∀ (dt port sess : Nat) (m : Bytes) (r : ObjRow) (i : Item) (s : State), (s.tick dt).wellPut (port, sess) m = true →
    ompOp m = 1 → ompItems m = some [i] → ∃ u : State, u = (s.tick dt).touch (port, sess) ∧
      (u.rowOf? i.obj = none → exec (.read dt port sess m) s =
        .next (u.answered (port, sess) m { status := 10, count := 1, aux := 0, body := i.bytes i.typ 10 [] })) ∧
      (u.rowOf? i.obj = some r → u.readMax i ≤ 1184 →
        (∀ st, st ≠ 0 → u.itemStatus (port, sess) .read (ompStagedView m) i.obj i.elem = st →
          exec (.read dt port sess m) s =
            .next (u.answered (port, sess) m { status := st, count := 1, aux := 0, body := i.bytes i.typ st [] })) ∧
        (u.itemStatus (port, sess) .read (ompStagedView m) i.obj i.elem = 0 → i.typeBad r .read = false →
          ∃ x v : _, v = u.valueOf (port, sess) (ompStagedView m) r i.obj (i.elem.getD 0) ∧
            exec (.read dt port sess m) s = .next (State.answered x (port, sess) m
              { status := 0, count := 1, aux := 0,
                body := i.bytes (typeOf r i.elem.isSome).1 0
                  (valueBytes (typeOf r i.elem.isSome).1 (typeOf r i.elem.isSome).2 v) }) ∧
            (r.acc ≠ .rc → x = u) ∧ (r.acc = .rc → i.obj ≠ Obj.THERM_TJ_PEAK_MC → x.ctr i.obj = 0) ∧
            (∀ o, o ≠ i.obj → x.ctr o = s.ctr o) ∧ ∀ o e, x.cfg o e = s.cfg o e))) ∧
  (∀ (dt port sess : Nat) (m : Bytes) (r : ObjRow) (i : Item) (s : State), (s.tick dt).wellPut (port, sess) m = true →
    ompOp m = 3 → ompItems m = some [i] → ∃ u : State, u = (s.tick dt).touch (port, sess) ∧
      (u.rowOf? i.obj = some r → u.itemStatus (port, sess) .stage false i.obj i.elem = 0 → i.typeBad r .stage = false →
        u.valueStatus r i.obj (i.elem.getD 0) i.value = 0 →
        ∃ x : State, ∃ vals : List (Nat × Nat), vals = ((u.stageOf (port, sess)).vals.filter fun p =>
            p.1 != okey i.obj (i.elem.getD 0)) ++ [(okey i.obj (i.elem.getD 0), i.value)] ∧
          x.ep = s.ep ∧ (∀ o e, x.cfg o e = s.cfg o e) ∧
          ((u.stageOf (port, sess)).above = false → vals.length ≤ 16384 →
            Staging.bytes { u.stageOf (port, sess) with vals := vals } ≤ 2 ^ 20 →
            exec (.stage dt port sess m) s = .next (x.answered (port, sess) m (oneReply 0 i)) ∧
              x.stageOf (port, sess) = { u.stageOf (port, sess) with vals := vals }) ∧
          ((u.stageOf (port, sess)).above = true ∨ 16384 < vals.length ∨
              2 ^ 20 < Staging.bytes { u.stageOf (port, sess) with vals := vals } →
            exec (.stage dt port sess m) s = .next (x.answered (port, sess) m (oneReply 1 i)) ∧
            x.stageOf (port, sess) = u.stageOf (port, sess) ∧
            x.ctr Obj.EPOCH_STAGE_FULL = Nat.min u64Max (s.ctr Obj.EPOCH_STAGE_FULL + 1))) ∧
      (s.mgmt.holder ≠ some (port, sess) → u.rowOf? i.obj = some r → i.elem = none → bulkOnly r = false →
        u.accOk r .stage = true →
        exec (.stage dt port sess m) s = .next (u.answered (port, sess) m (oneReply 4 i)))) ∧
  (∀ (dt port sess : Nat) (m : Bytes) (s : State), (s.tick dt).wellPut (port, sess) m = true →
    ∃ u : State, u = (s.tick dt).touch (port, sess) ∧
    (ompOp m = 8 → s.mode.mode ≠ .dormant → (ompBody m).length = 8 → ∃ x : State,
      exec (.subscribe dt port sess m) s = .next (x.answered (port, sess) m (Reply.of 0)) ∧
        (x.sess? (port, sess)).map (fun y => y.mask) = some (beNat (ompBody m)) ∧ x.ep = s.ep ∧ x.dict = s.dict) ∧
    (ompOp m = 8 → s.mode.mode = .dormant →
      exec (.subscribe dt port sess m) s = .next (u.answered (port, sess) m (Reply.of 1))) ∧
    (ompOp m = 0 ∨ 10 < ompOp m →
      exec (.unknownOperation dt port sess m) s = .next (u.answered (port, sess) m (Reply.of 10))))

/-- COMMIT by another session than the holder answers NO_SEMAPHORE; by the holder it is refused with RANGE and the
rejected object, or seals the staging area as the open epoch, is applied or queued, and answers its number; a scheduled
COMMIT answers BUSY, RANGE or PENDING. -/
def Obligations.CommitsSealTheStagingArea : Prop :=
  ∀ (dt port sess : Nat) (m : Bytes) (s : State), (s.tick dt).wellPut (port, sess) m = true → ompOp m = 4 →
    ∃ u : State, u = (s.tick dt).touch (port, sess) ∧
    (ompScheduled m = false → s.mgmt.holder ≠ some (port, sess) →
      exec (.commit dt port sess m) s = .next (u.answered (port, sess) m (Reply.of 4))) ∧
    (ompScheduled m = true → s.mgmt.holder ≠ some (port, sess) →
      exec (.scheduledCommit dt port sess m) s = .next (u.answered (port, sess) m (Reply.of 4))) ∧
    (s.mgmt.holder = some (port, sess) → s.mode.mode ≠ .handover → s.mode.mode ≠ .dormant → ompBody m = [] →
      (ompScheduled m = false → u.commitBusy = false → ∃ v, v = Ver.with_ u.baseVer s.ep.openNum (u.stageOf (port, sess)) ∧
        (∀ o, u.checkVer v (u.stageOf (port, sess)).touched = some o → ∃ x : State,
          exec (.commit dt port sess m) s = .next (x.answered (port, sess) m (Reply.of 2)) ∧
            x.cfg Obj.EPOCH_REJECT_INDEX = o ∧ x.ep = s.ep ∧ x.stageOf (port, sess) = u.stageOf (port, sess)) ∧
        (u.checkVer v (u.stageOf (port, sess)).touched = none → ∃ (x : State) (c : Sealed), c.ver = v ∧
          c.stage = u.stageOf (port, sess) ∧ c.sess = (port, sess) ∧ x.stageOf (port, sess) = Staging.none_ ∧
          x.ep.openNum = (s.ep.openNum + 1) % 2 ^ 32 ∧ x.ep.current = s.ep.current ∧
          (s.liveCount < 4 → x.ep.applying = s.ep.applying ++ [(c, s.clock + dt + 2000)] ∧ exec (.commit dt port sess m) s =
            .next (x.answered (port, sess) m { status := 0, count := 0, aux := s.ep.openNum, body := [] })) ∧
          (4 ≤ s.liveCount → x.ep.queued = some c ∧ exec (.commit dt port sess m) s =
            .next (x.answered (port, sess) m { status := 5, count := 0, aux := s.ep.openNum, body := [] })))) ∧
      (ompScheduled m = true →
        (u.commitBusy = true → exec (.scheduledCommit dt port sess m) s = .next (u.answered (port, sess) m (Reply.of 1))) ∧
        (u.commitBusy = false → u.scheduleBad = true → exec (.scheduledCommit dt port sess m) s =
          .next ((u.latch Obj.EPOCH_LAST_STATUS 2).answered (port, sess) m (Reply.of 2))) ∧
        (u.commitBusy = false → u.scheduleBad = false → exec (.scheduledCommit dt port sess m) s =
          .next (u.commitScheduled.2.answered (port, sess) m (Reply.of 5)) ∧
          ∃ i, u.commitScheduled.2.ep.initiated = some i ∧ i.id = s.cfg Obj.EPOCH_AT_ID ∧ i.t = s.cfg Obj.EPOCH_AT_TIME ∧
            i.members = u.atMembers ∧ i.sentAt = s.clock + dt ∧ i.flooded = false ∧
            u.commitScheduled.2.ep.current = s.ep.current)))

/-- EPOCH_DISCARD empties the staging area; EPOCH_AT_ARM arms or disarms; EPOCH_AT_CANCEL is refused when late and else
cancels; EPOCH_AT_RESYNC ends states 5 and 6; TIME_SET is refused while another source leads and else sets the time and
counts a step; ERR_LOG_CLEAR empties the log and no counter; CORE_RUN releases hart 0 with the others waiting, or holds
all, and keeps memory. -/
def Obligations.EpochTimeLogAndCoreControls : Prop :=
  (∀ (dt port sess : Nat) (m : Bytes) (r : ObjRow) (i : Item) (s : State), (s.tick dt).accepts (port, sess) m r i = true →
    ∃ u : State, u = (s.tick dt).touch (port, sess) ∧
    (i.obj = Obj.EPOCH_DISCARD → ∃ x : State,
      exec (.epochDiscard dt port sess m) s = .next (x.written (port, sess) m i 0) ∧
        x.stageOf (port, sess) = Staging.none_ ∧ x.ep = s.ep) ∧
    (i.obj = Obj.EPOCH_AT_ARM → ∃ x : State,
      exec (.epochAtArm dt port sess m) s = .next (x.written (port, sess) m i 0) ∧
        x.cfg Obj.EPOCH_AT_ARM = i.value ∧
        (i.value = 1 → x.ep.armed = some (s.cfg Obj.EPOCH_AT_ID) ∧ x.ep.answer = none ∧
          (s.ep.atState = 0 ∨ s.ep.atState = 3 ∨ s.ep.atState = 4 → x.ep.atState = 1)) ∧
        (i.value ≠ 1 → x.ep.armed = none ∧ (s.ep.atState = 1 → x.ep.atState = 0))) ∧
    (i.obj = Obj.EPOCH_AT_CANCEL →
      (u.cancelLate = true → exec (.epochAtCancel dt port sess m) s = .next (u.written (port, sess) m i 1)) ∧
      (u.cancelLate = false → s.ep.initiated = none →
        exec (.epochAtCancel dt port sess m) s = .next (u.written (port, sess) m i 0)) ∧
      (∀ a, u.cancelLate = false → s.ep.initiated = some a → a.verdict = 0 → ∃ x : State,
        exec (.epochAtCancel dt port sess m) s = .next (x.written (port, sess) m i 0) ∧
          x.ep.initiated = some { a with verdict := 2 })) ∧
    (i.obj = Obj.EPOCH_AT_RESYNC → ∃ x : State,
      exec (.epochAtResync dt port sess m) s = .next (x.written (port, sess) m i 0) ∧
        x.ep = { s.ep with atState := if s.ep.atState = 5 ∨ s.ep.atState = 6 then
          (if s.ep.member.isSome then 2 else if s.ep.armed.isSome then 1 else 0) else s.ep.atState })) ∧
  (∀ (dt port sess : Nat) (m : Bytes) (r : ObjRow) (i : Item) (s : State), (s.tick dt).accepts (port, sess) m r i = true →
    ∃ u : State, u = (s.tick dt).touch (port, sess) ∧
    (i.obj = Obj.TIME_SET →
      (s.timeLed = true → exec (.timeSet dt port sess m) s = .next (u.written (port, sess) m i 1)) ∧
      (s.timeLed = false → ∃ x : State, exec (.timeSet dt port sess m) s = .next (x.written (port, sess) m i 0) ∧
        x.now = i.value ∧ x.clock = s.clock + dt ∧
        x.ctr Obj.TIME_STEPS = Nat.min u64Max (s.ctr Obj.TIME_STEPS + 1))) ∧
    (i.obj = Obj.ERR_LOG_CLEAR → ∃ x : State,
      exec (.errLogClear dt port sess m) s = .next (x.written (port, sess) m i 0) ∧ x.flt.log = [] ∧
        x.cfg Obj.ERR_LOG_COUNT = 0 ∧ ∀ o, x.ctr o = s.ctr o) ∧
    (i.obj = Obj.CORE_RUN → i.value = 1 → s.cfg Obj.CORE_RUN ≠ 1 → ∃ x : State,
      exec (.coreRunRelease dt port sess m) s = .next (x.written (port, sess) m i 0) ∧ x.cfg Obj.CORE_RUN = 1 ∧
        x.core.harts = .running :: List.replicate 31 .waitIpi ∧ x.core.mem = s.core.mem) ∧
    (i.obj = Obj.CORE_RUN → i.value = 1 → s.cfg Obj.CORE_RUN = 1 →
      exec (.coreRunRelease dt port sess m) s = .next (u.written (port, sess) m i 0)) ∧
    (i.obj = Obj.CORE_RUN → i.value = 0 → ∃ x : State,
      exec (.coreRunReset dt port sess m) s = .next (x.written (port, sess) m i 0) ∧ x.cfg Obj.CORE_RUN = 0 ∧
        (∀ h ∈ x.core.harts, h = .held) ∧ x.core.mem = s.core.mem))

/-- A free semaphore is granted with an empty staging area, a lease and a count; a held one queues at most 16 waiting
sessions; release and lapse pass it to the first waiting session; a heartbeat renews the lease. -/
def Obligations.TheSemaphoreHasOneHolder : Prop :=
  ∀ (dt port sess : Nat) (m : Bytes) (r : ObjRow) (i : Item) (s : State),
    ((s.tick dt).wellPut (port, sess) m = true → ompOp m = 10 → ompBody m = [] →
      (ompAux m = 1 → s.mgmt.holder = none → s.mgmt.waiting = [] → ∃ x : State,
        exec (.semAcquire dt port sess m) s = .next (x.answered (port, sess) m (Reply.of 0)) ∧
          x.mgmt.holder = some (port, sess) ∧ x.stageOf (port, sess) = Staging.none_ ∧
          x.mgmt.leaseEnd = s.clock + dt + s.cfg Obj.MGMT_SEM_LEASE_S * 1000000000 ∧
          x.ctr Obj.MGMT_SEM_GRANTS = Nat.min u64Max (s.ctr Obj.MGMT_SEM_GRANTS + 1)) ∧
      (ompAux m = 1 → s.mgmt.holder = some (port, sess) → exec (.semAcquire dt port sess m) s =
        .next (((s.tick dt).touch (port, sess)).answered (port, sess) m (Reply.of 0))) ∧
      (ompAux m = 1 → s.mgmt.holder ≠ none → s.mgmt.holder ≠ some (port, sess) → (port, sess) ∉ s.mgmt.waiting →
        (s.mgmt.waiting.length < 16 → ∃ x : State,
          exec (.semAcquire dt port sess m) s = .next (x.answered (port, sess) m (Reply.of 5)) ∧
            x.mgmt.waiting = s.mgmt.waiting ++ [(port, sess)] ∧ x.mgmt.holder = s.mgmt.holder) ∧
        (16 ≤ s.mgmt.waiting.length → exec (.semAcquire dt port sess m) s =
          .next (((s.tick dt).touch (port, sess)).answered (port, sess) m (Reply.of 1)))) ∧
      (ompAux m = 2 → s.mgmt.holder = some (port, sess) → ∃ x : State,
        exec (.semRelease dt port sess m) s = .next (x.answered (port, sess) m (Reply.of 0)) ∧
          x.mgmt.holder = s.mgmt.waiting.head? ∧ x.mgmt.waiting = s.mgmt.waiting.tail) ∧
      (ompAux m = 2 → s.mgmt.holder ≠ some (port, sess) → (port, sess) ∈ s.mgmt.waiting → ∃ x : State,
        exec (.semRelease dt port sess m) s = .next (x.answered (port, sess) m (Reply.of 0)) ∧
          x.mgmt.holder = s.mgmt.holder ∧ x.mgmt.waiting = s.mgmt.waiting.filter fun k => k != (port, sess)) ∧
      (ompAux m = 2 → s.mgmt.holder ≠ some (port, sess) → (port, sess) ∉ s.mgmt.waiting →
        exec (.semRelease dt port sess m) s =
          .next (((s.tick dt).touch (port, sess)).answered (port, sess) m (Reply.of 4)))) ∧
    ((s.tick dt).accepts (port, sess) m r i = true → i.obj = Obj.MGMT_SEM_HEARTBEAT → ∃ x : State,
      exec (.mgmtSemHeartbeat dt port sess m) s = .next (x.written (port, sess) m i 0) ∧
        x.mgmt.leaseEnd = s.clock + dt + s.cfg Obj.MGMT_SEM_LEASE_S * 1000000000 ∧ x.mgmt.holder = s.mgmt.holder) ∧
    (∀ k, s.alive = true → (s.tick dt).unavailable = false → s.mgmt.holder = some k → s.mgmt.leaseEnd ≤ s.clock + dt →
      ∃ t, exec (.leaseLapse dt) s = .next t ∧ t.mgmt.holder = s.mgmt.waiting.head? ∧
        t.mgmt.waiting = s.mgmt.waiting.tail ∧
        t.ctr Obj.MGMT_SEM_LAPSES = Nat.min u64Max (s.ctr Obj.MGMT_SEM_LAPSES + 1))

/-- BULK_OPEN answers the status of its checks or opens the lowest free channel; BULK_DATA and BULK_CLOSE of a channel
that does not exist answer RANGE; chunks are written or read; finish applies the transfer; abort and 10 s of silence
remove the channel. -/
def Obligations.BulkChannelsOpenCarryAndClose : Prop :=
  ∀ (dt port sess : Nat) (m : Bytes) (s : State),
    ((s.tick dt).wellPut (port, sess) m = true → ∃ u : State, u = (s.tick dt).touch (port, sess) ∧
      (ompOp m = 5 → (ompBody m).length = 16 →
        (∀ st, st ≠ 0 → u.openStatus (port, sess) (ompStagedView m) (beNat (slice (ompBody m) 0 3))
            (beNat (slice (ompBody m) 3 1)) (beNat (slice (ompBody m) 4 4)) (beNat (slice (ompBody m) 8 8)) = st →
          exec (.bulkOpen dt port sess m) s = .next (u.answered (port, sess) m (Reply.of st))) ∧
        (∀ r n x, beNat (slice (ompBody m) 3 1) = 0 → u.openStatus (port, sess) (ompStagedView m)
            (beNat (slice (ompBody m) 0 3)) 0 (beNat (slice (ompBody m) 4 4)) (beNat (slice (ompBody m) 8 8)) = 0 →
          u.rowOf? (beNat (slice (ompBody m) 0 3)) = some r → u.sess? (port, sess) = some x → x.freeNum = some n →
          ∃ (t : State) (c : Chan), t.chan? (port, sess) n = some c ∧ c.obj = beNat (slice (ompBody m) 0 3) ∧ c.wr = false ∧
            c.last = s.clock + dt ∧
            exec (.bulkOpen dt port sess m) s = .next (t.answered (port, sess) m
              { status := 0, count := 0, aux := n, body := toBe 8 c.len }))) ∧
      (ompOp m = 6 ∨ ompOp m = 7 → u.chan? (port, sess) (ompAux m) = none →
        (ompOp m = 6 → exec (.bulkData dt port sess m) s = .next (u.answered (port, sess) m (Reply.of 2))) ∧
        (ompOp m = 7 → closeHow m ≠ 1 →
          exec (.bulkCloseFinish dt port sess m) s = .next (u.answered (port, sess) m (Reply.of 2))) ∧
        (ompOp m = 7 → closeHow m = 1 →
          exec (.bulkCloseAbort dt port sess m) s = .next (u.answered (port, sess) m (Reply.of 2)))) ∧
      (∀ c, u.chan? (port, sess) (ompAux m) = some c →
        ∃ v : State, v = u.putChan (port, sess) { c with last := s.clock + dt } ∧
        (ompOp m = 6 → c.wr = true → u.chanBusy c = false → 8 ≤ (ompBody m).length →
          exec (.bulkData dt port sess m) s =
            .next ((v.writeChunk (port, sess) { c with last := s.clock + dt } (beNat (slice (ompBody m) 0 8))
              ((ompBody m).drop 8)).2.answered (port, sess) m (Reply.of (v.writeChunk (port, sess)
                { c with last := s.clock + dt } (beNat (slice (ompBody m) 0 8)) ((ompBody m).drop 8)).1))) ∧
        (ompOp m = 6 → c.wr = false → (ompBody m).length = 12 →
          exec (.bulkData dt port sess m) s =
            .next ((v.readChunk (port, sess) { c with last := s.clock + dt } (beNat (slice (ompBody m) 0 8))
              (beNat (slice (ompBody m) 8 4))).2.answered (port, sess) m (v.readChunk (port, sess)
                { c with last := s.clock + dt } (beNat (slice (ompBody m) 0 8)) (beNat (slice (ompBody m) 8 4))).1)) ∧
        (ompOp m = 7 → ompBody m = [0, 0, 0, 0] → u.chanBusy c = false →
          exec (.bulkCloseFinish dt port sess m) s =
            .next ((v.finishChan (port, sess) { c with last := s.clock + dt }).2.answered (port, sess) m
              (Reply.of (v.finishChan (port, sess) { c with last := s.clock + dt }).1))) ∧
        (ompOp m = 7 → ompBody m = [1, 0, 0, 0] → ∃ x : State,
          exec (.bulkCloseAbort dt port sess m) s = .next (x.answered (port, sess) m (Reply.of 0)) ∧
            x.chan? (port, sess) (ompAux m) = none))) ∧
    (∀ n c, s.alive = true → s.chan? (port, sess) n = some c → c.last + 10000000000 ≤ s.clock + dt →
      ∃ t, exec (.bulkIdleTimeout dt port sess n) s = .next t ∧ t.chan? (port, sess) n = none)

/-- An accepted write of KEY_KEK with every slot empty takes the 32 B as the KEK, and KEY_KEK_KCV is then the first 8 B
of the AES-256 encryption of a zero block under it; with a slot in use it is refused with BUSY and changes neither keys
nor dictionary. -/
def Obligations.TheKekIsTakenWhileSlotsAreEmpty : Prop :=
  ∀ (dt port sess : Nat) (m : Bytes) (r : ObjRow) (i : Item) (s : State), (s.tick dt).accepts (port, sess) m r i = true →
    i.obj = Obj.KEY_KEK →
    (s.cry.slots = [] → ∃ x : State, exec (.keyKek dt port sess m) s = .next (x.written (port, sess) m i 0) ∧
      x.cry.kek = some (toBe 32 i.value) ∧
      x.cfg Obj.KEY_KEK_KCV =
        natOf ((aesEnc (roundKeys (natsOf (toBe 32 i.value))) (List.replicate 16 0)).take 8)) ∧
    (s.cry.slots ≠ [] → ∃ x : State, exec (.keyKek dt port sess m) s = .next (x.written (port, sess) m i 1) ∧
      x.cry = s.cry ∧ x.dict = s.dict)

/-- KEY_SLOT_WRITE answers the load's status and changes no key where it fails; KEY_SLOT_ERASE marks the slot;
KEY_ZEROISE, once nothing is in flight under it, removes the slot and its derived keys and counts; SA_CHECKPOINT takes
every association's number and window. -/
def Obligations.KeySlotsAreWrittenErasedAndZeroised : Prop :=
  ∀ (dt port sess n : Nat) (m : Bytes) (r : ObjRow) (i : Item) (s : State),
    ((s.tick dt).accepts (port, sess) m r i = true →
      (i.obj = Obj.KEY_SLOT_WRITE → ∃ (u : State) (w : Nat × State), u = (s.tick dt).touch (port, sess) ∧
        exec (.keySlotWrite dt port sess m) s = .next (w.2.written (port, sess) m i w.1) ∧
        (8192 ≤ beNat (slice (toBe 80 i.value) 0 2) → w = (2, u)) ∧
        (w.1 = 0 ∨ w.2.cry = s.cry)) ∧
      (i.obj = Obj.KEY_SLOT_ERASE → i.value < 8192 →
        (s.slot? i.value = none → exec (.keySlotErase dt port sess m) s =
          .next (((s.tick dt).touch (port, sess)).written (port, sess) m i 0)) ∧
        ∀ k, s.slot? i.value = some k → ∃ x : State,
          exec (.keySlotErase dt port sess m) s = .next (x.written (port, sess) m i 0) ∧
            x.slot? i.value = some { k with revoking := true })) ∧
    (∀ k, s.alive = true → s.slot? n = some k → k.revoking = true → (∀ h ∈ s.cry.held, h.slot ≠ n) →
      s.keyRuns n = false →
      ∃ t, exec (.keyZeroise dt n) s = .next t ∧ t.slot? n = none ∧
        (∀ d ∈ t.cry.kdf, ∀ x ∈ d.2, x.slot ≠ n) ∧
        t.ctr Obj.KEY_ERASES = Nat.min u64Max (s.ctr Obj.KEY_ERASES + 1)) ∧
    (s.alive = true → s.cry.ckAt + 100000 ≤ s.clock + dt → ∃ t, exec (.saCheckpoint dt) s = .next t ∧
      t.cry.ckAt = s.clock + dt ∧ ∀ p ∈ t.cry.sas, p.2.ckSeq = p.2.seq ∧ p.2.ckMap = p.2.map)

/-- DRAIN_REQUEST from SERVICE or DEGRADED enters DRAIN; after a finished drain VIGIL_REQUEST resets the chip, HIBERNATE
and OFF_WAKE enter DORMANT with their step where the hosts sleep; SERVICE_REQUEST in step 3 begins the exit; in every
other case each answers BUSY. -/
def Obligations.ModesChangeOnRequest : Prop :=
  ∀ (dt port sess : Nat) (m : Bytes) (r : ObjRow) (i : Item) (s : State), (s.tick dt).accepts (port, sess) m r i = true →
    i.obj = Obj.MODE_REQUEST → ∃ u : State, u = (s.tick dt).touch (port, sess) ∧
    (i.value = 1 →
      (s.mode.mode = .service ∨ s.mode.mode = .degraded → ∃ x : State,
        exec (.drainRequest dt port sess m) s = .next (x.written (port, sess) m i 0) ∧ x.mode.mode = .drain ∧
          x.pwr.drainAt = s.clock + dt ∧ x.pwr.drainForced = false) ∧
      (s.mode.mode ≠ .service → s.mode.mode ≠ .degraded →
        exec (.drainRequest dt port sess m) s = .next (u.written (port, sess) m i 1))) ∧
    (i.value = 2 →
      (s.mode.mode = .drain → s.cfg Obj.MODE_DRAIN_DONE = 1 → ∃ x : State,
        exec (.vigilRequest dt port sess m) s = .next (x.written (port, sess) m i 0) ∧ x.pwr.rails = .boot ∧
          x.pwr.reason = 1 ∧ x.pkts = [] ∧ x.core.mem = [] ∧ x.fuse = s.fuse) ∧
      (s.mode.mode ≠ .drain ∨ s.cfg Obj.MODE_DRAIN_DONE ≠ 1 →
        exec (.vigilRequest dt port sess m) s = .next (u.written (port, sess) m i 1))) ∧
    (∀ step c, (i.value = 3 ∧ step = 3 ∧ c = .hibernateRequest dt port sess m ∨
        i.value = 4 ∧ step = 4 ∧ c = .offWakeRequest dt port sess m) →
      (s.mode.mode = .drain → s.cfg Obj.MODE_DRAIN_DONE = 1 → s.hostsAsleep = true → ∃ x : State,
        exec c s = .next (x.written (port, sess) m i 0) ∧ x.mode.mode = .dormant ∧ x.pwr.aim = step ∧
          x.pwr.entering = true) ∧
      (s.mode.mode ≠ .drain ∨ s.cfg Obj.MODE_DRAIN_DONE ≠ 1 ∨ s.hostsAsleep = false →
        exec c s = .next (u.written (port, sess) m i 1))) ∧
    (i.value = 5 →
      (s.mode.mode = .dormant → s.mode.step = 3 → s.pwr.entering = false → ∃ x : State,
        exec (.serviceRequest dt port sess m) s = .next (x.written (port, sess) m i 0) ∧
          x.pwr.exit = some (s.pwr.exit.getD 1)) ∧
      (s.mode.mode ≠ .dormant ∨ s.mode.step ≠ 3 ∨ s.pwr.entering = true →
        exec (.serviceRequest dt port sess m) s = .next (u.written (port, sess) m i 1)))

/-- HANDOVER_NOW, HANDOVER_AT and RESTART_AT answer BUSY, or RANGE with the reject code, or become pending for the
target bank; a cancel before the start removes the activation; IMG_SVN_RAISE raises one minimum version to that of the
running image; IMG_SIGNER_REVOKE revokes a key that is not in use and never the last. -/
def Obligations.ImageActivationsAndFuses : Prop :=
  (∀ (dt port sess : Nat) (m : Bytes) (r : ObjRow) (i : Item) (s : State), (s.tick dt).accepts (port, sess) m r i = true →
    ∃ u : State, u = (s.tick dt).touch (port, sess) ∧
    (∀ c, i.obj = Obj.IMG_ACTIVATE → (i.value = 1 ∧ c = .handoverNow dt port sess m ∨
        i.value = 2 ∧ c = .handoverAt dt port sess m ∨ i.value = 3 ∧ c = .restartAt dt port sess m) →
      (s.img.act ≠ none ∨ s.mode.mode = .handover → exec c s = .next (u.written (port, sess) m i 1)) ∧
      (s.img.act = none → s.mode.mode ≠ .handover →
        (u.bankCode u.targetBank ≠ 0 →
          exec c s = .next ((u.latch Obj.IMG_REJECT_CODE (u.bankCode u.targetBank)).written (port, sess) m i 2)) ∧
        (u.bankCode u.targetBank = 0 →
          (i.value = 3 ∨ u.runBank ≠ none ∧ s.mode.mode = .service ∧ (i.value = 1 → s.ep.member = none) ∧
            (u.fwSlot (2 * u.targetBank)).major = s.cfg Obj.IMG_SETTINGS_MAJOR) →
          (i.value = 1 ∨ u.activateAtBad = false) → (i.value = 3 → s.mode.mode ≠ .dormant) → ∃ x : State,
          exec c s = .next (x.written (port, sess) m i 0) ∧
            x.img.act = some ⟨i.value, s.cfg Obj.IMG_ACTIVATE_AT, u.targetBank, i.value == 3, false⟩ ∧
            x.cfg Obj.IMG_ACTIVATE_STATUS = 5 ∧ x.cfg Obj.IMG_ACTIVATE_STATE = if i.value = 3 then 2 else 1))) ∧
    (i.obj = Obj.IMG_ACTIVATE_CANCEL → i.value = 1 →
      (∀ a, s.img.act = some a → a.started = false → ∃ x : State,
        exec (.imgActivateCancel dt port sess m) s = .next (x.written (port, sess) m i 0) ∧ x.img.act = none ∧
          x.cfg Obj.IMG_ACTIVATE_STATE = 6) ∧
      (s.img.act = none ∨ (∃ a, s.img.act = some a ∧ a.started = true) →
        exec (.imgActivateCancel dt port sess m) s = .next (u.written (port, sess) m i 0)))) ∧
  (∀ (dt port sess : Nat) (m : Bytes) (r : ObjRow) (i : Item) (s : State), (s.tick dt).accepts (port, sess) m r i = true →
    ∃ u : State, u = (s.tick dt).touch (port, sess) ∧
    (∀ b, i.obj = Obj.IMG_SVN_RAISE → s.mode.mode = .service → s.runBank = some b →
      (i.value = 1 → ∃ x : State, exec (.imgSvnRaise dt port sess m) s = .next (x.written (port, sess) m i 0) ∧
        x.fuse = { s.fuse with svnVigil := Nat.max s.fuse.svnVigil (s.fwSlot (2 * b)).svn }) ∧
      (i.value = 2 → ∃ x : State, exec (.imgSvnRaise dt port sess m) s = .next (x.written (port, sess) m i 0) ∧
        x.fuse = { s.fuse with svnService := Nat.max s.fuse.svnService (s.fwSlot (2 * b + 1)).svn })) ∧
    (i.obj = Obj.IMG_SVN_RAISE → s.mode.mode ≠ .service ∨ s.runBank = none →
      exec (.imgSvnRaise dt port sess m) s = .next (u.written (port, sess) m i 1)) ∧
    (i.obj = Obj.IMG_SIGNER_REVOKE →
      (s.signerUsed i.value = true →
        exec (.imgSignerRevoke dt port sess m) s = .next (u.written (port, sess) m i 1)) ∧
      (s.signerUsed i.value = false → i.value ≤ 3 → s.fuse.revoked ||| 2 ^ i.value ≠ 15 → ∃ x : State,
        exec (.imgSignerRevoke dt port sess m) s = .next (x.written (port, sess) m i 0) ∧
          x.fuse = { s.fuse with revoked := s.fuse.revoked ||| 2 ^ i.value }) ∧
      (s.signerUsed i.value = false → s.fuse.revoked ||| 2 ^ i.value = 15 →
        exec (.imgSignerRevoke dt port sess m) s = .next (u.written (port, sess) m i 2))))

/-- FLT_REGION_TEST starts in DEGRADED and is BUSY elsewhere; DIAG_INJECT of each kind is BUSY unless enabled, and acts
as its fault with the injected mark; SQUASH_RESET and DRAIN_RESET begin a function's reset; a frozen port resumes, or is
squashed and resumes, by the manager or by PF0's page. -/
def Obligations.InjectionsTestsAndResetsByTheManager : Prop :=
  (∀ (dt port sess : Nat) (m : Bytes) (r : ObjRow) (i : Item) (s : State), (s.tick dt).accepts (port, sess) m r i = true →
    ∃ u : State, u = (s.tick dt).touch (port, sess) ∧
    (i.obj = Obj.FLT_REGION_TEST →
      (s.mode.mode ≠ .degraded → exec (.fltRegionTest dt port sess m) s = .next (u.written (port, sess) m i 1)) ∧
      (s.mode.mode = .degraded → i.value = 1 ∨ i.value = 2 → s.mode.fenced = some (i.value - 1) →
        s.cfg Obj.FLT_REGION_TEST_STATE ≠ 2 → s.cfg Obj.FLT_REGION_TEST_STATE ≠ 3 → ∃ x : State,
        exec (.fltRegionTest dt port sess m) s = .next (x.written (port, sess) m i 0) ∧
          x.cfg Obj.FLT_REGION_TEST_STATE = 2 ∧ x.flt.retestFrom = none)) ∧
    (∀ c, i.obj = Obj.DIAG_INJECT → (djKind i.value = 1 ∧ c = .diagInjectCorrectable dt port sess m ∨
        djKind i.value = 2 ∧ c = .diagInjectUncorrectable dt port sess m ∨
        djKind i.value = 3 ∧ c = .diagInjectBlockReset dt port sess m ∨
        djKind i.value = 4 ∧ c = .diagInjectRegionFault dt port sess m) →
      (s.cfg Obj.DIAG_INJECT_EN = 0 → exec c s = .next (u.written (port, sess) m i 1)) ∧
      (s.cfg Obj.DIAG_INJECT_EN ≠ 0 → ∃ (x : State) (e : ErrInfo), exec c s = .next (x.written (port, sess) m i 0) ∧
        e = { ErrInfo.mk' 0 (djRegion i.value) (djBlock i.value) (djInst i.value) 0x0A 0 with injected := true } ∧
        (djKind i.value = 1 → x = (u.bump Obj.DIAG_INJECTIONS).cellCorrected e) ∧
        (djKind i.value = 2 → x = (u.bump Obj.DIAG_INJECTIONS).cellUncorrected .cell e) ∧
        (djKind i.value = 3 → x = (u.bump Obj.DIAG_INJECTIONS).blockReset e false) ∧
        (djKind i.value = 4 →
          (djRegion i.value = 2 → x = (u.bump Obj.DIAG_INJECTIONS).regionFault 0 e) ∧
          (djRegion i.value = 3 → x = (u.bump Obj.DIAG_INJECTIONS).regionFault 1 e) ∧
          (djRegion i.value ≠ 2 → djRegion i.value ≠ 3 → x = (u.bump Obj.DIAG_INJECTIONS).fatal e))))) ∧
  (∀ (dt port sess p : Nat) (m : Bytes) (r : ObjRow) (i : Item) (s : State),
    ((s.tick dt).accepts (port, sess) m r i = true → ∃ u : State, u = (s.tick dt).touch (port, sess) ∧
      (i.obj = Obj.FN_RESET_CMD → s.fnExists (fld i.value 0 14) = false →
        (fld i.value 14 2 = 1 → exec (.squashReset dt port sess m) s = .next (u.written (port, sess) m i 0)) ∧
        (fld i.value 14 2 = 2 → exec (.drainReset dt port sess m) s = .next (u.written (port, sess) m i 0))) ∧
      (i.obj = Obj.FN_RESET_CMD → s.fnExists (fld i.value 0 14) = true → (s.fn (fld i.value 0 14)).reset = 0 →
        (fld i.value 14 2 = 1 → ∃ x : State, exec (.squashReset dt port sess m) s = .next (x.written (port, sess) m i 0) ∧
          ((x.fn (fld i.value 0 14)).reset = 1 ∨ (x.fn (fld i.value 0 14)).reset = 3)) ∧
        (fld i.value 14 2 = 2 → ∃ x : State, exec (.drainReset dt port sess m) s = .next (x.written (port, sess) m i 0) ∧
          (x.fn (fld i.value 0 14)).reset = 2 ∧ (x.fn (fld i.value 0 14)).resetAt = s.clock + dt ∧ x.pkts = s.pkts)) ∧
      (p < 2 → i.obj = Obj.HST_PORT_RELEASE + p →
        (s.frozen p = false → (i.value = 1 →
            exec (.portReleaseResume dt (.omp port sess m) p) s = .next (u.written (port, sess) m i 0)) ∧
          (i.value = 2 → exec (.portReleaseReset dt (.omp port sess m) p) s = .next (u.written (port, sess) m i 0))) ∧
        (s.frozen p = true →
          (i.value = 1 → exec (.portReleaseResume dt (.omp port sess m) p) s =
            .next ((u.unfreeze p).written (port, sess) m i 0)) ∧
          (i.value = 2 → exec (.portReleaseReset dt (.omp port sess m) p) s =
            .next (((u.squashPort p).unfreeze p).written (port, sess) m i 0))))) ∧
    (p < 2 → (s.after dt).reach (8192 * p) = .takes → s.frozen p = true →
      exec (.portReleaseResume dt .page p) s = .next ((s.after dt).unfreeze p) ∧
        exec (.portReleaseReset dt .page p) s = .next (((s.after dt).squashPort p).unfreeze p)))

/-- PERST_ASSERT takes a port's links down and ends its freeze; PERST_DEASSERT starts the port's first link to train, where
it was down, and lets its configuration space get ready within 100 ms, but in DORMANT leaves the lanes off; HOT_RESET,
HOST_LINK_DOWN and HOST_L2_ENTRY latch the link state they bring; HOST_LINK_UP latches L0, speed and width, also while
firmware starts; L1_ENTRY enters L1 or the substate it names, and counts; L0P_WIDTH_CHANGE narrows below 40 % of the
narrower width's capacity and widens, up to the trained width, where more than 16 KiB wait. -/
def Obligations.HostLinksChangeState : Prop :=
  ∀ (dt port l : Nat) (s : State),
    (port < 2 → port ∉ s.hs.perst → ∃ t, exec (.perstAssert dt port) s = .next t ∧ port ∈ t.hs.perst ∧
      t.linkState (2 * port) = 0 ∧ t.linkState (2 * port + 1) = 0 ∧ t.cfg (Obj.HST_PORT_FROZEN + port) = 0) ∧
    (port < 2 → port ∈ s.hs.perst →
      (s.alive = true → s.mode.mode ≠ .dormant → s.linkUp (2 * port) = false →
        ∃ t n, exec (.perstDeassert dt port) s = .next t ∧ port ∉ t.hs.perst ∧ t.linkState (2 * port) = 1 ∧
          n ≤ 100000000 ∧ lookup? t.hs.upAt port = some (s.clock + dt + n)) ∧
      (s.alive = true → s.mode.mode = .dormant → bit (s.cfg Obj.PWR_WAKE_SRC) port = false →
        ∃ t, exec (.perstDeassert dt port) s = .next t ∧ port ∉ t.hs.perst ∧ t.linkState (2 * port) = 0 ∧
          t.linkState (2 * port + 1) = 0 ∧ t.mode = s.mode) ∧
      (s.alive = false → s.mode.mode ≠ .dormant → exec (.perstDeassert dt port) s =
        .next { s.tick dt with hs := { s.hs with perst := s.hs.perst.filter fun p => p != port } })) ∧
    (l < 4 → s.alive = true → s.linkUp l = true →
      (∃ t, exec (.hotReset dt l) s = .next t ∧ t.linkState l = 1) ∧
      (s.frozen (l / 2) = false → ∃ t, exec (.hostLinkDown dt l) s = .next t ∧ t.linkState l = 0) ∧
      (s.frozen (l / 2) = true → ∃ u : State, exec (.hostLinkDown dt l) s = .next (u.unfreeze (l / 2)) ∧ u.linkState l = 0) ∧
      ∃ t, exec (.hostL2Entry dt l) s = .next t ∧ t.linkState l = 7 ∧ t.hs = s.hs ∧ t.pkts = s.pkts) ∧
    (∀ speed width flit, l < 4 → s.alive = true ∨ s.pwr.rails = .boot → l / 2 ∉ s.hs.perst → s.linkUp l = false →
      1 ≤ speed → speed ≤ s.cfg (Obj.HST_SPEED_MAX + l / 2) → width ∈ [1, 2, 4, 8, 16] →
      (if s.cfg (Obj.HST_BIFURCATE + l / 2) = 1 then width ≤ 8 else l % 2 = 0) →
      ∃ u, exec (.hostLinkUp dt l speed width flit) s = .next ((State.resumeLink u l).pump l) ∧ u.linkState l = 2 ∧
        u.cfg (Obj.HST_LINK_SPEED + l) = speed ∧ u.cfg (Obj.HST_LINK_WIDTH + l) = width ∧ u.trained l = width ∧
        (l ∈ u.hs.flit ↔ flit = true ∨ 6 ≤ speed) ∧ u.hs.reqs = s.hs.reqs ∧ u.pkts = s.pkts) ∧
    (∀ sub idle, l < 4 → s.alive = true → s.linkState l = 2 ∨ s.linkState l = 3 → s.l1May l sub = true →
      (∃ x ∈ s.hs.fn, coreFid x.1 = false ∧ s.linkOf x.1 = l ∧ x.2.aspmL1 = true) →
      s.cfg (Obj.HST_L1_IDLE_US + l / 2) * 1000 ≤ idle → (∀ r ∈ s.hs.reqs, r.link ≠ l) →
      (∀ x ∈ s.hs.fn, coreFid x.1 = false → s.linkOf x.1 = l → x.2.wq = []) →
      (∀ p ∈ s.pkts, p.loc = .staged → coreFid p.dest = false → s.linkOf p.dest ≠ l) →
      exec (.l1Entry dt l sub idle) s =
        .next (((s.tick dt).latch (Obj.HST_LINK_STATE + l) (4 + sub)).bump (Obj.HST_L1_ENTRIES + l))) ∧
    (∀ width sent waiting, l < 4 → s.alive = true → s.linkState l = 2 ∨ s.linkState l = 3 →
      64 ≤ speedGts (s.cfg (Obj.HST_LINK_SPEED + l)) → l ∈ s.hs.flit → l ∈ s.hs.l0p →
      s.cfg (Obj.HST_L0P_EN + l / 2) = 1 →
      (width = 2 ∨ width = 4 ∨ width = 8 → width < s.cfg (Obj.HST_LINK_WIDTH + l) →
        sent * 80 < width * speedGts (s.cfg (Obj.HST_LINK_SPEED + l)) * 80000 →
        exec (.l0pWidthChange dt l width sent waiting) s =
          .next (((s.tick dt).latch (Obj.HST_LINK_WIDTH + l) width).latch (Obj.HST_LINK_STATE + l)
            (if width < s.trained l then 3 else 2))) ∧
      (width ∈ [2, 4, 8, 16] → s.cfg (Obj.HST_LINK_WIDTH + l) < width → width ≤ s.trained l → s.linkState l = 3 →
        16384 < waiting → exec (.l0pWidthChange dt l width sent waiting) s =
          .next (((s.tick dt).latch (Obj.HST_LINK_WIDTH + l) width).latch (Obj.HST_LINK_STATE + l)
            (if width < s.trained l then 3 else 2))))

/-- MMIO_WRITE to a page of a function: a write that the function takes is written inside its BAR and changes nothing beyond
it, one to a fenced host function is discarded and counted, one before configuration space is ready or in D3hot is answered
with UR; a read is answered with its data, with all ones where the function is fenced; configuration requests are answered
with data, with Request Retry Status while the port or the function is not ready, and with UR where there is no function.
COMPLETION_ARRIVAL gives a completion to the request of its tag, whose tag it frees where it fails or carries a translation;
unexpected ones are counted; COMPLETION_TIMEOUT ends its request; MALFORMED_TLP freezes the port with cause 2; PEER_TLP
through a window reads or writes exactly its bytes of application memory. -/
def Obligations.HostTlpsAreTaken : Prop :=
  (∀ (dt f off size val : Nat) (ro ido : Bool) (s : State),
    (∀ bar, bar = 0 ∨ bar = 2 →
      ((s.after dt).reach f = .takes →
        exec (.mmioWrite dt f bar off size val ⟨1, ro, ido⟩) s = .next ((s.after dt).mmio f bar off size val) ∧
          (barBytes f bar < off + size → (s.after dt).mmio f bar off size val = s.after dt)) ∧
      ((s.after dt).reach f = .fenced → coreFid f = false → exec (.mmioWrite dt f bar off size val ⟨1, ro, ido⟩) s =
        .next ((s.after dt).bump (Obj.HST_MMIO_DISCARD + fidPort f))) ∧
      ((s.after dt).reach f = .nothing → exec (.mmioWrite dt f bar off size val ⟨1, ro, ido⟩) s = .next (s.after dt)) ∧
      (coreFid f = false → s.linkUp (s.linkOf f) = true → off + size ≤ barBytes f bar →
        ((s.after dt).reach f = .takes → ∃ t, exec (.mmioWrite dt f bar off size val ⟨0, ro, ido⟩) s = .next t ∧
          t.out = s.out ++ [(s.clock + dt, .hostCpl (s.linkOf f) 0 ro ido ((s.after dt).mmioRead f bar off size))] ∧
          t.pkts = s.pkts ∧ t.hs.qp = s.hs.qp) ∧
        ((s.after dt).reach f = .fenced → ∃ t, exec (.mmioWrite dt f bar off size val ⟨0, ro, ido⟩) s = .next t ∧
          t.out = s.out ++ [(s.clock + dt, .hostCpl (s.linkOf f) 0 ro ido (List.replicate size 0xFF))] ∧
          t.pkts = s.pkts ∧ t.hs = s.hs) ∧
        ((s.after dt).reach f = .ur → ∃ t pre, exec (.mmioWrite dt f bar off size val ⟨0, ro, ido⟩) s = .next t ∧
          t.out = s.out ++ pre ++ [(s.clock + dt, .hostCpl (s.linkOf f) 1 ro ido [])] ∧ t.pkts = s.pkts ∧
          t.hs.qp = s.hs.qp)) ∧
      ((s.after dt).reach f = .ur → ∃ t, exec (.mmioWrite dt f bar off size val ⟨1, ro, ido⟩) s = .next t ∧
        t.pkts = s.pkts ∧ t.hs.qp = s.hs.qp ∧ t.core = s.core)) ∧
    ((s.after dt).cfgReach f = .takes →
      (∃ t, exec (.mmioWrite dt f 7 off size val ⟨0, ro, ido⟩) s = .next t ∧
        t.out = s.out ++ [(s.clock + dt, .hostCpl (s.linkOf f) 0 ro ido (toLe size ((s.after dt).cfgRead f off)))] ∧
        t.hs = s.hs ∧ t.pkts = s.pkts) ∧
      (exec (.mmioWrite dt f 7 off size val ⟨1, ro, ido⟩) s = .next
        (State.reply ((s.after dt).cfgWrite f off val) (((s.after dt).cfgWrite f off val).linkOf f) 0 ⟨0, ro, ido⟩ [])) ∧
      (∃ t, exec (.mmioWrite dt f 7 8 size val ⟨1, ro, ido⟩) s = .next t ∧ (t.fn f).roEn = (val != 0)) ∧
      (∃ t, exec (.mmioWrite dt f 7 3 size 0 ⟨1, ro, ido⟩) s = .next t ∧ (t.fn f).ats = false ∧
        t.hs.xl = s.hs.xl.filter (fun e => e.fid != f))) ∧
    ((s.after dt).cfgReach f = .retry → ∀ kind, ∃ t, exec (.mmioWrite dt f 7 off size val ⟨kind, ro, ido⟩) s = .next t ∧
      t.out = s.out ++ [(s.clock + dt, .hostCpl (s.linkOf f) 2 ro ido [])] ∧ t.hs = s.hs ∧ t.pkts = s.pkts) ∧
    ((s.after dt).cfgReach f = .nothing → s.linkUp (s.linkOf f) = true → ∀ kind,
      ∃ t, exec (.mmioWrite dt f 7 off size val ⟨kind, ro, ido⟩) s = .next t ∧
        t.out = s.out ++ [(s.clock + dt, .hostCpl (s.linkOf f) 1 ro ido [])] ∧ t.hs = s.hs ∧ t.pkts = s.pkts)) ∧
  (∀ (dt l tag : Nat) (s : State), s.alive = true →
    (l < 4 → s.linkUp l = true →
      (∀ status ep data r, s.req? l tag = some r →
        exec (.completionArrival dt l tag status ep data) s = .next ((s.after dt).takeCpl r status ep data)) ∧
      (∀ data r, s.req? l tag = some r → r.kind ≠ 2 → (r.got ++ data).length < r.len →
        ∃ t, exec (.completionArrival dt l tag 0 false data) s = .next ((t : State).serveLink r.link) ∧
          t.req? l tag = some { r with got := r.got ++ data } ∧ t.hs.works = s.hs.works ∧ t.pkts = s.pkts) ∧
      (∀ status data r, s.req? l tag = some r → r.dead = true → status ≠ 0 →
        ∃ t, exec (.completionArrival dt l tag status false data) s = .next ((t : State).serveLink r.link) ∧
          t.hs.reqs = s.hs.reqs.filter (fun x => !(x.link == l && x.tag == tag)) ∧ t.hs.works = s.hs.works ∧
          t.ctr (Obj.HST_CPL_ERROR + l / 2) = Nat.min u64Max (s.ctr (Obj.HST_CPL_ERROR + l / 2) + 1)) ∧
      (∀ status data, s.req? l tag = none → ∃ t, exec (.completionArrival dt l tag status false data) s = .next t ∧
        t.ctr (Obj.HST_CPL_UNEXPECTED + l / 2) =
          Nat.min u64Max ((s.after dt).ctr (Obj.HST_CPL_UNEXPECTED + l / 2) + 1) ∧ t.hs.reqs = s.hs.reqs) ∧
      (s.frozen (l / 2) = false → ∃ t, exec (.malformedTlp dt l) s = .next t ∧ t.frozen (l / 2) = true ∧
        t.cfg (Obj.HST_FREEZE_CAUSE + l / 2) = 2)) ∧
    (∀ r d, s.req? l tag = some r → (s.fn r.fid).cto = some d → r.at_ + d ≤ s.clock + dt →
      exec (.completionTimeout dt l tag) s = .next ((s.tick dt).timeoutReq r) ∧
      (r.dead = true → ∃ u : State, u.hs.reqs = s.hs.reqs.filter (fun x => !(x.link == l && x.tag == tag)) ∧
        u.hs.works = s.hs.works ∧ u.hs.late = s.hs.late ++ [((l, tag), r.fid)] ∧
        (s.tick dt).timeoutReq r = (if (u.countCto r.fid).frozen (l / 2) = true then u.countCto r.fid
          else (u.countCto r.fid).serveLink l)))) ∧
  (∀ (dt port op off rid n : Nat) (ep ro ido : Bool) (kind : Nat) (data : Bytes) (s : State), port < 2 →
    s.linkUp (2 * port) = true → s.cfg (Obj.HST_PEER_BAR_LOG2 + port) ≠ 0 →
    off + n ≤ 2 ^ s.cfg (Obj.HST_PEER_BAR_LOG2 + port) → kind < 3 →
    exec (.peerTlp dt port ⟨kind, ro, ido⟩ op off rid n ep data) s =
      .next ((s.after dt).peerTlp port ⟨kind, ro, ido⟩ op off rid n ep data)) ∧
  (∀ (port op off rid n w : Nat) (ro ido : Bool) (data : Bytes) (s : State), s.peerMatch port off n = some w →
    s.core.memUp = true → s.cfgReady port = true → (s.fn (port * 8192)).d3 = false → bit (elemWord 4 w 0) 4 = false →
    elemWord 4 w 2 + (off - elemWord 4 w 1) + n ≤ s.appSize → ∃ a, a = elemWord 4 w 2 + (off - elemWord 4 w 1) ∧
    (bit (elemWord 4 w 0) 1 = true → ∃ t, s.peerTlp port ⟨0, ro, ido⟩ op off rid n false data = t ∧
      t.out = s.out ++ [(s.clock, .hostCpl (2 * port) 0 ro ido (memRead s.core.mem a n))] ∧ t.core = s.core ∧ t.hs = s.hs) ∧
    (bit (elemWord 4 w 0) 2 = true → data.length = n → ∃ t, s.peerTlp port ⟨1, ro, ido⟩ op off rid n false data = t ∧
      (∀ i, i < n → Memory.wf s.core.mem = true → memGet t.core.mem (a + i) = data.getD i 0) ∧
      (∀ b, b < a ∨ a + n ≤ b → memGet t.core.mem b = memGet s.core.mem b) ∧ t.out = s.out ∧ t.hs = s.hs) ∧
    (bit (elemWord 4 w 0) 3 = true → n = 4 ∨ n = 8 → ∃ t, s.peerTlp port ⟨2, ro, ido⟩ op off rid n false data = t ∧
      (∀ b, b < a ∨ a + n ≤ b → memGet t.core.mem b = memGet s.core.mem b) ∧
      t.out = s.out ++ [(s.clock, .hostCpl (2 * port) 0 ro ido (memRead s.core.mem a n))] ∧ t.hs = s.hs))

/-- ATS_INVALIDATION removes the named translations and waits for requests under them; its end is answered and counted;
a page response ends the request, and its pair goes on; code 1 or 15 fails what the page was for, and 15 also stops further
requests; a timeout fails it and counts. -/
def Obligations.TranslationsAreInvalidatedAndPagesAnswered : Prop :=
  ∀ (dt f id page : Nat) (s : State), s.alive = true →
    (∀ pasid n, fidUsed f = true → coreFid f = false → s.linkUp (s.linkOf f) = true →
      ∃ t v, exec (.atsInvalidation dt f id pasid page n) s = .next t ∧ t.hs.inv = s.hs.inv ++ [v] ∧ v.id = id ∧
        v.fid = f ∧ (∀ r ∈ s.hs.reqs, r.fid = f → r.kind ≠ 2 → page ≤ r.addr / 4096 → r.addr / 4096 < page + n →
          (r.link, r.tag) ∈ v.waits) ∧
        t.hs.xl = s.hs.xl.filter (fun x => !x.named f pasid page n) ∧ t.pkts = s.pkts) ∧
    ((∃ v ∈ s.hs.inv, v.fid = f ∧ v.id = id ∧ v.waits = []) →
      ∃ t, exec (.atsInvalidationDone dt f id) s = .next t ∧ t.out = s.out ++ [(s.clock + dt, .invDone f id)] ∧
        t.hs.inv = s.hs.inv.filter (fun v => !(v.fid == f && v.id == id)) ∧
        t.ctr (Obj.HST_ATS_INVALIDATIONS + fidPort f) =
          Nat.min u64Max (s.ctr (Obj.HST_ATS_INVALIDATIONS + fidPort f) + 1)) ∧
    (∀ p, (s.hs.pri.find? fun p => p.fid == f && p.page == page) = some p →
      (∃ u : State, exec (.pageRequestResponse dt f page 0) s = .next (u.serveLink (u.linkOf f)) ∧
        u.hs.pri = s.hs.pri.filter (fun x => x != p) ∧
        u.hs.xl = s.hs.xl.filter (fun x => !(x.fid == f && x.page == page)) ∧
        ∀ x, s.qp? f p.q = some x → u.qp? f p.q = some { x with page := none }) ∧
      ∃ u : State, u = ((s.after dt).endPage p).pageFails p ∧
        exec (.pageRequestResponse dt f page 1) s = .next (u.serveLink (u.linkOf f)) ∧
        ∃ v : State, exec (.pageRequestResponse dt f page 15) s = .next (v.serveLink (v.linkOf f)) ∧
          (v.fn f).priStopped = true ∧ v.hs.pri = u.hs.pri ∧ v.hs.works = u.hs.works) ∧
    (∀ p, (s.hs.pri.find? fun p => p.fid == f && p.page == page) = some p →
      p.at_ + s.cfg (Obj.HST_PRI_TIMEOUT_MS + fidPort f) * 1000000 ≤ s.clock + dt →
      ∃ u : State, u = ((((s.tick dt).endPage p).pageFails p).bump (Obj.HST_PRI_TIMEOUTS + fidPort f)) ∧
        exec (.priTimeout dt f page) s = .next (u.serveLink (u.linkOf f)))

/-- Bus master enable, FLR, D-state, MSI-X unmask, VF enable, self reset and core interrupt entries take their effect, and a
configuration request is answered with its completion, or with Request Retry Status while the function is not ready;
FN_DRAIN_LIMIT squashes a drain; a reset completes when no tag is out and leaves no queue pair and no translation. -/
def Obligations.FunctionControlsTakeEffect : Prop :=
  (∀ (dt f : Nat) (s : State),
    ((s.after dt).cfgReach f = .takes →
      ((s.fn f).bme = true → ∃ u : State, exec (.bmeClear dt f) s = .next (u.reply (u.linkOf f) 0 ⟨0, false, false⟩ []) ∧
        (u.fn f).bme = false ∧ (∀ r ∈ u.hs.reqs, r.fid = f → r.dead = true) ∧ u.out = s.out) ∧
      ((s.fn f).bme = false → ∃ u v : State, v = (u.resumeFn f).pump (u.linkOf f) ∧
        exec (.bmeSet dt f) s = .next (v.reply (v.linkOf f) 0 ⟨0, false, false⟩ []) ∧ (u.fn f).bme = true ∧
        u.pkts = s.pkts ∧ u.hs.reqs = s.hs.reqs) ∧
      (∃ u : State, exec (.flr dt f) s = .next (u.reply (u.linkOf f) 0 ⟨0, false, false⟩ []) ∧
        ((u.fn f).reset = 1 ∨ (u.fn f).reset = 3) ∧ (u.fn f).bme = false ∧ (u.fn f).wq = []) ∧
      (fidVf f = false → (s.fn f).d3 = false → ∃ u : State,
        exec (.dStateChange dt f true) s = .next (u.reply (u.linkOf f) 0 ⟨0, false, false⟩ []) ∧
        (u.fn f).d3 = true ∧ (u.fn f).pmeStatus = (s.fn f).pmeStatus ∧ u.hs.reqs = s.hs.reqs) ∧
      (fidVf f = false → (s.fn f).d3 = true → ∃ u v : State, v = (u.resumeFn f).pump (u.linkOf f) ∧
        exec (.dStateChange dt f false) s = .next (v.reply (v.linkOf f) 0 ⟨0, false, false⟩ []) ∧ (u.fn f).d3 = false ∧
          (u.fn f).pmeStatus = false) ∧
      (∃ u v : State, v = u.flushPba f ∧
        exec (.msixUnmask dt f none) s = .next (v.reply (v.linkOf f) 0 ⟨0, false, false⟩ []) ∧
        (u.fn f).msixMask = false ∧ (u.fn f).pba = (s.fn f).pba) ∧
      (∀ en n, fidVf f = false → n ≤ pfcTotalVfs (s.pfc (fidPort f) (fidNum f)) → ∃ u v : State, ∃ gone : List Nat,
        v = gone.foldl State.hardSquash u ∧
        exec (.vfEnable dt f en n) s = .next (v.reply (v.linkOf f) 0 ⟨0, false, false⟩ []) ∧ (u.fn f).vfEn = en ∧
          (u.fn f).numVfs = n ∧ ∀ g ∈ gone, fidVf g = true ∧ s.fnExists g = true ∧ u.fnExists g = false)) ∧
    ((s.after dt).cfgReach f = .retry → ∀ c ∈ [Instr.bmeClear dt f, .bmeSet dt f, .flr dt f, .dStateChange dt f true,
        .dStateChange dt f false, .msixUnmask dt f none], exec c s =
      .next ((s.after dt).reply (s.linkOf f) 2 ⟨0, false, false⟩ [])) ∧
    ((s.after dt).reach f = .takes →
      (∀ v, ∃ u : State, exec (.msixUnmask dt f (some v)) s = .next (u.flushPba f) ∧
        bit ((u.fn f).msixEntry v).2.2 0 = false ∧ (u.fn f).msixMask = (s.fn f).msixMask) ∧
      (coreFid f = true →
        (∃ t, exec (.fnSelfReset dt f 1) s = .next t ∧ ((t.fn f).reset = 1 ∨ (t.fn f).reset = 3) ∧ (t.fn f).wq = []) ∧
        (∀ v, v ≠ 1 → exec (.fnSelfReset dt f v) s = .next (s.after dt)) ∧
        ∀ e v, e < s.fnCfg Obj.FN_VECTORS f → (s.fn f).pend = [] → ∃ t, exec (.coreIntEntryWrite dt f e v) s = .next t ∧
          lookup? (t.fn f).coreInt e = some (v % 2 ^ 15) ∧ t.core = s.core))) ∧
  (∀ (dt f : Nat) (s : State), s.alive = true →
    ((s.fn f).reset = 2 → (s.fn f).resetAt + s.cfg Obj.FN_DRAIN_LIMIT_MS * 1000000 ≤ s.clock + dt →
      ∃ t, exec (.drainLimit dt f) s = .next t ∧ ((t.fn f).reset = 1 ∨ (t.fn f).reset = 3)) ∧
    (coreFid f = false ∨ s.coreLost = false → (s.fn f).reset = 1 ∨ (s.fn f).reset = 3 →
      (s.tagsOut f = true → ∃ t, exec (.functionResetComplete dt f) s = .next t ∧ (t.fn f).reset = 3 ∧
        t.hs.qp = s.hs.qp) ∧
      (s.tagsOut f = false → ∃ t, exec (.functionResetComplete dt f) s = .next t ∧
        t.cfg (Obj.FN_RESET_STATE + fnSub f) (fnIdx f) = 0 ∧ (∀ q ∈ t.hs.qp, q.1 / 65536 ≠ f) ∧
        (∀ x ∈ t.hs.xl, x.fid ≠ f))))

/-- QPC_CREATE answers its check's status and makes a fresh pair on 0; QPC_MODIFY changes only the control word;
QPC_QUERY shows the pair; each counts an overlap while a command runs. Doorbells beyond the function's pairs are counted;
an accepted submission doorbell moves the producer index or the NVMe tail and nothing else of the pair, an accepted
completion doorbell frees the slots and lets what waited for them go on; one out of range is counted and moves nothing. -/
def Obligations.QueuePairsAreMadeAndRung : Prop :=
  ∀ (dt f q v : Nat) (s : State), (s.after dt).reach f = .takes →
    ((s.fn f).qpcStatus = 5 → ∀ c ∈ [Instr.qpcCreate dt f, .qpcModify dt f, .qpcQuery dt f], exec c s =
      .next ((s.after dt).bump (Obj.FN_CMD_OVERLAP + fnSub f))) ∧
    ((s.fn f).qpcStatus ≠ 5 →
      (∃ st, st = (s.after dt).createStatus f (s.fn f).qpcSel (s.fn f).qpcCtrl (s.fn f).qpcSq (s.fn f).qpcCq (s.fn f).qpcHead
          (s.fn f).qpcAux ∧
        (st = 0 → ∃ u : State, exec (.qpcCreate dt f) s = .next (u.flushTargets f) ∧ (u.fn f).qpcStatus = 0 ∧
          u.qp? f (s.fn f).qpcSel = some (Qp.fresh (s.fn f).qpcCtrl (s.fn f).qpcSq (s.fn f).qpcCq (s.fn f).qpcHead
            (s.fn f).qpcAux)) ∧
        (st ≠ 0 → ∃ t, exec (.qpcCreate dt f) s = .next t ∧ (t.fn f).qpcStatus = st ∧ t.hs.qp = s.hs.qp)) ∧
      (∀ x, s.qp? f (s.fn f).qpcSel = some x →
        (modifiable (s.fn f).qpcCtrl = modifiable x.ctrl → (s.fn f).qpcSq = x.sqBase → (s.fn f).qpcCq = x.cqBase →
          (s.fn f).qpcHead = x.headAddr → (s.fn f).qpcAux = x.aux →
          fld (s.fn f).qpcCtrl 16 12 < s.fnCfg Obj.FN_VECTORS f → ∃ t, exec (.qpcModify dt f) s = .next t ∧
          (t.fn f).qpcStatus = 0 ∧ t.qp? f (s.fn f).qpcSel = some { x with ctrl := (s.fn f).qpcCtrl }) ∧
        ((s.fn f).qpcSq ≠ x.sqBase ∨ (s.fn f).qpcCq ≠ x.cqBase ∨ (s.fn f).qpcHead ≠ x.headAddr ∨ (s.fn f).qpcAux ≠ x.aux →
          ∃ t, exec (.qpcModify dt f) s = .next t ∧ (t.fn f).qpcStatus = 2 ∧ t.hs.qp = s.hs.qp) ∧
        ∃ t, exec (.qpcQuery dt f) s = .next t ∧ (t.fn f).qpcStatus = 0 ∧ (t.fn f).qpcCtrl = x.ctrl ∧
          (t.fn f).qpcSq = x.sqBase ∧ (t.fn f).qpcCq = x.cqBase ∧ (t.fn f).qpcHead = x.headAddr ∧
          (t.fn f).qpcAux = x.aux ∧ (t.fn f).qpcSqIndex = x.prod + x.cons * 2 ^ 32 ∧
          (t.fn f).qpcCqIndex = x.cq + x.ccons * 2 ^ 32 ∧ t.hs.qp = s.hs.qp) ∧
      (s.qp? f (s.fn f).qpcSel = none →
        (∃ t, exec (.qpcModify dt f) s = .next t ∧ (t.fn f).qpcStatus = 2 ∧ t.hs.qp = s.hs.qp) ∧
        ∃ t, exec (.qpcQuery dt f) s = .next t ∧ (t.fn f).qpcStatus = 2 ∧ t.hs.qp = s.hs.qp)) ∧
    (s.qpCount f ≤ q →
      exec (.submissionDoorbell dt f q v) s = .next ((s.after dt).bump (Obj.HST_DOORBELL_BAD + fnSub f)) ∧
      exec (.completionDoorbell dt f q v) s = .next ((s.after dt).bump (Obj.HST_DOORBELL_BAD + fnSub f))) ∧
    (∀ x, q < s.qpCount f → s.persona f ≠ 3 → s.qp? f q = some x →
      (s.mode.mode ≠ .drain ∨ x.kind = 2 → (s.fn f).reset ≠ 2 → v < 2 ^ 32 → x.kind ≠ 5 →
        (v + 2 ^ 32 - x.prod) % 2 ^ 32 ≤ x.sqSize → (v + 2 ^ 32 - x.cons) % 2 ^ 32 ≤ x.sqSize →
        exec (.submissionDoorbell dt f q v) s = .next ((s.after dt).setQp f q { x with prod := v })) ∧
      (s.mode.mode = .drain → x.kind ≠ 2 →
        exec (.submissionDoorbell dt f q v) s = .next ((s.after dt).bump Obj.MODE_DRAIN_DOORBELLS)) ∧
      ((s.fn f).reset ≠ 2 → v < 2 ^ 32 → 1 ≤ (v + 2 ^ 32 - x.ccons) % 2 ^ 32 →
        (v + 2 ^ 32 - x.ccons) % 2 ^ 32 ≤ (x.cq + 2 ^ 32 - x.ccons) % 2 ^ 32 → ∃ u : State,
        exec (.completionDoorbell dt f q v) s = .next ((u.unstage f q).flushTargets f) ∧
          u.qp? f q = some { x with ccons := v } ∧ u.pkts = s.pkts) ∧
      ((s.fn f).reset ≠ 2 → 2 ^ 32 ≤ v →
        (s.mode.mode ≠ .drain → exec (.submissionDoorbell dt f q v) s =
          .next ((s.after dt).bump (Obj.HST_DOORBELL_BAD + fnSub f))) ∧
        exec (.completionDoorbell dt f q v) s = .next ((s.after dt).bump (Obj.HST_DOORBELL_BAD + fnSub f)))) ∧
    (q < s.qpCount f → s.persona f = 3 →
      (∀ c, lookup? s.stg.sq (qpKey f q) = some c →
        (s.mode.mode ≠ .drain → (s.fn f).reset ≠ 2 → v < c.size →
          exec (.submissionDoorbell dt f q v) s = .next ((s.after dt).setSq (qpKey f q) { c with tail := v })) ∧
        (s.mode.mode ≠ .drain → (s.fn f).reset ≠ 2 → c.size ≤ v → exec (.submissionDoorbell dt f q v) s =
          .next ((s.after dt).bump (Obj.HST_DOORBELL_BAD + fnSub f)))) ∧
      ∀ c, lookup? s.stg.cq (qpKey f q) = some c →
        (c.wait = [] → v < c.size → exec (.completionDoorbell dt f q v) s =
          .next ((s.after dt).setCq (qpKey f q) { c with head := v })) ∧
        (c.size ≤ v → exec (.completionDoorbell dt f q v) s =
          .next ((s.after dt).bump (Obj.HST_DOORBELL_BAD + fnSub f))))

/-- TX_PACKET_FETCH starts the packet of the pair in turn, completes a descriptor whose fetch fails with ACCESS, or waits for
translations; TX_DATA_COMPLETE, with room in the pair's completion staging, completes the work and, where it succeeded,
enters its bytes as a packet or in VIGIL sends them on the rescue port; RX_PACKET_DELIVERY delivers into the buffers that were
fetched, or drops and counts; MODERATION_TIMER raises the pending interrupt once. -/
def Obligations.PacketRingsMovePackets : Prop :=
  ∀ (dt f q : Nat) (given : HostRead) (s : State), s.alive = true →
    (∀ x, ((s.tick dt).txPick (arbOf f)).1 = some f → (s.tick dt).txPair f = some q → s.qp? f q = some x →
      s.mayAnswer f given = true →
      (∀ t1, (s.after dt).fetch f q x ((s.after dt).ringAttr f x) (x.txSlots given) given = .wait t1 →
        exec (.txPacketFetch dt f q given) s = .next t1) ∧
      (∀ b t1, (s.after dt).fetch f q x ((s.after dt).ringAttr f x) (x.txSlots given) given = .got b t1 →
        (x.txPacket given b = none → exec (.txPacketFetch dt f q given) s =
          .next (t1.setQp f q { x with short := some x.prod })) ∧
        ∀ pk, x.txPacket given b = some pk → ∃ u : State,
          exec (.txPacketFetch dt f q given) s = .next u ∧
          u = ((t1.txPick (arbOf f)).2.startTx f q x pk) ∧
          (coreFid f = true → u.qp? f q = some { x with taken := (x.taken + x.txCount pk) % 2 ^ 32, fail := false } ∧
            ∃ w : Work, u.hs.works = (t1.txPick (arbOf f)).2.hs.works ++ [w] ∧ w.fid = f ∧ w.q = q ∧ w.first = x.taken ∧
              w.n = x.txCount pk ∧ w.todo = [])) ∧
      (∀ t1, (s.after dt).fetch f q x ((s.after dt).ringAttr f x) (x.txSlots given) given = .lost t1 → ∃ v : State,
        exec (.txPacketFetch dt f q given) s = .next (v.complete f q ((x.taken + 1) % 2 ^ 32)
          (toLe 8 ((x.taken + 1) % 2 ^ 32 + 2 ^ 32) ++ toLe 8 3)) ∧
        v.qp? f q = some { x with taken := (x.taken + 1) % 2 ^ 32, fail := false })) ∧
    (∀ w, (s.fn f).reset ≠ 1 → (s.fn f).reset ≠ 3 → s.work? f q = some w → w.done = true → s.stageRoom f q = true →
      ∃ u : State, exec (.txDataComplete dt f q) s = .next (u.complete f q (w.first + w.n) (txEntry w)) ∧
        u.hs.works = s.hs.works.filter (fun x => x.id != w.id) ∧
        (w.status ≠ 0 → u.pkts = s.pkts ∧ u.out = s.out) ∧
        (w.status = 0 → ∃ bytes : Bytes, (∀ x, s.qp? f q = some x → x.kind ≠ 8 → bytes = w.got.flatMap (fun g => g.2)) ∧
          (∀ x, s.qp? f q = some x → x.kind = 8 → bytes = (w.got.flatMap (fun g => g.2)).drop 12) ∧
          (s.mode.mode ≠ .vigil → ∃ p, u.pkts = s.pkts ++ [p] ∧ p.bytes = bytes ∧ p.loc = .txReady ∧
            p.srcId = f ∧ p.id = s.nextPkt) ∧
          (s.mode.mode = .vigil → s.cfg (Obj.NET_LINK_STATE + s.rescuePort) = 4 →
            u.out = s.out ++ [(s.clock + dt, .net s.rescuePort bytes)] ∧ u.pkts = s.pkts))) ∧
    (∀ p, s.stagedFor f = some p → s.mayAnswer f given = true →
      exec (.rxPacketDelivery dt f given) s = .next ((s.after dt).deliver f p given) ∧
      (∀ c, (s.after dt).rxTest f p = .inl c → s.mode.mode ≠ .vigil → exec (.rxPacketDelivery dt f given) s =
        .next (((s.after dt).bump (c + fnSub f)).dropPkt p.id)) ∧
      ∀ y x b t1 bufs, (s.after dt).rxTest f p = .inr (y, x) → (s.fn f).stalled = false → s.mayWrite f = true →
        x.kind ≠ 8 → x.page = none → (s.after dt).fetch f y { x with fail := false } ((s.after dt).ringAttr f x)
          (x.slots (x.rxCount (coreFid f) given)) given = .got b t1 →
        takeBuffers 0 (entries x.sqEntrySize b) p.len = some bufs → coreFid f = true ∨ (t1.fn f).ats = false →
        exec (.rxPacketDelivery dt f given) s = .next (t1.fillBuffers f y x p bufs)) ∧
    (∀ x, s.qp? f q = some x → bit x.ctrl 28 = true → x.pend ≠ 0 → fld x.ctrl 29 10 ≠ 0 →
      x.pendAt + fld x.ctrl 29 10 * 1000 ≤ s.clock + dt → exec (.moderationTimer dt f q) s =
        .next (((s.tick dt).setQp f q { x with pend := 0, pendAt := 0 }).hostWrite f (.int x.vec (s.pasidOf f x))))

/-- START_LOG, SYNC, STOP_LOG, HOLD, SAVE, RESTORE and RELEASE of a target function set its log, hold and restored state
and the controller's status, 3 where there is no such target; a restore image that fails its checks changes nothing of the
target; HOLD_COMPLETE answers 0 when the function is idle and 1 when the limit passed. -/
def Obligations.MigrationCommandsRun : Prop :=
  ∀ (dt c f : Nat) (s : State),
    ((s.after dt).reach c = .takes → s.controls c = true → (s.fn c).migStatus % 256 ≠ 5 → s.migTarget c = none →
      ∀ i ∈ [Instr.startLog dt c, .sync dt c, .stopLog dt c, .hold dt c, .save dt c, .release dt c],
        exec i s = .next ((s.after dt).setMig c 3 0)) ∧
    ((s.after dt).reach c = .takes → s.controls c = true → (s.fn c).migStatus % 256 ≠ 5 → s.migTarget c = some f → c ≠ f →
      (s.logRing? f ≠ none → (s.fn f).logOn = false → (∀ x ∈ s.qpsOf f, bit x.2.ctrl 55 = false) →
        ∃ t, exec (.startLog dt c) s = .next t ∧ (t.fn f).logOn = true ∧ (t.fn f).log2m = bit (s.fn c).migArg0 0 ∧
          (t.fn c).migStatus = 0 ∧ ∀ e ∈ t.hs.logFilter, e.2.1 ≠ f) ∧
      ((s.fn f).logOn = true → ∃ t, exec (.sync dt c) s = .next t ∧ (t.fn f).logOn = true ∧ (t.fn c).migStatus = 0 ∧
        ∀ e ∈ t.hs.logFilter, e.2.1 ≠ f) ∧
      ((s.fn f).logOn = false → ∃ t, exec (.sync dt c) s = .next t ∧ (t.fn c).migStatus = 2) ∧
      (∃ u : State, exec (.stopLog dt c) s = .next ((u.flushFn f).setMig c 0 0) ∧ (u.fn f).logOn = false) ∧
      (∃ t, exec (.hold dt c) s = .next t ∧ (t.fn f).held = true ∧ (t.fn f).holding = some (c, s.clock + dt) ∧
        (t.fn c).migStatus = 5) ∧
      ((s.fn f).held = false → ∃ t, exec (.save dt c) s = .next t ∧ (t.fn c).migStatus = 1 ∧ t.pkts = s.pkts) ∧
      ((s.fn f).held = true → ∃ len, len = imageLen ((s.after dt).migBody f).span
          (s.fnCfg Obj.FN_VECTORS f) ((s.after dt).migBody f).stagedCount ∧
        ((s.fn c).migArg1 < len → ∃ t, exec (.save dt c) s = .next t ∧ (t.fn c).migStatus = 2 + len * 2 ^ 32) ∧
        (len ≤ (s.fn c).migArg1 → coreFid c = false ∨ s.inApp (s.fn c).migArg0 len = true →
          ((s.after dt).migBody f).stagedCount < 2 ^ 32 → ∃ b : Bytes, exec (.save dt c) s = .next (((s.after dt).jobWrite c
            { ro := false, ido := false, pasid := none, tph := none } (s.fn c).migArg0 b).setMig c 0 0) ∧
          b.length = len ∧ slice b 20 4 = toLe 4 (crc32c 0 (splice b 20 [0, 0, 0, 0])))) ∧
      (∀ hdr b, (s.fn f).held = false → ∃ t, exec (.restore dt c hdr b none) s = .next t ∧ (t.fn c).migStatus = 1) ∧
      (∀ hdr b w, (s.fn f).held = true → s.qpsOf f = [] → coreFid c = false → ∃ t,
        exec (.restore dt c hdr b (some w)) s = .next t ∧ (t.fn c).migStatus = 3 ∧ t.hs.qp = s.hs.qp) ∧
      (∀ hdr b, (s.fn f).held = true → s.qpsOf f = [] → coreFid c = false → s.imageOk f hdr b = false → ∃ t,
        exec (.restore dt c hdr b none) s = .next t ∧ (t.fn c).migStatus = 2 ∧ t.hs.qp = s.hs.qp ∧ t.fn f = s.fn f) ∧
      (∀ hdr b, (s.fn f).held = true → s.qpsOf f = [] → coreFid c = false → s.imageOk f hdr b = true →
        ∃ t, exec (.restore dt c hdr b none) s = .next t ∧ (t.fn c).migStatus = 0 ∧ (t.fn f).msix = b.msix ∧
          (t.fn f).pba = b.pba ∧ (t.fn f).pend = b.pend ∧ (t.fn f).steer = b.steer ∧ (t.fn f).page = b.page ∧
          (t.fn f).held = true ∧
          ∀ q x, b.qps = [(q, x)] → t.qp? f q = some x) ∧
      (∃ u v : State, v = (u.qpsOf f).foldl (fun a q => a.unstage f q.1) u ∧ exec (.release dt c) s =
          .next ((State.setMig (v.resumeFn f) c 0 0).pump ((v.resumeFn f).linkOf f)) ∧
        (u.fn f).held = false ∧ (u.fn f).holding = none ∧ u.hs.qp = s.hs.qp)) ∧
    (∀ at_, s.alive = true → (s.fn f).holding = some (c, at_) → c ≠ f →
      (s.heldIdle f = true → ∃ t, exec (.holdComplete dt f) s = .next t ∧
        (t.fn f).holding = none ∧ (t.fn f).held = (s.fn f).held ∧ (t.fn c).migStatus = 0) ∧
      (s.heldIdle f = false → at_ + s.cfg Obj.MIG_HOLD_LIMIT_MS * 1000000 ≤ s.clock + dt →
        ∃ t, exec (.holdComplete dt f) s = .next t ∧ (t.fn f).holding = none ∧ (t.fn c).migStatus = 1))

/-- Each of the ten operations, first use: its ring in turn and an engine free, the ring is marked as served and its
descriptor taken up; where a core-side function's descriptor, parameter block, source and key are good, its result is what
Table 12-11 has the operation compute, held with an end at least 10 ns later; SA_WRITE stores its association, SA_READ reads
it; a descriptor that cannot be read fails with status 3, a misaligned parameter address with 2. Second use: the ring's
oldest operation has ended and is written to its destination with its completion, or completes with its status. -/
def Obligations.LookasideOperationsAreTakenInTurn : Prop :=
  ∀ (dt f q op : Nat) (given param data : HostRead) (x : Qp) (s : State) (c : Instr),
    (op = 1 ∧ c = .encrypt dt f q given param data ∨ op = 2 ∧ c = .decrypt dt f q given param data ∨
      op = 3 ∧ c = .mac dt f q given param data ∨ op = 4 ∧ c = .verify dt f q given param data ∨
      op = 5 ∧ c = .tlsSeal dt f q given param data ∨ op = 6 ∧ c = .tlsOpen dt f q given param data ∨
      op = 7 ∧ c = .xtsEnc dt f q given param data ∨ op = 8 ∧ c = .xtsDec dt f q given param data ∨
      op = 9 ∧ c = .saWrite dt f q given param data ∨ op = 10 ∧ c = .saRead dt f q given param data) →
    s.traffic = true → s.qp? f q = some x → s.mayAnswer f given = true → s.mayAnswer f param = true →
    s.mayAnswer f data = true →
    ((s.tick dt).laEnded f q = none → (s.tick dt).laNext f q = true → laIs op (s.jobDesc f x given) = true →
      (∀ t1, (s.after dt).jobFetch f q x given = .wait t1 → exec c s = .next t1) ∧
      (∀ t1, (s.after dt).jobFetch f q x given = .lost t1 → ∃ t r, exec c s = .next t ∧ t.cry.ring = qpKey f q ∧
        t.hs.runs = t1.hs.runs ++ [r] ∧ r.fid = f ∧ r.q = q ∧ r.status = 3) ∧
      (∀ d t1, (s.after dt).jobFetch f q x given = .got d t1 → ∃ u : State, u = t1.setCry { t1.cry with ring := qpKey f q } ∧
        exec c s = .next (u.laTake f q x d param data) ∧
        (op ≠ 10 → ldOp d = op → ldParam d % 64 ≠ 0 → ∃ t r, exec c s = .next t ∧ t.hs.runs = t1.hs.runs ++ [r] ∧
          r.desc = d ∧ r.status = 2)) ∧
      (∀ d p src key s1, coreFid f = true → x.fail = false → s.jobDesc f x given = some d → ldOp d = op → op ≤ 8 →
        fld (leWord d 2) 28 4 = 0 → ldParam d % 64 = 0 → s.appRead (ldParam d) 128 = some p → pbBad p = false →
        pbAlg p ∈ laAlgs op → laLenOk op d p = true → s.appRead (ldSrc d) (ldLen d) = some src → tlsBad op d src = false →
        ((s.after dt).setCry { s.cry with ring := qpKey f q }).ringKey (qpKey f q) (pbSlot p) (pbAlg p) (pbLabel p) =
          .key key s1 →
        ∃ t ends, exec c s = .next t ∧ t.hs.runs = s.hs.runs ++
            [⟨f, q, d, ends, some (pbSlot p), 0, laCompute op key d p src⟩] ∧
          (s.clock + dt + 10) * engineUnits ≤ ends ∧ t.cry.ring = qpKey f q ∧
          t.qp? f q = some { x with taken := (x.taken + 1) % 2 ^ 32, fail := false } ∧ t.core = s.core) ∧
      (∀ d p, coreFid f = true → x.fail = false → s.jobDesc f x given = some d → ldOp d = 9 → op = 9 →
        fld (leWord d 2) 28 4 = 0 → fld (leWord d 2) 19 2 = 0 → ldParam d % 64 = 0 → s.appRead (ldParam d) 128 = some p →
        (s.after dt).saStatus f (ldSa d) p = 0 → ∃ t r y, exec c s = .next t ∧ t.hs.runs = s.hs.runs ++ [r] ∧ r.status = 0 ∧
          lookup? t.cry.sas (ldSa d) = some y ∧ y.ent = p) ∧
      (∀ d, coreFid f = true → x.fail = false → s.jobDesc f x given = some d → ldOp d = 10 → op = 10 →
        fld (leWord d 2) 28 4 = 0 → fld (leWord d 2) 19 2 = 0 → s.saWriter f (ldSa d) none = true → ∃ t r,
          exec c s = .next t ∧ t.hs.runs = s.hs.runs ++ [r] ∧ r.status = 0 ∧ r.res.out = s.saRead (ldSa d) ∧
            t.cry.sas = s.cry.sas)) ∧
    (∀ r, (s.tick dt).laEnded f q = some r → laIs op (some r.desc) = true →
      (r.status ≠ 0 → ∃ u : State, exec c s = .next (u.complete f q (x.cons + 1) (lcEntry r.desc r.status 0 0 0)) ∧
        u.hs.runs = s.hs.runs.erase r ∧ u.qp? f q = some x ∧
        u.ctr Obj.CIPH_LA_BAD = Nat.min u64Max (s.ctr Obj.CIPH_LA_BAD + 1)) ∧
      (∀ tls, r.status = 0 → coreFid f = true → s.inApp (ldDst r.desc) r.res.out.length = true → r.res.tls = some tls →
        ∃ (v : State) (a : Attr), exec c s = .next ((v.jobWrite f a (ldDst r.desc) r.res.out).laOver r
            (lcEntry r.desc 0 r.res.verdict tls r.res.out.length)) ∧ v.core = s.core ∧ v.hs.runs = s.hs.runs ∧
          v.ctr Obj.CIPH_LA_OPS = Nat.min u64Max (s.ctr Obj.CIPH_LA_OPS + 1)))

/-- CC enable, disable and shutdown set the registers and queues they should; the four admin commands run on the entry fetched,
make or remove the queue they name, and are answered; an arriving command passes to its service: into the oldest unused POST, or
to wait for one; POST adds a buffer, RESPOND frees its tag and answers, XFER moves its units into application memory; a bad
descriptor fails with status 2, one that cannot be read with 3. -/
def Obligations.StorageControllersQueuesAndCommands : Prop :=
  (∀ (dt f cc : Nat) (s : State), (s.after dt).reach f = .takes → s.persona f = 3 →
    (bit cc 0 = true → bit (s.nvme f).cc 0 = false → s.qpCount f ≠ 0 → ∃ t, exec (.controllerEnable dt f cc) s = .next t ∧
      (t.nvme f).cc = cc % 2 ^ 32 ∧ (t.nvme f).csts = 1 ∧
      lookup? t.stg.sq (qpKey f 0) = some ⟨(s.nvme f).asq, fld (s.nvme f).aqa 0 12 + 1, 0, 0, 0⟩ ∧
      lookup? t.stg.cq (qpKey f 0) = some ⟨(s.nvme f).acq, fld (s.nvme f).aqa 16 12 + 1, 0, 0, true, []⟩) ∧
    (bit cc 0 = false → bit (s.nvme f).cc 0 = true → ∃ t, exec (.controllerReset dt f cc) s = .next t ∧
      (t.nvme f).cc = cc % 2 ^ 32 ∧ (t.nvme f).csts = 0 ∧ (∀ x ∈ t.hs.qp, x.1 / 65536 ≠ f) ∧
      ∀ x ∈ t.stg.sq, x.1 / 65536 ≠ f) ∧
    (fld cc 14 2 ≠ 0 → ∃ t, exec (.controllerShutdown dt f cc) s = .next t ∧ (t.nvme f).cc = cc % 2 ^ 32 ∧
      fld (t.nvme f).csts 2 2 = 2 ∧ t.hs = s.hs)) ∧
  (∀ (dt f : Nat) (entry b : Bytes) (x : Qp) (s t1 : State), s.alive = true → (s.tick dt).nvmeFetch f 0 = true →
    s.qp? f 0 = some x →
    (s.after dt).fetch f 0 x ((s.after dt).ringAttr f x) [((s.after dt).sqFront f 0, 64, false)] (.data entry) = .got b t1 →
    (∀ (c : Instr) (act : State → Nat × State) (op : Nat),
      (op = 1 ∧ c = .createIoSubmissionQueue dt f entry ∧ act = (fun t => t.createSq f entry) ∨
        op = 0 ∧ c = .deleteIoSubmissionQueue dt f entry ∧ act = (fun t => t.deleteSq f entry) ∨
        op = 5 ∧ c = .createIoCompletionQueue dt f entry ∧ act = (fun t => t.createCq f entry) ∨
        op = 4 ∧ c = .deleteIoCompletionQueue dt f entry ∧ act = fun t => t.deleteCq f entry) →
      sqeOp entry = op → ∃ r, r = act (t1.sqTake f 0) ∧ exec c s = .next (r.2.nvmeAnswer f 0 (sqeCid entry) 0 r.1)) ∧
    ∀ q, q = fld (sqeDw entry 10) 0 16 → q ≠ 0 →
      (sqeOp entry = 1 → q < s.qpCount f → q ≤ 64 → lookup? s.stg.sq (qpKey f q) = none →
        fld (sqeDw entry 11) 16 16 ≠ 0 → lookup? s.stg.cq (qpKey f (fld (sqeDw entry 11) 16 16)) ≠ none →
        1 ≤ fld (sqeDw entry 10) 16 16 → bit (sqeDw entry 11) 0 = true → sqePrp1 entry % (s.nvme f).page = 0 →
        ∃ u : State, exec (.createIoSubmissionQueue dt f entry) s = .next (u.nvmeAnswer f 0 (sqeCid entry) 0 0) ∧
          lookup? u.stg.sq (qpKey f q) =
            some ⟨sqePrp1 entry, fld (sqeDw entry 10) 16 16 + 1, 0, 0, fld (sqeDw entry 11) 16 16⟩) ∧
      (sqeOp entry = 0 → lookup? s.stg.sq (qpKey f q) ≠ none → ∃ u : State,
        exec (.deleteIoSubmissionQueue dt f entry) s = .next (u.nvmeAnswer f 0 (sqeCid entry) 0 0) ∧
          lookup? u.stg.sq (qpKey f q) = none) ∧
      (sqeOp entry = 5 → q < s.qpCount f → q ≤ 64 → lookup? s.stg.cq (qpKey f q) = none →
        1 ≤ fld (sqeDw entry 10) 16 16 → bit (sqeDw entry 11) 0 = true →
        fld (sqeDw entry 11) 16 16 < s.fnCfg Obj.FN_VECTORS f → sqePrp1 entry % (s.nvme f).page = 0 →
        ∃ u : State, exec (.createIoCompletionQueue dt f entry) s = .next (u.nvmeAnswer f 0 (sqeCid entry) 0 0) ∧
          lookup? u.stg.cq (qpKey f q) =
            some ⟨sqePrp1 entry, fld (sqeDw entry 10) 16 16 + 1, 0, 0, true, []⟩) ∧
      (sqeOp entry = 4 → lookup? s.stg.cq (qpKey f q) ≠ none → (∀ y ∈ s.stg.sq, y.1 / 65536 = f → y.2.cqid ≠ q) →
        ∃ u : State, exec (.deleteIoCompletionQueue dt f entry) s = .next (u.nvmeAnswer f 0 (sqeCid entry) 0 0) ∧
          lookup? u.stg.cq (qpKey f q) = none)) ∧
  (∀ (dt f q ctx : Nat) (entry : HostRead) (b : Bytes) (chain : List (Nat × Nat × Bool)) (x : Qp) (s t1 : State),
    s.alive = true → ctx < 65536 → lookup? s.stg.cmds ctx = none → s.mayAnswer f entry = true → s.qp? f q = some x →
    (s.persona f = 3 → (s.tick dt).nvmeFetch f q = true → q ≠ 0 →
      (s.after dt).fetch f q x ((s.after dt).ringAttr f x) [((s.after dt).sqFront f q, 64, false)] entry = .got b t1 →
      exec (.storageCommandArrival dt f q ctx entry chain) s = .next ((t1.sqTake f q).stgArrive f q ctx b chain)) ∧
    (s.persona f = 2 → (s.tick dt).vblkFetch f q = true → chain ≠ [] →
      (s.after dt).fetch f q x ((s.after dt).ringAttr f x) [((chain.headD (0, 0, false)).1, 16, false)] entry = .got b t1 →
      exec (.storageCommandArrival dt f q ctx entry chain) s =
        .next ((t1.setQp f q { x with taken := (x.taken + 1) % 2 ^ 32, cons := (x.cons + 1) % 2 ^ 32 }).stgArrive
          f q ctx b chain)) ∧
    (∀ u : State, ∀ svc, u.svcPair f = some svc →
      (lookupD u.stg.posts svc [] = [] → ∃ c : StgCmd, lookup? (u.stgArrive f q ctx b chain).stg.cmds ctx = some c ∧
        c.fid = f ∧ c.queue = q ∧ c.svc = svc ∧ c.passed = false ∧
        (u.stgArrive f q ctx b chain).stg.waiting = u.stg.waiting ++ [ctx]) ∧
      (∀ addr cookie rest, lookupD u.stg.posts svc [] = (addr, cookie) :: rest → ∃ (v : State) (c : StgCmd),
        u.stgArrive f q ctx b chain = v.svcEntry svc (pcEntry cookie 0 1 0 (stgTag ctx c) 0) ∧
        lookup? v.stg.cmds ctx = some c ∧ c.fid = f ∧ c.queue = q ∧ c.passed = true ∧
        lookupD v.stg.posts svc [] = rest))) ∧
  (∀ (dt f q : Nat) (mem : List (Nat × Bytes)) (fail : Option ReadFail) (x : Qp) (s : State), s.alive = true →
    s.jobReady f q 7 = true → s.qp? f q = some x →
    (s.jobDesc f x (.data []) = none → exec (.post dt f q) s = .next ((s.after dt).jobDone f q (pcEntry 0 3 2 0 0 0))) ∧
    ∀ d, s.jobDesc f x (.data []) = some d →
      (psBad d = true → psIs 1 (some d) = true →
        exec (.post dt f q) s = .next (((s.after dt).bump Obj.STG_DESC_BAD).psFail f q d 2)) ∧
      (psBad d = false →
        (psOp d = 1 → psAddr d % 64 = 0 → s.inApp (psAddr d) 128 = true →
          (∀ w ∈ s.stg.waiting, ∀ y, lookup? s.stg.cmds w = some y → y.svc ≠ qpKey f q) → ∃ t, exec (.post dt f q) s = .next t ∧
            t.qp? f q = some { x with taken := (x.taken + 1) % 2 ^ 32, cons := (x.cons + 1) % 2 ^ 32 } ∧
            lookupD t.stg.posts (qpKey f q) [] = lookupD s.stg.posts (qpKey f q) [] ++ [(psAddr d, psCookie d)]) ∧
        (psOp d = 3 → s.stgCmd? (qpKey f q) (psTag d) = none →
          exec (.respond dt f q) s = .next ((s.after dt).psFail f q d 2)) ∧
        (∀ y, psOp d = 3 → s.stgCmd? (qpKey f q) (psTag d) = some y →
          fld (leWord d 1) 32 16 < (if s.persona y.fid = 3 then 2 ^ 15 else 2 ^ 8) → ∃ u : State,
          exec (.respond dt f q) s = .next (u.jobDone f q (pcEntry (psCookie d) 0 4 0 (psTag d) 0)) ∧
            lookup? u.stg.cmds (psTag d % 65536) = none) ∧
        (psOp d = 2 → exec (.xfer dt f q mem fail) s = .next ((s.after dt).psXfer f q d mem fail)) ∧
        (psOp d = 2 → s.stgCmd? (qpKey f q) (psTag d) = none ∨ psUnits d = 0 →
          exec (.xfer dt f q mem fail) s = .next ((s.after dt).psFail f q d 2)) ∧
        (∀ (y : StgCmd) (m : Fmt) (segs : List (Nat × Nat)) (lists : List Access) (z : Qp) (hs : List Bytes) (md : Bytes),
          psOp d = 2 → s.stgCmd? (qpKey f q) (psTag d) = some y → s.format f (psFormat d) = some m → psUnits d ≠ 0 →
          psXts d = false → psDir d = false → (s.after dt).walk y m d mem = .ok (segs, lists) →
          s.qp? y.fid y.queue = some z → z.page = none → s.mayRead y.fid = true → s.tagReady y.fid = true → fail = none →
          (s.fn y.fid).ats = false → coreFid y.fid = false → z.fail = false →
          s.inApp (psAddr d) (psUnits d * (m.unit + m.appMd)) = true →
          segs.mapM (fun g => hostBytes mem g.1 g.2) = some hs →
          hostBytes mem (sqeMptr (slice y.record 32 64) + m.hostMd * psUnitOff d)
            (if m.separate then psUnits d * m.hostMd else 0) = some md →
          ∃ u : State, u.core = s.core ∧ ∃ r, r = unitsToApp (psUnits d) hs.flatten md
              ⟨m, d, (s.after dt).startLba y m, none, none⟩ u ∧
            exec (.xfer dt f q mem fail) s = .next ((r.2.2.appWrite (psAddr d) r.2.1).xferDone f q r.1))))

/-- A management frame is answered or counted; a hello opens a fresh session, or is counted as failed or discarded;
close and 60 s of idleness remove the session from sessions, holder and queue; the mailbox takes a length, counts an
overlap and passes to the next message. -/
def Obligations.ManagementPortsOpenAndCloseSessions : Prop :=
  ∀ (dt port n : Nat) (s : State), s.alive = true →
    (∀ f, port < 2 → (port = 0 ∨ s.mailbox = false) →
      (f.ask < 4 → s.frameOk port f = true → s.ownAddr port f = true → exec (.mgmtFrameReceive dt port f) s =
        .next ((s.tick dt).emit (.mgmtAnswer port f.ask f.addr))) ∧
      (4 ≤ f.ask ∨ s.frameOk port f = false ∨ s.ownAddr port f = false → exec (.mgmtFrameReceive dt port f) s =
        .next ((s.tick dt).bump (Obj.MGMT_RX_DISCARD + port)))) ∧
    (∀ h, port < 2 → (port = 0 ∨ s.mailbox = false) →
      (s.hasAddr port h.at_ = true → h.num ∈ s.freeSess port → s.helloOk h = true →
        ∃ t x, exec (.clientHello dt port h) s = .next t ∧ t.mgmt.sessions = s.mgmt.sessions ++ [x] ∧ x.port = port ∧
          x.num = h.num ∧ x.mask = 0 ∧ x.stage = Staging.none_ ∧ x.chans = [] ∧ x.kept = [] ∧
          x.last = s.clock + dt ∧ t.dict = s.dict) ∧
      (s.hasAddr port h.at_ = true → s.freeSess port = [] ∨ s.helloOk h = false →
        exec (.clientHello dt port h) s = .next ((s.tick dt).bump (Obj.MGMT_DTLS_FAIL + port))) ∧
      (s.hasAddr port h.at_ = false →
        exec (.clientHello dt port h) s = .next ((s.tick dt).bump (Obj.MGMT_RX_DISCARD + port)))) ∧
    (s.hears (port, n) = true → ∃ t, exec (.sessionClose dt port n) s = .next t ∧ t.sess? (port, n) = none ∧
      t.mgmt.holder ≠ some (port, n) ∧ (port, n) ∉ t.mgmt.waiting) ∧
    ((s.tick dt).sessStale (port, n) = true →
      ∃ t, exec (.sessionIdleTimeout dt port n) s = .next t ∧ t.sess? (port, n) = none) ∧
    (s.mailbox = true → (s.after dt).reach 0 = .takes →
      (∀ v, s.mgmt.h2dBusy = false → 1 ≤ fld v 0 11 → fld v 0 11 ≤ 1280 → ∃ t, exec (.mbxH2dLen dt v) s = .next t ∧
        t.mgmt = { s.mgmt with h2dBusy := true } ∧ t.hs = s.hs) ∧
      (∀ v, s.mgmt.h2dBusy = true ∨ fld v 0 11 = 0 ∨ 1280 < fld v 0 11 → exec (.mbxH2dLen dt v) s =
        .next ((s.after dt).bump Obj.MGMT_MBX_OVERLAP)) ∧
      (∀ v, bit v 0 = true → s.mgmt.d2hReady = true → ∃ t, exec (.mbxD2hAck dt v) s = .next t ∧
        t.mgmt.d2h = s.mgmt.d2h.tail ∧ t.mgmt.d2hReady = !s.mgmt.d2h.tail.isEmpty))

/-- A CSM request waits, overlaps and is counted, or is answered with its cluster's clock set; a running hart reads and
writes exactly its bytes of application memory, faults on poison and on addresses that do not exist. -/
def Obligations.CoresAskAndAccessMemory : Prop :=
  ∀ (dt : Nat) (s : State), s.alive = true →
    (∀ op v c, (op = 1 ∧ c = .csmClusterClock dt (some v) ∨ op = 2 ∧ c = .csmTimeState dt (some v) ∨
        op = 3 ∧ c = .csmMode dt (some v)) → csmOp v = op →
      (s.mgmt.csmReq = none → exec c s = .next { s.tick dt with mgmt := { s.mgmt with csmReq := some v } }) ∧
      (s.mgmt.csmReq ≠ none → exec c s = .next ((s.tick dt).bump Obj.MGMT_CSM_OVERLAP))) ∧
    (∀ op v c, (op = 1 ∧ c = .csmClusterClock dt none ∨ op = 2 ∧ c = .csmTimeState dt none ∨
        op = 3 ∧ c = .csmMode dt none) → csmOp v = op → s.mgmt.csmReq = some v →
      ∃ t, exec c s = .next t ∧ t.mgmt.csmReq = none ∧ t.mgmt.csmReply = (s.tick dt).csmReply v ∧
        t.core.clocks = (if op = 1 ∧ csmBad v = false then s.core.clocks.set (csmCluster v) (csmMhz v) else s.core.clocks)) ∧
    (∀ h a, s.core.harts[h]? = some .running →
      (∀ n, s.inApp a n = true → s.poisoned (a - appBase) n = false → exec (.coreMemoryAccess dt h a n none) s =
        .next ((s.tick dt).emit (.coreData h (memRead s.core.mem (a - appBase) n)))) ∧
      (∀ n, s.inApp a n = true → s.poisoned (a - appBase) n = true → exec (.coreMemoryAccess dt h a n none) s =
        .next ((s.tick dt).emit (.coreFault h))) ∧
      (∀ n d, s.inApp a d.length = true → ∃ t, exec (.coreMemoryAccess dt h a n (some d)) s = .next t ∧
        t = { s.tick dt with core := { s.core with mem := memWrite s.core.mem (a - appBase) d } }) ∧
      (∀ n d, (s.coreAt a n = .reserved → exec (.coreMemoryAccess dt h a n none) s = .next ((s.tick dt).emit (.coreFault h))) ∧
        (s.coreAt a (List.length d) = .reserved →
          exec (.coreMemoryAccess dt h a n (some d)) s = .next ((s.tick dt).emit (.coreFault h)))))

/-- COLD_START, RESET_N_ASSERT, VIGIL_FIRMWARE_START, HBM_TRAINING_COMPLETE, SERVICE_IMAGE_RUNNING and EPOCH_ONE_COMMIT lead
from one stage to the next; a cold start keeps fuses and keys, RESET_N fuses and stored images. RESCUE_FRAME_RECEIVE counts
runts and frames with a bad FCS, discards what the rescue NIC does not take, and delivers the rest to PF0 of HA. -/
def Obligations.StartUpRunsInItsSteps : Prop :=
  ∀ (dt : Nat) (s : State),
    (∀ straps rose removed dipped hot, s.pwr.rails = .held ∨ s.pwr.rails = .off → (s.pwr.resetN = true ∨ rose = true) → s.pkg.jtag = false →
      s.pwr.tripped = false → s.pwr.ovLatch = false → ∃ t, exec (.coldStart dt straps rose removed dipped hot) s = .next t ∧
        t.pwr.rails = .boot ∧ t.pwr.reason = 0 ∧ t.pwr.resetN = true ∧ t.pwr.straps = straps ∧ t.now = 0 ∧ t.pkts = [] ∧
        t.tbl = [] ∧ t.core.mem = [] ∧ t.mgmt.sessions = [] ∧ t.fuse = s.fuse ∧ t.cry.kek = s.cry.kek ∧
        t.cry.slots = s.cry.slots) ∧
    (s.pwr.resetN = true → ∃ t, exec (.resetNAssert dt) s = .next t ∧ t.pwr.resetN = false ∧ t.alive = false ∧
      t.pkts = [] ∧ t.fuse = s.fuse ∧ t.store.held = s.store.held) ∧
    (∀ samples bad copies corrupt, s.pwr.rails = .boot → s.pkg.vflashOff = none → ∃ t pre,
      exec (.vigilFirmwareStart dt samples bad copies corrupt) s = .next t ∧ t.mode = ModeSt.reset ∧ t.alive = true ∧
        t.cfg Obj.MODE_CURRENT = 0 ∧ t.out = pre ++ [(s.clock + dt, .stage 1)]) ∧
    (s.alive = true → s.mode.mode = .vigil →
      (s.pwr.hbmDone = false →
        (∃ t, exec (.hbmTrainingComplete dt true true) s = .next t ∧ t.pwr.hbmDone = true ∧ t.pwr.stackOk = [true, true] ∧
          t.core.memUp = true) ∧
        (∃ u : State, exec (.hbmTrainingComplete dt false true) s = .next (u.startLame 0) ∧ u.pwr.stackOk = [false, true]) ∧
        (∃ u : State, exec (.hbmTrainingComplete dt true false) s = .next (u.startLame 1) ∧ u.pwr.stackOk = [true, false]) ∧
        ∃ t, exec (.hbmTrainingComplete dt false false) s = .next t ∧ t.pwr.hbmDone = false) ∧
      (∀ b, s.pwr.hbmDone = true → s.pwr.svcRunning = false → s.runBank = some b → s.pkg.vflashOff = none →
        (s.tick dt).serviceCode [] b b = 0 → ∃ t, exec (.serviceImageRunning dt []) s = .next t ∧
          t.pwr.svcRunning = true ∧ t.img.standby = true) ∧
      (∀ v, s.pwr.svcRunning = true → s.ep.live = [] → s.ep.applying = [] → (s.tick dt).badImage = none →
        v = Ver.with_ Ver.empty s.ep.openNum (s.tick dt).epochOne → (s.tick dt).checkVer v v.held = none →
        ∃ t c, exec (.epochOneCommit dt) s = .next t ∧ t.ep.applying = [(c, s.clock + dt + 2000)] ∧ Sealed.ver c = v ∧
          t.ep.openNum = (s.ep.openNum + 1) % 2 ^ 32) ∧
      (∀ f given, s.cfg (Obj.NET_LINK_STATE + s.rescuePort) = 4 →
        (∀ fcsOk, f.length < 60 → exec (.rescueFrameReceive dt f fcsOk given) s =
          .next ((s.after dt).bump (Obj.NET_RX_RUNT + s.rescuePort))) ∧
        (60 ≤ f.length → exec (.rescueFrameReceive dt f false given) s =
          .next ((s.after dt).bump (Obj.NET_RX_FCS_ERR + s.rescuePort))) ∧
        (60 ≤ f.length → beNat (slice f 12 2) ≠ 0x8808 →
          (f.length ≤ 9600 → s.rescueTakes f = true →
            ∃ u p, exec (.rescueFrameReceive dt f true given) s = .next (State.deliver u 0 p given) ∧ p.bytes = f ∧
              u.pkts = s.pkts ++ [p] ∧ p.id = s.nextPkt) ∧
          (9600 < f.length ∨ s.rescueTakes f = false →
            exec (.rescueFrameReceive dt f true given) s = .next (s.after dt)))))

/-- A drain is done when nothing is left, or forced at its limit; DORMANT is entered in step 3 or 4 and left to SERVICE
or DEGRADED in step 0; a wake source is held while entering, begins the exit, or restarts from the island. -/
def Obligations.DrainAndDormantEnd : Prop :=
  ∀ (dt g : Nat) (s : State),
    (s.alive = true → s.mode.mode = .drain → s.cfg Obj.MODE_DRAIN_DONE = 0 →
      ((s.tick dt).drainOver = true →
        exec (.drainDone dt) s = .next ((s.tick dt).latch Obj.MODE_DRAIN_DONE 1)) ∧
      (s.pwr.drainForced = false → s.pwr.drainAt + s.pwr.drainLimit * 1000000 ≤ s.clock + dt →
        ∃ t, exec (.modeDrainLimit dt) s = .next t ∧ t.pwr.drainForced = true)) ∧
    (s.alive = true → s.mode.mode = .dormant →
      (s.pwr.entering = true → s.pwr.wakePending = false → s.pwr.aim = 3 → ∃ t,
        exec (.dormantEntryComplete dt) s = .next t ∧ t.pwr.entering = false ∧ t.mode.step = 3 ∧ t.mode.mode = .dormant ∧
          t.fuse = s.fuse) ∧
      (s.pwr.entering = true → s.pwr.wakePending = false → s.pwr.aim = 4 → ∃ t,
        exec (.dormantEntryComplete dt) s = .next t ∧ t.pwr.rails = .island ∧ t.mode.step = 4 ∧ t.core.mem = []) ∧
      (∀ r, s.pwr.exit = some r → ∃ t, exec (.dormantExitComplete dt) s = .next t ∧ t.pwr.exit = none ∧ t.mode.step = 0 ∧
        t.mode.mode = s.serviceMode)) ∧
    (s.mode.mode = .dormant →
      (bit (s.cfg Obj.PWR_WAKE_SRC) 3 = true → s.cfg Obj.PWR_WAKE_AT ≠ 0 → s.cfg Obj.PWR_WAKE_AT ≤ (s.tick dt).now →
        exec (.wakeTimer dt) s = .next (s.tick dt).wake) ∧
      (bit (s.cfg Obj.PWR_WAKE_SRC) 2 = true → s.cfg Obj.PWR_WAKE_GPIO = g →
        exec (.gpioWakeEdge dt g) s = .next (s.tick dt).wake)) ∧
    (s.pwr.entering = true → (s.tick dt).wake.pwr.wakePending = true) ∧
    (s.pwr.entering = false → s.pwr.rails = .run → (s.tick dt).wake.pwr.exit = some (s.pwr.exit.getD 8)) ∧
    (s.pwr.entering = false → s.pwr.rails = .island → (s.tick dt).wake.pwr.rails = .boot ∧
      (s.tick dt).wake.pwr.reason = 8)

/-- Idleness enters step 1 and quiet step 2; LPI wake and a hart's timer are activity; sensors are read every 100 µs, in
DORMANT every 10 ms, and supplies measured every 1 ms, not earlier; measurements show, with the peak;
THERMTRIP, undervoltage and overvoltage cut the rails and count in flash. -/
def Obligations.PowerStepsSensorsAndSupplies : Prop :=
  (∀ (dt n : Nat) (s : State), s.alive = true →
    (s.mode.mode = .service → s.mode.step = 0 → 1 ≤ s.cfg Obj.PWR_AUTO_MAX → (s.tick dt).quiet = true →
      s.pwr.busyAt + s.cfg Obj.PWR_IDLE_US * 1000 ≤ s.clock + dt → ∃ t, exec (.idleEntry dt true) s = .next t ∧
        t.mode.step = 1 ∧ t.cfg Obj.MODE_POWER_STEP = 1 ∧ t.pwr.idleAt = s.clock + dt ∧
        t.ctr (Obj.PWR_STEP_ENTRIES + 1) = Nat.min u64Max (s.ctr (Obj.PWR_STEP_ENTRIES + 1) + 1)) ∧
    (s.mode.mode = .service → s.mode.step = 1 → s.step2Blockers = 0 →
      s.pwr.idleAt + s.cfg Obj.PWR_QUIET_US * 1000 ≤ s.clock + dt → ∃ t, exec (.quietEntry dt) s = .next t ∧
        t.mode.step = 2 ∧ t.cfg Obj.MODE_POWER_STEP = 2 ∧ t.pkts = s.pkts) ∧
    (n < 16 → s.mode.step = 2 → s.portUp n = true → s.usesLpi n = true → ∃ t, exec (.lpiWake dt n) s = .next t ∧
      t.mode.step = 0 ∧ t.cfg Obj.MODE_POWER_STEP = 0 ∧ t.pwr.busyAt = s.clock + dt) ∧
    (∀ c, lookup? s.core.mtimecmp n = some c → c ≤ (s.tick dt).now → exec (.hartTimerEvent dt n) s = .next (s.after dt))) ∧
  (∀ (dt : Nat) (s : State),
    (s.alive = true → ∀ r : List Int, r.length = 48 →
      (∀ a, s.pwr.sensorAt = some a → s.clock + dt < a + (if s.mode.mode = .dormant then 10000000 else 100000) →
        exec (.sensorRead dt r) s = .next (s.tick dt)) ∧
      ((∀ a, s.pwr.sensorAt = some a → a + (if s.mode.mode = .dormant then 10000000 else 100000) ≤ s.clock + dt) → ∃ u : State,
        exec (.sensorRead dt r) s = .next (u.sensors r) ∧ u.pwr = { s.pwr with sensorAt := some (s.clock + dt) } ∧
        (u.sensors r).pwr.sensors = r ∧ (u.sensors r).pkts = s.pkts)) ∧
    (s.alive = true → ∀ mv ma mw,
      (∀ a, s.pwr.supplyAt = some a → s.clock + dt < a + 1000000 → exec (.supplyMeasure dt mv ma mw) s = .next (s.tick dt)) ∧
      ((∀ a, s.pwr.supplyAt = some a → a + 1000000 ≤ s.clock + dt) → ∃ u : State,
        exec (.supplyMeasure dt mv ma mw) s = .next (u.current ma) ∧
        u.cfg Obj.SUPPLY_VIN_MV = mv ∧ u.cfg Obj.SUPPLY_IIN_MA = ma ∧ u.cfg Obj.SUPPLY_POWER_MW = mw ∧
        u.ctr Obj.SUPPLY_POWER_PEAK_MW = Nat.max (s.ctr Obj.SUPPLY_POWER_PEAK_MW) mw ∧
        u.pwr = { s.pwr with supplyAt := some (s.clock + dt) })) ∧
    (s.pwr.rails ≠ .off →
      (∃ t, exec (.thermtrip dt) s = .next t ∧ t.pwr.rails = .off ∧ t.pwr.tripped = true ∧ t.pkts = [] ∧
        t.dict.flash = ((s.tick dt).bumpStored Obj.THERM_TRIPS).dict.flash ∧ t.fuse = s.fuse) ∧
      (∃ t, exec (.undervoltage dt) s = .next t ∧ t.pwr.rails = .off ∧ t.pwr.vin = false ∧
        t.dict.flash = ((s.tick dt).bumpStored Obj.SUPPLY_UV_EVENTS).dict.flash) ∧
      ∃ t, exec (.overvoltage dt) s = .next t ∧ t.pwr.rails = .off ∧ t.pwr.vin = false ∧ t.pwr.ovLatch = true ∧
        t.dict.flash = ((s.tick dt).bumpStored Obj.SUPPLY_OV_EVENTS).dict.flash))

/-- A finished firmware write fills its slot or is rejected with its code; settings and images reach their stores in
order; the standby pair reloads; a take-over ends. -/
def Obligations.StoresAndPairsAreWritten : Prop :=
  ∀ (dt k : Nat) (s : State), s.alive = true →
    (∀ c, s.fwClosed k = some c → s.pkg.vflashOff = none →
      (s.checkBody c = 0 → ∃ t, exec (.fwWriteComplete dt k) s = .next t ∧ lookup? t.img.slots k = some (fwRecord c) ∧
        (∀ w ∈ t.img.writes, w.slot ≠ k)) ∧
      (s.checkBody c ≠ 0 → ∃ t, exec (.fwWriteComplete dt k) s = .next t ∧ t.img.slots = s.img.slots ∧
        t.cfg Obj.IMG_REJECT_CODE = s.checkBody c)) ∧
    (∀ key v, s.dict.toFlash = [(key, v)] → s.pkg.vflashOff = none → ∃ t, exec (.settingsStoreWrite dt) s = .next t ∧
      t.dict.flash = Store.put s.dict.flash key (objDefault (keyObj key) (keyElem key)) v ∧ t.dict.flashOld = s.dict.flash ∧
      t.dict.toFlash = [] ∧ ∀ o e, t.cfg o e = s.cfg o e) ∧
    (∀ x rest, s.store.coming = x :: rest → s.pkg.vflashOff = none → exec (.imageStoreWrite dt) s =
      .next { s.tick dt with store := { held := putImage s.store.held x.1, coming := rest } }) ∧
    (s.pwr.svcRunning = true → s.img.standby = false → s.img.takeover = false → s.img.act = none →
      exec (.standbyReloadComplete dt) s = .next { s.tick dt with img := { s.img with standby := true } }) ∧
    (s.img.takeover = true → s.mgmt.deferred = [] → ∃ t, exec (.takeoverComplete dt) s = .next t ∧ t.mgmt.unavail = none ∧
      t.img.takeover = false ∧ t.fuse = s.fuse)

/-- Preparation succeeds or is rejected; the hand-over starts in SERVICE within its window, makes the dictionary
unavailable for at most 5 ms, and completes on the target image; a late one ends with COMMIT_MISSED; a restart resets
the chip with the target bank. -/
def Obligations.HandoversRunToTheirEnd : Prop :=
  ∀ (dt : Nat) (a : Activ) (s : State), s.alive = true → s.img.act = some a →
    (a.form ≤ 2 → a.started = false → a.ready = false →
      (∃ t, exec (.handoverPrepared dt 0) s = .next t ∧ t.img.act = some { a with ready := true } ∧
        t.cfg Obj.IMG_ACTIVATE_STATE = 2) ∧
      (∀ code, 1 ≤ code → code ≤ 11 → ∃ t, exec (.handoverPrepared dt code) s = .next t ∧ t.img.act = none ∧
        t.cfg Obj.IMG_ACTIVATE_STATE = 5 ∧ t.cfg Obj.IMG_REJECT_CODE = code)) ∧
    (a.form ≤ 2 → a.started = false → a.ready = true → s.mode.mode = .service → s.commitsDone = true →
      (a.form = 1 ∨ a.t ≤ (s.tick dt).now ∧ (s.tick dt).now ≤ a.t + 2000000000) → ∃ t d, exec (.handoverStart dt) s = .next t ∧
        t.mode.mode = .handover ∧ t.img.act = some { a with started := true } ∧ t.cfg Obj.IMG_ACTIVATE_STATE = 3 ∧
        t.mgmt.unavail = some (s.clock + dt + d) ∧ d ≤ 5000000) ∧
    (a.started = true → s.mode.mode = .handover → s.mgmt.deferred = [] → ∃ t, exec (.handoverComplete dt) s = .next t ∧
      t.mode.mode = s.serviceMode ∧ t.img.act = none ∧ t.cfg Obj.IMG_RUNNING = a.target ∧
      t.cfg Obj.IMG_ACTIVATE_STATE = 4 ∧ t.cfg Obj.IMG_ACTIVATE_STATUS = 0 ∧ t.mgmt.unavail = none ∧
      t.img.standby = false ∧ t.fuse = s.fuse) ∧
    (a.form = 2 → a.started = false → a.t + 2000000000 < (s.tick dt).now → ∃ t,
      exec (.handoverDeferralExpiry dt) s = .next t ∧ t.img.act = none ∧ t.cfg Obj.IMG_ACTIVATE_STATE = 5 ∧
        t.cfg Obj.IMG_ACTIVATE_STATUS = 9) ∧
    (a.form = 3 → a.t ≤ (s.tick dt).now → s.mode.mode ≠ .handover → s.mode.mode ≠ .dormant →
      exec (.restartInstant dt) s = .next (((s.tick dt).latchStored Obj.IMG_BOOT_BANK a.target).chipReset 0))

/-- Faults, where no request of their control clock cycle was kept: correctable and uncorrectable errors are counted and logged,
and by their place reset the block, poison the line or end in a chip reset; parity retries; a stalled block is reset, a third
time within 1 s or a slow one goes beyond block level; the end of a cell's window; the loss of a clock resets the chip or takes
down a port's links; lockstep and watchdog faults of the active pair hand over to the standby pair or reset the chip, of the
standby pair take it out; a held-out block comes back after its retest. -/
def Obligations.CellBlockAndPairFaultsAreHandled : Prop :=
  (∀ (dt region block inst addr : Nat) (s : State), s.alive = true → s.mgmt.cycle = [] →
    (∀ at_, ∃ u : State, u.ctr Obj.FLT_CELL_CORRECTED = Nat.min u64Max (s.ctr Obj.FLT_CELL_CORRECTED + 1) ∧ u.tbl = s.tbl ∧
      u.pkts = s.pkts ∧ exec (.eccError dt at_ region block inst addr true) s =
        .next (u.logCell { errAt region block inst addr with cls := 1, action := 0 })) ∧
    (∃ u : State, u.ctr Obj.FLT_CELL_UNCORRECTED = Nat.min u64Max (s.ctr Obj.FLT_CELL_UNCORRECTED + 1) ∧ u.tbl = s.tbl ∧
      exec (.eccError dt .cell region block inst addr false) s =
        .next (u.blockReset { errAt region block inst addr with cls := 2, escalated := true } false) ∧
      (∀ off, exec (.eccError dt (.dirty off) region block inst addr false) s =
        .next ((u.poisonLine off).logRate { errAt region block inst addr with cls := 2, action := 8 })) ∧
      ∀ k bank, (∃ t, exec (.eccError dt (.device k bank true) region block inst addr false) s = .next t ∧
          t.pwr.rails = .boot ∧ t.pwr.reason = 5) ∧
        (s.flt.stackBad.contains (1 - k) = false → exec (.eccError dt (.device k bank false) region block inst addr false) s =
          .next ((u.mirrorFix (errAt region block inst addr)).badRead k bank (errAt region block inst addr)))) ∧
    (∀ n, 1 ≤ n → n ≤ 3 → exec (.parityError dt region block inst addr n true) s =
      .next (((s.tick dt).bumpN Obj.FLT_CELL_RETRIES n).logRate
        { errAt region block inst addr with detail := n, cls := 3, action := 1 })) ∧
    exec (.parityError dt region block inst addr 3 false) s =
      .next (((s.tick dt).bumpN Obj.FLT_CELL_RETRIES 3).blockReset
        { errAt region block inst addr with detail := 3, cls := 4, escalated := true } false) ∧
    (∀ self, self = true ∨ watched block = true →
      ((∀ x ∈ s.flt.resets, x.1 ≠ (errAt region block inst addr).place) → ∃ u : State,
        exec (.blockStall dt region block inst self false) s = .next (u.resetEffect region block) ∧
        u.ctr Obj.FLT_BLOCK_RESETS = Nat.min u64Max (s.ctr Obj.FLT_BLOCK_RESETS + 1) ∧ u.pkts = s.pkts) ∧
      ∃ (u : State) (e : ErrInfo), exec (.blockStall dt region block inst self true) s = .next (u.escalate e) ∧
        e.region = region ∧ e.block = block ∧ e.inst = inst ∧
        u.ctr Obj.FLT_BLOCK_RESETS = Nat.min u64Max (s.ctr Obj.FLT_BLOCK_RESETS + 1)) ∧
    (∀ place c, s.flt.cells = [c] → c.1 = place → c.2.1 = addr → c.2.2.1 + 1000000000 ≤ s.clock + dt →
      ∃ u : State, u.flt.cells = [] ∧ exec (.cellLogWindow dt place addr) s = .next (if c.2.2.2 = 0 then u else
        u.logRate { errAt (place / 65536) (place / 256 % 256) (place % 256) addr with
          cls := 1, action := 0, count := c.2.2.2 })) ∧
    (∀ which, which < 2 → ∃ t, exec (.clockLoss dt which) s = .next t ∧ t.pwr.rails = .boot ∧ t.pwr.reason = 5 ∧
      t.flt.faultN = true ∧ t.fuse = s.fuse) ∧
    (∀ port, port < 2 → s.linkUp (2 * port + 1) = false →
      (s.linkUp (2 * port) = false → exec (.clockLoss dt (2 + port)) s = .next (s.tick dt)) ∧
      (s.linkUp (2 * port) = true → s.frozen port = false → ∃ t, exec (.clockLoss dt (2 + port)) s = .next t ∧
        t.linkState (2 * port) = 0))) ∧
  (∀ (dt place : Nat) (s : State), s.alive = true →
    (s.mgmt.cycle = [] → ∀ c ∈ [Instr.lockstepMismatch dt true, .watchdogMiss dt true],
      (s.canTakeOver = true → ∃ t, exec c s = .next t ∧ t.img.takeover = true ∧ t.img.standby = false ∧
        t.mgmt.unavail = some (s.clock + dt) ∧ t.pkts = s.pkts ∧ t.hs.qp = s.hs.qp) ∧
      (s.canTakeOver = false → ∃ t, exec c s = .next t ∧ t.pwr.rails = .boot ∧ t.pwr.reason = 5)) ∧
    (s.mgmt.cycle = [] → ∀ c ∈ [Instr.lockstepMismatch dt false, .watchdogMiss dt false], ∃ u : State,
      exec c s = .next u.failPrepare ∧ u.img.standby = false ∧
        u.img.mismatches = Nat.min u64Max (s.img.mismatches + 1) ∧ u.pkts = s.pkts) ∧
    (∀ at_, s.flt.held = [(place, some at_)] → at_ + 1000000000 ≤ s.clock + dt →
      (place / 65536 ≠ 5 → ∃ t, exec (.holdOutRetest dt place true) s = .next t ∧ t.flt.held = [] ∧ t.core = s.core) ∧
      ∃ t, exec (.holdOutRetest dt place false) s = .next t ∧ t.flt.held = [(place, some (s.clock + dt))]))

/-- A lost stack, rail or clock is a fault of its region, where no request of its control clock cycle was kept: the region is
fenced and SERVICE becomes DEGRADED, and with the other region fenced already the chip is reset; a stack found bad before
changes nothing; a retest comes at its time; a failing test keeps the fence, two passing ones lift it and return to SERVICE. -/
def Obligations.RegionsAreFencedTestedAndReturned : Prop :=
  ∀ (dt k : Nat) (s : State), s.alive = true →
    (k < 2 → s.pwr.hbmDone = true → s.mgmt.cycle = [] →
      (s.flt.stackBad.contains k = true → exec (.hbmTrainingLoss dt k) s = .next (s.tick dt)) ∧
      (s.flt.stackBad.contains k = false → ∃ u : State, u.flt.stackBad = s.flt.stackBad ++ [k] ∧
        exec (.hbmTrainingLoss dt k) s = .next (u.regionFault k (ErrInfo.mk' 2 (2 + k) 0x17 k 0x0C 6)))) ∧
    (k < 2 → s.mgmt.cycle = [] →
      (exec (.internalRailFault dt k true) s =
        .next ((s.tick dt).regionFault k (ErrInfo.mk' 2 (2 + k) 0x45 0 0x0D 6)) ∧
      exec (.internalRailFault dt k false) s =
        .next ((s.tick dt).regionFault k (ErrInfo.mk' 2 (2 + k) 0x47 0 0x0E 6))) ∧
      (s.mode.fenced = none → ∀ c ∈ [Instr.internalRailFault dt k true, .internalRailFault dt k false], ∃ t, exec c s = .next t ∧
        t.mode.fenced = some k ∧ (s.mode.mode = .service → t.mode.mode = .degraded) ∧
        ∀ p ∈ t.pkts, p.inRegion k = false) ∧
      (s.mode.fenced = some (1 - k) → ∀ c ∈ [Instr.internalRailFault dt k true, .internalRailFault dt k false], ∃ t,
        exec c s = .next t ∧ t.pwr.rails = .boot ∧ t.pwr.reason = 5)) ∧
    (∀ r a, s.mode.fenced = some r → s.mode.mode = .degraded → s.cfg Obj.FLT_REGION_TEST_STATE = 1 →
      s.flt.retestFrom = some a → a + s.cfg Obj.FLT_REGION_RETEST_S * 1000000000 ≤ s.clock + dt →
      ∃ t, exec (.regionRetest dt) s = .next t ∧ t.cfg Obj.FLT_REGION_TEST_STATE = 2 ∧ t.flt.retestFrom = none ∧
        t.mode = s.mode) ∧
    (∀ r, s.mode.fenced = some r →
      (s.cfg Obj.FLT_REGION_TEST_STATE = 2 ∨ s.cfg Obj.FLT_REGION_TEST_STATE = 3 →
        ∃ t, exec (.regionTestComplete dt false) s = .next t ∧ t.cfg Obj.FLT_REGION_TEST_STATE = 4 ∧ t.mode = s.mode) ∧
      (s.cfg Obj.FLT_REGION_TEST_STATE = 2 →
        exec (.regionTestComplete dt true) s = .next ((s.tick dt).latch Obj.FLT_REGION_TEST_STATE 3)) ∧
      (s.cfg Obj.FLT_REGION_TEST_STATE = 3 → s.mode.mode = .degraded → ∃ t,
        exec (.regionTestComplete dt true) s = .next t ∧ t.mode.fenced = none ∧ t.mode.mode = .service))

/-- A test instruction holds the device, a quiet one and Test-Logic-Reset let it go; an overloaded output is off for 100
ms and then tried again. -/
def Obligations.PackagePinsAct : Prop :=
  ∀ (dt : Nat) (s : State),
    (∀ i, tapQuiet i = true → exec (.jtagInstruction dt i) s = .next { s.tick dt with pkg := { s.pkg with jtag := false } }) ∧
    (∀ i, tapQuiet i = false → ∃ t, exec (.jtagInstruction dt i) s = .next t ∧ t.pkg.jtag = true ∧ t.alive = false ∧
      t.pkts = [] ∧ t.fuse = s.fuse) ∧
    (s.pkg.jtag = true → s.pwr.resetN = false → ∃ t, exec (.testLogicReset dt) s = .next t ∧ t.pkg.jtag = false ∧
      t.pwr = s.pwr) ∧
    (s.pkg.jtag = true → s.pwr.resetN = true → s.pwr.rails = .held → s.pwr.tripped = false → s.pwr.ovLatch = false →
      s.pwr.vin = true → ∃ t, exec (.testLogicReset dt) s = .next t ∧ t.pkg.jtag = false ∧ t.pwr.rails = .boot ∧
        t.now = 0) ∧
    (∀ which, which < 2 → s.outputsPowered = true →
      (s.outputOff which = none → ∃ t, exec (.outputOverload dt which) s = .next t ∧
        t.outputOff which = some (s.clock + dt)) ∧
      (∀ a, s.outputOff which = some a → a + 100000000 ≤ s.clock + dt → ∃ t, exec (.outputRetry dt which) s = .next t ∧
        t.outputOff which = none ∧ t.pwr = s.pwr))

/-- FAULT_N is asserted by a fatal error and released when the VIGIL firmware runs; THERMTRIP_N is asserted by a trip and
released by a cold start that a rise of RESET_N begins below 125 °C, not above it; PPS_OUT is not driven without VIO18_OUT. -/
def Obligations.OutputPinsFollowFaultsAndSupplies : Prop :=
  ∀ (dt : Nat) (s : State),
    (s.alive = true → s.mgmt.cycle = [] → ∀ which, which < 2 → ∃ t, exec (.clockLoss dt which) s = .next t ∧
      t.faultPin = true) ∧
    (∀ samples copies, s.pwr.rails = .boot → s.pkg.vflashOff = none →
      ∃ t, exec (.vigilFirmwareStart dt samples [] copies []) s = .next t ∧ t.faultPin = false) ∧
    (s.pwr.rails ≠ .off → ∃ t, exec (.thermtrip dt) s = .next t ∧ t.thermtripPin = true ∧ t.ppsOut = none) ∧
    (∀ straps dipped, s.pwr.rails = .off → s.pkg.jtag = false → s.pwr.ovLatch = false → s.pwr.tripped = true →
      (∃ t, exec (.coldStart dt straps true false dipped false) s = .next t ∧ t.thermtripPin = false ∧
        t.pwr.rails = .boot) ∧
      exec (.coldStart dt straps true false dipped true) s = .next (s.tick dt)) ∧
    (s.outputsPowered = true → s.pkg.vioOff = none →
      (s.cfg Obj.TIME_PPS_OUT_EN = 0 → s.ppsOut = some false) ∧
      ∃ t, exec (.outputOverload dt 0) s = .next t ∧ t.ppsOut = none)
end

