-- ==== Sys2Proof/Laws/KeepBase.lean ====
section
/-!
SUPPORT. What the operations of the shared operations, functions and events leave unchanged: clock, queue and fuses. Where an operation burns fuses, it
`Grows`.
-/

set_option linter.unusedSimpArgs false

namespace Sys2Proof.Machine

/-! ### Ops -/

@[simp] theorem foldl_keep {α : Type} (f : State → α → State) (l : List α) (s : State)
    (h : ∀ a x, (f a x).clock = a.clock ∧ (f a x).pending = a.pending ∧ (f a x).fuse = a.fuse) : (l.foldl f s).clock = s.clock ∧ (l.foldl f s).pending = s.pending ∧ (l.foldl f s).fuse = s.fuse := by
  induction l generalizing s with
  | nil => simp
  | cons x l ih =>
    have h1 := h s x
    have h2 := ih (f s x)
    simp only [List.foldl_cons]
    simp_all

@[simp] theorem State.setCfg_keep (s : State) (o e v : Nat) :
    (State.setCfg s o e v).clock = s.clock ∧ (State.setCfg s o e v).pending = s.pending ∧ (State.setCfg s o e v).fuse = s.fuse := by
  simp [State.setCfg]

@[simp] theorem State.latch_keep (s : State) (o v : Nat) :
    (State.latch s o v).clock = s.clock ∧ (State.latch s o v).pending = s.pending ∧ (State.latch s o v).fuse = s.fuse := by
  simp [State.latch]

@[simp] theorem State.applyQui_keep (s : State) (p : Nat → Bool) :
    (State.applyQui s p).clock = s.clock ∧ (State.applyQui s p).pending = s.pending ∧ (State.applyQui s p).fuse = s.fuse := by
  simp [State.applyQui]

@[simp] theorem State.bumpN_keep (s : State) (o n : Nat) :
    (State.bumpN s o n).clock = s.clock ∧ (State.bumpN s o n).pending = s.pending ∧ (State.bumpN s o n).fuse = s.fuse := by
  simp [State.bumpN]

@[simp] theorem State.bump_keep (s : State) (o : Nat) :
    (State.bump s o).clock = s.clock ∧ (State.bump s o).pending = s.pending ∧ (State.bump s o).fuse = s.fuse := by
  simp [State.bump]

@[simp] theorem State.ctrMax_keep (s : State) (o v : Nat) :
    (State.ctrMax s o v).clock = s.clock ∧ (State.ctrMax s o v).pending = s.pending ∧ (State.ctrMax s o v).fuse = s.fuse := by
  simp [State.ctrMax]

@[simp] theorem State.emit_keep (s : State) (o : Output) :
    (State.emit s o).clock = s.clock ∧ (State.emit s o).pending = s.pending ∧ (State.emit s o).fuse = s.fuse := by
  simp [State.emit]

@[simp] theorem State.fresh_keep (s : State) (w : Nat) :
    (State.fresh s w).2.clock = s.clock ∧ (State.fresh s w).2.pending = s.pending ∧ (State.fresh s w).2.fuse = s.fuse := by
  simp [State.fresh]

@[simp] theorem State.endSlew_keep (s : State) :
    (State.endSlew s).clock = s.clock ∧ (State.endSlew s).pending = s.pending ∧ (State.endSlew s).fuse = s.fuse := by
  simp [State.endSlew]

@[simp] theorem State.tick_keep (s : State) (dt : Nat) :
    (s.tick dt).clock = s.clock + dt ∧ (s.tick dt).pending = s.pending ∧ (s.tick dt).fuse = s.fuse := ⟨rfl, rfl, rfl⟩

@[simp] theorem State.setPkt_keep (s : State) (p : Pkt) :
    (State.setPkt s p).clock = s.clock ∧ (State.setPkt s p).pending = s.pending ∧ (State.setPkt s p).fuse = s.fuse := by
  simp [State.setPkt]

@[simp] theorem State.requeue_keep (s : State) (p : Pkt) :
    (State.requeue s p).clock = s.clock ∧ (State.requeue s p).pending = s.pending ∧ (State.requeue s p).fuse = s.fuse := by
  simp [State.requeue]

@[simp] theorem State.dropPkt_keep (s : State) (id : Nat) :
    (State.dropPkt s id).clock = s.clock ∧ (State.dropPkt s id).pending = s.pending ∧ (State.dropPkt s id).fuse = s.fuse := by
  simp [State.dropPkt]

@[simp] theorem State.addPkt_keep (s : State) (p : Pkt) :
    (State.addPkt s p).clock = s.clock ∧ (State.addPkt s p).pending = s.pending ∧ (State.addPkt s p).fuse = s.fuse := by
  simp [State.addPkt]

/-! ### Mem -/

@[simp] theorem State.appWrite_keep (s : State) (addr : Nat) (bs : Bytes) :
    (State.appWrite s addr bs).clock = s.clock ∧ (State.appWrite s addr bs).pending = s.pending ∧ (State.appWrite s addr bs).fuse = s.fuse := by
  unfold State.appWrite
  split <;> simp

/-! ### Fns -/

@[simp] theorem State.aplic_keep (s : State) (src : Nat) :
    (State.aplic s src).clock = s.clock ∧ (State.aplic s src).pending = s.pending ∧ (State.aplic s src).fuse = s.fuse := by
  simp [State.aplic]

@[simp] theorem State.msi_keep (s : State) (hart level identity : Nat) :
    (State.msi s hart level identity).clock = s.clock ∧ (State.msi s hart level identity).pending = s.pending ∧ (State.msi s hart level identity).fuse = s.fuse := by
  simp [State.msi]

@[simp] theorem State.setFn_keep (s : State) (f : Nat) (x : Fn) :
    (State.setFn s f x).clock = s.clock ∧ (State.setFn s f x).pending = s.pending ∧ (State.setFn s f x).fuse = s.fuse := by
  simp [State.setFn]

@[simp] theorem State.setMig_keep (s : State) (c status result : Nat) :
    (State.setMig s c status result).clock = s.clock ∧ (State.setMig s c status result).pending = s.pending ∧ (State.setMig s c status result).fuse = s.fuse := by
  simp [State.setMig]

@[simp] theorem State.setQp_keep (s : State) (f q : Nat) (x : Qp) :
    (State.setQp s f q x).clock = s.clock ∧ (State.setQp s f q x).pending = s.pending ∧ (State.setQp s f q x).fuse = s.fuse := by
  simp [State.setQp]

@[simp] theorem State.bumpFn_keep (s : State) (o f : Nat) :
    (State.bumpFn s o f).clock = s.clock ∧ (State.bumpFn s o f).pending = s.pending ∧ (State.bumpFn s o f).fuse = s.fuse := by
  simp [State.bumpFn]

@[simp] theorem State.wakeLink_keep (s : State) (l : Nat) :
    (State.wakeLink s l).clock = s.clock ∧ (State.wakeLink s l).pending = s.pending ∧ (State.wakeLink s l).fuse = s.fuse := by
  unfold State.wakeLink
  split <;> simp

@[simp] theorem State.holdInt_keep (s : State) (f vec : Nat) (pasid : Option Nat) :
    (State.holdInt s f vec pasid).clock = s.clock ∧ (State.holdInt s f vec pasid).pending = s.pending ∧ (State.holdInt s f vec pasid).fuse = s.fuse := by
  unfold State.holdInt
  dsimp only
  split <;> simp

@[simp] theorem State.deliverInt_keep (s : State) (f vec : Nat) (pasid : Option Nat) :
    (State.deliverInt s f vec pasid).clock = s.clock ∧ (State.deliverInt s f vec pasid).pending = s.pending ∧ (State.deliverInt s f vec pasid).fuse = s.fuse := by
  unfold State.deliverInt
  dsimp only
  repeat' split
  all_goals simp

@[simp] theorem State.addXl_keep (s : State) (x : Xl) :
    (State.addXl s x).clock = s.clock ∧ (State.addXl s x).pending = s.pending ∧ (State.addXl s x).fuse = s.fuse := by
  simp [State.addXl]

@[simp] theorem State.sendReq_keep (s : State) (r : Req) (attr : Attr) :
    (State.sendReq s r attr).clock = s.clock ∧ (State.sendReq s r attr).pending = s.pending ∧ (State.sendReq s r attr).fuse = s.fuse := by
  simp [State.sendReq]

theorem State.askXl_keep (s : State) (f : Nat) (pasid : Option Nat) (work piece addr : Nat) (t) (h : State.askXl s f pasid work piece addr = some t) :
    t.clock = s.clock ∧ t.pending = s.pending ∧ t.fuse = s.fuse := by
  unfold State.askXl at h
  dsimp only at h
  split at h
  · cases h
  · rw [Option.map_eq_some_iff] at h
    obtain ⟨a, _, rfl⟩ := h
    simp

@[simp] theorem State.fetchTlp_keep (s : State) (f : Nat) (attr : Attr) (addr n : Nat) :
    (State.fetchTlp s f attr addr n).clock = s.clock ∧ (State.fetchTlp s f attr addr n).pending = s.pending ∧ (State.fetchTlp s f attr addr n).fuse = s.fuse := by
  unfold State.fetchTlp
  dsimp only
  split
  · simp
  · exact foldl_keep _ _ _ (fun a x => by split <;> simp)

@[simp] theorem State.askPage_keep (s : State) (r : PageReq) :
    (State.askPage s r).clock = s.clock ∧ (State.askPage s r).pending = s.pending ∧ (State.askPage s r).fuse = s.fuse := by
  simp [State.askPage]

/-! ### Events -/

@[simp] theorem State.sendOmp_keep (s : State) (port sess : Nat) (msg : Bytes) :
    (State.sendOmp s port sess msg).clock = s.clock ∧ (State.sendOmp s port sess msg).pending = s.pending ∧ (State.sendOmp s port sess msg).fuse = s.fuse := by
  unfold State.sendOmp
  repeat' split
  all_goals simp

@[simp] theorem State.sendEventTo_keep (s : State) (x : Session) (body : Bytes) :
    (State.sendEventTo s x body).clock = s.clock ∧ (State.sendEventTo s x body).pending = s.pending ∧ (State.sendEventTo s x body).fuse = s.fuse := by
  simp [State.sendEventTo]

@[simp] theorem State.deliverEvent_keep (s : State) (cls : Nat) (only : Option (Nat × Nat)) (body : Bytes) :
    (State.deliverEvent s cls only body).clock = s.clock ∧ (State.deliverEvent s cls only body).pending = s.pending ∧ (State.deliverEvent s cls only body).fuse = s.fuse := by
  simp [State.deliverEvent]

@[simp] theorem State.raise_keep (s : State) (code cls obj : Nat) (detail : Bytes) (only : Option (Nat × Nat)) :
    (State.raise s code cls obj detail only).clock = s.clock ∧ (State.raise s code cls obj detail only).pending = s.pending ∧ (State.raise s code cls obj detail only).fuse = s.fuse := by
  unfold State.raise
  split <;> simp

@[simp] theorem State.logErr_keep (s : State) (e : ErrInfo) :
    (State.logErr s e).clock = s.clock ∧ (State.logErr s e).pending = s.pending ∧ (State.logErr s e).fuse = s.fuse := by
  unfold State.logErr
  split <;> simp

@[simp] theorem State.logRate_keep (s : State) (e : ErrInfo) :
    (State.logRate s e).clock = s.clock ∧ (State.logRate s e).pending = s.pending ∧ (State.logRate s e).fuse = s.fuse := by
  unfold State.logRate
  dsimp only
  split <;> simp

@[simp] theorem State.logCell_keep (s : State) (e : ErrInfo) :
    (State.logCell s e).clock = s.clock ∧ (State.logCell s e).pending = s.pending ∧ (State.logCell s e).fuse = s.fuse := by
  unfold State.logCell
  dsimp only
  split <;> simp

/-! ### Functions -/

@[simp] theorem State.issueMem_keep (s : State) (f : Nat) (attr : Attr) (addr : Nat) (bs : Bytes) :
    (State.issueMem s f attr addr bs).clock = s.clock ∧ (State.issueMem s f attr addr bs).pending = s.pending ∧ (State.issueMem s f attr addr bs).fuse = s.fuse := by
  unfold State.issueMem
  split <;> simp

@[simp] theorem State.writeNow_keep (s : State) (f : Nat) (attr : Attr) (addr : Nat) (bs : Bytes) :
    (State.writeNow s f attr addr bs).clock = s.clock ∧ (State.writeNow s f attr addr bs).pending = s.pending ∧ (State.writeNow s f attr addr bs).fuse = s.fuse := by
  unfold State.writeNow
  split <;> simp

@[simp] theorem State.ringWrite0_keep (s : State) (f q : Nat) (x : Qp) (entry : Bytes) :
    (State.ringWrite0 s f q x entry).clock = s.clock ∧ (State.ringWrite0 s f q x entry).pending = s.pending ∧ (State.ringWrite0 s f q x entry).fuse = s.fuse := by
  unfold State.ringWrite0
  dsimp only
  split <;> simp

theorem State.askXl_getD (s : State) (f : Nat) (pasid : Option Nat) (work piece addr : Nat) :
    ((s.askXl f pasid work piece addr).getD s).clock = s.clock ∧ ((s.askXl f pasid work piece addr).getD s).pending = s.pending ∧ ((s.askXl f pasid work piece addr).getD s).fuse = s.fuse := by
  cases h : s.askXl f pasid work piece addr with
  | none => simp
  | some t => simpa using State.askXl_keep _ _ _ _ _ _ _ h

theorem State.xlWrite_keep (s : State) (f : Nat) (pasid : Option Nat) (addr : Nat) (t : State) (h : s.xlWrite f pasid addr = .wait t) :
    t.clock = s.clock ∧ t.pending = s.pending ∧ t.fuse = s.fuse := by
  unfold State.xlWrite at h
  try dsimp only at h
  repeat' split at h
  all_goals first
    | (cases h; done)
    | (cases h; simp; done)
    | (cases h; simpa using State.askXl_getD _ _ _ _ _ _)

theorem State.slotXl_keep (s : State) (f : Nat) (x : Qp) (t) (h : State.slotXl s f x = some t) :
    t.clock = s.clock ∧ t.pending = s.pending ∧ t.fuse = s.fuse := by
  unfold State.slotXl at h
  split at h
  · rename_i h1
    cases h
    exact State.xlWrite_keep _ _ _ _ _ h1
  · rename_i h1 _
    cases h
    exact State.xlWrite_keep _ _ _ _ _ h1
  · cases h

@[simp] theorem State.giveUsed_keep (s : State) (f q n : Nat) :
    (State.giveUsed s f q n).clock = s.clock ∧ (State.giveUsed s f q n).pending = s.pending ∧ (State.giveUsed s f q n).fuse = s.fuse := by
  unfold State.giveUsed
  dsimp only
  split <;> simp

@[simp] theorem State.holdWrites_keep (s : State) (f : Nat) (ws : List HWrite) (log : Bool) :
    (State.holdWrites s f ws log).clock = s.clock ∧ (State.holdWrites s f ws log).pending = s.pending ∧ (State.holdWrites s f ws log).fuse = s.fuse := by
  unfold State.holdWrites
  dsimp only
  split <;> simp

theorem State.logWrite_go (s : State) (f addr : Nat) (t : State) (h : s.logWrite f addr = .go t) :
    t.clock = s.clock ∧ t.pending = s.pending ∧ t.fuse = s.fuse := by
  unfold State.logWrite at h
  try dsimp only at h
  repeat' split at h
  all_goals first
    | (cases h; done)
    | (cases h; simp; done)

theorem State.logWrite_wait (s : State) (f addr : Nat) (t : State) (h : s.logWrite f addr = .wait t) :
    t.clock = s.clock ∧ t.pending = s.pending ∧ t.fuse = s.fuse := by
  unfold State.logWrite at h
  try dsimp only at h
  repeat' split at h
  all_goals first
    | (cases h; done)
    | (cases h; simp; done)
    | (rename_i h1; cases h; have := State.slotXl_keep _ _ _ _ h1; simp [this]; done)
    | (rename_i h1 h2; cases h; have := State.slotXl_keep _ _ _ _ h1; simp [this]; done)

theorem State.tryWrite_went (s : State) (f : Nat) (w : HWrite) (t : State) (h : s.tryWrite f w = .went t) :
    t.clock = s.clock ∧ t.pending = s.pending ∧ t.fuse = s.fuse := by
  unfold State.tryWrite at h
  try dsimp only at h
  repeat' split at h
  all_goals first
    | (cases h; done)
    | (cases h; simp; done)
    | (rename_i h1; cases h; have := State.logWrite_go _ _ _ _ h1; simp [this]; done)
    | (rename_i h1 h2; cases h; have := State.logWrite_go _ _ _ _ h1; simp [this]; done)

theorem State.tryWrite_waits (s : State) (f : Nat) (w : HWrite) (log : Bool) (t : State) (h : s.tryWrite f w = .waits t log) :
    t.clock = s.clock ∧ t.pending = s.pending ∧ t.fuse = s.fuse := by
  unfold State.tryWrite at h
  try dsimp only at h
  repeat' split at h
  all_goals first
    | (cases h; done)
    | (cases h; simp; done)
    | (rename_i h1; cases h; have := State.logWrite_wait _ _ _ _ h1; simp [this]; done)
    | (rename_i h1 h2; cases h; have := State.logWrite_wait _ _ _ _ h1; simp [this]; done)
    | (rename_i h1; cases h; have := State.xlWrite_keep _ _ _ _ _ h1; simp [this]; done)
    | (rename_i h1 h2; cases h; have := State.xlWrite_keep _ _ _ _ _ h1; simp [this]; done)

@[simp] theorem State.hostWrite_keep (s : State) (f : Nat) (w : HWrite) :
    (State.hostWrite s f w).clock = s.clock ∧ (State.hostWrite s f w).pending = s.pending ∧ (State.hostWrite s f w).fuse = s.fuse := by
  unfold State.hostWrite
  split
  · simp
  · split
    · rename_i h1
      exact State.tryWrite_went _ _ _ _ h1
    · rename_i h1
      have := State.tryWrite_waits _ _ _ _ _ h1
      simp [this]

@[simp] theorem flushLoop_keep (f : Nat) (x1 : List HWrite) (s : State) :
    (flushLoop f x1 s).clock = s.clock ∧ (flushLoop f x1 s).pending = s.pending ∧ (flushLoop f x1 s).fuse = s.fuse := by
  induction x1 generalizing s with
  | nil => simp [flushLoop]
  | cons w t ih =>
    unfold flushLoop
    split
    · rename_i h1
      have := State.tryWrite_went _ _ _ _ h1
      simp [ih, this]
    · rename_i h1
      have := State.tryWrite_waits _ _ _ _ _ h1
      simp [this]

@[simp] theorem State.flushFn_keep (s : State) (f : Nat) :
    (State.flushFn s f).clock = s.clock ∧ (State.flushFn s f).pending = s.pending ∧ (State.flushFn s f).fuse = s.fuse := by
  unfold State.flushFn
  split <;> simp

@[simp] theorem State.flushTargets_keep (s : State) (f : Nat) :
    (State.flushTargets s f).clock = s.clock ∧ (State.flushTargets s f).pending = s.pending ∧ (State.flushTargets s f).fuse = s.fuse := by
  simp [State.flushTargets]

@[simp] theorem State.publish_keep (s : State) (f q : Nat) (x : Qp) (entry : Bytes) :
    (State.publish s f q x entry).clock = s.clock ∧ (State.publish s f q x entry).pending = s.pending ∧ (State.publish s f q x entry).fuse = s.fuse := by
  unfold State.publish
  dsimp only
  split <;> simp

@[simp] theorem State.virtioUse_keep (s : State) (f q n : Nat) :
    (State.virtioUse s f q n).clock = s.clock ∧ (State.virtioUse s f q n).pending = s.pending ∧ (State.virtioUse s f q n).fuse = s.fuse := by
  unfold State.virtioUse
  dsimp only
  repeat' split
  all_goals simp

@[simp] theorem State.complete_keep (s : State) (f q : Nat) (cons : Nat) (entry : Bytes) :
    (State.complete s f q cons entry).clock = s.clock ∧ (State.complete s f q cons entry).pending = s.pending ∧ (State.complete s f q cons entry).fuse = s.fuse := by
  unfold State.complete
  dsimp only
  repeat' split
  all_goals simp

@[simp] theorem unstage_keep (f q : Nat) (x1 : Nat) (s : State) :
    (unstage f q x1 s).clock = s.clock ∧ (unstage f q x1 s).pending = s.pending ∧ (unstage f q x1 s).fuse = s.fuse := by
  induction x1 generalizing s with
  | zero => simp [unstage]
  | succ n ih =>
    unfold unstage
    repeat' split
    all_goals simp [ih]

@[simp] theorem State.unstage_keep (s : State) (f q : Nat) :
    (State.unstage s f q).clock = s.clock ∧ (State.unstage s f q).pending = s.pending ∧ (State.unstage s f q).fuse = s.fuse := by
  unfold State.unstage
  split <;> simp

/-! ### Cmd -/

@[simp] theorem State.setStep_keep (s : State) (n : Nat) :
    (State.setStep s n).clock = s.clock ∧ (State.setStep s n).pending = s.pending ∧ (State.setStep s n).fuse = s.fuse := by
  simp [State.setStep]

@[simp] theorem State.stir_keep (s : State) :
    (State.stir s).clock = s.clock ∧ (State.stir s).pending = s.pending ∧ (State.stir s).fuse = s.fuse := by
  unfold State.stir
  dsimp only
  split <;> simp

end Sys2Proof.Machine
end

