-- ==== Sys2Proof/Laws/KeepDatapath.lean ====
section
/-!
SUPPORT. What the operations of the datapath leave unchanged: clock, queue and fuses. Where an operation burns fuses, it
`Grows`.
-/

set_option linter.unusedSimpArgs false

namespace Sys2Proof.Machine

/-! ### Rates -/

@[simp] theorem State.chargeNode_keep (s : State) (region node n : Nat) (committed : Bool) :
    (State.chargeNode s region node n committed).clock = s.clock ∧ (State.chargeNode s region node n committed).pending = s.pending ∧ (State.chargeNode s region node n committed).fuse = s.fuse := by
  simp [State.chargeNode]

@[simp] theorem State.writeShp_keep (s : State) (region node v : Nat) :
    (State.writeShp s region node v).clock = s.clock ∧ (State.writeShp s region node v).pending = s.pending ∧ (State.writeShp s region node v).fuse = s.fuse := by
  simp [State.writeShp]

@[simp] theorem State.polCount_keep (s : State) (id color bytes : Nat) :
    (State.polCount s id color bytes).clock = s.clock ∧ (State.polCount s id color bytes).pending = s.pending ∧ (State.polCount s id color bytes).fuse = s.fuse := by
  simp [State.polCount]

@[simp] theorem State.meter_keep (s : State) (id e incoming n : Nat) :
    (State.meter s id e incoming n).2.clock = s.clock ∧ (State.meter s id e incoming n).2.pending = s.pending ∧ (State.meter s id e incoming n).2.fuse = s.fuse := by
  simp [State.meter]

/-! ### Tm -/

@[simp] theorem State.setCens_keep (s : State) (eqid : Nat) (c : CensQ) :
    (State.setCens s eqid c).clock = s.clock ∧ (State.setCens s eqid c).pending = s.pending ∧ (State.setCens s eqid c).fuse = s.fuse := by
  simp [State.setCens]

@[simp] theorem State.noteLeave_keep (s : State) (p : Pkt) :
    (State.noteLeave s p).clock = s.clock ∧ (State.noteLeave s p).pending = s.pending ∧ (State.noteLeave s p).fuse = s.fuse := by
  simp [State.noteLeave]

@[simp] theorem State.dropAdmit_keep (s : State) (p : Pkt) (ctr region : Nat) :
    (State.dropAdmit s p ctr region).clock = s.clock ∧ (State.dropAdmit s p ctr region).pending = s.pending ∧ (State.dropAdmit s p ctr region).fuse = s.fuse := by
  simp [State.dropAdmit]

@[simp] theorem State.dropQueued_keep (s : State) (p : Pkt) (ctr : Nat) :
    (State.dropQueued s p ctr).clock = s.clock ∧ (State.dropQueued s p ctr).pending = s.pending ∧ (State.dropQueued s p ctr).fuse = s.fuse := by
  simp [State.dropQueued]

@[simp] theorem State.endDrains_keep (s : State) :
    (State.endDrains s).clock = s.clock ∧ (State.endDrains s).pending = s.pending ∧ (State.endDrains s).fuse = s.fuse := by
  simp [State.endDrains]

@[simp] theorem State.writeOut_keep (s : State) (region : Nat) :
    (State.writeOut s region).clock = s.clock ∧ (State.writeOut s region).pending = s.pending ∧ (State.writeOut s region).fuse = s.fuse := by
  simp [State.writeOut]

@[simp] theorem State.enqueue_keep (s : State) (p : Pkt) (loc : Loc) :
    (State.enqueue s p loc).clock = s.clock ∧ (State.enqueue s p loc).pending = s.pending ∧ (State.enqueue s p loc).fuse = s.fuse := by
  unfold State.enqueue
  dsimp only
  split <;> simp

@[simp] theorem State.admitPkt_keep (s0 : State) (p : Pkt) (saturated : Bool) :
    (State.admitPkt s0 p saturated).clock = s0.clock ∧ (State.admitPkt s0 p saturated).pending = s0.pending ∧ (State.admitPkt s0 p saturated).fuse = s0.fuse := by
  unfold State.admitPkt
  dsimp only
  repeat' split
  all_goals simp

@[simp] theorem State.arriveTm_keep (s : State) (p : Pkt) (saturated : Bool) :
    (State.arriveTm s p saturated).clock = s.clock ∧ (State.arriveTm s p saturated).pending = s.pending ∧ (State.arriveTm s p saturated).fuse = s.fuse := by
  unfold State.arriveTm
  repeat' split
  all_goals simp

@[simp] theorem State.setDeficit_keep (s : State) (region node tier : Nat) (d : Int) :
    (State.setDeficit s region node tier d).clock = s.clock ∧ (State.setDeficit s region node tier d).pending = s.pending ∧ (State.setDeficit s region node tier d).fuse = s.fuse := by
  simp [State.setDeficit]

@[simp] theorem rrLoop_keep (region tier : Nat) (x1 : Nat) (x2 : List Nat) (s : State) :
    (rrLoop region tier x1 x2 s).2.clock = s.clock ∧ (rrLoop region tier x1 x2 s).2.pending = s.pending ∧ (rrLoop region tier x1 x2 s).2.fuse = s.fuse := by
  induction x1 generalizing s x2 with
  | zero => simp [rrLoop]
  | succ n ih =>
    cases x2 with
    | nil => simp [rrLoop]
    | cons c t =>
      unfold rrLoop
      split <;> simp [ih]

@[simp] theorem State.pickRr_keep (s : State) (region parent tier lvl : Nat) (children : List Nat) :
    (State.pickRr s region parent tier lvl children).2.clock = s.clock ∧ (State.pickRr s region parent tier lvl children).2.pending = s.pending ∧ (State.pickRr s region parent tier lvl children).2.fuse = s.fuse := by
  unfold State.pickRr
  dsimp only
  split <;> simp

theorem State.pickRr_eq {s : State} {region parent tier lvl : Nat} {l : List Nat} {o : Option Nat} {t : State}
    (h : s.pickRr region parent tier lvl l = (o, t)) : t.clock = s.clock ∧ t.pending = s.pending ∧ t.fuse = s.fuse := by
  have h1 := State.pickRr_keep s region parent tier lvl l
  rw [h] at h1
  exact h1

@[simp] theorem pickDown_keep (region : Nat) (x1 : Nat) (x2 : Nat) (x3 : Bool) (x4 : List Cand) (x5 : List Pick) (s : State) :
    (pickDown region x1 x2 x3 x4 x5 s).2.clock = s.clock ∧ (pickDown region x1 x2 x3 x4 x5 s).2.pending = s.pending ∧ (pickDown region x1 x2 x3 x4 x5 s).2.fuse = s.fuse := by
  induction x1 generalizing x2 x3 x4 x5 s with
  | zero => simp [pickDown]
  | succ n ih =>
    unfold pickDown
    dsimp only
    repeat' split
    all_goals first
      | (simp; done)
      | (simp [ih]; done)
      | (have h2 := State.pickRr_eq ‹State.pickRr _ _ _ _ _ _ = _›; simp [ih, h2])

@[simp] theorem State.settle_keep (s : State) (region pn n : Nat) (picks : List Pick) :
    (State.settle s region pn n picks).clock = s.clock ∧ (State.settle s region pn n picks).pending = s.pending ∧ (State.settle s region pn n picks).fuse = s.fuse := by
  unfold State.settle
  dsimp only
  have h1 := foldl_keep (fun (a : State) (k : Pick) => a.chargeNode region k.1 n (k.2 == 0)) picks s (by simp)
  have h2 := fun (c : List Cand) (s1 : State) => foldl_keep (fun (a : State) (k : Pick) =>
    if k.2 == 2 then a
    else if a.inTier region k.1 k.2 c then a.setDeficit region k.1 k.2 (a.deficit region k.1 k.2 - n)
    else a.setDeficit region k.1 k.2 0) picks s1 (by intro a x; (repeat' split) <;> simp)
  exact ⟨(h2 _ _).1.trans h1.1, (h2 _ _).2.1.trans h1.2.1, (h2 _ _).2.2.trans h1.2.2⟩

@[simp] theorem State.served_keep (s : State) (region eqid n : Nat) :
    (State.served s region eqid n).clock = s.clock ∧ (State.served s region eqid n).pending = s.pending ∧ (State.served s region eqid n).fuse = s.fuse := by
  simp [State.served]

@[simp] theorem State.dropTooLong_keep (region pn eqid : Nat) (x1 : Nat) (s : State) :
    (State.dropTooLong region pn eqid x1 s).clock = s.clock ∧ (State.dropTooLong region pn eqid x1 s).pending = s.pending ∧ (State.dropTooLong region pn eqid x1 s).fuse = s.fuse := by
  induction x1 generalizing s with
  | zero => simp [State.dropTooLong]
  | succ n ih =>
    unfold State.dropTooLong
    repeat' split
    all_goals simp [ih]

@[simp] theorem State.dropOversize_keep (s : State) (region pn : Nat) :
    (State.dropOversize s region pn).clock = s.clock ∧ (State.dropOversize s region pn).pending = s.pending ∧ (State.dropOversize s region pn).fuse = s.fuse := by
  unfold State.dropOversize
  refine foldl_keep _ _ _ (fun a x => ?_)
  repeat' split
  all_goals simp

@[simp] theorem State.refreshWait_keep (s : State) (region pn : Nat) :
    (State.refreshWait s region pn).clock = s.clock ∧ (State.refreshWait s region pn).pending = s.pending ∧ (State.refreshWait s region pn).fuse = s.fuse := by
  unfold State.refreshWait
  refine foldl_keep _ _ _ (fun a x => ?_)
  repeat' split
  all_goals simp

@[simp] theorem State.retest_keep (s : State) (region pn : Nat) :
    (State.retest s region pn).clock = s.clock ∧ (State.retest s region pn).pending = s.pending ∧ (State.retest s region pn).fuse = s.fuse := by
  simp [State.retest]

@[simp] theorem State.retestPort_keep (s : State) (pn : Nat) :
    (State.retestPort s pn).clock = s.clock ∧ (State.retestPort s pn).pending = s.pending ∧ (State.retestPort s pn).fuse = s.fuse := by
  simp [State.retestPort]

@[simp] theorem State.retestQueue_keep (s : State) (eqid : Nat) :
    (State.retestQueue s eqid).clock = s.clock ∧ (State.retestQueue s eqid).pending = s.pending ∧ (State.retestQueue s eqid).fuse = s.fuse := by
  unfold State.retestQueue
  split <;> simp

@[simp] theorem State.decide__keep (s0 : State) (region pn : Nat) :
    (State.decide_ s0 region pn).2.clock = s0.clock ∧ (State.decide_ s0 region pn).2.pending = s0.pending ∧ (State.decide_ s0 region pn).2.fuse = s0.fuse := by
  unfold State.decide_
  dsimp only
  split
  · simp
  · have h2 := pickDown_keep region 5 (portNum pn) false ((s0.dropOversize region pn).candidates region pn) [] (s0.dropOversize region pn)
    split <;> (rename_i h1; rw [h1] at h2; simpa using h2)

@[simp] theorem State.discardPort_keep (s : State) (pn : Nat) :
    (State.discardPort s pn).clock = s.clock ∧ (State.discardPort s pn).pending = s.pending ∧ (State.discardPort s pn).fuse = s.fuse := by
  simp [State.discardPort]

/-! ### WvCore -/

@[simp] theorem State.setWvLink_keep (s : State) (l : Nat) (x : WvLink) :
    (State.setWvLink s l x).clock = s.clock ∧ (State.setWvLink s l x).pending = s.pending ∧ (State.setWvLink s l x).fuse = s.fuse := by
  simp [State.setWvLink]

@[simp] theorem State.emitWeave_keep (s : State) (l : Nat) (f : Bytes) :
    (State.emitWeave s l f).clock = s.clock ∧ (State.emitWeave s l f).pending = s.pending ∧ (State.emitWeave s l f).fuse = s.fuse := by
  simp [State.emitWeave]

@[simp] theorem State.nextSeq_keep (s : State) (typ : Nat) :
    (State.nextSeq s typ).2.clock = s.clock ∧ (State.nextSeq s typ).2.pending = s.pending ∧ (State.nextSeq s typ).2.fuse = s.fuse := by
  simp [State.nextSeq]

@[simp] theorem State.pushCtl_keep (s : State) (l : Nat) (at_ : Option Nat) (f : Bytes) (head : Bool) :
    (State.pushCtl s l at_ f head).clock = s.clock ∧ (State.pushCtl s l at_ f head).pending = s.pending ∧ (State.pushCtl s l at_ f head).fuse = s.fuse := by
  unfold State.pushCtl
  split <;> simp

@[simp] theorem State.pushShuttle_keep (s : State) (l : Nat) (at_ : Option Nat) (f : Bytes) :
    (State.pushShuttle s l at_ f).clock = s.clock ∧ (State.pushShuttle s l at_ f).pending = s.pending ∧ (State.pushShuttle s l at_ f).fuse = s.fuse := by
  unfold State.pushShuttle
  split <;> simp

@[simp] theorem State.sendRouted_keep (s : State) (typ seq dst : Nat) (rest : Bytes) :
    (State.sendRouted s typ seq dst rest).clock = s.clock ∧ (State.sendRouted s typ seq dst rest).pending = s.pending ∧ (State.sendRouted s typ seq dst rest).fuse = s.fuse := by
  unfold State.sendRouted
  dsimp only
  repeat' split
  all_goals simp

@[simp] theorem State.floodFrame_keep (s : State) (f : Bytes) (head : Bool) :
    (State.floodFrame s f head).clock = s.clock ∧ (State.floodFrame s f head).pending = s.pending ∧ (State.floodFrame s f head).fuse = s.fuse := by
  simp [State.floodFrame]

@[simp] theorem State.flood_keep (s : State) (typ seq : Nat) (rest : Bytes) (head : Bool) :
    (State.flood s typ seq rest head).clock = s.clock ∧ (State.flood s typ seq rest head).pending = s.pending ∧ (State.flood s typ seq rest head).fuse = s.fuse := by
  simp [State.flood]

@[simp] theorem State.sendAgain_keep (s : State) :
    (State.sendAgain s).clock = s.clock ∧ (State.sendAgain s).pending = s.pending ∧ (State.sendAgain s).fuse = s.fuse := by
  simp [State.sendAgain]

/-! ### Learn -/

@[simp] theorem State.changePeriod_keep (s : State) (table old : Nat) :
    (State.changePeriod s table old).clock = s.clock ∧ (State.changePeriod s table old).pending = s.pending ∧ (State.changePeriod s table old).fuse = s.fuse := by
  simp [State.changePeriod]

@[simp] theorem State.toRing_keep (s : State) (ring region : Nat) (record : Bytes) :
    (State.toRing s ring region record).1.clock = s.clock ∧ (State.toRing s ring region record).1.pending = s.pending ∧ (State.toRing s ring region record).1.fuse = s.fuse := by
  unfold State.toRing
  dsimp only
  repeat' split
  all_goals simp

@[simp] theorem State.suppress_keep (s : State) (region t key : Nat) :
    (State.suppress s region t key).clock = s.clock ∧ (State.suppress s region t key).pending = s.pending ∧ (State.suppress s region t key).fuse = s.fuse := by
  unfold State.suppress
  dsimp only
  split <;> simp

@[simp] theorem State.shuttleOut_keep (s : State) (t : Nat) (area : Bytes) (i : LrInfo) :
    (State.shuttleOut s t area i).clock = s.clock ∧ (State.shuttleOut s t area i).pending = s.pending ∧ (State.shuttleOut s t area i).fuse = s.fuse := by
  unfold State.shuttleOut
  dsimp only
  split
  · simp
  · split
    · simp
    · refine foldl_keep _ _ _ (fun a x => ?_)
      split <;> simp

@[simp] theorem State.produce_keep (s : State) (t key : Nat) (area : Bytes) (i : LrInfo) :
    (State.produce s t key area i).clock = s.clock ∧ (State.produce s t key area i).pending = s.pending ∧ (State.produce s t key area i).fuse = s.fuse := by
  unfold State.produce
  dsimp only
  repeat' split
  all_goals simp

@[simp] theorem State.learn_keep (s : State) (t key : Nat) (area : Bytes) (i : LrInfo) :
    (State.learn s t key area i).clock = s.clock ∧ (State.learn s t key area i).pending = s.pending ∧ (State.learn s t key area i).fuse = s.fuse := by
  unfold State.learn
  split <;> simp

@[simp] theorem State.shuttleIn_keep (s : State) (l hops : Nat) (record : Bytes) :
    (State.shuttleIn s l hops record).clock = s.clock ∧ (State.shuttleIn s l hops record).pending = s.pending ∧ (State.shuttleIn s l hops record).fuse = s.fuse := by
  unfold State.shuttleIn
  dsimp only
  repeat' split
  all_goals simp

/-! ### Pipeline -/

@[simp] theorem State.dropPipe_keep (s : State) (p : Pkt) (ctr : Nat) :
    (State.dropPipe s p ctr).clock = s.clock ∧ (State.dropPipe s p ctr).pending = s.pending ∧ (State.dropPipe s p ctr).fuse = s.fuse := by
  simp [State.dropPipe]

@[simp] theorem State.toRecirc_keep (s : State) (p : Pkt) :
    (State.toRecirc s p).clock = s.clock ∧ (State.toRecirc s p).pending = s.pending ∧ (State.toRecirc s p).fuse = s.fuse := by
  unfold State.toRecirc
  split <;> simp

@[simp] theorem State.toDivert_keep (s : State) (p : Pkt) :
    (State.toDivert s p).clock = s.clock ∧ (State.toDivert s p).pending = s.pending ∧ (State.toDivert s p).fuse = s.fuse := by
  unfold State.toDivert
  split <;> simp

@[simp] theorem State.toCipher_keep (s : State) (p : Pkt) (after : After) :
    (State.toCipher s p after).clock = s.clock ∧ (State.toCipher s p after).pending = s.pending ∧ (State.toCipher s p after).fuse = s.fuse := by
  unfold State.toCipher
  split <;> simp

@[simp] theorem State.mirrorTo_keep (s : State) (v : Ver) (p : Pkt) (bytes : Bytes) (session : Nat) :
    (State.mirrorTo s v p bytes session).clock = s.clock ∧ (State.mirrorTo s v p bytes session).pending = s.pending ∧ (State.mirrorTo s v p bytes session).fuse = s.fuse := by
  simp [State.mirrorTo]

@[simp] theorem State.mirrors_keep (s : State) (v : Ver) (p : Pkt) (bytes : Bytes) :
    (State.mirrors s v p bytes).clock = s.clock ∧ (State.mirrors s v p bytes).pending = s.pending ∧ (State.mirrors s v p bytes).fuse = s.fuse := by
  simp [State.mirrors]

@[simp] theorem State.writeSample_keep (s : State) (ring : Nat) (record : Bytes) :
    (State.writeSample s ring record).clock = s.clock ∧ (State.writeSample s ring record).pending = s.pending ∧ (State.writeSample s ring record).fuse = s.fuse := by
  unfold State.writeSample
  dsimp only
  repeat' split
  all_goals simp

@[simp] theorem State.sample_keep (s : State) (p : Pkt) (bytes : Bytes) (egress : Bool) :
    (State.sample s p bytes egress).clock = s.clock ∧ (State.sample s p bytes egress).pending = s.pending ∧ (State.sample s p bytes egress).fuse = s.fuse := by
  unfold State.sample
  dsimp only
  repeat' split
  all_goals simp

@[simp] theorem State.settleCounts_keep (s : State) :
    (State.settleCounts s).clock = s.clock ∧ (State.settleCounts s).pending = s.pending ∧ (State.settleCounts s).fuse = s.fuse := by
  unfold State.settleCounts
  dsimp only
  split <;> simp

@[simp] theorem State.countPairs_keep (s : State) (p : Pkt) (cs : List (Nat × Nat)) :
    (State.countPairs s p cs).clock = s.clock ∧ (State.countPairs s p cs).pending = s.pending ∧ (State.countPairs s p cs).fuse = s.fuse := by
  unfold State.countPairs
  dsimp only
  split <;> simp

@[simp] theorem State.corrupt_keep (s : State) (region : Nat) (fs : List TernFlip) :
    (State.corrupt s region fs).clock = s.clock ∧ (State.corrupt s region fs).pending = s.pending ∧ (State.corrupt s region fs).fuse = s.fuse := by
  simp [State.corrupt]

@[simp] theorem State.afterHalf_keep (s : State) (p : Pkt) (c : StageCtx) :
    (State.afterHalf s p c).clock = s.clock ∧ (State.afterHalf s p c).pending = s.pending ∧ (State.afterHalf s p c).fuse = s.fuse := by
  simp [State.afterHalf]

@[simp] theorem State.parse_keep (s : State) (img : PipeImage) (start : Nat) (p : Pkt) :
    (State.parse s img start p).1.clock = s.clock ∧ (State.parse s img start p).1.pending = s.pending ∧ (State.parse s img start p).1.fuse = s.fuse := by
  unfold State.parse
  dsimp only
  split <;> simp

theorem State.police_keep (s : State) (v : Ver) (p : Pkt) (md : Md) (id : Nat) (t : State)
    (h : s.police v p md id = .dropped t ∨ ∃ m, s.police v p md id = .on t m) : t.clock = s.clock ∧ t.pending = s.pending ∧ t.fuse = s.fuse := by
  unfold State.police at h
  dsimp only at h
  repeat' split at h
  all_goals
    rcases h with h | ⟨m, h⟩
    all_goals first | (cases h; done) | (cases h; simp; done) | (cases h; split <;> simp)

theorem State.policeSlots_keep (s : State) (v : Ver) (p : Pkt) (t : State)
    (h : s.policeSlots v p = .dropped t ∨ ∃ m, s.policeSlots v p = .on t m) : t.clock = s.clock ∧ t.pending = s.pending ∧ t.fuse = s.fuse := by
  unfold State.policeSlots at h
  dsimp only at h
  have h0 : ∀ u, ((if mdPolEn p.md 0 then s.police v p p.md (mdPol p.md 0) else .on s p.md) = .dropped u ∨
      ∃ m, (if mdPolEn p.md 0 then s.police v p p.md (mdPol p.md 0) else .on s p.md) = .on u m) → u.clock = s.clock ∧ u.pending = s.pending ∧ u.fuse = s.fuse := by
    intro u hu
    split at hu
    · exact State.police_keep _ _ _ _ _ _ hu
    · rcases hu with hu | ⟨m, hu⟩ <;> cases hu; simp
  split at h
  · rename_i s1 h1
    have := h0 s1 (.inl h1)
    rcases h with h | ⟨m, h⟩ <;> cases h; exact this
  · rename_i s1 md1 h1
    have h2 := h0 s1 (.inr ⟨_, h1⟩)
    split at h
    · have h3 := State.police_keep _ _ _ _ _ _ h
      simp [h3, h2]
    · rcases h with h | ⟨m, h⟩ <;> cases h; exact h2

@[simp] theorem State.toTm_keep (s : State) (v : Ver) (p : Pkt) :
    (State.toTm s v p).clock = s.clock ∧ (State.toTm s v p).pending = s.pending ∧ (State.toTm s v p).fuse = s.fuse := by
  unfold State.toTm
  split
  · rename_i h1
    have := State.policeSlots_keep _ _ _ _ (.inl h1)
    simp [this]
  · rename_i h1
    have := State.policeSlots_keep _ _ _ _ (.inr ⟨_, h1⟩)
    dsimp only
    split <;> simp [this]

@[simp] theorem State.releaseFlow_keep (s : State) (p : Pkt) :
    (State.releaseFlow s p).clock = s.clock ∧ (State.releaseFlow s p).pending = s.pending ∧ (State.releaseFlow s p).fuse = s.fuse := by
  simp [State.releaseFlow]

@[simp] theorem State.again_keep (s : State) (img : PipeImage) (p : Pkt) :
    (State.again s img p).clock = s.clock ∧ (State.again s img p).pending = s.pending ∧ (State.again s img p).fuse = s.fuse := by
  unfold State.again
  dsimp only
  repeat' split
  all_goals simp

@[simp] theorem State.endIngress_keep (s : State) (v : Ver) (img : PipeImage) (p : Pkt) (late : Bool) :
    (State.endIngress s v img p late).clock = s.clock ∧ (State.endIngress s v img p late).pending = s.pending ∧ (State.endIngress s v img p late).fuse = s.fuse := by
  unfold State.endIngress
  dsimp only
  repeat' split
  all_goals simp

@[simp] theorem State.ingress_keep (s : State) (v : Ver) (start : Nat) (p : Pkt) (look : Look) :
    (State.ingress s v start p look).clock = s.clock ∧ (State.ingress s v start p look).pending = s.pending ∧ (State.ingress s v start p look).fuse = s.fuse := by
  unfold State.ingress
  split <;> simp

@[simp] theorem State.firstPass_keep (s : State) (p : Pkt) (look : Look) :
    (State.firstPass s p look).clock = s.clock ∧ (State.firstPass s p look).pending = s.pending ∧ (State.firstPass s p look).fuse = s.fuse := by
  simp [State.firstPass]

@[simp] theorem State.laterPass_keep (s : State) (p : Pkt) (look : Look) :
    (State.laterPass s p look).clock = s.clock ∧ (State.laterPass s p look).pending = s.pending ∧ (State.laterPass s p look).fuse = s.fuse := by
  simp [State.laterPass]

/-! ### Net -/

@[simp] theorem State.pauseFor_keep (s : State) (n cls quanta : Nat) :
    (State.pauseFor s n cls quanta).clock = s.clock ∧ (State.pauseFor s n cls quanta).pending = s.pending ∧ (State.pauseFor s n cls quanta).fuse = s.fuse := by
  simp [State.pauseFor]

@[simp] theorem State.macControl_keep (s : State) (n : Nat) (f : Bytes) :
    (State.macControl s n f).clock = s.clock ∧ (State.macControl s n f).pending = s.pending ∧ (State.macControl s n f).fuse = s.fuse := by
  unfold State.macControl
  dsimp only
  split
  · have h1 := foldl_keep (fun (a : State) (x : Nat × Nat) => if bit (s.cfg (Obj.TM_PFC_HONOUR + n)) x.1 then a.pauseFor n x.1 x.2 else a)
      (pfcTimes f) (s.bump (Obj.NET_RX_MAC_CONTROL + n)) (by intro a x; split <;> simp)
    simpa using h1
  · split <;> simp
  · simp

@[simp] theorem State.netAccept_keep (s : State) (n : Nat) (f : Bytes) :
    (State.netAccept s n f).clock = s.clock ∧ (State.netAccept s n f).pending = s.pending ∧ (State.netAccept s n f).fuse = s.fuse := by
  simp [State.netAccept]

@[simp] theorem State.netFrame_keep (s : State) (n : Nat) (f : Bytes) (fcsOk overrun : Bool) :
    (State.netFrame s n f fcsOk overrun).clock = s.clock ∧ (State.netFrame s n f fcsOk overrun).pending = s.pending ∧ (State.netFrame s n f fcsOk overrun).fuse = s.fuse := by
  unfold State.netFrame
  repeat' split
  all_goals simp

@[simp] theorem State.reap_keep (s : State) :
    (State.reap s).clock = s.clock ∧ (State.reap s).pending = s.pending ∧ (State.reap s).fuse = s.fuse := by
  simp [State.reap]

@[simp] theorem State.failFrame_keep (s : State) (p : Pkt) :
    (State.failFrame s p).clock = s.clock ∧ (State.failFrame s p).pending = s.pending ∧ (State.failFrame s p).fuse = s.fuse := by
  unfold State.failFrame
  repeat' split
  all_goals simp

@[simp] theorem State.netFall_keep (s : State) (n lst : Nat) :
    (State.netFall s n lst).clock = s.clock ∧ (State.netFall s n lst).pending = s.pending ∧ (State.netFall s n lst).fuse = s.fuse := by
  unfold State.netFall
  split <;> simp

/-! ### Schedule -/

@[simp] theorem State.occupy_keep (s : State) (region pn n : Nat) :
    (State.occupy s region pn n).clock = s.clock ∧ (State.occupy s region pn n).pending = s.pending ∧ (State.occupy s region pn n).fuse = s.fuse := by
  simp [State.occupy]

@[simp] theorem State.leave_keep (s : State) (p : Pkt) :
    (State.leave s p).clock = s.clock ∧ (State.leave s p).pending = s.pending ∧ (State.leave s p).fuse = s.fuse := by
  unfold State.leave
  split <;> simp

@[simp] theorem State.weaveFrame_keep (s : State) (p : Pkt) (bytes : Bytes) :
    (State.weaveFrame s p bytes).2.clock = s.clock ∧ (State.weaveFrame s p bytes).2.pending = s.pending ∧ (State.weaveFrame s p bytes).2.fuse = s.fuse := by
  unfold State.weaveFrame
  repeat' split
  all_goals simp

@[simp] theorem State.toWire_keep (s : State) (p : Pkt) :
    (State.toWire s p).clock = s.clock ∧ (State.toWire s p).pending = s.pending ∧ (State.toWire s p).fuse = s.fuse := by
  unfold State.toWire
  dsimp only
  repeat' split
  all_goals simp

@[simp] theorem State.endEgress_keep (s : State) (v : Ver) (img : PipeImage) (p : Pkt) (late : Bool) :
    (State.endEgress s v img p late).clock = s.clock ∧ (State.endEgress s v img p late).pending = s.pending ∧ (State.endEgress s v img p late).fuse = s.fuse := by
  unfold State.endEgress
  dsimp only
  repeat' split
  all_goals simp

@[simp] theorem State.egress_keep (s : State) (p : Pkt) (look : Look) :
    (State.egress s p look).clock = s.clock ∧ (State.egress s p look).pending = s.pending ∧ (State.egress s p look).fuse = s.fuse := by
  unfold State.egress
  dsimp only
  split <;> simp

@[simp] theorem State.sendFrame_keep (s : State) (region l : Nat) (f : Bytes) :
    (State.sendFrame s region l f).clock = s.clock ∧ (State.sendFrame s region l f).pending = s.pending ∧ (State.sendFrame s region l f).fuse = s.fuse := by
  simp [State.sendFrame]

theorem State.sendQueued_keep (s : State) (region l : Nat) (t) (h : State.sendQueued s region l = some t) :
    t.clock = s.clock ∧ t.pending = s.pending ∧ t.fuse = s.fuse := by
  unfold State.sendQueued at h
  dsimp only at h
  repeat' split at h
  all_goals (first | (simp at h; done) | (simp at h; subst h; simp; done) | (cases h; simp; done))

@[simp] theorem State.dequeue_keep (s : State) (region pn : Nat) (p : Pkt) (picks : List Pick) (cut : Bool) (look : Look) :
    (State.dequeue s region pn p picks cut look).clock = s.clock ∧ (State.dequeue s region pn p picks cut look).pending = s.pending ∧ (State.dequeue s region pn p picks cut look).fuse = s.fuse := by
  unfold State.dequeue
  split <;> simp

@[simp] theorem State.ageDrop_keep (s : State) (p : Pkt) :
    (State.ageDrop s p).clock = s.clock ∧ (State.ageDrop s p).pending = s.pending ∧ (State.ageDrop s p).fuse = s.fuse := by
  unfold State.ageDrop
  split <;> simp

@[simp] theorem State.ageFrames_keep (s : State) :
    (State.ageFrames s).clock = s.clock ∧ (State.ageFrames s).pending = s.pending ∧ (State.ageFrames s).fuse = s.fuse := by
  simp [State.ageFrames]

/-! ### Cipher -/

@[simp] theorem State.setCry_keep (s : State) (c : Crypt) :
    (State.setCry s c).clock = s.clock ∧ (State.setCry s c).pending = s.pending ∧ (State.setCry s c).fuse = s.fuse := by
  simp [State.setCry]

@[simp] theorem State.useKdf_keep (s : State) (d : Nat) (k : KdfKey) :
    (State.useKdf s d k).clock = s.clock ∧ (State.useKdf s d k).pending = s.pending ∧ (State.useKdf s d k).fuse = s.fuse := by
  unfold State.useKdf
  dsimp only
  split <;> simp

@[simp] theorem State.setSa_keep (s : State) (i : Nat) (x : Sa) :
    (State.setSa s i x).clock = s.clock ∧ (State.setSa s i x).pending = s.pending ∧ (State.setSa s i x).fuse = s.fuse := by
  simp [State.setSa]

@[simp] theorem State.saMoved_keep (s : State) (region i : Nat) (x : Sa) :
    (State.saMoved s region i x).clock = s.clock ∧ (State.saMoved s region i x).pending = s.pending ∧ (State.saMoved s region i x).fuse = s.fuse := by
  unfold State.saMoved
  split <;> simp

@[simp] theorem State.saFence_keep (s : State) (region : Nat) :
    (State.saFence s region).clock = s.clock ∧ (State.saFence s region).pending = s.pending ∧ (State.saFence s region).fuse = s.fuse := by
  simp [State.saFence]

@[simp] theorem State.saReturn_keep (s : State) (region : Nat) :
    (State.saReturn s region).clock = s.clock ∧ (State.saReturn s region).pending = s.pending ∧ (State.saReturn s region).fuse = s.fuse := by
  simp [State.saReturn]

@[simp] theorem State.useSa_keep (s : State) (region i : Nat) :
    (State.useSa s region i).clock = s.clock ∧ (State.useSa s region i).pending = s.pending ∧ (State.useSa s region i).fuse = s.fuse := by
  simp [State.useSa]

@[simp] theorem State.afterCipher_keep (s : State) (p : Pkt) :
    (State.afterCipher s p).clock = s.clock ∧ (State.afterCipher s p).pending = s.pending ∧ (State.afterCipher s p).fuse = s.fuse := by
  unfold State.afterCipher
  repeat' split
  all_goals simp

@[simp] theorem State.dropCipher_keep (s : State) (p : Pkt) (ctr : Nat) :
    (State.dropCipher s p ctr).clock = s.clock ∧ (State.dropCipher s p ctr).pending = s.pending ∧ (State.dropCipher s p ctr).fuse = s.fuse := by
  simp [State.dropCipher]

@[simp] theorem State.cipherDone_keep (s : State) (p : Pkt) (i : Nat) (x : Sa) (bytes : Bytes) (scanFrom : Nat) (next : Option Nat) (seq : Nat) :
    (State.cipherDone s p i x bytes scanFrom next seq).clock = s.clock ∧ (State.cipherDone s p i x bytes scanFrom next seq).pending = s.pending ∧ (State.cipherDone s p i x bytes scanFrom next seq).fuse = s.fuse := by
  simp [State.cipherDone]

@[simp] theorem State.cipherRun_keep (s : State) (p : Pkt) (i : Nat) (x : Sa) (key : Bytes) :
    (State.cipherRun s p i x key).clock = s.clock ∧ (State.cipherRun s p i x key).pending = s.pending ∧ (State.cipherRun s p i x key).fuse = s.fuse := by
  unfold State.cipherRun
  repeat' split
  all_goals simp

theorem State.workKey_keep (s : State) (d n alg : Nat) (label : Bytes) (k : Bytes) (t : State)
    (h : s.workKey d n alg label = .key k t) : t.clock = s.clock ∧ t.pending = s.pending ∧ t.fuse = s.fuse := by
  unfold State.workKey at h
  dsimp only at h
  repeat' split at h
  all_goals first | (cases h; done) | (cases h; simp)

@[simp] theorem State.cipherOp_keep (s : State) (p : Pkt) :
    (State.cipherOp s p).clock = s.clock ∧ (State.cipherOp s p).pending = s.pending ∧ (State.cipherOp s p).fuse = s.fuse := by
  unfold State.cipherOp
  dsimp only
  split
  · simp
  · split
    · simp
    · split
      · simp
      · split
        · rename_i h1
          have := State.workKey_keep _ _ _ _ _ _ _ h1
          split at this <;> simp_all
        · split <;> simp

@[simp] theorem State.cipherStart_keep (s : State) (p : Pkt) :
    (State.cipherStart s p).clock = s.clock ∧ (State.cipherStart s p).pending = s.pending ∧ (State.cipherStart s p).fuse = s.fuse := by
  simp [State.cipherStart]

@[simp] theorem State.writeKek_keep (s : State) (v : Nat) :
    (State.writeKek s v).2.clock = s.clock ∧ (State.writeKek s v).2.pending = s.pending ∧ (State.writeKek s v).2.fuse = s.fuse := by
  unfold State.writeKek
  split <;> simp

@[simp] theorem State.loadSlot_keep (s : State) (n mode alg : Nat) (w : Bytes) :
    (State.loadSlot s n mode alg w).2.clock = s.clock ∧ (State.loadSlot s n mode alg w).2.pending = s.pending ∧ (State.loadSlot s n mode alg w).2.fuse = s.fuse := by
  unfold State.loadSlot
  dsimp only
  repeat' split
  all_goals simp

@[simp] theorem State.writeSlot_keep (s : State) (v : Nat) :
    (State.writeSlot s v).2.clock = s.clock ∧ (State.writeSlot s v).2.pending = s.pending ∧ (State.writeSlot s v).2.fuse = s.fuse := by
  unfold State.writeSlot
  dsimp only
  repeat' split
  all_goals simp

@[simp] theorem State.eraseSlot_keep (s : State) (n : Nat) :
    (State.eraseSlot s n).2.clock = s.clock ∧ (State.eraseSlot s n).2.pending = s.pending ∧ (State.eraseSlot s n).2.fuse = s.fuse := by
  unfold State.eraseSlot
  repeat' split
  all_goals simp

end Sys2Proof.Machine
end

