-- ==== Sys2Proof/Laws/KeepHost.lean ====
section
/-!
SUPPORT. What the operations of the host side leave unchanged: clock, queue and fuses. Where an operation burns fuses, it
`Grows`.
-/

set_option linter.unusedSimpArgs false

namespace Sys2Proof.Machine

/-! ### StgCore -/

@[simp] theorem State.setNvme_keep (s : State) (f : Nat) (x : Nvme) :
    (State.setNvme s f x).clock = s.clock ∧ (State.setNvme s f x).pending = s.pending ∧ (State.setNvme s f x).fuse = s.fuse := by
  simp [State.setNvme]

@[simp] theorem State.setCq_keep (s : State) (k : Nat) (c : NvCq) :
    (State.setCq s k c).clock = s.clock ∧ (State.setCq s k c).pending = s.pending ∧ (State.setCq s k c).fuse = s.fuse := by
  simp [State.setCq]

@[simp] theorem State.setSq_keep (s : State) (k : Nat) (c : NvSq) :
    (State.setSq s k c).clock = s.clock ∧ (State.setSq s k c).pending = s.pending ∧ (State.setSq s k c).fuse = s.fuse := by
  simp [State.setSq]

@[simp] theorem State.cqPut_keep (s : State) (f n : Nat) (entry : Nat) :
    (State.cqPut s f n entry).clock = s.clock ∧ (State.cqPut s f n entry).pending = s.pending ∧ (State.cqPut s f n entry).fuse = s.fuse := by
  unfold State.cqPut
  dsimp only
  repeat' split
  all_goals simp

@[simp] theorem cqFlush_keep (f n : Nat) (x1 : Nat) (s : State) :
    (cqFlush f n x1 s).clock = s.clock ∧ (cqFlush f n x1 s).pending = s.pending ∧ (cqFlush f n x1 s).fuse = s.fuse := by
  induction x1 generalizing s with
  | zero => simp [cqFlush]
  | succ n ih =>
    unfold cqFlush
    dsimp only
    repeat' split
    all_goals simp [ih]

@[simp] theorem State.nvmeAnswer_keep (s : State) (f n cid dw0 status : Nat) :
    (State.nvmeAnswer s f n cid dw0 status).clock = s.clock ∧ (State.nvmeAnswer s f n cid dw0 status).pending = s.pending ∧ (State.nvmeAnswer s f n cid dw0 status).fuse = s.fuse := by
  unfold State.nvmeAnswer
  split <;> simp

@[simp] theorem State.virtioAnswer_keep (s : State) (f n : Nat) (chain : List (Nat × Nat × Bool)) (len status : Nat) :
    (State.virtioAnswer s f n chain len status).clock = s.clock ∧ (State.virtioAnswer s f n chain len status).pending = s.pending ∧ (State.virtioAnswer s f n chain len status).fuse = s.fuse := by
  unfold State.virtioAnswer
  dsimp only
  repeat' split
  all_goals simp

@[simp] theorem State.stgError_keep (s : State) (c : StgCmd) :
    (State.stgError s c).clock = s.clock ∧ (State.stgError s c).pending = s.pending ∧ (State.stgError s c).fuse = s.fuse := by
  unfold State.stgError
  split <;> simp

@[simp] theorem State.svcEntry_keep (s : State) (svc : Nat) (entry : Bytes) :
    (State.svcEntry s svc entry).clock = s.clock ∧ (State.svcEntry s svc entry).pending = s.pending ∧ (State.svcEntry s svc entry).fuse = s.fuse := by
  unfold State.svcEntry
  split <;> simp

@[simp] theorem State.stgFree_keep (s : State) (ctx : Nat) :
    (State.stgFree s ctx).clock = s.clock ∧ (State.stgFree s ctx).pending = s.pending ∧ (State.stgFree s ctx).fuse = s.fuse := by
  simp [State.stgFree]

@[simp] theorem State.stgCancel_keep (s : State) (ctx : Nat) (c : StgCmd) :
    (State.stgCancel s ctx c).clock = s.clock ∧ (State.stgCancel s ctx c).pending = s.pending ∧ (State.stgCancel s ctx c).fuse = s.fuse := by
  unfold State.stgCancel
  split <;> simp

@[simp] theorem State.stgCancelAll_keep (s : State) (p : StgCmd → Bool) :
    (State.stgCancelAll s p).clock = s.clock ∧ (State.stgCancelAll s p).pending = s.pending ∧ (State.stgCancelAll s p).fuse = s.fuse := by
  simp [State.stgCancelAll]

@[simp] theorem State.returnPosts_keep (s : State) (svc : Nat) :
    (State.returnPosts s svc).clock = s.clock ∧ (State.returnPosts s svc).pending = s.pending ∧ (State.returnPosts s svc).fuse = s.fuse := by
  simp [State.returnPosts]

@[simp] theorem State.xferStop_keep (s : State) (ring tag cookie : Nat) :
    (State.xferStop s ring tag cookie).clock = s.clock ∧ (State.xferStop s ring tag cookie).pending = s.pending ∧ (State.xferStop s ring tag cookie).fuse = s.fuse := by
  unfold State.xferStop
  dsimp only
  split <;> simp

@[simp] theorem State.stgSquashHost_keep (s : State) (f : Nat) :
    (State.stgSquashHost s f).clock = s.clock ∧ (State.stgSquashHost s f).pending = s.pending ∧ (State.stgSquashHost s f).fuse = s.fuse := by
  unfold State.stgSquashHost
  dsimp only
  repeat' split
  all_goals simp

@[simp] theorem State.stgSquashCore_keep (s : State) (f : Nat) :
    (State.stgSquashCore s f).clock = s.clock ∧ (State.stgSquashCore s f).pending = s.pending ∧ (State.stgSquashCore s f).fuse = s.fuse := by
  simp [State.stgSquashCore]

@[simp] theorem State.stgSquash_keep (s : State) (f : Nat) :
    (State.stgSquash s f).clock = s.clock ∧ (State.stgSquash s f).pending = s.pending ∧ (State.stgSquash s f).fuse = s.fuse := by
  unfold State.stgSquash
  split <;> simp

@[simp] theorem State.nvmeClear_keep (s : State) (f : Nat) :
    (State.nvmeClear s f).clock = s.clock ∧ (State.nvmeClear s f).pending = s.pending ∧ (State.nvmeClear s f).fuse = s.fuse := by
  unfold State.nvmeClear
  dsimp only
  split <;> simp

/-! ### Sess -/

@[simp] theorem State.setSess_keep (s : State) (y : Session) :
    (State.setSess s y).clock = s.clock ∧ (State.setSess s y).pending = s.pending ∧ (State.setSess s y).fuse = s.fuse := by
  simp [State.setSess]

@[simp] theorem State.setStage_keep (s : State) (k : Nat × Nat) (st : Staging) :
    (State.setStage s k st).clock = s.clock ∧ (State.setStage s k st).pending = s.pending ∧ (State.setStage s k st).fuse = s.fuse := by
  unfold State.setStage
  split <;> simp

@[simp] theorem State.sayDiscarded_keep (s : State) (st : Staging) (reason : Nat) :
    (State.sayDiscarded s st reason).clock = s.clock ∧ (State.sayDiscarded s st reason).pending = s.pending ∧ (State.sayDiscarded s st reason).fuse = s.fuse := by
  simp [State.sayDiscarded]

@[simp] theorem State.discardStage_keep (s : State) (k : Nat × Nat) (reason : Nat) :
    (State.discardStage s k reason).clock = s.clock ∧ (State.discardStage s k reason).pending = s.pending ∧ (State.discardStage s k reason).fuse = s.fuse := by
  unfold State.discardStage
  dsimp only
  repeat' split
  all_goals simp

@[simp] theorem State.giveBack_keep (s : State) (c : Sealed) :
    (State.giveBack s c).clock = s.clock ∧ (State.giveBack s c).pending = s.pending ∧ (State.giveBack s c).fuse = s.fuse := by
  unfold State.giveBack
  repeat' split
  all_goals simp

@[simp] theorem State.fwStatus_keep (s : State) (k st : Nat) :
    (State.fwStatus s k st).clock = s.clock ∧ (State.fwStatus s k st).pending = s.pending ∧ (State.fwStatus s k st).fuse = s.fuse := by
  unfold State.fwStatus
  split <;> simp

@[simp] theorem State.fwDrop_keep (s : State) (k : Nat) :
    (State.fwDrop s k).clock = s.clock ∧ (State.fwDrop s k).pending = s.pending ∧ (State.fwDrop s k).fuse = s.fuse := by
  simp [State.fwDrop]

@[simp] theorem State.fwAbandon_keep (s : State) (k : Nat) :
    (State.fwAbandon s k).clock = s.clock ∧ (State.fwAbandon s k).pending = s.pending ∧ (State.fwAbandon s k).fuse = s.fuse := by
  simp [State.fwAbandon]

@[simp] theorem State.abandonChan_keep (s : State) (c : Chan) :
    (State.abandonChan s c).clock = s.clock ∧ (State.abandonChan s c).pending = s.pending ∧ (State.abandonChan s c).fuse = s.fuse := by
  unfold State.abandonChan
  repeat' split
  all_goals simp

@[simp] theorem State.dropChans_keep (s : State) (k : Nat × Nat) (p : Chan → Bool) :
    (State.dropChans s k p).clock = s.clock ∧ (State.dropChans s k p).pending = s.pending ∧ (State.dropChans s k p).fuse = s.fuse := by
  unfold State.dropChans
  split <;> simp

@[simp] theorem State.grantSem_keep (s : State) (k : Nat × Nat) :
    (State.grantSem s k).clock = s.clock ∧ (State.grantSem s k).pending = s.pending ∧ (State.grantSem s k).fuse = s.fuse := by
  simp [State.grantSem]

@[simp] theorem State.grantNext_keep (s : State) :
    (State.grantNext s).clock = s.clock ∧ (State.grantNext s).pending = s.pending ∧ (State.grantNext s).fuse = s.fuse := by
  unfold State.grantNext
  split <;> simp

@[simp] theorem State.freeSem_keep (s : State) (lapse : Bool) :
    (State.freeSem s lapse).clock = s.clock ∧ (State.freeSem s lapse).pending = s.pending ∧ (State.freeSem s lapse).fuse = s.fuse := by
  unfold State.freeSem
  repeat' split
  all_goals simp

@[simp] theorem State.orphan_keep (s : State) (k : Nat × Nat) :
    (State.orphan s k).clock = s.clock ∧ (State.orphan s k).pending = s.pending ∧ (State.orphan s k).fuse = s.fuse := by
  simp [State.orphan]

@[simp] theorem State.closeSess_keep (s : State) (k : Nat × Nat) :
    (State.closeSess s k).clock = s.clock ∧ (State.closeSess s k).pending = s.pending ∧ (State.closeSess s k).fuse = s.fuse := by
  unfold State.closeSess
  dsimp only
  split <;> simp

@[simp] theorem State.mailboxReset_keep (s : State) :
    (State.mailboxReset s).clock = s.clock ∧ (State.mailboxReset s).pending = s.pending ∧ (State.mailboxReset s).fuse = s.fuse := by
  unfold State.mailboxReset
  split <;> simp

/-! ### Host -/

@[simp] theorem State.setWork_keep (s : State) (w : Work) :
    (State.setWork s w).clock = s.clock ∧ (State.setWork s w).pending = s.pending ∧ (State.setWork s w).fuse = s.fuse := by
  simp [State.setWork]

theorem State.issueWork_keep (s : State) (w : Work) (t) (h : State.issueWork s w = some t) :
    t.clock = s.clock ∧ t.pending = s.pending ∧ t.fuse = s.fuse := by
  unfold State.issueWork at h
  dsimp only at h
  repeat' split at h
  all_goals first
    | (cases h; done)
    | (cases h; simp; done)
    | exact State.askXl_keep _ _ _ _ _ _ _ h

theorem State.issueFn_keep (s : State) (f : Nat) (t) (h : State.issueFn s f = some t) :
    t.clock = s.clock ∧ t.pending = s.pending ∧ t.fuse = s.fuse := by
  unfold State.issueFn at h
  split at h
  · cases h
  · obtain ⟨a, _, ha⟩ := List.exists_of_findSome?_eq_some h
    exact State.issueWork_keep _ _ _ ha

theorem State.issueTurn_keep (s : State) (l : Nat) (t) (h : State.issueTurn s l = some t) :
    t.clock = s.clock ∧ t.pending = s.pending ∧ t.fuse = s.fuse := by
  unfold State.issueTurn at h
  dsimp only at h
  obtain ⟨f, _, hf⟩ := List.exists_of_findSome?_eq_some h
  rw [Option.map_eq_some_iff] at hf
  obtain ⟨a, ha, rfl⟩ := hf
  have := State.issueFn_keep _ _ _ ha
  simp [this]

@[simp] theorem pumpLoop_keep (l : Nat) (x1 : Nat) (s : State) :
    (pumpLoop l x1 s).clock = s.clock ∧ (pumpLoop l x1 s).pending = s.pending ∧ (pumpLoop l x1 s).fuse = s.fuse := by
  induction x1 generalizing s with
  | zero => simp [pumpLoop]
  | succ n ih =>
    unfold pumpLoop
    split
    · rename_i h1
      have := State.issueTurn_keep _ _ _ h1
      simp [ih, this]
    · simp

@[simp] theorem State.pump_keep (s : State) (l : Nat) :
    (State.pump s l).clock = s.clock ∧ (State.pump s l).pending = s.pending ∧ (State.pump s l).fuse = s.fuse := by
  simp [State.pump]

@[simp] theorem State.pumpAll_keep (s : State) :
    (State.pumpAll s).clock = s.clock ∧ (State.pumpAll s).pending = s.pending ∧ (State.pumpAll s).fuse = s.fuse := by
  simp [State.pumpAll]

@[simp] theorem State.serveLink_keep (s : State) (l : Nat) :
    (State.serveLink s l).clock = s.clock ∧ (State.serveLink s l).pending = s.pending ∧ (State.serveLink s l).fuse = s.fuse := by
  simp [State.serveLink]

@[simp] theorem State.sendErr_keep (s : State) (f level : Nat) :
    (State.sendErr s f level).clock = s.clock ∧ (State.sendErr s f level).pending = s.pending ∧ (State.sendErr s f level).fuse = s.fuse := by
  unfold State.sendErr
  dsimp only
  split <;> simp

@[simp] theorem State.aerPut_keep (s : State) (f b : Nat) (advisory : Bool) :
    (State.aerPut s f b advisory).clock = s.clock ∧ (State.aerPut s f b advisory).pending = s.pending ∧ (State.aerPut s f b advisory).fuse = s.fuse := by
  unfold State.aerPut
  dsimp only
  repeat' split
  all_goals simp

@[simp] theorem State.aerLog_keep (s : State) (f b : Nat) :
    (State.aerLog s f b).clock = s.clock ∧ (State.aerLog s f b).pending = s.pending ∧ (State.aerLog s f b).fuse = s.fuse := by
  simp [State.aerLog]

@[simp] theorem State.killReqs_keep (s : State) (p : Req → Bool) :
    (State.killReqs s p).clock = s.clock ∧ (State.killReqs s p).pending = s.pending ∧ (State.killReqs s p).fuse = s.fuse := by
  simp [State.killReqs]

@[simp] theorem State.failWork_keep (s : State) (w : Work) (status : Nat) :
    (State.failWork s w status).clock = s.clock ∧ (State.failWork s w status).pending = s.pending ∧ (State.failWork s w status).fuse = s.fuse := by
  simp [State.failWork]

@[simp] theorem State.restartWorks_keep (s : State) (p : Nat → Bool) :
    (State.restartWorks s p).clock = s.clock ∧ (State.restartWorks s p).pending = s.pending ∧ (State.restartWorks s p).fuse = s.fuse := by
  simp [State.restartWorks]

@[simp] theorem State.resumeFn_keep (s : State) (f : Nat) :
    (State.resumeFn s f).clock = s.clock ∧ (State.resumeFn s f).pending = s.pending ∧ (State.resumeFn s f).fuse = s.fuse := by
  simp [State.resumeFn]

@[simp] theorem State.discardRx_keep (s : State) (test : Pkt → Bool) (ctr : Pkt → Nat) :
    (State.discardRx s test ctr).clock = s.clock ∧ (State.discardRx s test ctr).pending = s.pending ∧ (State.discardRx s test ctr).fuse = s.fuse := by
  simp [State.discardRx]

@[simp] theorem State.freeze_keep (s : State) (port cause f : Nat) :
    (State.freeze s port cause f).clock = s.clock ∧ (State.freeze s port cause f).pending = s.pending ∧ (State.freeze s port cause f).fuse = s.fuse := by
  unfold State.freeze
  split <;> simp

@[simp] theorem State.countCto_keep (s : State) (f : Nat) :
    (State.countCto s f).clock = s.clock ∧ (State.countCto s f).pending = s.pending ∧ (State.countCto s f).fuse = s.fuse := by
  unfold State.countCto
  dsimp only
  split <;> simp

@[simp] theorem State.poisonedCpl_keep (s : State) (f : Nat) :
    (State.poisonedCpl s f).clock = s.clock ∧ (State.poisonedCpl s f).pending = s.pending ∧ (State.poisonedCpl s f).fuse = s.fuse := by
  simp [State.poisonedCpl]

@[simp] theorem State.readFails_keep (s : State) (f : Nat) (x1 : ReadFail) :
    (State.readFails s f x1).clock = s.clock ∧ (State.readFails s f x1).pending = s.pending ∧ (State.readFails s f x1).fuse = s.fuse := by
  unfold State.readFails
  split <;> simp

@[simp] theorem State.setResetState_keep (s : State) (f v : Nat) :
    (State.setResetState s f v).clock = s.clock ∧ (State.setResetState s f v).pending = s.pending ∧ (State.setResetState s f v).fuse = s.fuse := by
  simp [State.setResetState]

@[simp] theorem State.squash_keep (s : State) (f : Nat) :
    (State.squash s f).clock = s.clock ∧ (State.squash s f).pending = s.pending ∧ (State.squash s f).fuse = s.fuse := by
  unfold State.squash
  split <;> simp

@[simp] theorem State.initFn_keep (s : State) (f : Nat) :
    (State.initFn s f).clock = s.clock ∧ (State.initFn s f).pending = s.pending ∧ (State.initFn s f).fuse = s.fuse := by
  unfold State.initFn
  dsimp only
  split <;> simp

@[simp] theorem State.squashPort_keep (s : State) (port : Nat) :
    (State.squashPort s port).clock = s.clock ∧ (State.squashPort s port).pending = s.pending ∧ (State.squashPort s port).fuse = s.fuse := by
  simp [State.squashPort]

@[simp] theorem State.hardSquash_keep (s : State) (f : Nat) :
    (State.hardSquash s f).clock = s.clock ∧ (State.hardSquash s f).pending = s.pending ∧ (State.hardSquash s f).fuse = s.fuse := by
  simp [State.hardSquash]

@[simp] theorem State.squashLink_keep (s : State) (l : Nat) :
    (State.squashLink s l).clock = s.clock ∧ (State.squashLink s l).pending = s.pending ∧ (State.squashLink s l).fuse = s.fuse := by
  simp [State.squashLink]

@[simp] theorem State.unfreeze_keep (s : State) (port : Nat) :
    (State.unfreeze s port).clock = s.clock ∧ (State.unfreeze s port).pending = s.pending ∧ (State.unfreeze s port).fuse = s.fuse := by
  simp [State.unfreeze]

@[simp] theorem State.release_keep (s : State) (port v : Nat) :
    (State.release s port v).2.clock = s.clock ∧ (State.release s port v).2.pending = s.pending ∧ (State.release s port v).2.fuse = s.fuse := by
  unfold State.release
  repeat' split
  all_goals simp

/-! ### HostCmds -/

@[simp] theorem State.hostDown_keep (s : State) (l : Nat) :
    (State.hostDown s l).clock = s.clock ∧ (State.hostDown s l).pending = s.pending ∧ (State.hostDown s l).fuse = s.fuse := by
  simp [State.hostDown]

@[simp] theorem State.perstOn_keep (s : State) (port : Nat) :
    (State.perstOn s port).clock = s.clock ∧ (State.perstOn s port).pending = s.pending ∧ (State.perstOn s port).fuse = s.fuse := by
  unfold State.perstOn
  dsimp only
  repeat' split
  all_goals simp

@[simp] theorem State.readySoon_keep (s : State) (port limit : Nat) :
    (State.readySoon s port limit).clock = s.clock ∧ (State.readySoon s port limit).pending = s.pending ∧ (State.readySoon s port limit).fuse = s.fuse := by
  simp [State.readySoon]

@[simp] theorem State.trainLink_keep (s : State) (l : Nat) :
    (State.trainLink s l).clock = s.clock ∧ (State.trainLink s l).pending = s.pending ∧ (State.trainLink s l).fuse = s.fuse := by
  unfold State.trainLink
  split <;> simp

@[simp] theorem State.trainPort_keep (s : State) (port : Nat) :
    (State.trainPort s port).clock = s.clock ∧ (State.trainPort s port).pending = s.pending ∧ (State.trainPort s port).fuse = s.fuse := by
  unfold State.trainPort
  dsimp only
  split <;> simp

@[simp] theorem State.perstOff_keep (s : State) (port : Nat) :
    (State.perstOff s port).clock = s.clock ∧ (State.perstOff s port).pending = s.pending ∧ (State.perstOff s port).fuse = s.fuse := by
  unfold State.perstOff
  repeat' split
  all_goals simp

@[simp] theorem State.resumeLink_keep (s : State) (l : Nat) :
    (State.resumeLink s l).clock = s.clock ∧ (State.resumeLink s l).pending = s.pending ∧ (State.resumeLink s l).fuse = s.fuse := by
  simp [State.resumeLink]

@[simp] theorem State.dropReq_keep (s : State) (r : Req) :
    (State.dropReq s r).clock = s.clock ∧ (State.dropReq s r).pending = s.pending ∧ (State.dropReq s r).fuse = s.fuse := by
  simp [State.dropReq]

@[simp] theorem State.pageRequest_keep (s : State) (f q addr n : Nat) (work : Option Nat) :
    (State.pageRequest s f q addr n work).clock = s.clock ∧ (State.pageRequest s f q addr n work).pending = s.pending ∧ (State.pageRequest s f q addr n work).fuse = s.fuse := by
  unfold State.pageRequest
  split <;> simp

@[simp] theorem State.loseWrite_keep (s : State) (f page : Nat) :
    (State.loseWrite s f page).clock = s.clock ∧ (State.loseWrite s f page).pending = s.pending ∧ (State.loseWrite s f page).fuse = s.fuse := by
  unfold State.loseWrite
  dsimp only
  split <;> simp

@[simp] theorem State.xlFails_keep (s : State) (f q page : Nat) :
    (State.xlFails s f q page).clock = s.clock ∧ (State.xlFails s f q page).pending = s.pending ∧ (State.xlFails s f q page).fuse = s.fuse := by
  unfold State.xlFails
  repeat' split
  all_goals simp

@[simp] theorem State.takeXl_keep (s : State) (r : Req) (data : Bytes) :
    (State.takeXl s r data).clock = s.clock ∧ (State.takeXl s r data).pending = s.pending ∧ (State.takeXl s r data).fuse = s.fuse := by
  unfold State.takeXl
  dsimp only
  repeat' split
  all_goals simp

@[simp] theorem State.reqFails_keep (s : State) (r : Req) :
    (State.reqFails s r).clock = s.clock ∧ (State.reqFails s r).pending = s.pending ∧ (State.reqFails s r).fuse = s.fuse := by
  unfold State.reqFails
  repeat' split
  all_goals simp

@[simp] theorem State.takeData_keep (s : State) (r : Req) (data : Bytes) :
    (State.takeData s r data).clock = s.clock ∧ (State.takeData s r data).pending = s.pending ∧ (State.takeData s r data).fuse = s.fuse := by
  unfold State.takeData
  dsimp only
  repeat' split
  all_goals simp

@[simp] theorem State.poisonWork_keep (s : State) (r : Req) :
    (State.poisonWork s r).clock = s.clock ∧ (State.poisonWork s r).pending = s.pending ∧ (State.poisonWork s r).fuse = s.fuse := by
  unfold State.poisonWork
  repeat' split
  all_goals simp

@[simp] theorem State.takeCpl_keep (s : State) (r : Req) (status : Nat) (ep : Bool) (data : Bytes) :
    (State.takeCpl s r status ep data).clock = s.clock ∧ (State.takeCpl s r status ep data).pending = s.pending ∧ (State.takeCpl s r status ep data).fuse = s.fuse := by
  unfold State.takeCpl
  dsimp only
  repeat' split
  all_goals simp

@[simp] theorem State.strayCpl_keep (s : State) (l tag : Nat) (ep : Bool) :
    (State.strayCpl s l tag ep).clock = s.clock ∧ (State.strayCpl s l tag ep).pending = s.pending ∧ (State.strayCpl s l tag ep).fuse = s.fuse := by
  unfold State.strayCpl
  split <;> simp

@[simp] theorem State.timeoutReq_keep (s : State) (r : Req) :
    (State.timeoutReq s r).clock = s.clock ∧ (State.timeoutReq s r).pending = s.pending ∧ (State.timeoutReq s r).fuse = s.fuse := by
  unfold State.timeoutReq
  dsimp only
  repeat' split
  all_goals simp

@[simp] theorem State.reply_keep (s : State) (l status : Nat) (tlp : HostTlp) (data : Bytes) :
    (State.reply s l status tlp data).clock = s.clock ∧ (State.reply s l status tlp data).pending = s.pending ∧ (State.reply s l status tlp data).fuse = s.fuse := by
  unfold State.reply
  split <;> simp

@[simp] theorem State.peerUr_keep (s : State) (port : Nat) (tlp : HostTlp) :
    (State.peerUr s port tlp).clock = s.clock ∧ (State.peerUr s port tlp).pending = s.pending ∧ (State.peerUr s port tlp).fuse = s.fuse := by
  unfold State.peerUr
  repeat' split
  all_goals simp

@[simp] theorem State.peerTlp_keep (s : State) (port : Nat) (tlp : HostTlp) (op off rid n : Nat) (ep : Bool) (data : Bytes) :
    (State.peerTlp s port tlp op off rid n ep data).clock = s.clock ∧ (State.peerTlp s port tlp op off rid n ep data).pending = s.pending ∧ (State.peerTlp s port tlp op off rid n ep data).fuse = s.fuse := by
  unfold State.peerTlp
  dsimp only
  repeat' split
  all_goals simp

@[simp] theorem State.endBufs_keep (s : State) (f q : Nat) (x : Qp) (n : Nat) :
    (State.endBufs s f q x n).clock = s.clock ∧ (State.endBufs s f q x n).pending = s.pending ∧ (State.endBufs s f q x n).fuse = s.fuse := by
  simp [State.endBufs]

@[simp] theorem State.pageFails_keep (s : State) (p : PageReq) :
    (State.pageFails s p).clock = s.clock ∧ (State.pageFails s p).pending = s.pending ∧ (State.pageFails s p).fuse = s.fuse := by
  unfold State.pageFails
  repeat' split
  all_goals simp

@[simp] theorem State.endPage_keep (s : State) (p : PageReq) :
    (State.endPage s p).clock = s.clock ∧ (State.endPage s p).pending = s.pending ∧ (State.endPage s p).fuse = s.fuse := by
  unfold State.endPage
  dsimp only
  split <;> simp

@[simp] theorem State.mmioDiscard_keep (s : State) (f : Nat) :
    (State.mmioDiscard s f).clock = s.clock ∧ (State.mmioDiscard s f).pending = s.pending ∧ (State.mmioDiscard s f).fuse = s.fuse := by
  unfold State.mmioDiscard
  split <;> simp

@[simp] theorem State.urTlp_keep (s : State) (f : Nat) (tlp : HostTlp) :
    (State.urTlp s f tlp).clock = s.clock ∧ (State.urTlp s f tlp).pending = s.pending ∧ (State.urTlp s f tlp).fuse = s.fuse := by
  unfold State.urTlp
  split <;> simp

theorem State.pageWrite_keep (s : State) (f : Nat) (act : State → State) (ha : (act s).clock = s.clock ∧ (act s).pending = s.pending ∧ (act s).fuse = s.fuse) :
    (s.pageWrite f act).clock = s.clock ∧ (s.pageWrite f act).pending = s.pending ∧ (s.pageWrite f act).fuse = s.fuse := by
  unfold State.pageWrite
  split
  · exact ha
  all_goals simp

theorem State.jobAccess_keep (s : State) (f q : Nat) (x : Qp) (as : List Access) (t : State) (h : s.jobAccess f q x as = .wait t) :
    t.clock = s.clock ∧ t.pending = s.pending ∧ t.fuse = s.fuse := by
  unfold State.jobAccess at h
  dsimp only at h
  repeat' split at h
  all_goals first
    | (cases h; done)
    | (cases h; simp; done)
    | (cases h; simpa using State.askXl_getD _ _ _ _ _ _)
    | (rename_i h1; cases h; exact State.askXl_keep _ _ _ _ _ _ _ h1)

theorem State.fetch_wait (s : State) (f q : Nat) (x : Qp) (attr : Attr) (as : List Access) (given : HostRead) (t : State) (h : s.fetch f q x attr as given = .wait t) :
    t.clock = s.clock ∧ t.pending = s.pending ∧ t.fuse = s.fuse := by
  unfold State.fetch at h
  try dsimp only at h
  repeat' split at h
  all_goals first
    | (cases h; done)
    | (cases h; simp; done)
    | (rename_i h1; cases h; have := State.jobAccess_keep _ _ _ _ _ _ h1; simp [this]; done)
    | (rename_i h1 h2; cases h; have := State.jobAccess_keep _ _ _ _ _ _ h1; simp [this]; done)

theorem State.fetch_lost (s : State) (f q : Nat) (x : Qp) (attr : Attr) (as : List Access) (given : HostRead) (t : State) (h : s.fetch f q x attr as given = .lost t) :
    t.clock = s.clock ∧ t.pending = s.pending ∧ t.fuse = s.fuse := by
  unfold State.fetch at h
  try dsimp only at h
  repeat' split at h
  all_goals first
    | (cases h; done)
    | (cases h; simp; done)

theorem State.fetch_got (s : State) (f q : Nat) (x : Qp) (attr : Attr) (as : List Access) (given : HostRead) (b : Bytes) (t : State) (h : s.fetch f q x attr as given = .got b t) :
    t.clock = s.clock ∧ t.pending = s.pending ∧ t.fuse = s.fuse := by
  unfold State.fetch at h
  try dsimp only at h
  repeat' split at h
  all_goals first
    | (cases h; done)
    | (cases h; simp; done)

theorem State.cfgAsk_keep (s : State) (f : Nat) (tlp : HostTlp) (act : State → State) (ha : (act s).clock = s.clock ∧ (act s).pending = s.pending ∧ (act s).fuse = s.fuse) :
    (s.cfgAsk f tlp act).clock = s.clock ∧ (s.cfgAsk f tlp act).pending = s.pending ∧ (s.cfgAsk f tlp act).fuse = s.fuse := by
  unfold State.cfgAsk
  dsimp only
  split
  · exact ha
  · simp
  · split <;> simp

@[simp] theorem State.flushPba_keep (s : State) (f : Nat) :
    (State.flushPba s f).clock = s.clock ∧ (State.flushPba s f).pending = s.pending ∧ (State.flushPba s f).fuse = s.fuse := by
  simp [State.flushPba]

/-! ### Queues -/

@[simp] theorem State.qpcRun_keep (s : State) (f code : Nat) :
    (State.qpcRun s f code).clock = s.clock ∧ (State.qpcRun s f code).pending = s.pending ∧ (State.qpcRun s f code).fuse = s.fuse := by
  unfold State.qpcRun
  dsimp only
  repeat' split
  all_goals simp

theorem foldFst_keep {α β : Type} (f : State × β → α → State × β) (l : List α) (s : State × β)
    (h : ∀ a x, (f a x).1.clock = a.1.clock ∧ (f a x).1.pending = a.1.pending ∧ (f a x).1.fuse = a.1.fuse) : (l.foldl f s).1.clock = s.1.clock ∧ (l.foldl f s).1.pending = s.1.pending ∧ (l.foldl f s).1.fuse = s.1.fuse := by
  induction l generalizing s with
  | nil => simp
  | cons x l ih =>
    have h1 := h s x
    have h2 := ih (f s x)
    simp only [List.foldl_cons]
    simp_all

@[simp] theorem State.jobWrite_keep (s : State) (f : Nat) (attr : Attr) (addr : Nat) (bs : Bytes) :
    (State.jobWrite s f attr addr bs).clock = s.clock ∧ (State.jobWrite s f attr addr bs).pending = s.pending ∧ (State.jobWrite s f attr addr bs).fuse = s.fuse := by
  unfold State.jobWrite
  exact foldFst_keep _ _ _ (fun a x => by simp)

@[simp] theorem State.sqDoorbell_keep (s : State) (f q v : Nat) :
    (State.sqDoorbell s f q v).clock = s.clock ∧ (State.sqDoorbell s f q v).pending = s.pending ∧ (State.sqDoorbell s f q v).fuse = s.fuse := by
  unfold State.sqDoorbell
  repeat' split
  all_goals simp

@[simp] theorem State.cqDoorbell_keep (s : State) (f q v : Nat) :
    (State.cqDoorbell s f q v).clock = s.clock ∧ (State.cqDoorbell s f q v).pending = s.pending ∧ (State.cqDoorbell s f q v).fuse = s.fuse := by
  unfold State.cqDoorbell
  dsimp only
  repeat' split
  all_goals simp

@[simp] theorem State.nvDoorbell_keep (s : State) (f q v : Nat) (cq : Bool) :
    (State.nvDoorbell s f q v cq).clock = s.clock ∧ (State.nvDoorbell s f q v cq).pending = s.pending ∧ (State.nvDoorbell s f q v cq).fuse = s.fuse := by
  unfold State.nvDoorbell
  repeat' split
  all_goals simp

@[simp] theorem State.doorbell_keep (s : State) (f q v : Nat) (cq : Bool) :
    (State.doorbell s f q v cq).clock = s.clock ∧ (State.doorbell s f q v cq).pending = s.pending ∧ (State.doorbell s f q v cq).fuse = s.fuse := by
  unfold State.doorbell
  refine State.pageWrite_keep _ _ _ ?_
  repeat' split
  all_goals simp

@[simp] theorem txTurns_keep (x1 : Nat) (x2 : List Nat) (s : State) :
    (txTurns x1 x2 s).2.clock = s.clock ∧ (txTurns x1 x2 s).2.pending = s.pending ∧ (txTurns x1 x2 s).2.fuse = s.fuse := by
  induction x1 generalizing s x2 with
  | zero => simp [txTurns]
  | succ n ih =>
    cases x2 with
    | nil => simp [txTurns]
    | cons c t =>
      unfold txTurns
      split <;> simp [ih]

@[simp] theorem State.txPick_keep (s : State) (a : Nat) :
    (State.txPick s a).2.clock = s.clock ∧ (State.txPick s a).2.pending = s.pending ∧ (State.txPick s a).2.fuse = s.fuse := by
  simp [State.txPick]

@[simp] theorem State.addWork_keep (s : State) (f : Nat) (w : Work) :
    (State.addWork s f w).clock = s.clock ∧ (State.addWork s f w).pending = s.pending ∧ (State.addWork s f w).fuse = s.fuse := by
  simp [State.addWork]

@[simp] theorem State.chargeTx_keep (s : State) (f q len : Nat) :
    (State.chargeTx s f q len).clock = s.clock ∧ (State.chargeTx s f q len).pending = s.pending ∧ (State.chargeTx s f q len).fuse = s.fuse := by
  unfold State.chargeTx
  extract_lets x left t
  have h : t.clock = s.clock ∧ t.pending = s.pending ∧ t.fuse = s.fuse := State.setFn_keep s _ _
  clear_value t
  split
  · exact h
  · simp only [State.setFn_keep, h, and_self]

@[simp] theorem State.startTx_keep (s : State) (f q : Nat) (x : Qp) (ds : List Bytes) :
    (State.startTx s f q x ds).clock = s.clock ∧ (State.startTx s f q x ds).pending = s.pending ∧ (State.startTx s f q x ds).fuse = s.fuse := by
  unfold State.startTx
  dsimp only
  repeat' split
  all_goals simp

@[simp] theorem State.txLost_keep (s : State) (f q : Nat) (x : Qp) :
    (State.txLost s f q x).clock = s.clock ∧ (State.txLost s f q x).pending = s.pending ∧ (State.txLost s f q x).fuse = s.fuse := by
  simp [State.txLost]

@[simp] theorem State.enterTx_keep (s : State) (w : Work) (bytes : Bytes) :
    (State.enterTx s w bytes).clock = s.clock ∧ (State.enterTx s w bytes).pending = s.pending ∧ (State.enterTx s w bytes).fuse = s.fuse := by
  simp [State.enterTx]

theorem State.hostWrites_keep (f : Nat) (a : Attr) (l : List (Nat × Nat)) (x : State × Bytes) :
    (l.foldl (fun (acc : State × Bytes) p => (acc.1.hostWrite f (.mem a p.1 (acc.2.take p.2)), acc.2.drop p.2)) x).1.clock = x.1.clock ∧ (l.foldl (fun (acc : State × Bytes) p => (acc.1.hostWrite f (.mem a p.1 (acc.2.take p.2)), acc.2.drop p.2)) x).1.pending = x.1.pending ∧ (l.foldl (fun (acc : State × Bytes) p => (acc.1.hostWrite f (.mem a p.1 (acc.2.take p.2)), acc.2.drop p.2)) x).1.fuse = x.1.fuse := by
  induction l generalizing x with
  | nil => simp
  | cons p l ih => simp only [List.foldl_cons]; simp [ih]

@[simp] theorem State.writeBuffers_keep (s : State) (f : Nat) (x : Qp) (x1 : Bytes) (x2 : List (Bytes × Nat)) :
    (State.writeBuffers s f x x1 x2).clock = s.clock ∧ (State.writeBuffers s f x x1 x2).pending = s.pending ∧ (State.writeBuffers s f x x1 x2).fuse = s.fuse := by
  induction x2 generalizing s x1 with
  | nil => simp [State.writeBuffers]
  | cons d t ih =>
    obtain ⟨d, n⟩ := d
    unfold State.writeBuffers
    dsimp only
    simp [ih, State.hostWrites_keep]

@[simp] theorem State.refuseBufs_keep (s : State) (f q : Nat) (x1 : List (Bytes × Nat)) :
    (State.refuseBufs s f q x1).clock = s.clock ∧ (State.refuseBufs s f q x1).pending = s.pending ∧ (State.refuseBufs s f q x1).fuse = s.fuse := by
  induction x1 generalizing s with
  | nil => simp [State.refuseBufs]
  | cons d t ih =>
    obtain ⟨d, n⟩ := d
    unfold State.refuseBufs
    repeat' split
    all_goals simp [ih]

@[simp] theorem State.rxDrop_keep (s : State) (f : Nat) (p : Pkt) (ctr : Nat) :
    (State.rxDrop s f p ctr).clock = s.clock ∧ (State.rxDrop s f p ctr).pending = s.pending ∧ (State.rxDrop s f p ctr).fuse = s.fuse := by
  unfold State.rxDrop
  split <;> simp

@[simp] theorem State.deliverVio_keep (s : State) (f q : Nat) (x : Qp) (p : Pkt) (chain : List Bytes) :
    (State.deliverVio s f q x p chain).clock = s.clock ∧ (State.deliverVio s f q x p chain).pending = s.pending ∧ (State.deliverVio s f q x p chain).fuse = s.fuse := by
  have hf := foldFst_keep (fun (a : State × Bytes) d =>
      (a.1.jobWrite f (a.1.ringAttr f x) (vqAddr d) (a.2.take (vqLen d)), a.2.drop (vqLen d))) chain
      (s, List.replicate 10 0 ++ toLe 2 1 ++ p.bytes) (fun a x => by simp)
  unfold State.deliverVio
  dsimp only
  split
  · simp
  · simpa using hf

@[simp] theorem State.fillBuffers_keep (s : State) (f q : Nat) (x : Qp) (p : Pkt) (bufs : List (Bytes × Nat)) :
    (State.fillBuffers s f q x p bufs).clock = s.clock ∧ (State.fillBuffers s f q x p bufs).pending = s.pending ∧ (State.fillBuffers s f q x p bufs).fuse = s.fuse := by
  unfold State.fillBuffers
  dsimp only
  repeat' split
  all_goals simp

theorem State.rxXl_keep (s : State) (f q : Nat) (pasid : Option Nat) (k : Nat) (l : List (Bytes × Nat)) (t : State) (n : Nat)
    (h : s.rxXl f q pasid k l = .asked t n) : t.clock = s.clock ∧ t.pending = s.pending ∧ t.fuse = s.fuse := by
  induction l generalizing k with
  | nil => simp [State.rxXl] at h
  | cons d l ih =>
    obtain ⟨d, n⟩ := d
    unfold State.rxXl at h
    dsimp only at h
    split at h
    · exact ih _ h
    · split at h
      · cases h
      · split at h <;> cases h
        · simp
        · simpa using State.askXl_getD _ _ _ _ _ _

@[simp] theorem State.deliverTo_keep (s : State) (f q : Nat) (x : Qp) (p : Pkt) (bufs : List (Bytes × Nat)) :
    (State.deliverTo s f q x p bufs).clock = s.clock ∧ (State.deliverTo s f q x p bufs).pending = s.pending ∧ (State.deliverTo s f q x p bufs).fuse = s.fuse := by
  unfold State.deliverTo
  split
  · simp
  · split
    · simp
    · rename_i h1
      have := State.rxXl_keep _ _ _ _ _ _ _ _ h1
      split <;> simp [this]
    · dsimp only
      repeat' split
      all_goals simp



@[simp] theorem State.deliver_keep (s : State) (f : Nat) (p : Pkt) (given : HostRead) :
    (State.deliver s f p given).clock = s.clock ∧ (State.deliver s f p given).pending = s.pending ∧ (State.deliver s f p given).fuse = s.fuse := by
  unfold State.deliver
  dsimp only
  split
  · simp
  · split
    · simp
    · split
      · split
        · rename_i h1
          exact State.fetch_wait _ _ _ _ _ _ _ _ h1
        · rename_i h1
          have := State.fetch_lost _ _ _ _ _ _ _ _ h1
          simp [this]
        · rename_i h1
          have := State.fetch_got _ _ _ _ _ _ _ _ _ h1
          split <;> simp [this]
      · split
        · rename_i h1
          have := State.fetch_wait _ _ _ _ _ _ _ _ h1
          split <;> simp [this]
        · rename_i h1
          have := State.fetch_lost _ _ _ _ _ _ _ _ h1
          simp [this]
        · rename_i h1
          have := State.fetch_got _ _ _ _ _ _ _ _ _ h1
          repeat' split
          all_goals simp [this]

@[simp] theorem State.writeCoreInt_keep (s : State) (f e v : Nat) :
    (State.writeCoreInt s f e v).clock = s.clock ∧ (State.writeCoreInt s f e v).pending = s.pending ∧ (State.writeCoreInt s f e v).fuse = s.fuse := by
  unfold State.writeCoreInt
  dsimp only
  split <;> simp

@[simp] theorem State.drainReset_keep (s : State) (f : Nat) :
    (State.drainReset s f).clock = s.clock ∧ (State.drainReset s f).pending = s.pending ∧ (State.drainReset s f).fuse = s.fuse := by
  simp [State.drainReset]

/-! ### Jobs -/

theorem State.jobFetch_wait (s : State) (f q : Nat) (x : Qp) (given : HostRead) (t : State) (h : s.jobFetch f q x given = .wait t) :
    t.clock = s.clock ∧ t.pending = s.pending ∧ t.fuse = s.fuse :=
  State.fetch_wait _ _ _ _ _ _ _ _ h

theorem State.jobFetch_lost (s : State) (f q : Nat) (x : Qp) (given : HostRead) (t : State) (h : s.jobFetch f q x given = .lost t) :
    t.clock = s.clock ∧ t.pending = s.pending ∧ t.fuse = s.fuse :=
  State.fetch_lost _ _ _ _ _ _ _ _ h

theorem State.jobFetch_got (s : State) (f q : Nat) (x : Qp) (given : HostRead) (b : Bytes) (t : State) (h : s.jobFetch f q x given = .got b t) :
    t.clock = s.clock ∧ t.pending = s.pending ∧ t.fuse = s.fuse :=
  State.fetch_got _ _ _ _ _ _ _ _ _ h

@[simp] theorem State.jobTaken_keep (s : State) (f q : Nat) :
    (State.jobTaken s f q).clock = s.clock ∧ (State.jobTaken s f q).pending = s.pending ∧ (State.jobTaken s f q).fuse = s.fuse := by
  unfold State.jobTaken
  split <;> simp

@[simp] theorem State.jobOver_keep (s : State) (f q : Nat) (entry : Bytes) :
    (State.jobOver s f q entry).clock = s.clock ∧ (State.jobOver s f q entry).pending = s.pending ∧ (State.jobOver s f q entry).fuse = s.fuse := by
  unfold State.jobOver
  split <;> simp



@[simp] theorem State.jobDone_keep (s : State) (f q : Nat) (entry : Bytes) :
    (State.jobDone s f q entry).clock = s.clock ∧ (State.jobDone s f q entry).pending = s.pending ∧ (State.jobDone s f q entry).fuse = s.fuse := by
  unfold State.jobDone
  repeat' split
  all_goals simp

@[simp] theorem State.clearFail_keep (s : State) (f q : Nat) :
    (State.clearFail s f q).clock = s.clock ∧ (State.clearFail s f q).pending = s.pending ∧ (State.clearFail s f q).fuse = s.fuse := by
  unfold State.clearFail
  split <;> simp

/-! ### Lookaside -/

@[simp] theorem State.saStore_keep (s : State) (i : Nat) (e : Bytes) (keep : Bool) :
    (State.saStore s i e keep).clock = s.clock ∧ (State.saStore s i e keep).pending = s.pending ∧ (State.saStore s i e keep).fuse = s.fuse := by
  unfold State.saStore
  dsimp only
  split <;> simp

@[simp] theorem State.unhold_keep (s : State) (ring : Nat) :
    (State.unhold s ring).clock = s.clock ∧ (State.unhold s ring).pending = s.pending ∧ (State.unhold s ring).fuse = s.fuse := by
  simp [State.unhold]

@[simp] theorem State.holdKey_keep (s : State) (ring slot : Nat) (key : Bytes) :
    (State.holdKey s ring slot key).clock = s.clock ∧ (State.holdKey s ring slot key).pending = s.pending ∧ (State.holdKey s ring slot key).fuse = s.fuse := by
  unfold State.holdKey
  dsimp only
  split <;> simp

@[simp] theorem State.laStart_keep (s : State) (f q : Nat) (d : Bytes) (ends : Nat) (slot : Option Nat) (status : Nat) (r : LaRes) :
    (State.laStart s f q d ends slot status r).clock = s.clock ∧ (State.laStart s f q d ends slot status r).pending = s.pending ∧ (State.laStart s f q d ends slot status r).fuse = s.fuse := by
  simp [State.laStart]

@[simp] theorem State.laFail_keep (s : State) (f q : Nat) (d : Bytes) (status : Nat) :
    (State.laFail s f q d status).clock = s.clock ∧ (State.laFail s f q d status).pending = s.pending ∧ (State.laFail s f q d status).fuse = s.fuse := by
  simp [State.laFail]

@[simp] theorem State.useEngine_keep (s : State) (alg n : Nat) :
    (State.useEngine s alg n).2.clock = s.clock ∧ (State.useEngine s alg n).2.pending = s.pending ∧ (State.useEngine s alg n).2.fuse = s.fuse := by
  unfold State.useEngine
  split <;> simp

theorem State.ringKey_keep (s : State) (ring slot alg : Nat) (label : Bytes) (k : Bytes) (t : State)
    (h : s.ringKey ring slot alg label = .key k t) : t.clock = s.clock ∧ t.pending = s.pending ∧ t.fuse = s.fuse := by
  unfold State.ringKey at h
  split at h
  · cases h; simp
  · exact State.workKey_keep _ _ _ _ _ _ _ h

@[simp] theorem State.laData_keep (s : State) (f q : Nat) (x : Qp) (d p : Bytes) (data : HostRead) :
    (State.laData s f q x d p data).clock = s.clock ∧ (State.laData s f q x d p data).pending = s.pending ∧ (State.laData s f q x d p data).fuse = s.fuse := by
  unfold State.laData
  extract_lets op
  split
  · simp
  split
  · simp
  split
  · simp
  split
  · simp
  · simp
  · simp
  · rename_i hk
    have hk := State.ringKey_keep _ _ _ _ _ _ _ hk
    split
    · rename_i h1
      have := State.fetch_wait _ _ _ _ _ _ _ _ h1
      simp [this, hk]
    · rename_i h1
      have := State.fetch_lost _ _ _ _ _ _ _ _ h1
      simp [this, hk]
    · rename_i h1
      have := State.fetch_got _ _ _ _ _ _ _ _ _ h1
      dsimp only
      split <;> simp [this, hk]

@[simp] theorem State.laSa_keep (s : State) (f q : Nat) (d e : Bytes) :
    (State.laSa s f q d e).clock = s.clock ∧ (State.laSa s f q d e).pending = s.pending ∧ (State.laSa s f q d e).fuse = s.fuse := by
  unfold State.laSa
  repeat' split
  all_goals simp

@[simp] theorem State.laTake_keep (s : State) (f q : Nat) (x : Qp) (d : Bytes) (param data : HostRead) :
    (State.laTake s f q x d param data).clock = s.clock ∧ (State.laTake s f q x d param data).pending = s.pending ∧ (State.laTake s f q x d param data).fuse = s.fuse := by
  unfold State.laTake
  try dsimp only
  repeat' split
  all_goals first
    | (simp; done)
    | (simp [*]; done)
    | (rename_i h1; have := State.fetch_wait _ _ _ _ _ _ _ _ h1; simp [this]; done)
    | (rename_i h1; have := State.fetch_lost _ _ _ _ _ _ _ _ h1; simp [this]; done)
    | (rename_i h1; have := State.fetch_got _ _ _ _ _ _ _ _ _ h1; simp [this]; done)
    | (rename_i h1 h2; have := State.fetch_got _ _ _ _ _ _ _ _ _ h1; simp [this]; done)

@[simp] theorem State.laOver_keep (s : State) (r : LaRun) (entry : Bytes) :
    (State.laOver s r entry).clock = s.clock ∧ (State.laOver s r entry).pending = s.pending ∧ (State.laOver s r entry).fuse = s.fuse := by
  simp [State.laOver]

@[simp] theorem State.laBad_keep (s : State) (r : LaRun) (status : Nat) :
    (State.laBad s r status).clock = s.clock ∧ (State.laBad s r status).pending = s.pending ∧ (State.laBad s r status).fuse = s.fuse := by
  simp [State.laBad]

@[simp] theorem State.laFinish_keep (s : State) (r : LaRun) (x : Qp) :
    (State.laFinish s r x).clock = s.clock ∧ (State.laFinish s r x).pending = s.pending ∧ (State.laFinish s r x).fuse = s.fuse := by
  unfold State.laFinish
  split
  · simp
  · extract_lets n refused t s1
    have ht : t.2.clock = s.clock ∧ t.2.pending = s.pending ∧ t.2.fuse = s.fuse := by
      simp only [t]
      split <;> simp
    have h1 : s1.clock = s.clock ∧ s1.pending = s.pending ∧ s1.fuse = s.fuse := by simp [s1, ht]
    clear_value t s1
    split
    · rename_i h
      exact State.jobAccess_keep _ _ _ _ _ _ h
    · simp
    · simp [h1]

/-! ### Storage -/

@[simp] theorem State.nvPair_keep (s : State) (f q vec : Nat) (ien : Bool) :
    (State.nvPair s f q vec ien).clock = s.clock ∧ (State.nvPair s f q vec ien).pending = s.pending ∧ (State.nvPair s f q vec ien).fuse = s.fuse := by
  unfold State.nvPair
  split <;> simp

@[simp] theorem State.nvPairDrop_keep (s : State) (f q : Nat) :
    (State.nvPairDrop s f q).clock = s.clock ∧ (State.nvPairDrop s f q).pending = s.pending ∧ (State.nvPairDrop s f q).fuse = s.fuse := by
  unfold State.nvPairDrop
  split <;> simp

@[simp] theorem State.addSq_keep (s : State) (f q base size cqid : Nat) :
    (State.addSq s f q base size cqid).clock = s.clock ∧ (State.addSq s f q base size cqid).pending = s.pending ∧ (State.addSq s f q base size cqid).fuse = s.fuse := by
  simp [State.addSq]

@[simp] theorem State.addCq_keep (s : State) (f q base size : Nat) :
    (State.addCq s f q base size).clock = s.clock ∧ (State.addCq s f q base size).pending = s.pending ∧ (State.addCq s f q base size).fuse = s.fuse := by
  simp [State.addCq]

@[simp] theorem State.nvmeReset_keep (s : State) (f cc : Nat) :
    (State.nvmeReset s f cc).clock = s.clock ∧ (State.nvmeReset s f cc).pending = s.pending ∧ (State.nvmeReset s f cc).fuse = s.fuse := by
  simp [State.nvmeReset]

@[simp] theorem State.sqTake_keep (s : State) (f q : Nat) :
    (State.sqTake s f q).clock = s.clock ∧ (State.sqTake s f q).pending = s.pending ∧ (State.sqTake s f q).fuse = s.fuse := by
  unfold State.sqTake
  split <;> simp

theorem State.stgFetch_keep (s : State) (f q addr n : Nat) (given : HostRead) (act : State → Bytes → State)
    (ha : ∀ (a : State) (b : Bytes), (act a b).clock = a.clock ∧ (act a b).pending = a.pending ∧ (act a b).fuse = a.fuse) :
    (s.stgFetch f q addr n given act).clock = s.clock ∧ (s.stgFetch f q addr n given act).pending = s.pending ∧ (s.stgFetch f q addr n given act).fuse = s.fuse := by
  unfold State.stgFetch
  split
  · simp
  · split
    · rename_i h1
      exact State.fetch_wait _ _ _ _ _ _ _ _ h1
    · rename_i h1
      have := State.fetch_lost _ _ _ _ _ _ _ _ h1
      simp [this]
    · rename_i h1
      have := State.fetch_got _ _ _ _ _ _ _ _ _ h1
      simp [this, ha]

@[simp] theorem State.createSq_keep (s : State) (f : Nat) (e : Bytes) :
    (State.createSq s f e).2.clock = s.clock ∧ (State.createSq s f e).2.pending = s.pending ∧ (State.createSq s f e).2.fuse = s.fuse := by
  unfold State.createSq
  dsimp only
  repeat' split
  all_goals simp

@[simp] theorem State.createCq_keep (s : State) (f : Nat) (e : Bytes) :
    (State.createCq s f e).2.clock = s.clock ∧ (State.createCq s f e).2.pending = s.pending ∧ (State.createCq s f e).2.fuse = s.fuse := by
  unfold State.createCq
  dsimp only
  repeat' split
  all_goals simp

@[simp] theorem State.deleteSq_keep (s : State) (f : Nat) (e : Bytes) :
    (State.deleteSq s f e).2.clock = s.clock ∧ (State.deleteSq s f e).2.pending = s.pending ∧ (State.deleteSq s f e).2.fuse = s.fuse := by
  unfold State.deleteSq
  dsimp only
  split <;> simp

@[simp] theorem State.deleteCq_keep (s : State) (f : Nat) (e : Bytes) :
    (State.deleteCq s f e).2.clock = s.clock ∧ (State.deleteCq s f e).2.pending = s.pending ∧ (State.deleteCq s f e).2.fuse = s.fuse := by
  unfold State.deleteCq
  dsimp only
  repeat' split
  all_goals simp

@[simp] theorem State.stgPass_keep (s : State) (ctx : Nat) (c : StgCmd) :
    (State.stgPass s ctx c).clock = s.clock ∧ (State.stgPass s ctx c).pending = s.pending ∧ (State.stgPass s ctx c).fuse = s.fuse := by
  unfold State.stgPass
  split <;> simp

@[simp] theorem State.stgArrive_keep (s : State) (f q ctx : Nat) (entry : Bytes) (chain : List (Nat × Nat × Bool)) :
    (State.stgArrive s f q ctx entry chain).clock = s.clock ∧ (State.stgArrive s f q ctx entry chain).pending = s.pending ∧ (State.stgArrive s f q ctx entry chain).fuse = s.fuse := by
  unfold State.stgArrive
  split <;> simp

@[simp] theorem State.psKind_keep (s : State) (d : Bytes) :
    (State.psKind s d).2.clock = s.clock ∧ (State.psKind s d).2.pending = s.pending ∧ (State.psKind s d).2.fuse = s.fuse := by
  unfold State.psKind
  split <;> simp

@[simp] theorem State.psFail_keep (s : State) (f q : Nat) (d : Bytes) (status : Nat) :
    (State.psFail s f q d status).clock = s.clock ∧ (State.psFail s f q d status).pending = s.pending ∧ (State.psFail s f q d status).fuse = s.fuse := by
  simp [State.psFail]

@[simp] theorem State.psPost_keep (s : State) (f q : Nat) (x : Qp) (d : Bytes) :
    (State.psPost s f q x d).clock = s.clock ∧ (State.psPost s f q x d).pending = s.pending ∧ (State.psPost s f q x d).fuse = s.fuse := by
  unfold State.psPost
  dsimp only
  repeat' split
  all_goals simp

@[simp] theorem State.nvCoalesce_keep (s : State) (c : StgCmd) (status : Nat) :
    (State.nvCoalesce s c status).clock = s.clock ∧ (State.nvCoalesce s c status).pending = s.pending ∧ (State.nvCoalesce s c status).fuse = s.fuse := by
  unfold State.nvCoalesce
  dsimp only
  split
  · have h := fun (l : List (Nat × NvCq)) (s1 : State) => foldl_keep (fun (a : State) (x : Nat × NvCq) =>
      match a.qp? c.fid (x.1 % 65536) with
      | some y => a.nvPair c.fid (x.1 % 65536) y.vec (bit y.ctrl 28)
      | none => a) l s1 (by intro a x; split <;> simp)
    exact ⟨(h _ _).1.trans (by simp), (h _ _).2.1.trans (by simp), (h _ _).2.2.trans (by simp)⟩
  · simp

@[simp] theorem State.psRespond_keep (s : State) (f q : Nat) (d : Bytes) :
    (State.psRespond s f q d).clock = s.clock ∧ (State.psRespond s f q d).pending = s.pending ∧ (State.psRespond s f q d).fuse = s.fuse := by
  unfold State.psRespond
  dsimp only
  repeat' split
  all_goals simp

@[simp] theorem State.freshBytes_keep (s : State) (n : Nat) :
    (State.freshBytes s n).2.clock = s.clock ∧ (State.freshBytes s n).2.pending = s.pending ∧ (State.freshBytes s n).2.fuse = s.fuse := by
  unfold State.freshBytes
  split <;> simp

@[simp] theorem Fmt.mapMd_keep (m : Fmt) (n : Nat) (src : Bytes) (s : State) :
    (Fmt.mapMd m n src s).2.clock = s.clock ∧ (Fmt.mapMd m n src s).2.pending = s.pending ∧ (Fmt.mapMd m n src s).2.fuse = s.fuse := by
  unfold Fmt.mapMd
  repeat' split
  all_goals simp

@[simp] theorem Xf.toApp_keep (x : Xf) (k : Nat) (data md : Bytes) (s : State) :
    (Xf.toApp x k data md s).2.2.clock = s.clock ∧ (Xf.toApp x k data md s).2.2.pending = s.pending ∧ (Xf.toApp x k data md s).2.2.fuse = s.fuse := by
  simp [Xf.toApp]

@[simp] theorem Xf.toHost_keep (x : Xf) (k : Nat) (data md : Bytes) (s : State) :
    (Xf.toHost x k data md s).2.2.clock = s.clock ∧ (Xf.toHost x k data md s).2.2.pending = s.pending ∧ (Xf.toHost x k data md s).2.2.fuse = s.fuse := by
  simp [Xf.toHost]

@[simp] theorem State.scatter_keep (s : State) (f : Nat) (x1 : List (Nat × Nat)) (x2 : Bytes) :
    (State.scatter s f x1 x2).clock = s.clock ∧ (State.scatter s f x1 x2).pending = s.pending ∧ (State.scatter s f x1 x2).fuse = s.fuse := by
  induction x1 generalizing s x2 with
  | nil => simp [State.scatter]
  | cons d t ih =>
    obtain ⟨a, n⟩ := d
    simp [State.scatter, ih]

@[simp] theorem unitsToApp_keep (n : Nat) (host md : Bytes) (x : Xf) (s : State) :
    (unitsToApp n host md x s).2.2.clock = s.clock ∧ (unitsToApp n host md x s).2.2.pending = s.pending ∧ (unitsToApp n host md x s).2.2.fuse = s.fuse := by
  have h : ∀ (g : Xf × Bytes × State → Nat → Xf × Bytes × State) (_ : ∀ a k, (g a k).2.2.clock = a.2.2.clock ∧
      (g a k).2.2.pending = a.2.2.pending ∧ (g a k).2.2.fuse = a.2.2.fuse) (l : List Nat) (p : Xf × Bytes × State),
      (l.foldl g p).2.2.clock = p.2.2.clock ∧ (l.foldl g p).2.2.pending = p.2.2.pending ∧ (l.foldl g p).2.2.fuse = p.2.2.fuse := by
    intro g hg l
    induction l with
    | nil => intro p; exact ⟨rfl, rfl, rfl⟩
    | cons y l ih =>
      intro p
      simp only [List.foldl_cons]
      exact ⟨(ih _).1.trans (hg _ _).1, (ih _).2.1.trans (hg _ _).2.1, (ih _).2.2.trans (hg _ _).2.2⟩
  unfold unitsToApp
  exact h _ (by intro a k; simp) _ (x, [], s)

@[simp] theorem unitsToHost_keep (n : Nat) (app : Bytes) (x : Xf) (s : State) :
    (unitsToHost n app x s).2.2.clock = s.clock ∧ (unitsToHost n app x s).2.2.pending = s.pending ∧ (unitsToHost n app x s).2.2.fuse = s.fuse := by
  have h : ∀ (g : Xf × (Bytes × Bytes) × State → Nat → Xf × (Bytes × Bytes) × State) (_ : ∀ a k, (g a k).2.2.clock = a.2.2.clock ∧
      (g a k).2.2.pending = a.2.2.pending ∧ (g a k).2.2.fuse = a.2.2.fuse) (l : List Nat) (p : Xf × (Bytes × Bytes) × State),
      (l.foldl g p).2.2.clock = p.2.2.clock ∧ (l.foldl g p).2.2.pending = p.2.2.pending ∧ (l.foldl g p).2.2.fuse = p.2.2.fuse := by
    intro g hg l
    induction l with
    | nil => intro p; exact ⟨rfl, rfl, rfl⟩
    | cons y l ih =>
      intro p
      simp only [List.foldl_cons]
      exact ⟨(ih _).1.trans (hg _ _).1, (ih _).2.1.trans (hg _ _).2.1, (ih _).2.2.trans (hg _ _).2.2⟩
  unfold unitsToHost
  exact h _ (by intro a k; simp) _ (x, ([], []), s)

@[simp] theorem State.xferDone_keep (s : State) (f q : Nat) (x : Xf) :
    (State.xferDone s f q x).clock = s.clock ∧ (State.xferDone s f q x).pending = s.pending ∧ (State.xferDone s f q x).fuse = s.fuse := by
  simp [State.xferDone]

@[simp] theorem State.xferMove_keep (s : State) (f q : Nat) (c : StgCmd) (x : Xf) (segs : List (Nat × Nat)) (mptr : Nat) (mem : List (Nat × Bytes)) :
    (State.xferMove s f q c x segs mptr mem).clock = s.clock ∧ (State.xferMove s f q c x segs mptr mem).pending = s.pending ∧ (State.xferMove s f q c x segs mptr mem).fuse = s.fuse := by
  unfold State.xferMove
  dsimp only
  repeat' split
  all_goals simp

@[simp] theorem State.xferWait_keep (s : State) (f q : Nat) (d : Bytes) (m : Fmt) (key : Option Bytes) :
    (State.xferWait s f q d m key).clock = s.clock ∧ (State.xferWait s f q d m key).pending = s.pending ∧ (State.xferWait s f q d m key).fuse = s.fuse := by
  unfold State.xferWait
  split <;> simp

@[simp] theorem State.xferRun_keep (s : State) (f q : Nat) (c : StgCmd) (m : Fmt) (d : Bytes) (key : Option Bytes) (mem : List (Nat × Bytes)) (fail : Option ReadFail) :
    (State.xferRun s f q c m d key mem fail).clock = s.clock ∧ (State.xferRun s f q c m d key mem fail).pending = s.pending ∧ (State.xferRun s f q c m d key mem fail).fuse = s.fuse := by
  unfold State.xferRun
  split
  · simp
  · extract_lets mptr md as
    split
    · simp
    · split
      · simp
      · split
        · rename_i h1
          have := State.jobAccess_keep _ _ _ _ _ _ h1
          simp [this]
        · simp
        · extract_lets s1
          have h1 : s1.clock = s.clock ∧ s1.pending = s.pending ∧ s1.fuse = s.fuse := foldl_keep _ _ _ (fun a x => by simp)
          clear_value s1
          split <;> simp [h1]

@[simp] theorem State.psXfer_keep (s : State) (f q : Nat) (d : Bytes) (mem : List (Nat × Bytes)) (fail : Option ReadFail) :
    (State.psXfer s f q d mem fail).clock = s.clock ∧ (State.psXfer s f q d mem fail).pending = s.pending ∧ (State.psXfer s f q d mem fail).fuse = s.fuse := by
  unfold State.psXfer
  split
  · split
    · simp
    · split
      · simp
      · split
        · simp
        · split
          · rename_i h1
            have h2 := State.ringKey_keep _ _ _ _ _ _ _ h1
            simp [h2]
          · simp
          · simp
          · simp
  · simp

/-! ### Migration -/

@[simp] theorem State.migRun_keep (s : State) (c : Nat) (effect : State → Nat → State)
    (h : ∀ t f, (effect t f).clock = t.clock ∧ (effect t f).pending = t.pending ∧ (effect t f).fuse = t.fuse) : (State.migRun s c effect).clock = s.clock ∧ (State.migRun s c effect).pending = s.pending ∧ (State.migRun s c effect).fuse = s.fuse := by
  unfold State.migRun
  repeat' split
  all_goals simp [h]

@[simp] theorem State.clearFilter_keep (s : State) (f : Nat) :
    (State.clearFilter s f).clock = s.clock ∧ (State.clearFilter s f).pending = s.pending ∧ (State.clearFilter s f).fuse = s.fuse := by
  simp [State.clearFilter]

@[simp] theorem State.startLog_keep (s : State) (c f : Nat) :
    (State.startLog s c f).clock = s.clock ∧ (State.startLog s c f).pending = s.pending ∧ (State.startLog s c f).fuse = s.fuse := by
  unfold State.startLog
  repeat' split
  all_goals simp

@[simp] theorem State.syncLog_keep (s : State) (c f : Nat) :
    (State.syncLog s c f).clock = s.clock ∧ (State.syncLog s c f).pending = s.pending ∧ (State.syncLog s c f).fuse = s.fuse := by
  unfold State.syncLog
  split <;> simp

@[simp] theorem State.stopLog_keep (s : State) (c f : Nat) :
    (State.stopLog s c f).clock = s.clock ∧ (State.stopLog s c f).pending = s.pending ∧ (State.stopLog s c f).fuse = s.fuse := by
  simp [State.stopLog]

@[simp] theorem State.unstartWorks_keep (s : State) (f : Nat) :
    (State.unstartWorks s f).clock = s.clock ∧ (State.unstartWorks s f).pending = s.pending ∧ (State.unstartWorks s f).fuse = s.fuse := by
  unfold State.unstartWorks
  dsimp only
  refine foldl_keep _ _ _ (fun a x => ?_)
  split <;> simp

@[simp] theorem State.hold_keep (s : State) (c f : Nat) :
    (State.hold s c f).clock = s.clock ∧ (State.hold s c f).pending = s.pending ∧ (State.hold s c f).fuse = s.fuse := by
  simp [State.hold]

@[simp] theorem State.save_keep (s : State) (c f : Nat) :
    (State.save s c f).clock = s.clock ∧ (State.save s c f).pending = s.pending ∧ (State.save s c f).fuse = s.fuse := by
  unfold State.save
  dsimp only
  repeat' split
  all_goals simp

@[simp] theorem State.restoreStg_keep (s : State) (f : Nat) (b : MigBody) :
    (State.restoreStg s f b).clock = s.clock ∧ (State.restoreStg s f b).pending = s.pending ∧ (State.restoreStg s f b).fuse = s.fuse := by
  unfold State.restoreStg
  split <;> simp

@[simp] theorem State.restoreImage_keep (s : State) (c f : Nat) (hdr : Bytes) (b : MigBody) :
    (State.restoreImage s c f hdr b).clock = s.clock ∧ (State.restoreImage s c f hdr b).pending = s.pending ∧ (State.restoreImage s c f hdr b).fuse = s.fuse := by
  unfold State.restoreImage
  split <;> simp

@[simp] theorem State.restore_keep (s : State) (c f : Nat) (hdr : Bytes) (b : MigBody) (fail : Option ReadFail) :
    (State.restore s c f hdr b fail).clock = s.clock ∧ (State.restore s c f hdr b fail).pending = s.pending ∧ (State.restore s c f hdr b fail).fuse = s.fuse := by
  unfold State.restore
  dsimp only
  repeat' split
  all_goals simp

@[simp] theorem State.releaseFn_keep (s : State) (c f : Nat) :
    (State.releaseFn s c f).clock = s.clock ∧ (State.releaseFn s c f).pending = s.pending ∧ (State.releaseFn s c f).fuse = s.fuse := by
  simp [State.releaseFn]

@[simp] theorem State.migCode_keep (s : State) (c code : Nat) :
    (State.migCode s c code).clock = s.clock ∧ (State.migCode s c code).pending = s.pending ∧ (State.migCode s c code).fuse = s.fuse := by
  unfold State.migCode
  repeat' split
  all_goals simp

/-! ### Mmio -/

theorem State.regWrite_keep (s : State) (f off size val : Nat) (t) (h : State.regWrite s f off size val = some t) :
    t.clock = s.clock ∧ t.pending = s.pending ∧ t.fuse = s.fuse := by
  unfold State.regWrite at h
  dsimp only at h
  repeat' split at h
  all_goals (first | (simp at h; done) | (simp at h; subst h; simp; done) | (cases h; simp; done))

@[simp] theorem State.steerWrite_keep (s : State) (f off size val : Nat) :
    (State.steerWrite s f off size val).clock = s.clock ∧ (State.steerWrite s f off size val).pending = s.pending ∧ (State.steerWrite s f off size val).fuse = s.fuse := by
  unfold State.steerWrite
  split <;> simp

@[simp] theorem State.setVio_keep (s : State) (f q reg v : Nat) :
    (State.setVio s f q reg v).clock = s.clock ∧ (State.setVio s f q reg v).pending = s.pending ∧ (State.setVio s f q reg v).fuse = s.fuse := by
  simp [State.setVio]

@[simp] theorem State.vioEnable_keep (s : State) (f q : Nat) :
    (State.vioEnable s f q).clock = s.clock ∧ (State.vioEnable s f q).pending = s.pending ∧ (State.vioEnable s f q).fuse = s.fuse := by
  unfold State.vioEnable
  split <;> simp

@[simp] theorem State.vioReset_keep (s : State) (f : Nat) :
    (State.vioReset s f).clock = s.clock ∧ (State.vioReset s f).pending = s.pending ∧ (State.vioReset s f).fuse = s.fuse := by
  simp [State.vioReset]

@[simp] theorem State.vioSet_keep (s : State) (f reg : Nat) (own : Bool) (v : Nat) :
    (State.vioSet s f reg own v).clock = s.clock ∧ (State.vioSet s f reg own v).pending = s.pending ∧ (State.vioSet s f reg own v).fuse = s.fuse := by
  unfold State.vioSet
  repeat' split
  all_goals simp

@[simp] theorem State.vioWrite_keep (s : State) (f off size val : Nat) :
    (State.vioWrite s f off size val).clock = s.clock ∧ (State.vioWrite s f off size val).pending = s.pending ∧ (State.vioWrite s f off size val).fuse = s.fuse := by
  simp [State.vioWrite]

@[simp] theorem State.vioNotify_keep (s : State) (f q : Nat) :
    (State.vioNotify s f q).clock = s.clock ∧ (State.vioNotify s f q).pending = s.pending ∧ (State.vioNotify s f q).fuse = s.fuse := by
  unfold State.vioNotify
  repeat' split
  all_goals simp

theorem State.personaWrite_keep (s : State) (f off size val : Nat) (t) (h : State.personaWrite s f off size val = some t) :
    t.clock = s.clock ∧ t.pending = s.pending ∧ t.fuse = s.fuse := by
  unfold State.personaWrite at h
  repeat' split at h
  all_goals (first | (simp at h; done) | (simp at h; subst h; simp; done) | (cases h; simp; done))

@[simp] theorem State.nvmeWrite_keep (s : State) (f off size val : Nat) :
    (State.nvmeWrite s f off size val).clock = s.clock ∧ (State.nvmeWrite s f off size val).pending = s.pending ∧ (State.nvmeWrite s f off size val).fuse = s.fuse := by
  unfold State.nvmeWrite
  dsimp only
  repeat' split
  all_goals simp

theorem State.mbxWrite_keep (s : State) (off size val : Nat) (t) (h : State.mbxWrite s off size val = some t) :
    t.clock = s.clock ∧ t.pending = s.pending ∧ t.fuse = s.fuse := by
  unfold State.mbxWrite at h
  repeat' split at h
  all_goals (first | (simp at h; done) | (simp at h; subst h; simp; done) | (cases h; simp; done))

theorem State.msixWrite_keep (s : State) (f off size val : Nat) (t) (h : State.msixWrite s f off size val = some t) :
    t.clock = s.clock ∧ t.pending = s.pending ∧ t.fuse = s.fuse := by
  unfold State.msixWrite at h
  dsimp only at h
  repeat' split at h
  all_goals (first | (simp at h; done) | (simp at h; subst h; simp; done) | (cases h; simp; done))

@[simp] theorem State.bellWrite_keep (s : State) (f off size val : Nat) :
    (State.bellWrite s f off size val).clock = s.clock ∧ (State.bellWrite s f off size val).pending = s.pending ∧ (State.bellWrite s f off size val).fuse = s.fuse := by
  unfold State.bellWrite
  split <;> simp

theorem State.bar0Write_keep (s : State) (f off size val : Nat) (t) (h : State.bar0Write s f off size val = some t) :
    t.clock = s.clock ∧ t.pending = s.pending ∧ t.fuse = s.fuse := by
  unfold State.bar0Write at h
  split at h
  · have h := Option.some.inj h
    subst h
    exact State.nvmeWrite_keep _ _ _ _ _
  · split at h
    · exact State.regWrite_keep _ _ _ _ _ _ h
    · split at h
      · exact State.personaWrite_keep _ _ _ _ _ _ h
      · split at h
        · exact State.mbxWrite_keep _ _ _ _ _ h
        · cases h

theorem State.coreWrite_keep (s : State) (f off size val : Nat) (t) (h : State.coreWrite s f off size val = some t) :
    t.clock = s.clock ∧ t.pending = s.pending ∧ t.fuse = s.fuse := by
  unfold State.coreWrite at h
  split at h
  · exact State.regWrite_keep _ _ _ _ _ _ h
  · split at h
    · have h := Option.some.inj h
      subst h
      exact State.steerWrite_keep _ _ _ _ _
    · split at h
      · have h := Option.some.inj h
        subst h
        exact State.setFn_keep _ _ _
      · split at h
        · split at h
          · have h := Option.some.inj h
            subst h
            exact ⟨rfl, rfl, rfl⟩
          · simp at h
        · simp at h

theorem State.mmioTake_keep (s : State) (f bar off size val : Nat) (t) (h : State.mmioTake s f bar off size val = some t) :
    t.clock = s.clock ∧ t.pending = s.pending ∧ t.fuse = s.fuse := by
  unfold State.mmioTake at h
  extract_lets bell at h
  split at h
  · split at h
    · have h := Option.some.inj h
      subst h
      exact State.bumpFn_keep _ _ _
    · cases h
  · split at h
    · have h := Option.some.inj h
      subst h
      exact State.bellWrite_keep _ _ _ _ _
    · split at h
      · exact State.coreWrite_keep _ _ _ _ _ _ h
      · split at h
        · exact State.bar0Write_keep _ _ _ _ _ _ h
        · exact State.msixWrite_keep _ _ _ _ _ _ h

@[simp] theorem State.mmio_keep (s : State) (f bar off size val : Nat) :
    (State.mmio s f bar off size val).clock = s.clock ∧ (State.mmio s f bar off size val).pending = s.pending ∧ (State.mmio s f bar off size val).fuse = s.fuse := by
  unfold State.mmio
  split
  · simp
  · split
    · rename_i h
      exact State.mmioTake_keep _ _ _ _ _ _ _ h
    · simp

@[simp] theorem State.readIsr_keep (s : State) (f bar off : Nat) :
    (State.readIsr s f bar off).clock = s.clock ∧ (State.readIsr s f bar off).pending = s.pending ∧ (State.readIsr s f bar off).fuse = s.fuse := by
  unfold State.readIsr
  split <;> simp

@[simp] theorem State.hostRead_keep (s : State) (f bar off size : Nat) (tlp : HostTlp) :
    (State.hostRead s f bar off size tlp).clock = s.clock ∧ (State.hostRead s f bar off size tlp).pending = s.pending ∧ (State.hostRead s f bar off size tlp).fuse = s.fuse := by
  unfold State.hostRead
  repeat' split
  all_goals simp

@[simp] theorem State.cfgWrite_keep (s : State) (f field val : Nat) :
    (State.cfgWrite s f field val).clock = s.clock ∧ (State.cfgWrite s f field val).pending = s.pending ∧ (State.cfgWrite s f field val).fuse = s.fuse := by
  unfold State.cfgWrite
  dsimp only
  repeat' split
  all_goals simp

end Sys2Proof.Machine
end

