-- ==== Sys2Proof/Laws/KeepFabric.lean ====
section
/-!
SUPPORT. What the operations of epochs, time and the Weave leave unchanged: clock, queue and fuses. Where an operation burns fuses, it
`Grows`.
-/

set_option linter.unusedSimpArgs false

namespace Sys2Proof.Machine

/-! ### Sem -/

@[simp] theorem State.setMode_keep (s : State) (m : Mode) (reason : Nat) :
    (State.setMode s m reason).clock = s.clock ∧ (State.setMode s m reason).pending = s.pending ∧ (State.setMode s m reason).fuse = s.fuse := by
  unfold State.setMode
  split <;> simp

/-! ### Epochs -/

@[simp] theorem State.dropOps_keep (s : State) (v : Ver) :
    (State.dropOps s v).clock = s.clock ∧ (State.dropOps s v).pending = s.pending ∧ (State.dropOps s v).fuse = s.fuse := by
  simp [State.dropOps]

@[simp] theorem State.seal_keep (s : State) (k : Nat × Nat) (v : Ver) :
    (State.seal s k v).2.clock = s.clock ∧ (State.seal s k v).2.pending = s.pending ∧ (State.seal s k v).2.fuse = s.fuse := by
  simp [State.seal]

@[simp] theorem State.apply_keep (s : State) (c : Sealed) :
    (State.apply s c).clock = s.clock ∧ (State.apply s c).pending = s.pending ∧ (State.apply s c).fuse = s.fuse := by
  simp [State.apply]

@[simp] theorem State.commitLocal_keep (s : State) (k : Nat × Nat) :
    (State.commitLocal s k).2.2.clock = s.clock ∧ (State.commitLocal s k).2.2.pending = s.pending ∧ (State.commitLocal s k).2.2.fuse = s.fuse := by
  unfold State.commitLocal
  dsimp only
  repeat' split
  all_goals simp

@[simp] theorem State.resetDeficits_keep (s : State) (old new : Ver) :
    (State.resetDeficits s old new).clock = s.clock ∧ (State.resetDeficits s old new).pending = s.pending ∧ (State.resetDeficits s old new).fuse = s.fuse := by
  simp [State.resetDeficits]

@[simp] theorem State.dropUnattached_keep (s : State) :
    (State.dropUnattached s).clock = s.clock ∧ (State.dropUnattached s).pending = s.pending ∧ (State.dropUnattached s).fuse = s.fuse := by
  simp [State.dropUnattached]

@[simp] theorem State.moveBindings_keep (s : State) (old new : Ver) :
    (State.moveBindings s old new).clock = s.clock ∧ (State.moveBindings s old new).pending = s.pending ∧ (State.moveBindings s old new).fuse = s.fuse := by
  simp [State.moveBindings]

@[simp] theorem State.newPolicers_keep (s : State) (old new : Ver) :
    (State.newPolicers s old new).clock = s.clock ∧ (State.newPolicers s old new).pending = s.pending ∧ (State.newPolicers s old new).fuse = s.fuse := by
  simp [State.newPolicers]

@[simp] theorem State.newBanks_keep (s : State) (old new : Ver) :
    (State.newBanks s old new).clock = s.clock ∧ (State.newBanks s old new).pending = s.pending ∧ (State.newBanks s old new).fuse = s.fuse := by
  simp [State.newBanks]

@[simp] theorem State.newTables_keep (s : State) (new : Ver) :
    (State.newTables s new).clock = s.clock ∧ (State.newTables s new).pending = s.pending ∧ (State.newTables s new).fuse = s.fuse := by
  simp [State.newTables]

@[simp] theorem State.newGates_keep (s : State) (old new : Ver) :
    (State.newGates s old new).clock = s.clock ∧ (State.newGates s old new).pending = s.pending ∧ (State.newGates s old new).fuse = s.fuse := by
  simp [State.newGates]

@[simp] theorem State.newCalendar_keep (s : State) (old new : Ver) :
    (State.newCalendar s old new).clock = s.clock ∧ (State.newCalendar s old new).pending = s.pending ∧ (State.newCalendar s old new).fuse = s.fuse := by
  unfold State.newCalendar
  split <;> simp

@[simp] theorem State.storeVersion_keep (s : State) (old new : Ver) :
    (State.storeVersion s old new).clock = s.clock ∧ (State.storeVersion s old new).pending = s.pending ∧ (State.storeVersion s old new).fuse = s.fuse := by
  simp [State.storeVersion]

@[simp] theorem State.switchTo_keep (s : State) (c : Sealed) :
    (State.switchTo s c).clock = s.clock ∧ (State.switchTo s c).pending = s.pending ∧ (State.switchTo s c).fuse = s.fuse := by
  unfold State.switchTo
  split <;> simp

@[simp] theorem State.freeEntries_keep (s : State) (oldest : Nat) :
    (State.freeEntries s oldest).clock = s.clock ∧ (State.freeEntries s oldest).pending = s.pending ∧ (State.freeEntries s oldest).fuse = s.fuse := by
  simp [State.freeEntries]

@[simp] theorem State.retire_keep (s : State) (next : Ver) :
    (State.retire s next).clock = s.clock ∧ (State.retire s next).pending = s.pending ∧ (State.retire s next).fuse = s.fuse := by
  simp [State.retire]

@[simp] theorem State.atState_keep (s : State) (n : Nat) :
    (State.atState s n).clock = s.clock ∧ (State.atState s n).pending = s.pending ∧ (State.atState s n).fuse = s.fuse := by
  simp [State.atState]

@[simp] theorem State.atGo_keep (s : State) (n : Nat) :
    (State.atGo s n).clock = s.clock ∧ (State.atGo s n).pending = s.pending ∧ (State.atGo s n).fuse = s.fuse := by
  unfold State.atGo
  split <;> simp

@[simp] theorem State.disarm_keep (s : State) :
    (State.disarm s).clock = s.clock ∧ (State.disarm s).pending = s.pending ∧ (State.disarm s).fuse = s.fuse := by
  simp [State.disarm]

@[simp] theorem State.hearCancel_keep (s : State) (id : Nat) :
    (State.hearCancel s id).clock = s.clock ∧ (State.hearCancel s id).pending = s.pending ∧ (State.hearCancel s id).fuse = s.fuse := by
  unfold State.hearCancel
  repeat' split
  all_goals simp

@[simp] theorem State.sendCancel_keep (s : State) (i : Initiated) :
    (State.sendCancel s i).clock = s.clock ∧ (State.sendCancel s i).pending = s.pending ∧ (State.sendCancel s i).fuse = s.fuse := by
  simp [State.sendCancel]

@[simp] theorem State.takeAck_keep (s : State) (id from_ : Nat) :
    (State.takeAck s id from_).clock = s.clock ∧ (State.takeAck s id from_).pending = s.pending ∧ (State.takeAck s id from_).fuse = s.fuse := by
  unfold State.takeAck
  repeat' split
  all_goals simp

@[simp] theorem State.takeNak_keep (s : State) (id : Nat) :
    (State.takeNak s id).clock = s.clock ∧ (State.takeNak s id).pending = s.pending ∧ (State.takeNak s id).fuse = s.fuse := by
  unfold State.takeNak
  repeat' split
  all_goals simp

@[simp] theorem State.answerPrepare_keep (s : State) (id t dst code : Nat) :
    (State.answerPrepare s id t dst code).clock = s.clock ∧ (State.answerPrepare s id t dst code).pending = s.pending ∧ (State.answerPrepare s id t dst code).fuse = s.fuse := by
  unfold State.answerPrepare
  repeat' split
  all_goals simp

@[simp] theorem State.prepareNew_keep (s : State) (id t from_ : Nat) :
    (State.prepareNew s id t from_).clock = s.clock ∧ (State.prepareNew s id t from_).pending = s.pending ∧ (State.prepareNew s id t from_).fuse = s.fuse := by
  unfold State.prepareNew
  dsimp only
  repeat' split
  all_goals simp

@[simp] theorem State.takePrepare_keep (s : State) (id t from_ : Nat) :
    (State.takePrepare s id t from_).clock = s.clock ∧ (State.takePrepare s id t from_).pending = s.pending ∧ (State.takePrepare s id t from_).fuse = s.fuse := by
  unfold State.takePrepare
  repeat' split
  all_goals simp

@[simp] theorem State.compareOutcome_keep (s : State) (id out : Nat) :
    (State.compareOutcome s id out).clock = s.clock ∧ (State.compareOutcome s id out).pending = s.pending ∧ (State.compareOutcome s id out).fuse = s.fuse := by
  unfold State.compareOutcome
  repeat' split
  all_goals simp

@[simp] theorem State.learnOutcome_keep (s : State) (id out init : Nat) :
    (State.learnOutcome s id out init).clock = s.clock ∧ (State.learnOutcome s id out init).pending = s.pending ∧ (State.learnOutcome s id out init).fuse = s.fuse := by
  unfold State.learnOutcome
  dsimp only
  split <;> simp

@[simp] theorem State.atSwitch_keep (s : State) (m : Member) :
    (State.atSwitch s m).clock = s.clock ∧ (State.atSwitch s m).pending = s.pending ∧ (State.atSwitch s m).fuse = s.fuse := by
  unfold State.atSwitch
  split <;> simp

@[simp] theorem State.sendPrepares_keep (s : State) (i : Initiated) :
    (State.sendPrepares s i).clock = s.clock ∧ (State.sendPrepares s i).pending = s.pending ∧ (State.sendPrepares s i).fuse = s.fuse := by
  simp [State.sendPrepares]

@[simp] theorem State.keepUntold_keep (s : State) :
    (State.keepUntold s).clock = s.clock ∧ (State.keepUntold s).pending = s.pending ∧ (State.keepUntold s).fuse = s.fuse := by
  unfold State.keepUntold
  repeat' split
  all_goals simp

@[simp] theorem State.commitScheduled_keep (s : State) :
    (State.commitScheduled s).2.clock = s.clock ∧ (State.commitScheduled s).2.pending = s.pending ∧ (State.commitScheduled s).2.fuse = s.fuse := by
  unfold State.commitScheduled
  repeat' split
  all_goals simp

@[simp] theorem State.tellOutcome_keep (s : State) (id out t : Nat) :
    (State.tellOutcome s id out t).clock = s.clock ∧ (State.tellOutcome s id out t).pending = s.pending ∧ (State.tellOutcome s id out t).fuse = s.fuse := by
  simp [State.tellOutcome]

@[simp] theorem State.tellOld_keep (s : State) :
    (State.tellOld s).clock = s.clock ∧ (State.tellOld s).pending = s.pending ∧ (State.tellOld s).fuse = s.fuse := by
  simp [State.tellOld]

@[simp] theorem State.tellNew_keep (s : State) :
    (State.tellNew s).clock = s.clock ∧ (State.tellNew s).pending = s.pending ∧ (State.tellNew s).fuse = s.fuse := by
  unfold State.tellNew
  repeat' split
  all_goals simp

@[simp] theorem State.writeArm_keep (s : State) (v : Nat) :
    (State.writeArm s v).clock = s.clock ∧ (State.writeArm s v).pending = s.pending ∧ (State.writeArm s v).fuse = s.fuse := by
  unfold State.writeArm
  repeat' split
  all_goals simp

@[simp] theorem State.writeCancel_keep (s : State) :
    (State.writeCancel s).clock = s.clock ∧ (State.writeCancel s).pending = s.pending ∧ (State.writeCancel s).fuse = s.fuse := by
  unfold State.writeCancel
  repeat' split
  all_goals simp

@[simp] theorem State.writeResync_keep (s : State) :
    (State.writeResync s).clock = s.clock ∧ (State.writeResync s).pending = s.pending ∧ (State.writeResync s).fuse = s.fuse := by
  unfold State.writeResync
  split <;> simp

@[simp] theorem State.versionLost_keep (s : State) :
    (State.versionLost s).clock = s.clock ∧ (State.versionLost s).pending = s.pending ∧ (State.versionLost s).fuse = s.fuse := by
  unfold State.versionLost
  split <;> simp

/-! ### Time -/

@[simp] theorem State.setLock_keep (s : State) (st : Nat) :
    (State.setLock s st).clock = s.clock ∧ (State.setLock s st).pending = s.pending ∧ (State.setLock s st).fuse = s.fuse := by
  unfold State.setLock
  split <;> simp

@[simp] theorem State.stepTime_keep (s : State) (t : Nat) :
    (State.stepTime s t).clock = s.clock ∧ (State.stepTime s t).pending = s.pending ∧ (State.stepTime s t).fuse = s.fuse := by
  simp [State.stepTime]

@[simp] theorem State.writeTimeSet_keep (s : State) (t : Nat) :
    (State.writeTimeSet s t).clock = s.clock ∧ (State.writeTimeSet s t).pending = s.pending ∧ (State.writeTimeSet s t).fuse = s.fuse := by
  simp [State.writeTimeSet]

@[simp] theorem State.writeDiscipline_keep (s : State) :
    (State.writeDiscipline s).clock = s.clock ∧ (State.writeDiscipline s).pending = s.pending ∧ (State.writeDiscipline s).fuse = s.fuse := by
  simp [State.writeDiscipline]

@[simp] theorem State.ppsReject_keep (s : State) :
    (State.ppsReject s).clock = s.clock ∧ (State.ppsReject s).pending = s.pending ∧ (State.ppsReject s).fuse = s.fuse := by
  unfold State.ppsReject
  dsimp only
  split <;> simp

@[simp] theorem State.ppsOff_keep (s : State) (ph : Int) :
    (State.ppsOff s ph).clock = s.clock ∧ (State.ppsOff s ph).pending = s.pending ∧ (State.ppsOff s ph).fuse = s.fuse := by
  unfold State.ppsOff
  dsimp only
  split <;> simp only [State.ppsReject_keep, State.stepTime_keep, and_self]

@[simp] theorem State.ppsAccept_keep (s : State) :
    (State.ppsAccept s).clock = s.clock ∧ (State.ppsAccept s).pending = s.pending ∧ (State.ppsAccept s).fuse = s.fuse := by
  unfold State.ppsAccept
  generalize i64 (secondPhase s.now) = y
  extract_lets n p s1 s2
  have h : s2.clock = s.clock ∧ s2.pending = s.pending ∧ s2.fuse = s.fuse := State.latch_keep s1 _ _
  split
  · simp only [State.setLock_keep, h, and_self]
  · exact h

/-! ### Weave -/

@[simp] theorem State.latchLink_keep (s : State) (l st : Nat) :
    (State.latchLink s l st).clock = s.clock ∧ (State.latchLink s l st).pending = s.pending ∧ (State.latchLink s l st).fuse = s.fuse := by
  simp [State.latchLink]

@[simp] theorem State.linkTo_keep (s : State) (l st : Nat) :
    (State.linkTo s l st).clock = s.clock ∧ (State.linkTo s l st).pending = s.pending ∧ (State.linkTo s l st).fuse = s.fuse := by
  unfold State.linkTo
  repeat' split
  all_goals simp

@[simp] theorem State.wvLeaveIdle_keep (s : State) :
    (State.wvLeaveIdle s).clock = s.clock ∧ (State.wvLeaveIdle s).pending = s.pending ∧ (State.wvLeaveIdle s).fuse = s.fuse := by
  simp [State.wvLeaveIdle]

@[simp] theorem State.chooseTime_keep (s : State) (was : Option Nat) :
    (State.chooseTime s was).clock = s.clock ∧ (State.chooseTime s was).pending = s.pending ∧ (State.chooseTime s was).fuse = s.fuse := by
  unfold State.chooseTime
  dsimp only
  repeat' split
  all_goals simp

@[simp] theorem State.linkDown_keep (s : State) (l : Nat) :
    (State.linkDown s l).clock = s.clock ∧ (State.linkDown s l).pending = s.pending ∧ (State.linkDown s l).fuse = s.fuse := by
  simp [State.linkDown]

@[simp] theorem State.followOffset_keep (s : State) (off : Int) :
    (State.followOffset s off).clock = s.clock ∧ (State.followOffset s off).pending = s.pending ∧ (State.followOffset s off).fuse = s.fuse := by
  unfold State.followOffset
  split <;> simp

@[simp] theorem State.takeHello_keep (s : State) (l src : Nat) (p : Bytes) :
    (State.takeHello s l src p).clock = s.clock ∧ (State.takeHello s l src p).pending = s.pending ∧ (State.takeHello s l src p).fuse = s.fuse := by
  unfold State.takeHello
  dsimp only
  repeat' split
  all_goals simp

@[simp] theorem State.takeLinkState_keep (s : State) (src : Nat) (p : Bytes) :
    (State.takeLinkState s src p).clock = s.clock ∧ (State.takeLinkState s src p).pending = s.pending ∧ (State.takeLinkState s src p).fuse = s.fuse := by
  unfold State.takeLinkState
  dsimp only
  repeat' split
  all_goals simp

@[simp] theorem State.consume_keep (s : State) (l : Nat) (f : Bytes) :
    (State.consume s l f).clock = s.clock ∧ (State.consume s l f).pending = s.pending ∧ (State.consume s l f).fuse = s.fuse := by
  unfold State.consume
  dsimp only
  split <;> simp

@[simp] theorem State.takeFlood_keep (s : State) (l : Nat) (f : Bytes) :
    (State.takeFlood s l f).clock = s.clock ∧ (State.takeFlood s l f).pending = s.pending ∧ (State.takeFlood s l f).fuse = s.fuse := by
  unfold State.takeFlood
  dsimp only
  repeat' split
  all_goals simp

@[simp] theorem State.wvDeliver_keep (s : State) (l : Nat) (f : Bytes) (overrun : Bool) :
    (State.wvDeliver s l f overrun).clock = s.clock ∧ (State.wvDeliver s l f overrun).pending = s.pending ∧ (State.wvDeliver s l f overrun).fuse = s.fuse := by
  unfold State.wvDeliver
  dsimp only
  split <;> simp

@[simp] theorem State.relay_keep (s : State) (l : Nat) (f : Bytes) :
    (State.relay s l f).clock = s.clock ∧ (State.relay s l f).pending = s.pending ∧ (State.relay s l f).fuse = s.fuse := by
  unfold State.relay
  repeat' split
  all_goals simp

@[simp] theorem State.wvRoute_keep (s : State) (l : Nat) (f : Bytes) (good overrun : Bool) :
    (State.wvRoute s l f good overrun).clock = s.clock ∧ (State.wvRoute s l f good overrun).pending = s.pending ∧ (State.wvRoute s l f good overrun).fuse = s.fuse := by
  unfold State.wvRoute
  repeat' split
  all_goals simp

@[simp] theorem State.wvReceive_keep (s : State) (l : Nat) (f : Bytes) (good overrun : Bool) :
    (State.wvReceive s l f good overrun).clock = s.clock ∧ (State.wvReceive s l f good overrun).pending = s.pending ∧ (State.wvReceive s l f good overrun).fuse = s.fuse := by
  unfold State.wvReceive
  dsimp only
  repeat' split
  all_goals simp

end Sys2Proof.Machine
end

