-- ==== Sys2Proof/Laws/KeepPower.lean ====
section
/-!
SUPPORT. What the operations of start, power, faults and images leave unchanged: clock, queue and fuses. Where an operation burns fuses, it
`Grows`.
-/

set_option linter.unusedSimpArgs false

namespace Sys2Proof.Machine

/-! ### Boot -/

@[simp] theorem State.latchStored_keep (s : State) (o v : Nat) :
    (State.latchStored s o v).clock = s.clock ∧ (State.latchStored s o v).pending = s.pending ∧ (State.latchStored s o v).fuse = s.fuse := by
  simp [State.latchStored]

@[simp] theorem State.bumpStored_keep (s : State) (o : Nat) :
    (State.bumpStored s o).clock = s.clock ∧ (State.bumpStored s o).pending = s.pending ∧ (State.bumpStored s o).fuse = s.fuse := by
  simp [State.bumpStored]

@[simp] theorem State.loseRecords_keep (s : State) :
    (State.loseRecords s).clock = s.clock ∧ (State.loseRecords s).pending = s.pending ∧ (State.loseRecords s).fuse = s.fuse := by
  unfold State.loseRecords
  dsimp only
  refine foldl_keep _ _ _ (fun a x => ?_)
  split <;> simp

@[simp] theorem State.wipe_keep (s : State) :
    (State.wipe s).clock = s.clock ∧ (State.wipe s).pending = s.pending ∧ (State.wipe s).fuse = s.fuse := by
  simp [State.wipe]

@[simp] theorem State.toBoot_keep (s : State) (reason : Nat) (before : Option Mode) (straps : List Nat) :
    (State.toBoot s reason before straps).clock = s.clock ∧ (State.toBoot s reason before straps).pending = s.pending ∧ (State.toBoot s reason before straps).fuse = s.fuse := by
  simp [State.toBoot]

@[simp] theorem State.chipReset_keep (s : State) (reason : Nat) :
    (State.chipReset s reason).clock = s.clock ∧ (State.chipReset s reason).pending = s.pending ∧ (State.chipReset s reason).fuse = s.fuse := by
  simp [State.chipReset]

@[simp] theorem State.fatal_keep (s : State) (e : ErrInfo) :
    (State.fatal s e).clock = s.clock ∧ (State.fatal s e).pending = s.pending ∧ (State.fatal s e).fuse = s.fuse := by
  simp [State.fatal]

@[simp] theorem State.railsOff_keep (s : State) :
    (State.railsOff s).clock = s.clock ∧ (State.railsOff s).pending = s.pending ∧ (State.railsOff s).fuse = s.fuse := by
  simp [State.railsOff]

@[simp] theorem State.takeStraps_keep (s : State) (samples : List Nat) :
    (State.takeStraps s samples).clock = s.clock ∧ (State.takeStraps s samples).pending = s.pending ∧ (State.takeStraps s samples).fuse = s.fuse := by
  unfold State.takeStraps
  dsimp only
  split <;> simp

@[simp] theorem State.imgReject_keep (s : State) (code obj : Nat) :
    (State.imgReject s code obj).clock = s.clock ∧ (State.imgReject s code obj).pending = s.pending ∧ (State.imgReject s code obj).fuse = s.fuse := by
  simp [State.imgReject]

@[simp] theorem State.fallback_keep (s : State) (code bank : Nat) :
    (State.fallback s code bank).clock = s.clock ∧ (State.fallback s code bank).pending = s.pending ∧ (State.fallback s code bank).fuse = s.fuse := by
  simp [State.fallback]

@[simp] theorem State.chooseVigil_keep (s : State) (bad : List (Nat × Nat)) :
    (State.chooseVigil s bad).2.clock = s.clock ∧ (State.chooseVigil s bad).2.pending = s.pending ∧ (State.chooseVigil s bad).2.fuse = s.fuse := by
  unfold State.chooseVigil
  dsimp only
  repeat' split
  all_goals simp

@[simp] theorem State.readStore_keep (s : State) (copies : Nat) :
    (State.readStore s copies).clock = s.clock ∧ (State.readStore s copies).pending = s.pending ∧ (State.readStore s copies).fuse = s.fuse := by
  unfold State.readStore
  split <;> simp

@[simp] theorem State.loadSettings_keep (s : State) :
    (State.loadSettings s).clock = s.clock ∧ (State.loadSettings s).pending = s.pending ∧ (State.loadSettings s).fuse = s.fuse := by
  simp [State.loadSettings]

@[simp] theorem State.compareMajor_keep (s : State) (x : FwSlot) :
    (State.compareMajor s x).clock = s.clock ∧ (State.compareMajor s x).pending = s.pending ∧ (State.compareMajor s x).fuse = s.fuse := by
  unfold State.compareMajor
  dsimp only
  repeat' split
  all_goals simp

@[simp] theorem State.netRetrain_keep (s : State) :
    (State.netRetrain s).clock = s.clock ∧ (State.netRetrain s).pending = s.pending ∧ (State.netRetrain s).fuse = s.fuse := by
  simp [State.netRetrain]

@[simp] theorem State.hostRetrain_keep (s : State) :
    (State.hostRetrain s).clock = s.clock ∧ (State.hostRetrain s).pending = s.pending ∧ (State.hostRetrain s).fuse = s.fuse := by
  simp [State.hostRetrain]

@[simp] theorem State.dropCorrupt_keep (s : State) (bad : List Nat) :
    (State.dropCorrupt s bad).clock = s.clock ∧ (State.dropCorrupt s bad).pending = s.pending ∧ (State.dropCorrupt s bad).fuse = s.fuse := by
  simp [State.dropCorrupt]

@[simp] theorem State.logPast_keep (s : State) :
    (State.logPast s).clock = s.clock ∧ (State.logPast s).pending = s.pending ∧ (State.logPast s).fuse = s.fuse := by
  unfold State.logPast
  repeat' split
  all_goals simp

theorem pairsFor_keep (a : State × Nat) (p : Nat × Nat) : (pairsFor a p).1.clock = a.1.clock ∧ (pairsFor a p).1.pending = a.1.pending ∧ (pairsFor a p).1.fuse = a.1.fuse := by
  unfold pairsFor
  generalize fidAt (p.1 / 2 ^ 32 % 256 - 1) (p.1 % 2 ^ 32) = o
  cases o with
  | none => exact ⟨rfl, rfl, rfl⟩
  | some f =>
    dsimp only
    exact State.setFn_keep _ _ _

theorem pairsFor_fold (l : List (Nat × Nat)) (a : State × Nat) : (l.foldl pairsFor a).1.clock = a.1.clock ∧ (l.foldl pairsFor a).1.pending = a.1.pending ∧ (l.foldl pairsFor a).1.fuse = a.1.fuse := by
  induction l generalizing a with
  | nil => exact ⟨rfl, rfl, rfl⟩
  | cons p l ih =>
    have h := pairsFor_keep a p
    have h2 := ih (pairsFor a p)
    exact ⟨h2.1.trans h.1, h2.2.1.trans h.2.1, h2.2.2.trans h.2.2⟩

@[simp] theorem State.takePairs_keep (s : State) :
    (State.takePairs s).clock = s.clock ∧ (State.takePairs s).pending = s.pending ∧ (State.takePairs s).fuse = s.fuse := by
  unfold State.takePairs
  extract_lets c
  clear_value c
  exact pairsFor_fold c (s, 0)

@[simp] theorem State.enterVigil_keep (s : State) :
    (State.enterVigil s).clock = s.clock ∧ (State.enterVigil s).pending = s.pending ∧ (State.enterVigil s).fuse = s.fuse := by
  unfold State.enterVigil
  split <;> simp

@[simp] theorem State.startTime_keep (s : State) :
    (State.startTime s).clock = s.clock ∧ (State.startTime s).pending = s.pending ∧ (State.startTime s).fuse = s.fuse := by
  unfold State.startTime
  dsimp only
  repeat' split
  all_goals simp

@[simp] theorem State.vigilStart_keep (s : State) (samples : List Nat) (bad : List (Nat × Nat)) (copies : Nat) (corrupt : List Nat) :
    (State.vigilStart s samples bad copies corrupt).clock = s.clock ∧ (State.vigilStart s samples bad copies corrupt).pending = s.pending ∧ (State.vigilStart s samples bad copies corrupt).fuse = s.fuse := by
  unfold State.vigilStart
  dsimp only
  repeat' split
  all_goals simp

/-! ### Pattern -/

@[simp] theorem State.scanPick_keep (s : State) :
    (State.scanPick s).2.clock = s.clock ∧ (State.scanPick s).2.pending = s.pending ∧ (State.scanPick s).2.fuse = s.fuse := by
  simp [State.scanPick]

@[simp] theorem State.chargeScan_keep (s : State) (c n : Nat) :
    (State.chargeScan s c n).clock = s.clock ∧ (State.chargeScan s c n).pending = s.pending ∧ (State.chargeScan s c n).fuse = s.fuse := by
  simp [State.chargeScan]

@[simp] theorem State.countScan_keep (s : State) (c bytes found : Nat) :
    (State.countScan s c bytes found).clock = s.clock ∧ (State.countScan s c bytes found).pending = s.pending ∧ (State.countScan s c bytes found).fuse = s.fuse := by
  simp [State.countScan]

@[simp] theorem State.scanStart_keep (s : State) (f q : Nat) (d : Bytes) (lane len : Nat) (found : Option (List (Nat × Nat))) :
    (State.scanStart s f q d lane len found).clock = s.clock ∧ (State.scanStart s f q d lane len found).pending = s.pending ∧ (State.scanStart s f q d lane len found).fuse = s.fuse := by
  simp [State.scanStart]

@[simp] theorem State.scanTake_keep (s : State) (f q : Nat) (x : Qp) (d : Bytes) (lane : Nat) (data : HostRead) :
    (State.scanTake s f q x d lane data).clock = s.clock ∧ (State.scanTake s f q x d lane data).pending = s.pending ∧ (State.scanTake s f q x d lane data).fuse = s.fuse := by
  unfold State.scanTake
  try dsimp only
  repeat' split
  all_goals first
    | (simp; done)
    | (simp [*]; done)
    | (rename_i h1; have := State.fetch_wait _ _ _ _ _ _ _ _ h1; simp [this]; done)
    | (rename_i h1; have := State.fetch_lost _ _ _ _ _ _ _ _ h1; simp [this]; done)
    | (rename_i h1; have := State.fetch_got _ _ _ _ _ _ _ _ _ h1; simp [this]; done)

@[simp] theorem State.scanOver_keep (s : State) (x : LookScan) (entry : Bytes) :
    (State.scanOver s x entry).clock = s.clock ∧ (State.scanOver s x entry).pending = s.pending ∧ (State.scanOver s x entry).fuse = s.fuse := by
  simp [State.scanOver]

@[simp] theorem State.scanBad_keep (s : State) (x : LookScan) :
    (State.scanBad s x).clock = s.clock ∧ (State.scanBad s x).pending = s.pending ∧ (State.scanBad s x).fuse = s.fuse := by
  simp [State.scanBad]

@[simp] theorem State.scanFinish_keep (s : State) (x : LookScan) (y : Qp) :
    (State.scanFinish s x y).clock = s.clock ∧ (State.scanFinish s x y).pending = s.pending ∧ (State.scanFinish s x y).fuse = s.fuse := by
  unfold State.scanFinish
  split
  · simp
  · extract_lets written report trunc out open_ t s1 s2
    have ho : ∀ st bs, (out st bs).clock = st.clock ∧ (out st bs).pending = st.pending ∧ (out st bs).fuse = st.fuse :=
      fun st bs => by simp [out]
    have h2 : s2.clock = s.clock ∧ s2.pending = s.pending ∧ s2.fuse = s.fuse := by
      simp only [s2, s1]
      split <;> simp
    clear_value out s2
    split
    · rename_i h1
      exact State.jobAccess_keep _ _ _ _ _ _ h1
    · simp [ho]
    · simp [ho, h2]

/-! ### Faults -/

@[simp] theorem State.losePackets_keep (s : State) (r : Nat) :
    (State.losePackets s r).clock = s.clock ∧ (State.losePackets s r).pending = s.pending ∧ (State.losePackets s r).fuse = s.fuse := by
  simp [State.losePackets]

@[simp] theorem State.failover_keep (s : State) :
    (State.failover s).clock = s.clock ∧ (State.failover s).pending = s.pending ∧ (State.failover s).fuse = s.fuse := by
  simp [State.failover]

@[simp] theorem State.holdCores_keep (s : State) :
    (State.holdCores s).clock = s.clock ∧ (State.holdCores s).pending = s.pending ∧ (State.holdCores s).fuse = s.fuse := by
  simp [State.holdCores]

@[simp] theorem State.loseAppMem_keep (s : State) :
    (State.loseAppMem s).clock = s.clock ∧ (State.loseAppMem s).pending = s.pending ∧ (State.loseAppMem s).fuse = s.fuse := by
  simp [State.loseAppMem]

@[simp] theorem State.endActivation_keep (s : State) (state status : Nat) :
    (State.endActivation s state status).clock = s.clock ∧ (State.endActivation s state status).pending = s.pending ∧ (State.endActivation s state status).fuse = s.fuse := by
  simp [State.endActivation]

@[simp] theorem State.endFree_keep (s : State) (state : Nat) :
    (State.endFree s state).clock = s.clock ∧ (State.endFree s state).pending = s.pending ∧ (State.endFree s state).fuse = s.fuse := by
  simp [State.endFree]

@[simp] theorem State.cancelHandover_keep (s : State) :
    (State.cancelHandover s).clock = s.clock ∧ (State.cancelHandover s).pending = s.pending ∧ (State.cancelHandover s).fuse = s.fuse := by
  unfold State.cancelHandover
  repeat' split
  all_goals simp

@[simp] theorem State.planRetest_keep (s : State) (r : Nat) :
    (State.planRetest s r).clock = s.clock ∧ (State.planRetest s r).pending = s.pending ∧ (State.planRetest s r).fuse = s.fuse := by
  simp [State.planRetest]

@[simp] theorem State.isolate_keep (s : State) (r : Nat) :
    (State.isolate s r).clock = s.clock ∧ (State.isolate s r).pending = s.pending ∧ (State.isolate s r).fuse = s.fuse := by
  unfold State.isolate
  dsimp only
  split <;> simp

@[simp] theorem State.fenceRegion_keep (s : State) (r : Nat) (e : ErrInfo) :
    (State.fenceRegion s r e).clock = s.clock ∧ (State.fenceRegion s r e).pending = s.pending ∧ (State.fenceRegion s r e).fuse = s.fuse := by
  unfold State.fenceRegion
  dsimp only
  split <;> simp

@[simp] theorem State.regionFault_keep (s : State) (r : Nat) (e : ErrInfo) :
    (State.regionFault s r e).clock = s.clock ∧ (State.regionFault s r e).pending = s.pending ∧ (State.regionFault s r e).fuse = s.fuse := by
  unfold State.regionFault
  repeat' split
  all_goals simp

@[simp] theorem State.stackFault_keep (s : State) (k : Nat) (e : ErrInfo) :
    (State.stackFault s k e).clock = s.clock ∧ (State.stackFault s k e).pending = s.pending ∧ (State.stackFault s k e).fuse = s.fuse := by
  unfold State.stackFault
  split <;> simp

@[simp] theorem State.badRead_keep (s : State) (k bank : Nat) (e : ErrInfo) :
    (State.badRead s k bank e).clock = s.clock ∧ (State.badRead s k bank e).pending = s.pending ∧ (State.badRead s k bank e).fuse = s.fuse := by
  unfold State.badRead
  dsimp only
  split <;> simp

@[simp] theorem State.holdHart_keep (s : State) (h : Nat) (st : Hart) :
    (State.holdHart s h st).clock = s.clock ∧ (State.holdHart s h st).pending = s.pending ∧ (State.holdHart s h st).fuse = s.fuse := by
  simp [State.holdHart]

@[simp] theorem State.holdEffect_keep (s : State) (block inst : Nat) :
    (State.holdEffect s block inst).clock = s.clock ∧ (State.holdEffect s block inst).pending = s.pending ∧ (State.holdEffect s block inst).fuse = s.fuse := by
  unfold State.holdEffect
  repeat' split
  all_goals simp

@[simp] theorem State.holdOut_keep (s : State) (e : ErrInfo) :
    (State.holdOut s e).clock = s.clock ∧ (State.holdOut s e).pending = s.pending ∧ (State.holdOut s e).fuse = s.fuse := by
  simp [State.holdOut]

@[simp] theorem State.escalate_keep (s : State) (e : ErrInfo) :
    (State.escalate s e).clock = s.clock ∧ (State.escalate s e).pending = s.pending ∧ (State.escalate s e).fuse = s.fuse := by
  unfold State.escalate
  repeat' split
  all_goals simp

@[simp] theorem State.refetch_keep (s : State) :
    (State.refetch s).clock = s.clock ∧ (State.refetch s).pending = s.pending ∧ (State.refetch s).fuse = s.fuse := by
  simp [State.refetch]

@[simp] theorem State.resetEffect_keep (s : State) (region block : Nat) :
    (State.resetEffect s region block).clock = s.clock ∧ (State.resetEffect s region block).pending = s.pending ∧ (State.resetEffect s region block).fuse = s.fuse := by
  unfold State.resetEffect
  repeat' split
  all_goals simp

@[simp] theorem State.blockReset_keep (s : State) (e : ErrInfo) (slow : Bool) :
    (State.blockReset s e slow).clock = s.clock ∧ (State.blockReset s e slow).pending = s.pending ∧ (State.blockReset s e slow).fuse = s.fuse := by
  unfold State.blockReset
  dsimp only
  split <;> simp

@[simp] theorem State.poisonLine_keep (s : State) (off : Nat) :
    (State.poisonLine s off).clock = s.clock ∧ (State.poisonLine s off).pending = s.pending ∧ (State.poisonLine s off).fuse = s.fuse := by
  simp [State.poisonLine]

@[simp] theorem State.cellCorrected_keep (s : State) (e : ErrInfo) :
    (State.cellCorrected s e).clock = s.clock ∧ (State.cellCorrected s e).pending = s.pending ∧ (State.cellCorrected s e).fuse = s.fuse := by
  simp [State.cellCorrected]

@[simp] theorem State.mirrorFix_keep (s : State) (e : ErrInfo) :
    (State.mirrorFix s e).clock = s.clock ∧ (State.mirrorFix s e).pending = s.pending ∧ (State.mirrorFix s e).fuse = s.fuse := by
  simp [State.mirrorFix]

@[simp] theorem State.cellBlock_keep (s : State) (e : ErrInfo) :
    (State.cellBlock s e).clock = s.clock ∧ (State.cellBlock s e).pending = s.pending ∧ (State.cellBlock s e).fuse = s.fuse := by
  simp [State.cellBlock]

@[simp] theorem State.cellUncorrected_keep (s : State) (at_ : EccAt) (e : ErrInfo) :
    (State.cellUncorrected s at_ e).clock = s.clock ∧ (State.cellUncorrected s at_ e).pending = s.pending ∧ (State.cellUncorrected s at_ e).fuse = s.fuse := by
  unfold State.cellUncorrected
  repeat' split
  all_goals simp

@[simp] theorem State.startTest_keep (s : State) :
    (State.startTest s).clock = s.clock ∧ (State.startTest s).pending = s.pending ∧ (State.startTest s).fuse = s.fuse := by
  simp [State.startTest]

@[simp] theorem State.writeRegionTest_keep (s : State) (v : Nat) :
    (State.writeRegionTest s v).2.clock = s.clock ∧ (State.writeRegionTest s v).2.pending = s.pending ∧ (State.writeRegionTest s v).2.fuse = s.fuse := by
  unfold State.writeRegionTest
  repeat' split
  all_goals simp

@[simp] theorem State.bindBack_keep (s : State) (r : Nat) :
    (State.bindBack s r).clock = s.clock ∧ (State.bindBack s r).pending = s.pending ∧ (State.bindBack s r).fuse = s.fuse := by
  simp [State.bindBack]

@[simp] theorem State.returnRegion_keep (s : State) (r : Nat) :
    (State.returnRegion s r).clock = s.clock ∧ (State.returnRegion s r).pending = s.pending ∧ (State.returnRegion s r).fuse = s.fuse := by
  unfold State.returnRegion
  dsimp only
  split <;> simp

@[simp] theorem State.failPrepare_keep (s : State) :
    (State.failPrepare s).clock = s.clock ∧ (State.failPrepare s).pending = s.pending ∧ (State.failPrepare s).fuse = s.fuse := by
  unfold State.failPrepare
  repeat' split
  all_goals simp

@[simp] theorem State.pairFault_keep (s : State) (active : Bool) (cls : Nat) :
    (State.pairFault s active cls).clock = s.clock ∧ (State.pairFault s active cls).pending = s.pending ∧ (State.pairFault s active cls).fuse = s.fuse := by
  unfold State.pairFault
  repeat' split
  all_goals simp

@[simp] theorem State.inject_keep (s : State) (v : Nat) :
    (State.inject s v).clock = s.clock ∧ (State.inject s v).pending = s.pending ∧ (State.inject s v).fuse = s.fuse := by
  unfold State.inject
  repeat' split
  all_goals simp

@[simp] theorem State.writeInject_keep (s : State) (v : Nat) :
    (State.writeInject s v).2.clock = s.clock ∧ (State.writeInject s v).2.pending = s.pending ∧ (State.writeInject s v).2.fuse = s.fuse := by
  unfold State.writeInject
  repeat' split
  all_goals simp

@[simp] theorem State.clearLog_keep (s : State) :
    (State.clearLog s).clock = s.clock ∧ (State.clearLog s).pending = s.pending ∧ (State.clearLog s).fuse = s.fuse := by
  simp [State.clearLog]

/-! ### AppCores -/

@[simp] theorem State.runCores_keep (s : State) :
    (State.runCores s).clock = s.clock ∧ (State.runCores s).pending = s.pending ∧ (State.runCores s).fuse = s.fuse := by
  unfold State.runCores
  split <;> simp

@[simp] theorem State.stopCores_keep (s : State) :
    (State.stopCores s).clock = s.clock ∧ (State.stopCores s).pending = s.pending ∧ (State.stopCores s).fuse = s.fuse := by
  simp [State.stopCores]

@[simp] theorem State.csmAnswer_keep (s : State) (v : Nat) :
    (State.csmAnswer s v).clock = s.clock ∧ (State.csmAnswer s v).pending = s.pending ∧ (State.csmAnswer s v).fuse = s.fuse := by
  simp [State.csmAnswer]

@[simp] theorem State.csmWrite_keep (s : State) (v : Nat) :
    (State.csmWrite s v).clock = s.clock ∧ (State.csmWrite s v).pending = s.pending ∧ (State.csmWrite s v).fuse = s.fuse := by
  unfold State.csmWrite
  split <;> simp

@[simp] theorem State.coreLoad_keep (s : State) (w : CoreAt) (n : Nat) :
    (State.coreLoad s w n).2.clock = s.clock ∧ (State.coreLoad s w n).2.pending = s.pending ∧ (State.coreLoad s w n).2.fuse = s.fuse := by
  unfold State.coreLoad
  repeat' split
  all_goals simp

@[simp] theorem State.coreStore_keep (s : State) (w : CoreAt) (data : Bytes) :
    (State.coreStore s w data).clock = s.clock ∧ (State.coreStore s w data).pending = s.pending ∧ (State.coreStore s w data).fuse = s.fuse := by
  unfold State.coreStore
  repeat' split
  all_goals simp

/-! ### Power -/

@[simp] theorem State.wakeUp_keep (s : State) :
    (State.wakeUp s).clock = s.clock ∧ (State.wakeUp s).pending = s.pending ∧ (State.wakeUp s).fuse = s.fuse := by
  simp [State.wakeUp]

@[simp] theorem State.enterDrain_keep (s : State) :
    (State.enterDrain s).clock = s.clock ∧ (State.enterDrain s).pending = s.pending ∧ (State.enterDrain s).fuse = s.fuse := by
  unfold State.enterDrain
  dsimp only
  split <;> simp

@[simp] theorem State.enterDormant_keep (s : State) (step : Nat) :
    (State.enterDormant s step).clock = s.clock ∧ (State.enterDormant s step).pending = s.pending ∧ (State.enterDormant s step).fuse = s.fuse := by
  unfold State.enterDormant
  extract_lets s1 s2 s3 d lock s4 p
  have h1 : s1.clock = s.clock ∧ s1.pending = s.pending ∧ s1.fuse = s.fuse := by simp [s1]
  clear_value s1
  have h2 : s2.clock = s.clock ∧ s2.pending = s.pending ∧ s2.fuse = s.fuse := by simp [s2, h1]
  clear_value s2
  have h3 : s3.clock = s.clock ∧ s3.pending = s.pending ∧ s3.fuse = s.fuse := by
    have := foldl_keep (fun (a : State) l => if a.wvState l == 0 then a else State.linkDown a l) (List.range 8) s2
      (by intro a x; split <;> simp)
    exact ⟨this.1.trans h2.1, this.2.1.trans h2.2.1, this.2.2.trans h2.2.2⟩
  clear_value s3
  have h4 : s4.clock = s.clock ∧ s4.pending = s.pending ∧ s4.fuse = s.fuse := by
    by_cases hc : ((d == 1 || d == 3 || d == 4) && lock == 2) = true
    · simp only [s4, hc, if_true, State.setLock_keep, h3, and_self]
    · simp only [s4, hc, if_false, Bool.false_eq_true, h3, and_self]
  clear_value s4
  exact h4

@[simp] theorem State.toIsland_keep (s : State) :
    (State.toIsland s).clock = s.clock ∧ (State.toIsland s).pending = s.pending ∧ (State.toIsland s).fuse = s.fuse := by
  simp [State.toIsland]

@[simp] theorem State.wake_keep (s : State) :
    (State.wake s).clock = s.clock ∧ (State.wake s).pending = s.pending ∧ (State.wake s).fuse = s.fuse := by
  unfold State.wake
  repeat' split
  all_goals simp

@[simp] theorem State.retestFromNow_keep (s : State) :
    (State.retestFromNow s).clock = s.clock ∧ (State.retestFromNow s).pending = s.pending ∧ (State.retestFromNow s).fuse = s.fuse := by
  unfold State.retestFromNow
  split <;> simp

@[simp] theorem State.writeModeRequest_keep (s : State) (v : Nat) :
    (State.writeModeRequest s v).2.clock = s.clock ∧ (State.writeModeRequest s v).2.pending = s.pending ∧ (State.writeModeRequest s v).2.fuse = s.fuse := by
  unfold State.writeModeRequest
  dsimp only
  repeat' split
  all_goals simp

@[simp] theorem State.setLevel_keep (s : State) (n : Nat) :
    (State.setLevel s n).clock = s.clock ∧ (State.setLevel s n).pending = s.pending ∧ (State.setLevel s n).fuse = s.fuse := by
  unfold State.setLevel
  split <;> simp

@[simp] theorem State.heat_keep (s : State) (tj : Int) (floor : Nat) :
    (State.heat s tj floor).clock = s.clock ∧ (State.heat s tj floor).pending = s.pending ∧ (State.heat s tj floor).fuse = s.fuse := by
  simp [State.heat]

@[simp] theorem State.exclude_keep (s : State) (bad : List Nat) :
    (State.exclude s bad).clock = s.clock ∧ (State.exclude s bad).pending = s.pending ∧ (State.exclude s bad).fuse = s.fuse := by
  simp [State.exclude]

@[simp] theorem State.sensors_keep (s : State) (r : List Int) :
    (State.sensors s r).clock = s.clock ∧ (State.sensors s r).pending = s.pending ∧ (State.sensors s r).fuse = s.fuse := by
  unfold State.sensors
  dsimp only
  split <;> simp

@[simp] theorem State.current_keep (s : State) (ma : Nat) :
    (State.current s ma).clock = s.clock ∧ (State.current s ma).pending = s.pending ∧ (State.current s ma).fuse = s.fuse := by
  unfold State.current
  dsimp only
  repeat' split
  all_goals simp

/-! ### Images -/

@[simp] theorem State.fwBegin_keep (s : State) (obj : Nat) (c : Bytes) :
    (State.fwBegin s obj c).clock = s.clock ∧ (State.fwBegin s obj c).pending = s.pending ∧ (State.fwBegin s obj c).fuse = s.fuse := by
  simp [State.fwBegin]

@[simp] theorem State.fwSettle_keep (s : State) (more : Nat) :
    (State.fwSettle s more).clock = s.clock ∧ (State.fwSettle s more).pending = s.pending ∧ (State.fwSettle s more).fuse = s.fuse := by
  simp [State.fwSettle]

@[simp] theorem State.fwTake_keep (s : State) (n : Nat) :
    (State.fwTake s n).2.clock = s.clock ∧ (State.fwTake s n).2.pending = s.pending ∧ (State.fwTake s n).2.fuse = s.fuse := by
  unfold State.fwTake
  dsimp only
  repeat' split
  all_goals simp

@[simp] theorem State.fwClose_keep (s : State) (k : Nat) (c : Bytes) :
    (State.fwClose s k c).clock = s.clock ∧ (State.fwClose s k c).pending = s.pending ∧ (State.fwClose s k c).fuse = s.fuse := by
  simp [State.fwClose]

@[simp] theorem State.fwFinish_keep (s : State) (k : Nat) (c : Bytes) :
    (State.fwFinish s k c).clock = s.clock ∧ (State.fwFinish s k c).pending = s.pending ∧ (State.fwFinish s k c).fuse = s.fuse := by
  unfold State.fwFinish
  dsimp only
  split <;> simp

theorem Fuses.le_refl (a : Fuses) : a.le a := ⟨Nat.le_refl _, Nat.le_refl _, fun _ h => h, fun h => h⟩

theorem Fuses.le_trans {a b c : Fuses} (h : a.le b) (g : b.le c) : a.le c :=
  ⟨Nat.le_trans h.1 g.1, Nat.le_trans h.2.1 g.2.1, fun k x => g.2.2.1 k (h.2.2.1 k x), fun x => g.2.2.2 (h.2.2.2 x)⟩

theorem Grows.refl (s : State) : Grows s s := ⟨rfl, rfl, Fuses.le_refl _⟩

theorem Grows.trans {s t u : State} (h : Grows s t) (g : Grows t u) : Grows s u :=
  ⟨g.1.trans h.1, g.2.1.trans h.2.1, Fuses.le_trans h.2.2 g.2.2⟩

theorem Grows.of {s t : State} (h : t.clock = s.clock ∧ t.pending = s.pending ∧ t.fuse = s.fuse) : Grows s t :=
  ⟨h.1, h.2.1, by rw [h.2.2]; exact Fuses.le_refl _⟩

theorem foldl_grows {α : Type} (f : State → α → State) (l : List α) (s : State) (h : ∀ a x, Grows a (f a x)) :
    Grows s (l.foldl f s) := by
  induction l generalizing s with
  | nil => exact Grows.refl _
  | cons x l ih => exact (h s x).trans (ih _)

theorem State.writeSvnRaise_keep (s : State) (v : Nat) : Grows s (State.writeSvnRaise s v).2 := by
  unfold State.writeSvnRaise
  split
  · exact Grows.refl _
  · split
    · exact Grows.refl _
    · split
      · exact ⟨rfl, rfl, Nat.le_max_left _ _, Nat.le_refl _, fun _ h => h, fun h => h⟩
      · exact ⟨rfl, rfl, Nat.le_refl _, Nat.le_max_left _ _, fun _ h => h, fun h => h⟩
      · exact Grows.refl _

theorem State.writeSignerRevoke_keep (s : State) (k : Nat) : Grows s (State.writeSignerRevoke s k).2 := by
  unfold State.writeSignerRevoke
  split
  · exact Grows.refl _
  · split
    · exact Grows.refl _
    · rename_i h
      simp only [Bool.or_eq_true, decide_eq_true_eq, beq_iff_eq, not_or, Nat.not_lt] at h
      refine ⟨rfl, rfl, Nat.le_refl _, Nat.le_refl _, fun j hj => ?_, fun hr => ?_⟩
      · simp [Nat.testBit_or, hj]
      · have h1 : 2 ^ k < 2 ^ 4 := Nat.pow_lt_pow_right (by decide) (by omega)
        have h2 : s.fuse.revoked ||| 2 ^ k < 2 ^ 4 := Nat.or_lt_two_pow (by omega) h1
        have h3 := h.2
        show s.fuse.revoked ||| 2 ^ k < 15
        omega

@[simp] theorem State.activate_keep (s : State) (form : Nat) :
    (State.activate s form).clock = s.clock ∧ (State.activate s form).pending = s.pending ∧ (State.activate s form).fuse = s.fuse := by
  simp [State.activate]

@[simp] theorem State.writeActivate_keep (s : State) (form : Nat) :
    (State.writeActivate s form).2.clock = s.clock ∧ (State.writeActivate s form).2.pending = s.pending ∧ (State.writeActivate s form).2.fuse = s.fuse := by
  unfold State.writeActivate
  dsimp only
  repeat' split
  all_goals simp

@[simp] theorem State.writeActivateCancel_keep (s : State) (v : Nat) :
    (State.writeActivateCancel s v).2.clock = s.clock ∧ (State.writeActivateCancel s v).2.pending = s.pending ∧ (State.writeActivateCancel s v).2.fuse = s.fuse := by
  unfold State.writeActivateCancel
  repeat' split
  all_goals simp

/-! ### Start -/

@[simp] theorem State.startMemory_keep (s : State) (ok : List Bool) :
    (State.startMemory s ok).clock = s.clock ∧ (State.startMemory s ok).pending = s.pending ∧ (State.startMemory s ok).fuse = s.fuse := by
  simp [State.startMemory]

@[simp] theorem State.startLame_keep (s : State) (k : Nat) :
    (State.startLame s k).clock = s.clock ∧ (State.startLame s k).pending = s.pending ∧ (State.startLame s k).fuse = s.fuse := by
  simp [State.startLame]

@[simp] theorem State.serviceRuns_keep (s : State) :
    (State.serviceRuns s).clock = s.clock ∧ (State.serviceRuns s).pending = s.pending ∧ (State.serviceRuns s).fuse = s.fuse := by
  simp [State.serviceRuns]

@[simp] theorem State.loadService_keep (s : State) (bad : List (Nat × Nat)) (b : Nat) :
    (State.loadService s bad b).clock = s.clock ∧ (State.loadService s bad b).pending = s.pending ∧ (State.loadService s bad b).fuse = s.fuse := by
  unfold State.loadService
  dsimp only
  repeat' split
  all_goals simp

@[simp] theorem State.commitOne_keep (s : State) :
    (State.commitOne s).clock = s.clock ∧ (State.commitOne s).pending = s.pending ∧ (State.commitOne s).fuse = s.fuse := by
  unfold State.commitOne
  dsimp only
  repeat' split
  all_goals simp

@[simp] theorem State.enterService_keep (s : State) :
    (State.enterService s).clock = s.clock ∧ (State.enterService s).pending = s.pending ∧ (State.enterService s).fuse = s.fuse := by
  unfold State.enterService
  dsimp only
  split <;> simp

end Sys2Proof.Machine
end

