-- ==== Sys2Proof/Laws/KeepManage.lean ====
section
/-!
SUPPORT. What the operations of tables, the dictionary and management leave unchanged: clock, queue and fuses. Where an operation burns fuses, it
`Grows`.
-/

set_option linter.unusedSimpArgs false

namespace Sys2Proof.Machine

/-! ### TableOps -/

@[simp] theorem State.bumpIn_keep (s : State) (o : Nat) (regions : List Nat) :
    (State.bumpIn s o regions).clock = s.clock ∧ (State.bumpIn s o regions).pending = s.pending ∧ (State.bumpIn s o regions).fuse = s.fuse := by
  simp [State.bumpIn]

@[simp] theorem State.topRefuse_keep (s : State) (f q : Nat) (r payload : Bytes) (status step : Nat) :
    (State.topRefuse s f q r payload status step).clock = s.clock ∧ (State.topRefuse s f q r payload status step).pending = s.pending ∧ (State.topRefuse s f q r payload status step).fuse = s.fuse := by
  unfold State.topRefuse
  repeat' split
  all_goals simp

@[simp] theorem State.engineBusy_keep (s : State) (t : TInfo) (r : Bytes) :
    (State.engineBusy s t r).clock = s.clock ∧ (State.engineBusy s t r).pending = s.pending ∧ (State.engineBusy s t r).fuse = s.fuse := by
  simp [State.engineBusy]

@[simp] theorem State.rewritten_keep (s : State) (t : TInfo) (r : Bytes) :
    (State.rewritten s t r).clock = s.clock ∧ (State.rewritten s t r).pending = s.pending ∧ (State.rewritten s t r).fuse = s.fuse := by
  unfold State.rewritten
  split <;> simp

@[simp] theorem State.topRun_keep (s : State) (f q : Nat) (t : TInfo) (inc : Nat) (r : Bytes) (k : TopKey) :
    (State.topRun s f q t inc r k).clock = s.clock ∧ (State.topRun s f q t inc r k).pending = s.pending ∧ (State.topRun s f q t inc r k).fuse = s.fuse := by
  unfold State.topRun
  dsimp only
  repeat' split
  all_goals simp

@[simp] theorem State.takeRecord_keep (s : State) (f q : Nat) (x : Qp) (r : Bytes) (payload : HostRead) :
    (State.takeRecord s f q x r payload).clock = s.clock ∧ (State.takeRecord s f q x r payload).pending = s.pending ∧ (State.takeRecord s f q x r payload).fuse = s.fuse := by
  unfold State.takeRecord
  split
  · simp
  · split
    · simp
    · extract_lets go
      have hg : ∀ st body, (go st body).clock = st.clock ∧ (go st body).pending = st.pending ∧ (go st body).fuse = st.fuse := by
        intro st body
        simp only [go]
        split <;> simp
      clear_value go
      split
      · exact hg _ _
      · split
        · rename_i h1
          exact State.fetch_wait _ _ _ _ _ _ _ _ h1
        · rename_i h1
          have := State.fetch_lost _ _ _ _ _ _ _ _ h1
          simp [this]
        · rename_i h1
          have := State.fetch_got _ _ _ _ _ _ _ _ _ h1
          simp [this, hg]

@[simp] theorem State.scrubFix_keep (s : State) (region bank entry : Nat) :
    (State.scrubFix s region bank entry).clock = s.clock ∧ (State.scrubFix s region bank entry).pending = s.pending ∧ (State.scrubFix s region bank entry).fuse = s.fuse := by
  simp [State.scrubFix]

@[simp] theorem State.scrubLose_keep (s : State) (i : TInfo) (region bank u : Nat) :
    (State.scrubLose s i region bank u).clock = s.clock ∧ (State.scrubLose s i region bank u).pending = s.pending ∧ (State.scrubLose s i region bank u).fuse = s.fuse := by
  simp [State.scrubLose]

@[simp] theorem State.scrubbed_keep (s : State) (region : Nat) (p : ScrubPass) (bank u : Nat) (fixed : Option (Nat × Nat)) :
    (State.scrubbed s region p bank u fixed).clock = s.clock ∧ (State.scrubbed s region p bank u fixed).pending = s.pending ∧ (State.scrubbed s region p bank u fixed).fuse = s.fuse := by
  unfold State.scrubbed
  split <;> simp

/-! ### Dict -/

@[simp] theorem State.clearRead_keep (s : State) (r : ObjRow) (o : Nat) :
    (State.clearRead s r o).clock = s.clock ∧ (State.clearRead s r o).pending = s.pending ∧ (State.clearRead s r o).fuse = s.fuse := by
  unfold State.clearRead
  repeat' split
  all_goals simp

/-! ### DictWrite -/

@[simp] theorem State.retrainPort_keep (s : State) (p : Nat) :
    (State.retrainPort s p).clock = s.clock ∧ (State.retrainPort s p).pending = s.pending ∧ (State.retrainPort s p).fuse = s.fuse := by
  simp [State.retrainPort]

@[simp] theorem State.settleQui_keep (s : State) :
    (State.settleQui s).clock = s.clock ∧ (State.settleQui s).pending = s.pending ∧ (State.settleQui s).fuse = s.fuse := by
  unfold State.settleQui
  extract_lets due d s1
  have h := foldl_keep (fun (a : State) (x : Nat × Nat) =>
    let o := keyObj x.1
    let b := a.setCfg o (keyElem x.1) x.2
    if within o Obj.NET_PORT_MODE 2 then b.retrainPort (nth o Obj.NET_PORT_MODE)
    else if o == Obj.WV_ADDR_SRC || o == Obj.WV_ADDR then b.latch Obj.WV_ADDR_EFFECTIVE b.chosenAddr
    else b) due s1 (by intro a x; dsimp only; (repeat' split) <;> simp)
  exact h

@[simp] theorem State.toStore_keep (s : State) (r : ObjRow) (o e v : Nat) :
    (State.toStore s r o e v).clock = s.clock ∧ (State.toStore s r o e v).pending = s.pending ∧ (State.toStore s r o e v).fuse = s.fuse := by
  unfold State.toStore
  split <;> simp

@[simp] theorem State.putValue_keep (s : State) (r : ObjRow) (o e v : Nat) :
    (State.putValue s r o e v).clock = s.clock ∧ (State.putValue s r o e v).pending = s.pending ∧ (State.putValue s r o e v).fuse = s.fuse := by
  unfold State.putValue
  split <;> simp

@[simp] theorem State.closeLost_keep (s : State) (port : Nat) (lost : Nat → Bool) :
    (State.closeLost s port lost).clock = s.clock ∧ (State.closeLost s port lost).pending = s.pending ∧ (State.closeLost s port lost).fuse = s.fuse := by
  unfold State.closeLost
  exact foldl_keep _ _ _ (fun a x => by simp)

@[simp] theorem State.afterWrite_keep (s : State) (o v old : Nat) :
    (State.afterWrite s o v old).clock = s.clock ∧ (State.afterWrite s o v old).pending = s.pending ∧ (State.afterWrite s o v old).fuse = s.fuse := by
  unfold State.afterWrite
  dsimp only
  repeat' split
  all_goals simp only [State.netFall_keep, State.latch_keep, State.linkDown_keep, State.writeDiscipline_keep, State.stir_keep,
    State.closeLost_keep, State.changePeriod_keep, and_self]

@[simp] theorem State.writeCount_keep (s : State) (r : ObjRow) (o e n : Nat) :
    (State.writeCount s r o e n).2.clock = s.clock ∧ (State.writeCount s r o e n).2.pending = s.pending ∧ (State.writeCount s r o e n).2.fuse = s.fuse := by
  unfold State.writeCount
  dsimp only
  repeat' split
  all_goals simp

@[simp] theorem State.writeReset_keep (s : State) (v : Nat) :
    (State.writeReset s v).clock = s.clock ∧ (State.writeReset s v).pending = s.pending ∧ (State.writeReset s v).fuse = s.fuse := by
  unfold State.writeReset
  dsimp only
  repeat' split
  all_goals simp

@[simp] theorem State.heartbeat_keep (s : State) :
    (State.heartbeat s).clock = s.clock ∧ (State.heartbeat s).pending = s.pending ∧ (State.heartbeat s).fuse = s.fuse := by
  unfold State.heartbeat
  generalize s.clock + s.leaseNs = z
  exact ⟨rfl, rfl, rfl⟩

theorem optIte {α : Type} {c : Prop} [Decidable c] {a t : α} {b : Option α} (h : (if c then some a else b) = some t) :
    a = t ∨ b = some t := by
  split at h
  · exact .inl (Option.some.inj h)
  · exact .inr h

theorem State.control_keep (s : State) (k : Nat × Nat) (r : ObjRow) (o e v : Nat) (t) (h : State.control s k r o e v = some t) :
    Grows s t.2 := by
  unfold State.control at h
  rcases optIte h with h | h
  · subst h; try dsimp only
    exact Grows.of (by split <;> simp)
  rcases optIte h with h | h
  · subst h; try dsimp only
    exact Grows.of (by simp)
  rcases optIte h with h | h
  · subst h; try dsimp only
    exact Grows.of (by simp)
  rcases optIte h with h | h
  · subst h; try dsimp only
    exact Grows.of (by split <;> simp)
  rcases optIte h with h | h
  · subst h; try dsimp only
    exact Grows.of (by simp)
  rcases optIte h with h | h
  · subst h; try dsimp only
    exact Grows.of (State.writeModeRequest_keep _ _)
  rcases optIte h with h | h
  · subst h; try dsimp only
    exact Grows.of (by split <;> simp)
  rcases optIte h with h | h
  · subst h; try dsimp only
    exact Grows.of (by simp)
  rcases optIte h with h | h
  · subst h; try dsimp only
    exact Grows.of (by simp)
  rcases optIte h with h | h
  · subst h; try dsimp only
    exact Grows.of (State.release_keep _ _ _)
  rcases optIte h with h | h
  · subst h; try dsimp only
    exact Grows.of (by simp)
  rcases optIte h with h | h
  · subst h; try dsimp only
    exact Grows.of (State.writeCount_keep _ _ _ _ _)
  rcases optIte h with h | h
  · subst h; try dsimp only
    exact Grows.of (by simp)
  rcases optIte h with h | h
  · subst h; try dsimp only
    exact Grows.of (State.writeKek_keep _ _)
  rcases optIte h with h | h
  · subst h; try dsimp only
    exact Grows.of (State.writeSlot_keep _ _)
  rcases optIte h with h | h
  · subst h; try dsimp only
    exact Grows.of (State.eraseSlot_keep _ _)
  rcases optIte h with h | h
  · subst h; try dsimp only
    exact Grows.of (State.writeActivate_keep _ _)
  rcases optIte h with h | h
  · subst h; try dsimp only
    exact Grows.of (State.writeActivateCancel_keep _ _)
  rcases optIte h with h | h
  · subst h; try dsimp only
    exact State.writeSvnRaise_keep _ _
  rcases optIte h with h | h
  · subst h; try dsimp only
    exact State.writeSignerRevoke_keep _ _
  rcases optIte h with h | h
  · subst h; try dsimp only
    exact Grows.of (State.writeRegionTest_keep _ _)
  rcases optIte h with h | h
  · subst h; try dsimp only
    exact Grows.of (State.writeInject_keep _ _)
  cases h

theorem State.writeValue_keep (s : State) (k : Nat × Nat) (r : ObjRow) (o e v : Nat) : Grows s (State.writeValue s k r o e v).2 := by
  unfold State.writeValue
  split
  · rename_i x h
    have h1 := State.control_keep _ _ _ _ _ _ _ h
    dsimp only
    split
    · exact h1.trans (Grows.of (State.settleQui_keep _))
    · exact h1
  · refine Grows.of ?_
    simp only [State.afterWrite_keep, State.settleQui_keep, State.putValue_keep, and_self]

theorem State.writeOne_keep (s : State) (k : Nat × Nat) (r : ObjRow) (o e v : Nat) : Grows s (State.writeOne s k r o e v).2 := by
  unfold State.writeOne
  dsimp only
  split
  · exact Grows.refl _
  · split
    · exact Grows.refl _
    · exact State.writeValue_keep _ _ _ _ _ _

@[simp] theorem State.stageValue_keep (s : State) (k : Nat × Nat) (o e v : Nat) :
    (State.stageValue s k o e v).2.clock = s.clock ∧ (State.stageValue s k o e v).2.pending = s.pending ∧ (State.stageValue s k o e v).2.fuse = s.fuse := by
  unfold State.stageValue
  dsimp only
  split <;> simp

@[simp] theorem State.stageBulk_keep (s : State) (k : Nat × Nat) (b : BulkVal) :
    (State.stageBulk s k b).2.clock = s.clock ∧ (State.stageBulk s k b).2.pending = s.pending ∧ (State.stageBulk s k b).2.fuse = s.fuse := by
  unfold State.stageBulk
  dsimp only
  split <;> simp

/-! ### Omp -/

@[simp] theorem State.readItem_keep (s : State) (k : Nat × Nat) (staged : Bool) (i : Item) :
    (State.readItem s k staged i).2.2.clock = s.clock ∧ (State.readItem s k staged i).2.2.pending = s.pending ∧ (State.readItem s k staged i).2.2.fuse = s.fuse := by
  unfold State.readItem
  dsimp only
  repeat' split
  all_goals simp

theorem State.writeItem_keep (s : State) (k : Nat × Nat) (op : ItemOp) (i : Item) : Grows s (State.writeItem s k op i).2 := by
  unfold State.writeItem
  dsimp only
  split
  · exact Grows.refl _
  · split
    · exact Grows.refl _
    · split
      · exact Grows.refl _
      · split
        · exact Grows.refl _
        · split
          · exact Grows.of (State.stageValue_keep _ _ _ _ _)
          · exact State.writeValue_keep _ _ _ _ _ _

theorem State.oneItem_keep (s : State) (k : Nat × Nat) (op : ItemOp) (staged : Bool) (i : Item) : Grows s (State.oneItem s k op staged i).2.2 := by
  cases op
  · exact Grows.of (State.readItem_keep _ _ _ _)
  · exact State.writeItem_keep _ _ _ _
  · exact State.writeItem_keep _ _ _ _

theorem State.runItems_keep (s : State) (k : Nat × Nat) (op : ItemOp) (staged : Bool) (x1 : List Item) : Grows s (State.runItems s k op staged x1).2.2 := by
  induction x1 generalizing s with
  | nil => exact Grows.refl _
  | cons i l ih =>
    have h := State.oneItem_keep s k op staged i
    unfold State.runItems
    dsimp only
    split
    · exact h.trans (ih _)
    · exact h

theorem State.doItems_keep (s : State) (k : Nat × Nat) (m : Bytes) (op : ItemOp) : Grows s (State.doItems s k m op).2 := by
  unfold State.doItems
  dsimp only
  split
  · exact Grows.refl _
  · exact State.runItems_keep _ _ _ _ _

@[simp] theorem State.doCommit_keep (s : State) (k : Nat × Nat) (m : Bytes) :
    (State.doCommit s k m).2.clock = s.clock ∧ (State.doCommit s k m).2.pending = s.pending ∧ (State.doCommit s k m).2.fuse = s.fuse := by
  unfold State.doCommit
  repeat' split
  all_goals simp

@[simp] theorem State.doSubscribe_keep (s : State) (k : Nat × Nat) (m : Bytes) :
    (State.doSubscribe s k m).2.clock = s.clock ∧ (State.doSubscribe s k m).2.pending = s.pending ∧ (State.doSubscribe s k m).2.fuse = s.fuse := by
  unfold State.doSubscribe
  repeat' split
  all_goals simp

@[simp] theorem State.leaveQueue_keep (s : State) (k : Nat × Nat) :
    (State.leaveQueue s k).clock = s.clock ∧ (State.leaveQueue s k).pending = s.pending ∧ (State.leaveQueue s k).fuse = s.fuse := by
  simp [State.leaveQueue]

@[simp] theorem State.semAcquire_keep (s : State) (k : Nat × Nat) :
    (State.semAcquire s k).2.clock = s.clock ∧ (State.semAcquire s k).2.pending = s.pending ∧ (State.semAcquire s k).2.fuse = s.fuse := by
  unfold State.semAcquire
  repeat' split
  all_goals simp

@[simp] theorem State.semRelease_keep (s : State) (k : Nat × Nat) :
    (State.semRelease s k).2.clock = s.clock ∧ (State.semRelease s k).2.pending = s.pending ∧ (State.semRelease s k).2.fuse = s.fuse := by
  unfold State.semRelease
  repeat' split
  all_goals simp

@[simp] theorem State.doSem_keep (s : State) (k : Nat × Nat) (m : Bytes) :
    (State.doSem s k m).2.clock = s.clock ∧ (State.doSem s k m).2.pending = s.pending ∧ (State.doSem s k m).2.fuse = s.fuse := by
  unfold State.doSem
  repeat' split
  all_goals simp

/-! ### Bulk -/

@[simp] theorem State.putChan_keep (s : State) (k : Nat × Nat) (c : Chan) :
    (State.putChan s k c).clock = s.clock ∧ (State.putChan s k c).pending = s.pending ∧ (State.putChan s k c).fuse = s.fuse := by
  unfold State.putChan
  split <;> simp

@[simp] theorem State.freeChan_keep (s : State) (k : Nat × Nat) (n : Nat) :
    (State.freeChan s k n).clock = s.clock ∧ (State.freeChan s k n).pending = s.pending ∧ (State.freeChan s k n).fuse = s.fuse := by
  unfold State.freeChan
  split <;> simp

@[simp] theorem State.doOpen_keep (s : State) (k : Nat × Nat) (m : Bytes) :
    (State.doOpen s k m).2.clock = s.clock ∧ (State.doOpen s k m).2.pending = s.pending ∧ (State.doOpen s k m).2.fuse = s.fuse := by
  unfold State.doOpen
  dsimp only
  repeat' split
  all_goals simp

@[simp] theorem State.headArrived_keep (s : State) (k : Nat × Nat) (c : Chan) (head : Bytes) :
    (State.headArrived s k c head).2.clock = s.clock ∧ (State.headArrived s k c head).2.pending = s.pending ∧ (State.headArrived s k c head).2.fuse = s.fuse := by
  unfold State.headArrived
  dsimp only
  repeat' split
  all_goals simp

@[simp] theorem State.writeChunk_keep (s : State) (k : Nat × Nat) (c : Chan) (off : Nat) (data : Bytes) :
    (State.writeChunk s k c off data).2.clock = s.clock ∧ (State.writeChunk s k c off data).2.pending = s.pending ∧ (State.writeChunk s k c off data).2.fuse = s.fuse := by
  unfold State.writeChunk
  dsimp only
  repeat' split
  all_goals simp

@[simp] theorem State.readChunk_keep (s : State) (k : Nat × Nat) (c : Chan) (off n : Nat) :
    (State.readChunk s k c off n).2.clock = s.clock ∧ (State.readChunk s k c off n).2.pending = s.pending ∧ (State.readChunk s k c off n).2.fuse = s.fuse := by
  unfold State.readChunk
  split <;> simp

@[simp] theorem State.doData_keep (s : State) (k : Nat × Nat) (m : Bytes) :
    (State.doData s k m).2.clock = s.clock ∧ (State.doData s k m).2.pending = s.pending ∧ (State.doData s k m).2.fuse = s.fuse := by
  unfold State.doData
  dsimp only
  repeat' split
  all_goals simp

@[simp] theorem State.finishImage_keep (s : State) (k : Nat × Nat) (o : Nat) (c : Bytes) :
    (State.finishImage s k o c).2.clock = s.clock ∧ (State.finishImage s k o c).2.pending = s.pending ∧ (State.finishImage s k o c).2.fuse = s.fuse := by
  unfold State.finishImage
  dsimp only
  repeat' split
  all_goals simp

@[simp] theorem State.finishTable_keep (s : State) (k : Nat × Nat) (r : ObjRow) (o first : Nat) (b : Bytes) :
    (State.finishTable s k r o first b).2.clock = s.clock ∧ (State.finishTable s k r o first b).2.pending = s.pending ∧ (State.finishTable s k r o first b).2.fuse = s.fuse := by
  unfold State.finishTable
  dsimp only
  repeat' split
  all_goals simp

theorem State.writeElems_keep (s : State) (k : Nat × Nat) (r : ObjRow) (o : Nat) (es : List (Nat × Nat)) : Grows s (State.writeElems s k r o es).2 := by
  unfold State.writeElems
  have h : ∀ (l : List (Nat × Nat)) (p : Nat × State), Grows p.2 (l.foldl (fun (a : Nat × State) e =>
      let w := a.2.writeOne k r o e.1 e.2
      (if a.1 != 0 then a.1 else w.1, w.2)) p).2 := by
    intro l
    induction l with
    | nil => exact fun p => Grows.refl _
    | cons y l ih =>
      intro p
      simp only [List.foldl_cons]
      exact Grows.trans (State.writeOne_keep _ _ _ _ _ _) (ih _)
  exact h es (0, s)

@[simp] theorem State.loadCore_keep (s : State) (b : Bytes) :
    (State.loadCore s b).2.clock = s.clock ∧ (State.loadCore s b).2.pending = s.pending ∧ (State.loadCore s b).2.fuse = s.fuse := by
  unfold State.loadCore
  dsimp only
  repeat' split
  all_goals simp

theorem State.applyTransfer_keep (s : State) (k : Nat × Nat) (c : Chan) (b : Bytes) : Grows s (State.applyTransfer s k c b).2 := by
  unfold State.applyTransfer
  split
  · exact Grows.refl _
  · split
    · split
      · exact Grows.of (State.fwClose_keep _ _ _)
      · exact Grows.refl _
    · split
      · exact Grows.of (State.finishImage_keep _ _ _ _)
      · split
        · exact Grows.of (State.loadCore_keep _ _)
        · split
          · exact Grows.of (State.finishTable_keep _ _ _ _ _ _)
          · split
            · exact State.writeElems_keep _ _ _ _ _
            · dsimp only
              split
              · split
                · exact Grows.refl _
                · exact Grows.of (State.stageValue_keep _ _ _ _ _)
              · exact State.writeOne_keep _ _ _ _ _ _

theorem State.finishChan_keep (s : State) (k : Nat × Nat) (c : Chan) : Grows s (State.finishChan s k c).2 := by
  unfold State.finishChan
  split
  · exact Grows.of (State.freeChan_keep _ _ _)
  · split
    · exact Grows.refl _
    · exact Grows.trans (Grows.of (State.freeChan_keep _ _ _)) (State.applyTransfer_keep _ _ _ _)

theorem State.doClose_keep (s : State) (k : Nat × Nat) (m : Bytes) : Grows s (State.doClose s k m).2 := by
  unfold State.doClose
  dsimp only
  split
  · exact Grows.refl _
  · split
    · exact Grows.of (State.putChan_keep _ _ _)
    · split
      · exact Grows.of (by simp)
      · split
        · exact Grows.of (State.putChan_keep _ _ _)
        · exact Grows.trans (Grows.of (State.putChan_keep _ _ _)) (State.finishChan_keep _ _ _)

/-! ### Census -/

@[simp] theorem State.switchGate_keep (s : State) (pn : Nat) (g : Gate) :
    (State.switchGate s pn g).clock = s.clock ∧ (State.switchGate s pn g).pending = s.pending ∧ (State.switchGate s pn g).fuse = s.fuse := by
  simp [State.switchGate]

theorem State.putRecord_keep (s : State) (f src num : Nat) (r : Bytes) (t : State) (h : s.putRecord f src num r = .put t) :
    t.clock = s.clock ∧ t.pending = s.pending ∧ t.fuse = s.fuse := by
  unfold State.putRecord at h
  repeat' split at h
  all_goals first | (cases h; done) | (cases h; simp)

theorem ringPut_keep (s : State) (o src num : Nat) (r : Bytes) (t : State)
    (h : (if o == 0xFFFF then RingPut.down else s.putRecord o src num r) = .put t) : t.clock = s.clock ∧ t.pending = s.pending ∧ t.fuse = s.fuse := by
  split at h
  · cases h
  · exact State.putRecord_keep _ _ _ _ _ _ h

theorem State.censWrite_keep (s : State) (n owner : Nat) (record : Bytes) (t) (h : State.censWrite s n owner record = some t) :
    t.clock = s.clock ∧ t.pending = s.pending ∧ t.fuse = s.fuse := by
  unfold State.censWrite at h
  split at h
  · rename_i h1
    cases h
    have := ringPut_keep _ _ _ _ _ _ h1
    simp [this]
  · cases h



@[simp] theorem State.censPut1_keep (s : State) (n owner : Nat) (record : Bytes) :
    (State.censPut1 s n owner record).2.clock = s.clock ∧ (State.censPut1 s n owner record).2.pending = s.pending ∧ (State.censPut1 s n owner record).2.fuse = s.fuse := by
  unfold State.censPut1
  split
  · rename_i h1
    exact State.censWrite_keep _ _ _ _ _ h1
  · simp

@[simp] theorem State.censPut_keep (s : State) (n owner sweep : Nat) (record : Bytes) :
    (State.censPut s n owner sweep record).2.clock = s.clock ∧ (State.censPut s n owner sweep record).2.pending = s.pending ∧ (State.censPut s n owner sweep record).2.fuse = s.fuse := by
  unfold State.censPut
  dsimp only
  split
  · simp
  · split
    · rename_i h1
      have := State.censWrite_keep _ _ _ _ _ h1
      simp [this]
    · simp

@[simp] theorem State.gather_keep (s : State) (eqid : Nat) :
    (State.gather s eqid).clock = s.clock ∧ (State.gather s eqid).pending = s.pending ∧ (State.gather s eqid).fuse = s.fuse := by
  unfold State.gather
  dsimp only
  split <;> simp

@[simp] theorem State.censSample_keep (s : State) (w : Sweep) (eqid : Nat) :
    (State.censSample s w eqid).clock = s.clock ∧ (State.censSample s w eqid).pending = s.pending ∧ (State.censSample s w eqid).fuse = s.fuse := by
  unfold State.censSample
  dsimp only
  repeat' split
  all_goals simp

@[simp] theorem State.sendIpfix_keep (s : State) (sent : Bool) (ms : List (List (Nat × Nat × Nat × Nat × Nat))) :
    (State.sendIpfix s sent ms).clock = s.clock ∧ (State.sendIpfix s sent ms).pending = s.pending ∧ (State.sendIpfix s sent ms).fuse = s.fuse := by
  unfold State.sendIpfix
  split <;> simp

@[simp] theorem State.startInterval_keep (s : State) :
    (State.startInterval s).clock = s.clock ∧ (State.startInterval s).pending = s.pending ∧ (State.startInterval s).fuse = s.fuse := by
  simp [State.startInterval]

@[simp] theorem State.exportInterval_keep (s : State) (sent : Bool) :
    (State.exportInterval s sent).clock = s.clock ∧ (State.exportInterval s sent).pending = s.pending ∧ (State.exportInterval s sent).fuse = s.fuse := by
  simp [State.exportInterval]

/-! ### Requests -/

theorem State.doOp_keep (s : State) (k : Nat × Nat) (m : Bytes) : Grows s (State.doOp s k m).2 := by
  unfold State.doOp
  split
  · exact Grows.refl _
  · split
    · exact State.doItems_keep _ _ _ _
    · exact State.doItems_keep _ _ _ _
    · exact State.doItems_keep _ _ _ _
    · exact Grows.of (State.doCommit_keep _ _ _)
    · exact Grows.of (State.doOpen_keep _ _ _)
    · exact Grows.of (State.doData_keep _ _ _)
    · exact State.doClose_keep _ _ _
    · exact Grows.of (State.doSubscribe_keep _ _ _)
    · exact Grows.of (State.doSem_keep _ _ _)
    · exact Grows.refl _

@[simp] theorem State.replyAux_keep (s : State) (op : Nat) (r : Reply) :
    (State.replyAux s op r).2.clock = s.clock ∧ (State.replyAux s op r).2.pending = s.pending ∧ (State.replyAux s op r).2.fuse = s.fuse := by
  unfold State.replyAux
  split <;> simp

@[simp] theorem State.answer_keep (s : State) (k : Nat × Nat) (msg : Bytes) :
    (State.answer s k msg).clock = s.clock ∧ (State.answer s k msg).pending = s.pending ∧ (State.answer s k msg).fuse = s.fuse := by
  unfold State.answer
  repeat' split
  all_goals simp

@[simp] theorem State.keepReply_keep (s : State) (k : Nat × Nat) (m msg : Bytes) :
    (State.keepReply s k m msg).clock = s.clock ∧ (State.keepReply s k m msg).pending = s.pending ∧ (State.keepReply s k m msg).fuse = s.fuse := by
  unfold State.keepReply
  split <;> simp

theorem State.ompExec_keep (s : State) (k : Nat × Nat) (m : Bytes) : Grows s (State.ompExec s k m) := by
  unfold State.ompExec
  extract_lets r a msg
  have h1 : Grows s r.2 := State.doOp_keep _ _ _
  have h2 : Grows r.2 a.2 := Grows.of (State.replyAux_keep _ _ _)
  exact (h1.trans h2).trans (Grows.of (by simp))

theorem State.ompRun_keep (s : State) (k : Nat × Nat) (m : Bytes) : Grows s (State.ompRun s k m) := by
  unfold State.ompRun
  split
  · exact Grows.of (by simp)
  · split
    · exact Grows.of (by simp)
    · exact State.ompExec_keep _ _ _

@[simp] theorem State.touch_keep (s : State) (k : Nat × Nat) :
    (State.touch s k).clock = s.clock ∧ (State.touch s k).pending = s.pending ∧ (State.touch s k).fuse = s.fuse := by
  unfold State.touch
  repeat' split
  all_goals simp

theorem State.takeOmp_keep (s : State) (k : Nat × Nat) (m : Bytes) : Grows s (State.takeOmp s k m) := by
  unfold State.takeOmp
  extract_lets t
  have h : Grows s t := Grows.of (State.touch_keep _ _)
  split
  · exact h
  · exact h.trans (State.ompRun_keep _ _ _)

theorem State.takeCycle_keep (s : State) (l : List (Nat × Nat × Bytes)) : Grows s (State.takeCycle s l) := by
  unfold State.takeCycle
  refine foldl_grows _ _ _ (fun a x => ?_)
  split
  · exact State.takeOmp_keep _ _ _
  · exact Grows.refl _

theorem State.takeInOrder_keep (s : State) (ok : Bool) (k : Nat × Nat) (m : Bytes) : Grows s (State.takeInOrder s ok k m) := by
  unfold State.takeInOrder
  extract_lets l
  split
  · exact ⟨rfl, rfl, Fuses.le_refl _⟩
  · exact Grows.trans ⟨rfl, rfl, Fuses.le_refl _⟩ (State.takeCycle_keep _ _)

/-! ### FaultCmds -/

theorem State.thenRequests_keep (t u : State) : Grows u (t.thenRequests u) := by
  unfold State.thenRequests
  split
  · exact Grows.refl _
  · exact Grows.trans ⟨rfl, rfl, Fuses.le_refl _⟩ (State.takeCycle_keep _ _)

/-! ### Manage -/

@[simp] theorem State.mailTaken_keep (s : State) :
    (State.mailTaken s).clock = s.clock ∧ (State.mailTaken s).pending = s.pending ∧ (State.mailTaken s).fuse = s.fuse := by
  simp [State.mailTaken]

@[simp] theorem State.openSess_keep (s : State) (port n : Nat) (h : Hello) :
    (State.openSess s port n h).clock = s.clock ∧ (State.openSess s port n h).pending = s.pending ∧ (State.openSess s port n h).fuse = s.fuse := by
  simp [State.openSess]

@[simp] theorem State.nextMail_keep (s : State) :
    (State.nextMail s).clock = s.clock ∧ (State.nextMail s).pending = s.pending ∧ (State.nextMail s).fuse = s.fuse := by
  unfold State.nextMail
  dsimp only
  split <;> simp

theorem State.runDeferred_keep (s : State) : Grows s (State.runDeferred s) := by
  unfold State.runDeferred
  extract_lets l g t
  have h : Grows s t := ⟨rfl, rfl, Fuses.le_refl _⟩
  refine h.trans (foldl_grows _ _ _ (fun a x => ?_))
  split
  · exact State.ompRun_keep _ _ _
  · exact Grows.refl _

@[simp] theorem State.sendHeld_keep (s : State) :
    (State.sendHeld s).clock = s.clock ∧ (State.sendHeld s).pending = s.pending ∧ (State.sendHeld s).fuse = s.fuse := by
  simp [State.sendHeld]

@[simp] theorem State.endUnavail_keep (s : State) :
    (State.endUnavail s).clock = s.clock ∧ (State.endUnavail s).pending = s.pending ∧ (State.endUnavail s).fuse = s.fuse := by
  simp [State.endUnavail]

theorem State.finishHandover_keep (s : State) (a : Activ) : Grows s (State.finishHandover s a) := by
  unfold State.finishHandover
  extract_lets t0 t t1 t2 t3 i
  refine Grows.trans (Grows.of ?_) (State.runDeferred_keep _)
  have h0 : t0.clock = s.clock ∧ t0.pending = s.pending ∧ t0.fuse = s.fuse := State.endUnavail_keep s
  clear_value t0
  have h : t.clock = s.clock ∧ t.pending = s.pending ∧ t.fuse = s.fuse := by simp [t, h0]
  clear_value t
  have h1 : t1.clock = s.clock ∧ t1.pending = s.pending ∧ t1.fuse = s.fuse := by simp [t1, h]
  clear_value t1
  have h2 : t2.clock = s.clock ∧ t2.pending = s.pending ∧ t2.fuse = s.fuse := by simp [t2, h1]
  clear_value t2
  have h3 : t3.clock = s.clock ∧ t3.pending = s.pending ∧ t3.fuse = s.fuse := by simp [t3, h2]
  clear_value t3
  exact h3

/-! ### PackagePins -/

@[simp] theorem State.setOutput_keep (s : State) (which : Nat) (v : Option Nat) :
    (State.setOutput s which v).clock = s.clock ∧ (State.setOutput s which v).pending = s.pending ∧ (State.setOutput s which v).fuse = s.fuse := by
  unfold State.setOutput
  split <;> simp

end Sys2Proof.Machine
end

