-- ==== Sys2Proof/Laws/Execs.lean ====
section
/-!
SUPPORT. Every command answers a next state that keeps what every step keeps: one lemma per meaning, for a case split over
commands: `Still` where the command never burns a fuse, `Kept` where it may.
-/

namespace Sys2Proof.Machine

theorem keep_trans {s t u : State} (h : u.clock = t.clock ∧ u.pending = t.pending ∧ u.fuse = t.fuse)
    (g : t.clock = s.clock ∧ t.pending = s.pending ∧ t.fuse = s.fuse) :
    u.clock = s.clock ∧ u.pending = s.pending ∧ u.fuse = s.fuse :=
  ⟨h.1.trans g.1, h.2.1.trans g.2.1, h.2.2.trans g.2.2⟩

/-- A command whose act grows the state keeps what every step keeps. -/
theorem cmd_kept (dt : Nat) (s : State) (cond : State → Bool) (act : State → State) (h : ∀ t, Grows t (act t)) :
    Kept dt s (cmd dt s cond act) := by
  refine ⟨_, rfl, ?_⟩
  split
  · exact h _
  · exact Grows.refl _

theorem work_kept (dt : Nat) (s : State) (cond : State → Bool) (act : State → State) (h : ∀ t, Grows t (act t)) :
    Kept dt s (work dt s cond act) :=
  cmd_kept _ _ _ _ fun t => (Grows.of (State.stir_keep t)).trans (h _)

/-- What a command that changes neither the fuses nor the queue keeps, it keeps as every step does. -/
theorem Still.kept {dt : Nat} {s : State} {o : Out} (h : Still dt s o) : Kept dt s o := by
  obtain ⟨t, rfl, h⟩ := h
  exact ⟨t, rfl, Grows.of h⟩

theorem cmd_still (dt : Nat) (s : State) (cond : State → Bool) (act : State → State)
    (h : ∀ t, (act t).clock = t.clock ∧ (act t).pending = t.pending ∧ (act t).fuse = t.fuse) : Still dt s (cmd dt s cond act) := by
  refine ⟨_, rfl, ?_⟩
  split
  · exact h _
  · exact ⟨rfl, rfl, rfl⟩

theorem work_still (dt : Nat) (s : State) (cond : State → Bool) (act : State → State)
    (h : ∀ t, (act t).clock = t.clock ∧ (act t).pending = t.pending ∧ (act t).fuse = t.fuse) : Still dt s (work dt s cond act) :=
  cmd_still _ _ _ _ fun t => keep_trans (h _) (State.stir_keep t)

theorem execShuttleBridge_still (dt region : Nat) (s : State) : Still dt s (execShuttleBridge dt region s) := cmd_still _ _ _ _ fun t => (by dsimp only; split <;> simp)

theorem execIngressPass_still (dt id : Nat) (look : Look) (s : State) : Still dt s (execIngressPass dt id look s) := work_still _ _ _ _ fun t => (by
  repeat' split
  all_goals simp)

theorem execDeferredMetering_still (dt id : Nat) (s : State) : Still dt s (execDeferredMetering dt id s) := cmd_still _ _ _ _ fun t => (by
  repeat' split
  all_goals simp)

theorem execNetFrameReceive_still (dt n : Nat) (f : Bytes) (fcsOk overrun : Bool) (s : State) : Still dt s (execNetFrameReceive dt n f fcsOk overrun s) := work_still _ _ _ _ fun t => (by simp)

theorem execPauseExpiry_still (dt n : Nat) (s : State) : Still dt s (execPauseExpiry dt n s) := cmd_still _ _ _ _ fun t => (by simp)

theorem execCutThroughFrameBad_still (dt id : Nat) (tooLong : Bool) (s : State) : Still dt s (execCutThroughFrameBad dt id tooLong s) := cmd_still _ _ _ _ fun t => (by
  repeat' split
  all_goals simp)

theorem execNetLinkUp_still (dt n : Nat) (an : Bool) (techs : List Nat) (lpi : Bool) (s : State) : Still dt s (execNetLinkUp dt n an techs lpi s) := cmd_still _ _ _ _ fun t => (by dsimp only; split <;> simp)

theorem execNetLinkDown_still (dt n : Nat) (s : State) : Still dt s (execNetLinkDown dt n s) := cmd_still _ _ _ _ fun t => (by simp)

theorem execTmAdmission_still (dt id : Nat) (saturated : Bool) (s : State) : Still dt s (execTmAdmission dt id saturated s) := work_still _ _ _ _ fun t => (by
  repeat' split
  all_goals simp)

theorem execBridgeCrossing_still (dt region : Nat) (s : State) : Still dt s (execBridgeCrossing dt region s) := work_still _ _ _ _ fun t => (by
  repeat' split
  all_goals simp)

theorem execCarveOutFetch_still (dt eqid : Nat) (bad : Bool) (s : State) : Still dt s (execCarveOutFetch dt eqid bad s) := work_still _ _ _ _ fun t => (by
  repeat' split
  all_goals simp)

theorem execSchedulingDecision_still (dt region pn : Nat) (look : Look) (s : State) : Still dt s (execSchedulingDecision dt region pn look s) := cmd_still _ _ _ _ fun t => (by
  dsimp only
  split
  · rename_i h
    split at h
    · exact keep_trans (State.sendQueued_keep _ _ _ _ h) (by simp)
    · cases h
  · split <;> simp)

theorem execOverdueCheck_still (dt region : Nat) (s : State) : Still dt s (execOverdueCheck dt region s) := by
  unfold execOverdueCheck
  refine cmd_still _ _ _ _ fun t => ?_
  extract_lets u
  refine keep_trans (foldl_keep _ _ _ fun a x => ?_) (foldl_keep _ _ _ fun a x => by simp)
  dsimp only
  split <;> simp

theorem execMaxAgeCheck_still (dt : Nat) (s : State) : Still dt s (execMaxAgeCheck dt s) := cmd_still _ _ _ _ fun t => (by simp)

theorem execStageAgeCheck_still (dt : Nat) (s : State) : Still dt s (execStageAgeCheck dt s) := cmd_still _ _ _ _ fun t => (by simp)

theorem execSaCheckpoint_still (dt : Nat) (s : State) : Still dt s (execSaCheckpoint dt s) := cmd_still _ _ _ _ fun t => (by simp)

theorem execInlineCipherOp_still (dt id : Nat) (s : State) : Still dt s (execInlineCipherOp dt id s) := cmd_still _ _ _ _ fun t => (by
  repeat' split
  all_goals simp)

theorem execKeyZeroise_still (dt n : Nat) (s : State) : Still dt s (execKeyZeroise dt n s) := cmd_still _ _ _ _ fun t => (by simp)

theorem execPerstAssert_still (dt port : Nat) (s : State) : Still dt s (execPerstAssert dt port s) := work_still _ _ _ _ fun t => (by simp)

theorem execHotReset_still (dt l : Nat) (s : State) : Still dt s (execHotReset dt l s) := work_still _ _ _ _ fun t => (by dsimp only; split <;> simp)

theorem execHostLinkDown_still (dt l : Nat) (s : State) : Still dt s (execHostLinkDown dt l s) := work_still _ _ _ _ fun t => (by dsimp only; split <;> simp)

theorem execHostLinkUp_still (dt l speed width : Nat) (flit : Bool) (s : State) : Still dt s (execHostLinkUp dt l speed width flit s) := work_still _ _ _ _ fun t => (by simp)

theorem execHostL2Entry_still (dt l : Nat) (s : State) : Still dt s (execHostL2Entry dt l s) := cmd_still _ _ _ _ fun t => (by simp)

theorem execL1Entry_still (dt l sub idleNs : Nat) (s : State) : Still dt s (execL1Entry dt l sub idleNs s) := cmd_still _ _ _ _ fun t => (by simp)

theorem execL0pWidthChange_still (dt l width sent waiting : Nat) (s : State) : Still dt s (execL0pWidthChange dt l width sent waiting s) := cmd_still _ _ _ _ fun t => (by simp)

theorem execCompletionArrival_still (dt l tag status : Nat) (ep : Bool) (data : Bytes) (s : State) : Still dt s (execCompletionArrival dt l tag status ep data s) := work_still _ _ _ _ fun t => (by
  repeat' split
  all_goals simp)

theorem execCompletionTimeout_still (dt l tag : Nat) (s : State) : Still dt s (execCompletionTimeout dt l tag s) := cmd_still _ _ _ _ fun t => (by
  repeat' split
  all_goals simp)

theorem execMalformedTlp_still (dt l : Nat) (s : State) : Still dt s (execMalformedTlp dt l s) := work_still _ _ _ _ fun t => (by simp)

theorem execPeerTlp_still (dt port : Nat) (tlp : HostTlp) (op off rid n : Nat) (ep : Bool) (data : Bytes) (s : State) : Still dt s (execPeerTlp dt port tlp op off rid n ep data s) := work_still _ _ _ _ fun t => (by simp)

theorem execAtsInvalidation_still (dt f id : Nat) (pasid : Option Nat) (page n : Nat) (s : State) : Still dt s (execAtsInvalidation dt f id pasid page n s) := work_still _ _ _ _ fun t => (by simp)

theorem execAtsInvalidationDone_still (dt f id : Nat) (s : State) : Still dt s (execAtsInvalidationDone dt f id s) := cmd_still _ _ _ _ fun t => (by simp)

theorem execPageRequestResponse_still (dt f page code : Nat) (s : State) : Still dt s (execPageRequestResponse dt f page code s) := work_still _ _ _ _ fun t => (by
  repeat' split
  all_goals simp)

theorem execPriTimeout_still (dt f page : Nat) (s : State) : Still dt s (execPriTimeout dt f page s) := cmd_still _ _ _ _ fun t => (by dsimp only; split <;> simp)

theorem pageCmd_kept (dt f : Nat) (s : State) (act : State → State) (h : ∀ t, Grows t (act t)) :
    Kept dt s (pageCmd dt f s act) := by
  refine work_kept _ _ _ _ fun t => ?_
  unfold State.pageWrite
  split
  · exact h _
  · exact Grows.of (by simp)
  · exact Grows.of (by simp)
  · exact Grows.refl _

theorem pageCmd_still (dt f : Nat) (s : State) (act : State → State)
    (h : ∀ t, (act t).clock = t.clock ∧ (act t).pending = t.pending ∧ (act t).fuse = t.fuse) :
    Still dt s (pageCmd dt f s act) := by
  refine work_still _ _ _ _ fun t => ?_
  unfold State.pageWrite
  split
  · exact h _
  · simp
  · simp
  · exact ⟨rfl, rfl, rfl⟩

theorem cfgCmd_still (dt f : Nat) (s : State) (cond : State → Bool) (act : State → State)
    (h : ∀ t, (act t).clock = t.clock ∧ (act t).pending = t.pending ∧ (act t).fuse = t.fuse) :
    Still dt s (cfgCmd dt f s cond act) :=
  work_still _ _ _ _ fun t => (State.cfgAsk_keep _ _ _ _ (by simp [h]))

theorem execBmeClear_still (dt f : Nat) (s : State) : Still dt s (execBmeClear dt f s) := cfgCmd_still _ _ _ _ _ fun t => by simp

theorem execBmeSet_still (dt f : Nat) (s : State) : Still dt s (execBmeSet dt f s) := cfgCmd_still _ _ _ _ _ fun t => by simp

theorem execFlr_still (dt f : Nat) (s : State) : Still dt s (execFlr dt f s) := cfgCmd_still _ _ _ _ _ fun t => by simp

theorem execDStateChange_still (dt f : Nat) (d3 : Bool) (s : State) : Still dt s (execDStateChange dt f d3 s) := cfgCmd_still _ _ _ _ _ fun t => by
  dsimp only
  split <;> simp

theorem execMsixUnmask_still (dt f : Nat) (vec : Option Nat) (s : State) : Still dt s (execMsixUnmask dt f vec s) := by
  unfold execMsixUnmask
  split
  · exact pageCmd_still _ _ _ _ fun t => (by simp)
  · exact cfgCmd_still _ _ _ _ _ fun t => by simp

theorem execVfEnable_still (dt f : Nat) (en : Bool) (n : Nat) (s : State) : Still dt s (execVfEnable dt f en n s) := cfgCmd_still _ _ _ _ _ fun t => by simp

theorem execSubmissionDoorbell_still (dt f q v : Nat) (s : State) : Still dt s (execSubmissionDoorbell dt f q v s) := work_still _ _ _ _ fun t => (by simp)

theorem execCompletionDoorbell_still (dt f q v : Nat) (s : State) : Still dt s (execCompletionDoorbell dt f q v s) := work_still _ _ _ _ fun t => (by simp)

theorem execTxPacketFetch_still (dt f q : Nat) (given : HostRead) (s : State) : Still dt s (execTxPacketFetch dt f q given s) := work_still _ _ _ _ fun t => (by
  split
  · simp
  · split
    · rename_i h
      exact State.fetch_wait _ _ _ _ _ _ _ _ h
    · rename_i h
      have := State.fetch_lost _ _ _ _ _ _ _ _ h
      simp [this]
    · rename_i h
      have := State.fetch_got _ _ _ _ _ _ _ _ _ h
      split <;> simp [this])

theorem execTxDataComplete_still (dt f q : Nat) (s : State) : Still dt s (execTxDataComplete dt f q s) := work_still _ _ _ _ fun t => (by
  dsimp only
  repeat' split
  all_goals simp)

theorem execRxPacketDelivery_still (dt f : Nat) (given : HostRead) (s : State) : Still dt s (execRxPacketDelivery dt f given s) := work_still _ _ _ _ fun t => (by
  repeat' split
  all_goals simp)

theorem execModerationTimer_still (dt f q : Nat) (s : State) : Still dt s (execModerationTimer dt f q s) := cmd_still _ _ _ _ fun t => (by
  repeat' split
  all_goals simp)

theorem execCoreIntEntryWrite_still (dt f e v : Nat) (s : State) : Still dt s (execCoreIntEntryWrite dt f e v s) := pageCmd_still _ _ _ _ fun t => (by
  repeat' split
  all_goals simp)

theorem execFnSelfReset_still (dt f v : Nat) (s : State) : Still dt s (execFnSelfReset dt f v s) := pageCmd_still _ _ _ _ fun t => (by
  repeat' split
  all_goals simp)

theorem execDrainLimit_still (dt f : Nat) (s : State) : Still dt s (execDrainLimit dt f s) := cmd_still _ _ _ _ fun t => (by simp)

theorem execFunctionResetComplete_still (dt f : Nat) (s : State) : Still dt s (execFunctionResetComplete dt f s) := work_still _ _ _ _ fun t => (by
  dsimp only
  repeat' split
  all_goals simp)

theorem laCmd_still (op dt f q : Nat) (given param data : HostRead) (s : State) : Still dt s (laCmd op dt f q given param data s) := work_still _ _ _ _ fun t => (by
  split
  · simp
  · split
    · rename_i h
      exact State.jobFetch_wait _ _ _ _ _ _ h
    · rename_i h
      have := State.jobFetch_lost _ _ _ _ _ _ h
      simp [this]
    · rename_i h
      have := State.jobFetch_got _ _ _ _ _ _ _ h
      simp [this]
  · simp)

theorem execEncrypt_still (dt f q : Nat) (given param data : HostRead) (s : State) : Still dt s (execEncrypt dt f q given param data s) := by
  unfold execEncrypt; exact laCmd_still ..

theorem execDecrypt_still (dt f q : Nat) (given param data : HostRead) (s : State) : Still dt s (execDecrypt dt f q given param data s) := by
  unfold execDecrypt; exact laCmd_still ..

theorem execMac_still (dt f q : Nat) (given param data : HostRead) (s : State) : Still dt s (execMac dt f q given param data s) := by
  unfold execMac; exact laCmd_still ..

theorem execVerify_still (dt f q : Nat) (given param data : HostRead) (s : State) : Still dt s (execVerify dt f q given param data s) := by
  unfold execVerify; exact laCmd_still ..

theorem execTlsSeal_still (dt f q : Nat) (given param data : HostRead) (s : State) : Still dt s (execTlsSeal dt f q given param data s) := by
  unfold execTlsSeal; exact laCmd_still ..

theorem execTlsOpen_still (dt f q : Nat) (given param data : HostRead) (s : State) : Still dt s (execTlsOpen dt f q given param data s) := by
  unfold execTlsOpen; exact laCmd_still ..

theorem execXtsEnc_still (dt f q : Nat) (given param data : HostRead) (s : State) : Still dt s (execXtsEnc dt f q given param data s) := by
  unfold execXtsEnc; exact laCmd_still ..

theorem execXtsDec_still (dt f q : Nat) (given param data : HostRead) (s : State) : Still dt s (execXtsDec dt f q given param data s) := by
  unfold execXtsDec; exact laCmd_still ..

theorem execSaWrite_still (dt f q : Nat) (given param data : HostRead) (s : State) : Still dt s (execSaWrite dt f q given param data s) := by
  unfold execSaWrite; exact laCmd_still ..

theorem execSaRead_still (dt f q : Nat) (given param data : HostRead) (s : State) : Still dt s (execSaRead dt f q given param data s) := by
  unfold execSaRead; exact laCmd_still ..

theorem execControllerEnable_still (dt f cc : Nat) (s : State) : Still dt s (execControllerEnable dt f cc s) := pageCmd_still _ _ _ _ fun t => (by dsimp only; split <;> simp)

theorem execControllerReset_still (dt f cc : Nat) (s : State) : Still dt s (execControllerReset dt f cc s) := pageCmd_still _ _ _ _ fun t => (by
  repeat' split
  all_goals simp)

theorem execControllerShutdown_still (dt f cc : Nat) (s : State) : Still dt s (execControllerShutdown dt f cc s) := pageCmd_still _ _ _ _ fun t => (by dsimp only; split <;> simp)

theorem adminCmd_still (op dt f : Nat) (entry : Bytes) (s : State) (act : State → Nat × State)
    (h : ∀ t, (act t).2.clock = t.clock ∧ (act t).2.pending = t.pending ∧ (act t).2.fuse = t.fuse) :
    Still dt s (adminCmd op dt f entry s act) := by
  exact work_still _ _ _ _ fun t => (State.stgFetch_keep _ _ _ _ _ _ _ fun u b => by simp [h])

theorem execCreateIoSubmissionQueue_still (dt f : Nat) (entry : Bytes) (s : State) : Still dt s (execCreateIoSubmissionQueue dt f entry s) := adminCmd_still _ _ _ _ _ _ fun t => by simp

theorem execDeleteIoSubmissionQueue_still (dt f : Nat) (entry : Bytes) (s : State) : Still dt s (execDeleteIoSubmissionQueue dt f entry s) := adminCmd_still _ _ _ _ _ _ fun t => by simp

theorem execCreateIoCompletionQueue_still (dt f : Nat) (entry : Bytes) (s : State) : Still dt s (execCreateIoCompletionQueue dt f entry s) := adminCmd_still _ _ _ _ _ _ fun t => by simp

theorem execDeleteIoCompletionQueue_still (dt f : Nat) (entry : Bytes) (s : State) : Still dt s (execDeleteIoCompletionQueue dt f entry s) := adminCmd_still _ _ _ _ _ _ fun t => by simp

theorem execStorageCommandArrival_still (dt f q ctx : Nat) (entry : HostRead) (chain : List (Nat × Nat × Bool)) (s : State) : Still dt s (execStorageCommandArrival dt f q ctx entry chain s) := work_still _ _ _ _ fun t => (by
  split
  · exact State.stgFetch_keep _ _ _ _ _ _ _ fun u b => by simp
  · refine State.stgFetch_keep _ _ _ _ _ _ _ fun u b => ?_
    split <;> simp)

theorem psCmd_still (op dt f q : Nat) (s : State) (act : State → Qp → Bytes → State)
    (h : ∀ t x d, (act t x d).clock = t.clock ∧ (act t x d).pending = t.pending ∧ (act t x d).fuse = t.fuse) :
    Still dt s (psCmd op dt f q s act) := by
  refine work_still _ _ _ _ fun t => ?_
  repeat' split
  all_goals simp [h]

theorem execPost_still (dt f q : Nat) (s : State) : Still dt s (execPost dt f q s) := psCmd_still _ _ _ _ _ _ fun t x d => by simp

theorem execXfer_still (dt f q : Nat) (mem : List (Nat × Bytes)) (fail : Option ReadFail) (s : State) : Still dt s (execXfer dt f q mem fail s) := psCmd_still _ _ _ _ _ _ fun t x d => by simp

theorem execRespond_still (dt f q : Nat) (s : State) : Still dt s (execRespond dt f q s) := psCmd_still _ _ _ _ _ _ fun t x d => by simp

theorem execHoldComplete_still (dt f : Nat) (s : State) : Still dt s (execHoldComplete dt f s) := work_still _ _ _ _ fun t => (by dsimp only; split <;> simp)

theorem migCmd_still (dt c : Nat) (s : State) (effect : State → Nat → State)
    (h : ∀ t f, (effect t f).clock = t.clock ∧ (effect t f).pending = t.pending ∧ (effect t f).fuse = t.fuse) :
    Still dt s (migCmd dt c s effect) :=
  pageCmd_still _ _ _ _ fun t => (State.migRun_keep t c effect h)

theorem execStartLog_still (dt c : Nat) (s : State) : Still dt s (execStartLog dt c s) := migCmd_still _ _ _ _ fun t f => by simp

theorem execSync_still (dt c : Nat) (s : State) : Still dt s (execSync dt c s) := migCmd_still _ _ _ _ fun t f => by simp

theorem execStopLog_still (dt c : Nat) (s : State) : Still dt s (execStopLog dt c s) := migCmd_still _ _ _ _ fun t f => by simp

theorem execHold_still (dt c : Nat) (s : State) : Still dt s (execHold dt c s) := migCmd_still _ _ _ _ fun t f => by simp

theorem execSave_still (dt c : Nat) (s : State) : Still dt s (execSave dt c s) := migCmd_still _ _ _ _ fun t f => by simp

theorem execRestore_still (dt c : Nat) (hdr : Bytes) (b : MigBody) (fail : Option ReadFail) (s : State) : Still dt s (execRestore dt c hdr b fail s) := migCmd_still _ _ _ _ fun t f => by simp

theorem execRelease_still (dt c : Nat) (s : State) : Still dt s (execRelease dt c s) := migCmd_still _ _ _ _ fun t f => by simp

theorem execQpcCreate_still (dt f : Nat) (s : State) : Still dt s (execQpcCreate dt f s) := pageCmd_still _ _ _ _ fun t => (by simp)

theorem execQpcModify_still (dt f : Nat) (s : State) : Still dt s (execQpcModify dt f s) := pageCmd_still _ _ _ _ fun t => (by simp)

theorem execQpcQuery_still (dt f : Nat) (s : State) : Still dt s (execQpcQuery dt f s) := pageCmd_still _ _ _ _ fun t => (by simp)

theorem execMmioWrite_still (dt f bar off size val : Nat) (tlp : HostTlp) (s : State) : Still dt s (execMmioWrite dt f bar off size val tlp s) := work_still _ _ _ _ fun t => (by
  split
  · refine State.cfgAsk_keep _ _ _ _ ?_
    split <;> simp
  · split
    · exact State.pageWrite_keep _ _ _ (by simp)
    · repeat' split
      all_goals simp)

theorem execEpochRetire_still (dt : Nat) (s : State) : Still dt s (execEpochRetire dt s) := cmd_still _ _ _ _ fun t => (by
  repeat' split
  all_goals simp)

theorem execQueuedCommitRun_still (dt : Nat) (s : State) : Still dt s (execQueuedCommitRun dt s) := cmd_still _ _ _ _ fun t => (by dsimp only; split <;> simp)

theorem execScheduledSwitch_still (dt : Nat) (s : State) : Still dt s (execScheduledSwitch dt s) := cmd_still _ _ _ _ fun t => (by
  repeat' split
  all_goals simp)

theorem execPrepareResend_still (dt : Nat) (s : State) : Still dt s (execPrepareResend dt s) := cmd_still _ _ _ _ fun t => (by
  repeat' split
  all_goals simp)

theorem execAckDeadline_still (dt : Nat) (s : State) : Still dt s (execAckDeadline dt s) := cmd_still _ _ _ _ fun t => (by
  repeat' split
  all_goals simp)

theorem execOutcomeFlood_still (dt : Nat) (s : State) : Still dt s (execOutcomeFlood dt s) := cmd_still _ _ _ _ fun t => (by simp)

theorem execPpsInEdge_still (dt : Nat) (s : State) : Still dt s (execPpsInEdge dt s) := cmd_still _ _ _ _ fun t => (by
  dsimp only
  repeat' split
  all_goals simp)

theorem execPpsMissing_still (dt : Nat) (s : State) : Still dt s (execPpsMissing dt s) := cmd_still _ _ _ _ fun t => (by dsimp only; split <;> simp)

theorem execWeaveLaneLock_still (dt l : Nat) (s : State) : Still dt s (execWeaveLaneLock dt l s) := cmd_still _ _ _ _ fun t => (by dsimp only; split <;> simp)

theorem execWeaveLinkLoss_still (dt l : Nat) (s : State) : Still dt s (execWeaveLinkLoss dt l s) := cmd_still _ _ _ _ fun t => (by simp)

theorem execHelloTimeout_still (dt l : Nat) (s : State) : Still dt s (execHelloTimeout dt l s) := cmd_still _ _ _ _ fun t => (by simp)

theorem execHelloSend_still (dt l : Nat) (s : State) : Still dt s (execHelloSend dt l s) := cmd_still _ _ _ _ fun t => (by simp)

theorem execLinkStateOriginate_still (dt : Nat) (s : State) : Still dt s (execLinkStateOriginate dt s) := cmd_still _ _ _ _ fun t => (by simp)

theorem execLsdbExpiry_still (dt : Nat) (s : State) : Still dt s (execLsdbExpiry dt s) := cmd_still _ _ _ _ fun t => (by simp)

theorem execRouteRecompute_still (dt : Nat) (s : State) : Still dt s (execRouteRecompute dt s) := cmd_still _ _ _ _ fun t => (by simp)

theorem execWeaveFrameReceive_still (dt l : Nat) (f : Bytes) (overrun : Bool) (s : State) : Still dt s (execWeaveFrameReceive dt l f overrun s) := work_still _ _ _ _ fun t => (by simp)

theorem messageIn_still (typ dt l : Nat) (f : Bytes) (s : State) : Still dt s (messageIn typ dt l f s) := work_still _ _ _ _ fun t => (by simp)

theorem execHello_still (dt l : Nat) (f : Bytes) (s : State) : Still dt s (execHello dt l f s) := by
  unfold execHello; exact messageIn_still ..

theorem execLinkState_still (dt l : Nat) (f : Bytes) (s : State) : Still dt s (execLinkState dt l f s) := by
  unfold execLinkState; exact messageIn_still ..

theorem execPrepare_still (dt l : Nat) (f : Bytes) (s : State) : Still dt s (execPrepare dt l f s) := by
  unfold execPrepare; exact messageIn_still ..

theorem execAck_still (dt l : Nat) (f : Bytes) (s : State) : Still dt s (execAck dt l f s) := by
  unfold execAck; exact messageIn_still ..

theorem execNak_still (dt l : Nat) (f : Bytes) (s : State) : Still dt s (execNak dt l f s) := by
  unfold execNak; exact messageIn_still ..

theorem execCancel_still (dt l : Nat) (f : Bytes) (s : State) : Still dt s (execCancel dt l f s) := by
  unfold execCancel; exact messageIn_still ..

theorem execOutcome_still (dt l : Nat) (f : Bytes) (s : State) : Still dt s (execOutcome dt l f s) := by
  unfold execOutcome; exact messageIn_still ..

theorem execShuttle_still (dt l : Nat) (f : Bytes) (s : State) : Still dt s (execShuttle dt l f s) := by
  unfold execShuttle; exact messageIn_still ..

theorem execCalendarWindow_still (dt l : Nat) (s : State) : Still dt s (execCalendarWindow dt l s) := cmd_still _ _ _ _ fun t => (by simp)

theorem execCalendarSwitch_still (dt : Nat) (s : State) : Still dt s (execCalendarSwitch dt s) := cmd_still _ _ _ _ fun t => (by dsimp only; split <;> simp)

theorem execColdStart_still (dt : Nat) (straps : List Nat) (rose removed dipped hot : Bool) (s : State) : Still dt s (execColdStart dt straps rose removed dipped hot s) := cmd_still _ _ _ _ fun t => (by simp)

theorem execResetNAssert_still (dt : Nat) (s : State) : Still dt s (execResetNAssert dt s) := cmd_still _ _ _ _ fun t => (by simp)

theorem execVigilFirmwareStart_still (dt : Nat) (samples : List Nat) (bad : List (Nat × Nat)) (copies : Nat) (corrupt : List Nat) (s : State) : Still dt s (execVigilFirmwareStart dt samples bad copies corrupt s) := cmd_still _ _ _ _ fun t => (by simp)

theorem execDivertScanStart_still (dt region : Nat) (s : State) : Still dt s (execDivertScanStart dt region s) := cmd_still _ _ _ _ fun t => (by dsimp only; split <;> simp)

theorem execDivertScanEnd_still (dt id : Nat) (s : State) : Still dt s (execDivertScanEnd dt id s) := cmd_still _ _ _ _ fun t => (by dsimp only; split <;> simp)

theorem execPatternScan_still (dt f q : Nat) (given data : HostRead) (s : State) : Still dt s (execPatternScan dt f q given data s) := by
  unfold execPatternScan
  refine work_still _ _ _ _ fun t => ?_
  split
  · simp
  · extract_lets t1 m t2
    have h2 : t2.clock = t.clock ∧ t2.pending = t.pending ∧ t2.fuse = t.fuse := by simp [t2, t1]
    clear_value t2
    split
    · rename_i h
      exact keep_trans (State.jobFetch_wait _ _ _ _ _ _ h) h2
    · rename_i h
      have := State.jobFetch_lost _ _ _ _ _ _ h
      split <;> simp [this, h2]
    · rename_i h
      have := State.jobFetch_got _ _ _ _ _ _ _ h
      simp [this, h2]
  · simp

theorem execHoldOutRetest_still (dt place : Nat) (pass : Bool) (s : State) : Still dt s (execHoldOutRetest dt place pass s) := cmd_still _ _ _ _ fun t => (by
  dsimp only
  repeat' split
  all_goals simp)

theorem execCellLogWindow_still (dt place addr : Nat) (s : State) : Still dt s (execCellLogWindow dt place addr s) := cmd_still _ _ _ _ fun t => (by dsimp only; split <;> simp)

theorem execRegionRetest_still (dt : Nat) (s : State) : Still dt s (execRegionRetest dt s) := cmd_still _ _ _ _ fun t => (by simp)

theorem execRegionTestComplete_still (dt : Nat) (pass : Bool) (s : State) : Still dt s (execRegionTestComplete dt pass s) := cmd_still _ _ _ _ fun t => (by
  repeat' split
  all_goals simp)

theorem execStandbyReloadComplete_still (dt : Nat) (s : State) : Still dt s (execStandbyReloadComplete dt s) := cmd_still _ _ _ _ fun t => (by simp)

theorem csm_still (op dt : Nat) (req : Option Nat) (s : State) : Still dt s (csm op dt req s) := by
  unfold csm
  cases req
  · dsimp only
    refine cmd_still _ _ _ _ fun t => ?_
    split <;> simp
  · exact cmd_still _ _ _ _ fun t => (by simp)

theorem execCsmClusterClock_still (dt : Nat) (req : Option Nat) (s : State) : Still dt s (execCsmClusterClock dt req s) := by
  unfold execCsmClusterClock; exact csm_still ..

theorem execCsmTimeState_still (dt : Nat) (req : Option Nat) (s : State) : Still dt s (execCsmTimeState dt req s) := by
  unfold execCsmTimeState; exact csm_still ..

theorem execCsmMode_still (dt : Nat) (req : Option Nat) (s : State) : Still dt s (execCsmMode dt req s) := by
  unfold execCsmMode; exact csm_still ..

theorem execCoreMemoryAccess_still (dt h a n : Nat) (data : Option Bytes) (s : State) : Still dt s (execCoreMemoryAccess dt h a n data s) := cmd_still _ _ _ _ fun t => (by
  dsimp only
  repeat' split
  all_goals simp)

theorem execDrainDone_still (dt : Nat) (s : State) : Still dt s (execDrainDone dt s) := cmd_still _ _ _ _ fun t => (by simp)

theorem execModeDrainLimit_still (dt : Nat) (s : State) : Still dt s (execModeDrainLimit dt s) := cmd_still _ _ _ _ fun t => (by simp)

theorem execDormantEntryComplete_still (dt : Nat) (s : State) : Still dt s (execDormantEntryComplete dt s) := cmd_still _ _ _ _ fun t => (by
  dsimp only
  repeat' split
  all_goals simp)

theorem execDormantExitComplete_still (dt : Nat) (s : State) : Still dt s (execDormantExitComplete dt s) := cmd_still _ _ _ _ fun t => (by
  refine keep_trans (foldl_keep _ _ _ fun a x => ?_) (keep_trans (foldl_keep _ _ _ fun a x => ?_) ?_)
  · split <;> simp
  · split <;> simp
  · simp)

theorem execWakeTimer_still (dt : Nat) (s : State) : Still dt s (execWakeTimer dt s) := cmd_still _ _ _ _ fun t => (by simp)

theorem execGpioWakeEdge_still (dt g : Nat) (s : State) : Still dt s (execGpioWakeEdge dt g s) := cmd_still _ _ _ _ fun t => (by simp)

theorem execPerstDeassert_still (dt port : Nat) (s : State) : Still dt s (execPerstDeassert dt port s) := cmd_still _ _ _ _ fun t => (by
  dsimp only
  repeat' split
  all_goals simp)

theorem execIdleEntry_still (dt : Nat) (wfi : Bool) (s : State) : Still dt s (execIdleEntry dt wfi s) := cmd_still _ _ _ _ fun t => (by simp)

theorem execQuietEntry_still (dt : Nat) (s : State) : Still dt s (execQuietEntry dt s) := cmd_still _ _ _ _ fun t => (by simp)

theorem execLpiWake_still (dt n : Nat) (s : State) : Still dt s (execLpiWake dt n s) := cmd_still _ _ _ _ fun t => (by simp)

theorem execHartTimerEvent_still (dt h : Nat) (s : State) : Still dt s (execHartTimerEvent dt h s) := cmd_still _ _ _ _ fun t => (by simp)

theorem execSensorRead_still (dt : Nat) (readings : List Int) (s : State) : Still dt s (execSensorRead dt readings s) := cmd_still _ _ _ _ fun t => (by simp)

theorem execSupplyMeasure_still (dt mv ma mw : Nat) (s : State) : Still dt s (execSupplyMeasure dt mv ma mw s) := cmd_still _ _ _ _ fun t => (by simp)

theorem execThermtrip_still (dt : Nat) (s : State) : Still dt s (execThermtrip dt s) := cmd_still _ _ _ _ fun t => (by simp)

theorem execUndervoltage_still (dt : Nat) (s : State) : Still dt s (execUndervoltage dt s) := cmd_still _ _ _ _ fun t => (by simp)

theorem execOvervoltage_still (dt : Nat) (s : State) : Still dt s (execOvervoltage dt s) := cmd_still _ _ _ _ fun t => (by simp)

theorem execFwWriteComplete_still (dt k : Nat) (s : State) : Still dt s (execFwWriteComplete dt k s) := cmd_still _ _ _ _ fun t => (by
  repeat' split
  all_goals simp)

theorem execHandoverPrepared_still (dt code : Nat) (s : State) : Still dt s (execHandoverPrepared dt code s) := cmd_still _ _ _ _ fun t => (by
  repeat' split
  all_goals simp)

theorem execHandoverStart_still (dt : Nat) (s : State) : Still dt s (execHandoverStart dt s) := cmd_still _ _ _ _ fun t => (by simp)

theorem execHandoverDeferralExpiry_still (dt : Nat) (s : State) : Still dt s (execHandoverDeferralExpiry dt s) := cmd_still _ _ _ _ fun t => (by simp)

theorem execRestartInstant_still (dt : Nat) (s : State) : Still dt s (execRestartInstant dt s) := cmd_still _ _ _ _ fun t => (by
  repeat' split
  all_goals simp)

theorem execSettingsStoreWrite_still (dt : Nat) (s : State) : Still dt s (execSettingsStoreWrite dt s) := cmd_still _ _ _ _ fun t => (by simp)

theorem execImageStoreWrite_still (dt : Nat) (s : State) : Still dt s (execImageStoreWrite dt s) := cmd_still _ _ _ _ fun t => (by
  repeat' split
  all_goals simp)

theorem execHbmTrainingComplete_still (dt : Nat) (ok0 ok1 : Bool) (s : State) : Still dt s (execHbmTrainingComplete dt ok0 ok1 s) := cmd_still _ _ _ _ fun t => (by dsimp only; split <;> simp)

theorem execServiceImageRunning_still (dt : Nat) (bad : List (Nat × Nat)) (s : State) : Still dt s (execServiceImageRunning dt bad s) := cmd_still _ _ _ _ fun t => (by
  repeat' split
  all_goals simp)

theorem execEpochOneCommit_still (dt : Nat) (s : State) : Still dt s (execEpochOneCommit dt s) := cmd_still _ _ _ _ fun t => (by simp)

theorem execEpochSwitch_still (dt : Nat) (s : State) : Still dt s (execEpochSwitch dt s) := cmd_still _ _ _ _ fun t => (by
  dsimp only
  repeat' split
  all_goals simp)

theorem execRescueFrameReceive_still (dt : Nat) (f : Bytes) (fcsOk : Bool) (given : HostRead) (s : State) : Still dt s (execRescueFrameReceive dt f fcsOk given s) := work_still _ _ _ _ fun t => (by
  repeat' split
  all_goals simp)

theorem tableOp_still (op dt f q : Nat) (given payload : HostRead) (s : State) : Still dt s (tableOp op dt f q given payload s) := work_still _ _ _ _ fun t => (by
  split
  · simp
  · split
    · rename_i h
      exact State.jobFetch_wait _ _ _ _ _ _ h
    · rename_i h
      have := State.jobFetch_lost _ _ _ _ _ _ h
      simp [this]
    · rename_i h
      have := State.jobFetch_got _ _ _ _ _ _ _ h
      simp [this])

theorem execInsert_still (dt f q : Nat) (given payload : HostRead) (s : State) : Still dt s (execInsert dt f q given payload s) := by
  unfold execInsert; exact tableOp_still ..

theorem execDelete_still (dt f q : Nat) (given payload : HostRead) (s : State) : Still dt s (execDelete dt f q given payload s) := by
  unfold execDelete; exact tableOp_still ..

theorem execModify_still (dt f q : Nat) (given payload : HostRead) (s : State) : Still dt s (execModify dt f q given payload s) := by
  unfold execModify; exact tableOp_still ..

theorem execClearHit_still (dt f q : Nat) (given payload : HostRead) (s : State) : Still dt s (execClearHit dt f q given payload s) := by
  unfold execClearHit; exact tableOp_still ..

theorem execAgeScan_still (dt region table key : Nat) (s : State) : Still dt s (execAgeScan dt region table key s) := cmd_still _ _ _ _ fun t => (by
  dsimp only
  repeat' split
  all_goals simp)

theorem execScrubVisit_still (dt region bank u : Nat) (found : ScrubFind) (s : State) : Still dt s (execScrubVisit dt region bank u found s) := cmd_still _ _ _ _ fun t => (by
  dsimp only
  repeat' split
  all_goals simp)

theorem execQuiesceApply_still (dt : Nat) (s : State) : Still dt s (execQuiesceApply dt s) := cmd_still _ _ _ _ fun t => (by simp)

theorem execBulkIdleTimeout_still (dt port sess n : Nat) (s : State) : Still dt s (execBulkIdleTimeout dt port sess n s) := cmd_still _ _ _ _ fun t => (by simp)

theorem execGateEvent_still (dt pn : Nat) (s : State) : Still dt s (execGateEvent dt pn s) := cmd_still _ _ _ _ fun t => (by simp)

theorem execGateListSwitch_still (dt pn : Nat) (s : State) : Still dt s (execGateListSwitch dt pn s) := cmd_still _ _ _ _ fun t => (by
  repeat' split
  all_goals simp)

theorem execCensusSweepStart_still (dt region : Nat) (s : State) : Still dt s (execCensusSweepStart dt region s) := cmd_still _ _ _ _ fun t => (by
  refine keep_trans (foldl_keep _ _ _ fun a x => ?_) ?_
  · dsimp only
    split <;> simp
  · simp)

theorem execCensusSample_still (dt eqid : Nat) (s : State) : Still dt s (execCensusSample dt eqid s) := cmd_still _ _ _ _ fun t => (by
  repeat' split
  all_goals simp)

theorem execIpfixExport_still (dt : Nat) (sent : Bool) (s : State) : Still dt s (execIpfixExport dt sent s) := cmd_still _ _ _ _ fun t => (by
  repeat' split
  all_goals simp)

theorem execIpfixTemplate_still (dt : Nat) (sent : Bool) (s : State) : Still dt s (execIpfixTemplate dt sent s) := cmd_still _ _ _ _ fun t => (by simp)

theorem ompCmd_kept (dt : Nat) (s : State) (want : Bool) (k : Nat × Nat) (m : Bytes) : Kept dt s (ompCmd dt s want k m) :=
  cmd_kept _ _ _ _ fun t => State.takeInOrder_keep t _ k m

theorem execRead_kept (dt port sess : Nat) (req : Bytes) (s : State) : Kept dt s (execRead dt port sess req s) := by
  unfold execRead; exact ompCmd_kept ..

theorem execWrite_kept (dt port sess : Nat) (req : Bytes) (s : State) : Kept dt s (execWrite dt port sess req s) := by
  unfold execWrite; exact ompCmd_kept ..

theorem execStage_kept (dt port sess : Nat) (req : Bytes) (s : State) : Kept dt s (execStage dt port sess req s) := by
  unfold execStage; exact ompCmd_kept ..

theorem execCommit_kept (dt port sess : Nat) (req : Bytes) (s : State) : Kept dt s (execCommit dt port sess req s) := by
  unfold execCommit; exact ompCmd_kept ..

theorem execScheduledCommit_kept (dt port sess : Nat) (req : Bytes) (s : State) : Kept dt s (execScheduledCommit dt port sess req s) := by
  unfold execScheduledCommit; exact ompCmd_kept ..

theorem execBulkOpen_kept (dt port sess : Nat) (req : Bytes) (s : State) : Kept dt s (execBulkOpen dt port sess req s) := by
  unfold execBulkOpen; exact ompCmd_kept ..

theorem execBulkData_kept (dt port sess : Nat) (req : Bytes) (s : State) : Kept dt s (execBulkData dt port sess req s) := by
  unfold execBulkData; exact ompCmd_kept ..

theorem execBulkCloseFinish_kept (dt port sess : Nat) (req : Bytes) (s : State) : Kept dt s (execBulkCloseFinish dt port sess req s) := by
  unfold execBulkCloseFinish; exact ompCmd_kept ..

theorem execBulkCloseAbort_kept (dt port sess : Nat) (req : Bytes) (s : State) : Kept dt s (execBulkCloseAbort dt port sess req s) := by
  unfold execBulkCloseAbort; exact ompCmd_kept ..

theorem execSubscribe_kept (dt port sess : Nat) (req : Bytes) (s : State) : Kept dt s (execSubscribe dt port sess req s) := by
  unfold execSubscribe; exact ompCmd_kept ..

theorem execUnknownOperation_kept (dt port sess : Nat) (req : Bytes) (s : State) : Kept dt s (execUnknownOperation dt port sess req s) := by
  unfold execUnknownOperation; exact ompCmd_kept ..

theorem execSemAcquire_kept (dt port sess : Nat) (req : Bytes) (s : State) : Kept dt s (execSemAcquire dt port sess req s) := by
  unfold execSemAcquire; exact ompCmd_kept ..

theorem execSemRelease_kept (dt port sess : Nat) (req : Bytes) (s : State) : Kept dt s (execSemRelease dt port sess req s) := by
  unfold execSemRelease; exact ompCmd_kept ..

theorem execMgmtSemHeartbeat_kept (dt port sess : Nat) (req : Bytes) (s : State) : Kept dt s (execMgmtSemHeartbeat dt port sess req s) := by
  unfold execMgmtSemHeartbeat; exact ompCmd_kept ..

theorem execEpochDiscard_kept (dt port sess : Nat) (req : Bytes) (s : State) : Kept dt s (execEpochDiscard dt port sess req s) := by
  unfold execEpochDiscard; exact ompCmd_kept ..

theorem execEpochAtArm_kept (dt port sess : Nat) (req : Bytes) (s : State) : Kept dt s (execEpochAtArm dt port sess req s) := by
  unfold execEpochAtArm; exact ompCmd_kept ..

theorem execEpochAtCancel_kept (dt port sess : Nat) (req : Bytes) (s : State) : Kept dt s (execEpochAtCancel dt port sess req s) := by
  unfold execEpochAtCancel; exact ompCmd_kept ..

theorem execEpochAtResync_kept (dt port sess : Nat) (req : Bytes) (s : State) : Kept dt s (execEpochAtResync dt port sess req s) := by
  unfold execEpochAtResync; exact ompCmd_kept ..

theorem execTimeSet_kept (dt port sess : Nat) (req : Bytes) (s : State) : Kept dt s (execTimeSet dt port sess req s) := by
  unfold execTimeSet; exact ompCmd_kept ..

theorem execErrLogClear_kept (dt port sess : Nat) (req : Bytes) (s : State) : Kept dt s (execErrLogClear dt port sess req s) := by
  unfold execErrLogClear; exact ompCmd_kept ..

theorem execKeyKek_kept (dt port sess : Nat) (req : Bytes) (s : State) : Kept dt s (execKeyKek dt port sess req s) := by
  unfold execKeyKek; exact ompCmd_kept ..

theorem execKeySlotWrite_kept (dt port sess : Nat) (req : Bytes) (s : State) : Kept dt s (execKeySlotWrite dt port sess req s) := by
  unfold execKeySlotWrite; exact ompCmd_kept ..

theorem execKeySlotErase_kept (dt port sess : Nat) (req : Bytes) (s : State) : Kept dt s (execKeySlotErase dt port sess req s) := by
  unfold execKeySlotErase; exact ompCmd_kept ..

theorem execCoreRunRelease_kept (dt port sess : Nat) (req : Bytes) (s : State) : Kept dt s (execCoreRunRelease dt port sess req s) := by
  unfold execCoreRunRelease; exact ompCmd_kept ..

theorem execCoreRunReset_kept (dt port sess : Nat) (req : Bytes) (s : State) : Kept dt s (execCoreRunReset dt port sess req s) := by
  unfold execCoreRunReset; exact ompCmd_kept ..

theorem execDrainRequest_kept (dt port sess : Nat) (req : Bytes) (s : State) : Kept dt s (execDrainRequest dt port sess req s) := by
  unfold execDrainRequest; exact ompCmd_kept ..

theorem execVigilRequest_kept (dt port sess : Nat) (req : Bytes) (s : State) : Kept dt s (execVigilRequest dt port sess req s) := by
  unfold execVigilRequest; exact ompCmd_kept ..

theorem execHibernateRequest_kept (dt port sess : Nat) (req : Bytes) (s : State) : Kept dt s (execHibernateRequest dt port sess req s) := by
  unfold execHibernateRequest; exact ompCmd_kept ..

theorem execOffWakeRequest_kept (dt port sess : Nat) (req : Bytes) (s : State) : Kept dt s (execOffWakeRequest dt port sess req s) := by
  unfold execOffWakeRequest; exact ompCmd_kept ..

theorem execServiceRequest_kept (dt port sess : Nat) (req : Bytes) (s : State) : Kept dt s (execServiceRequest dt port sess req s) := by
  unfold execServiceRequest; exact ompCmd_kept ..

theorem execHandoverNow_kept (dt port sess : Nat) (req : Bytes) (s : State) : Kept dt s (execHandoverNow dt port sess req s) := by
  unfold execHandoverNow; exact ompCmd_kept ..

theorem execHandoverAt_kept (dt port sess : Nat) (req : Bytes) (s : State) : Kept dt s (execHandoverAt dt port sess req s) := by
  unfold execHandoverAt; exact ompCmd_kept ..

theorem execRestartAt_kept (dt port sess : Nat) (req : Bytes) (s : State) : Kept dt s (execRestartAt dt port sess req s) := by
  unfold execRestartAt; exact ompCmd_kept ..

theorem execImgActivateCancel_kept (dt port sess : Nat) (req : Bytes) (s : State) : Kept dt s (execImgActivateCancel dt port sess req s) := by
  unfold execImgActivateCancel; exact ompCmd_kept ..

theorem execImgSvnRaise_kept (dt port sess : Nat) (req : Bytes) (s : State) : Kept dt s (execImgSvnRaise dt port sess req s) := by
  unfold execImgSvnRaise; exact ompCmd_kept ..

theorem execImgSignerRevoke_kept (dt port sess : Nat) (req : Bytes) (s : State) : Kept dt s (execImgSignerRevoke dt port sess req s) := by
  unfold execImgSignerRevoke; exact ompCmd_kept ..

theorem execFltRegionTest_kept (dt port sess : Nat) (req : Bytes) (s : State) : Kept dt s (execFltRegionTest dt port sess req s) := by
  unfold execFltRegionTest; exact ompCmd_kept ..

theorem execDiagInjectCorrectable_kept (dt port sess : Nat) (req : Bytes) (s : State) : Kept dt s (execDiagInjectCorrectable dt port sess req s) := by
  unfold execDiagInjectCorrectable; exact ompCmd_kept ..

theorem execDiagInjectUncorrectable_kept (dt port sess : Nat) (req : Bytes) (s : State) : Kept dt s (execDiagInjectUncorrectable dt port sess req s) := by
  unfold execDiagInjectUncorrectable; exact ompCmd_kept ..

theorem execDiagInjectBlockReset_kept (dt port sess : Nat) (req : Bytes) (s : State) : Kept dt s (execDiagInjectBlockReset dt port sess req s) := by
  unfold execDiagInjectBlockReset; exact ompCmd_kept ..

theorem execDiagInjectRegionFault_kept (dt port sess : Nat) (req : Bytes) (s : State) : Kept dt s (execDiagInjectRegionFault dt port sess req s) := by
  unfold execDiagInjectRegionFault; exact ompCmd_kept ..

theorem execSquashReset_kept (dt port sess : Nat) (req : Bytes) (s : State) : Kept dt s (execSquashReset dt port sess req s) := by
  unfold execSquashReset; exact ompCmd_kept ..

theorem execDrainReset_kept (dt port sess : Nat) (req : Bytes) (s : State) : Kept dt s (execDrainReset dt port sess req s) := by
  unfold execDrainReset; exact ompCmd_kept ..

theorem releaseCmd_kept (dt : Nat) (via : Via) (p : Nat) (s : State) (want : Nat → Bool) (v : Nat) :
    Kept dt s (releaseCmd dt via p s want v) := by
  cases via
  · exact ompCmd_kept _ _ _ _ _
  · refine pageCmd_kept _ _ _ _ fun t => Grows.of ?_
    split <;> simp

theorem execPortReleaseResume_kept (dt : Nat) (via : Via) (p : Nat) (s : State) : Kept dt s (execPortReleaseResume dt via p s) := by
  unfold execPortReleaseResume; exact releaseCmd_kept ..

theorem execPortReleaseReset_kept (dt : Nat) (via : Via) (p : Nat) (s : State) : Kept dt s (execPortReleaseReset dt via p s) := by
  unfold execPortReleaseReset; exact releaseCmd_kept ..

theorem execLeaseLapse_still (dt : Nat) (s : State) : Still dt s (execLeaseLapse dt s) := cmd_still _ _ _ _ fun t => (by simp)

theorem faultCmd_kept (dt : Nat) (s : State) (cond : State → Bool) (act : State → State) (h : ∀ t, Grows t (act t)) :
    Kept dt s (faultCmd dt s cond act) := by
  refine cmd_kept _ _ _ _ fun t => Grows.trans ?_ (State.thenRequests_keep _ _)
  split
  · exact h _
  · exact Grows.refl _

theorem execEccError_kept (dt : Nat) (at_ : EccAt) (region block inst addr : Nat) (correctable : Bool) (s : State) : Kept dt s (execEccError dt at_ region block inst addr correctable s) := faultCmd_kept _ _ _ _ fun t => Grows.of (by dsimp only; split <;> simp)

theorem execParityError_kept (dt region block inst addr retries : Nat) (ok : Bool) (s : State) : Kept dt s (execParityError dt region block inst addr retries ok s) := faultCmd_kept _ _ _ _ fun t => Grows.of (by dsimp only; split <;> simp)

theorem execBlockStall_kept (dt region block inst : Nat) (selfCheck slow : Bool) (s : State) : Kept dt s (execBlockStall dt region block inst selfCheck slow s) := faultCmd_kept _ _ _ _ fun t => Grows.of (by simp)

theorem execHbmTrainingLoss_kept (dt k : Nat) (s : State) : Kept dt s (execHbmTrainingLoss dt k s) := faultCmd_kept _ _ _ _ fun t => Grows.of (by simp)

theorem execInternalRailFault_kept (dt r : Nat) (clock : Bool) (s : State) : Kept dt s (execInternalRailFault dt r clock s) := faultCmd_kept _ _ _ _ fun t => Grows.of (by simp)

theorem execClockLoss_kept (dt which : Nat) (s : State) : Kept dt s (execClockLoss dt which s) := faultCmd_kept _ _ _ _ fun t => Grows.of (by
  split
  · simp
  · refine foldl_keep _ _ _ fun a x => ?_
    split
    · dsimp only
      split <;> simp
    · simp)

theorem execLockstepMismatch_kept (dt : Nat) (active : Bool) (s : State) : Kept dt s (execLockstepMismatch dt active s) := faultCmd_kept _ _ _ _ fun t => Grows.of (by simp)

theorem execWatchdogMiss_kept (dt : Nat) (active : Bool) (s : State) : Kept dt s (execWatchdogMiss dt active s) := faultCmd_kept _ _ _ _ fun t => Grows.of (by simp)

theorem execMgmtFrameReceive_still (dt port : Nat) (f : MgmtFrame) (s : State) : Still dt s (execMgmtFrameReceive dt port f s) := cmd_still _ _ _ _ fun t => (by
  repeat' split
  all_goals simp)

theorem execClientHello_still (dt port : Nat) (h : Hello) (s : State) : Still dt s (execClientHello dt port h s) := cmd_still _ _ _ _ fun t => (by
  dsimp only
  repeat' split
  all_goals simp)

theorem execSessionClose_still (dt port sess : Nat) (s : State) : Still dt s (execSessionClose dt port sess s) := cmd_still _ _ _ _ fun t => (by simp)

theorem execSessionIdleTimeout_still (dt port sess : Nat) (s : State) : Still dt s (execSessionIdleTimeout dt port sess s) := cmd_still _ _ _ _ fun t => (by simp)

theorem execMbxH2dLen_still (dt v : Nat) (s : State) : Still dt s (execMbxH2dLen dt v s) := pageCmd_still _ _ _ _ fun t => (by
  dsimp only
  repeat' split
  all_goals simp)

theorem execMbxD2hAck_still (dt v : Nat) (s : State) : Still dt s (execMbxD2hAck dt v s) := pageCmd_still _ _ _ _ fun t => (by
  repeat' split
  all_goals simp)

theorem execHandoverComplete_kept (dt : Nat) (s : State) : Kept dt s (execHandoverComplete dt s) := cmd_kept _ _ _ _ fun t => by
  split
  · exact State.finishHandover_keep _ _
  · exact Grows.refl _

theorem execTakeoverComplete_kept (dt : Nat) (s : State) : Kept dt s (execTakeoverComplete dt s) := cmd_kept _ _ _ _ fun t => by
  extract_lets t0 t1 t2 t3
  refine Grows.trans (Grows.of ?_) (State.runDeferred_keep _)
  have h0 : t0.clock = t.clock ∧ t0.pending = t.pending ∧ t0.fuse = t.fuse := State.endUnavail_keep t
  clear_value t0
  have h1 : t1.clock = t.clock ∧ t1.pending = t.pending ∧ t1.fuse = t.fuse := by simp [t1, h0]
  clear_value t1
  have h2 : t2.clock = t.clock ∧ t2.pending = t.pending ∧ t2.fuse = t.fuse :=
    keep_trans (foldl_keep _ _ _ fun a x => by simp) h1
  clear_value t2
  have h3 : t3.clock = t.clock ∧ t3.pending = t.pending ∧ t3.fuse = t.fuse := by simp [t3, h2]
  clear_value t3
  exact h3

theorem execOutputOverload_still (dt which : Nat) (s : State) : Still dt s (execOutputOverload dt which s) := cmd_still _ _ _ _ fun t => (by simp)

theorem execOutputRetry_still (dt which : Nat) (s : State) : Still dt s (execOutputRetry dt which s) := cmd_still _ _ _ _ fun t => (by simp)

theorem execJtagInstruction_still (dt : Nat) (i : TapInst) (s : State) : Still dt s (execJtagInstruction dt i s) := cmd_still _ _ _ _ fun t => (by dsimp only; split <;> simp)

theorem execTestLogicReset_still (dt : Nat) (s : State) : Still dt s (execTestLogicReset dt s) := cmd_still _ _ _ _ fun t => (by dsimp only; split <;> simp)

end Sys2Proof.Machine
end

