-- ==== Sys2Proof/Laws/Store.lean ====
section
/-!
SUPPORT. Sparse lists by key, the stores built on them, and application memory: a value written is the value read, every
other key keeps its value, and every operation keeps the canonical form.
-/

namespace Sys2Proof.Machine

/-! ### Sparse lists -/

@[simp] theorem lookupD_assoc_self {α : Type} (l : List (Nat × α)) (k : Nat) (v d : α) : lookupD (assoc l k v) k d = v := by
  induction l with
  | nil => simp [assoc, lookupD]
  | cons p l ih =>
    obtain ⟨a, b⟩ := p
    unfold assoc
    split
    · simp [lookupD]
    · split
      · simp [lookupD]
      · simp_all [lookupD]

theorem lookupD_assoc_ne {α : Type} (l : List (Nat × α)) (k j : Nat) (v d : α) (h : j ≠ k) :
    lookupD (assoc l k v) j d = lookupD l j d := by
  induction l with
  | nil => simp [assoc, lookupD, h.symm]
  | cons p l ih =>
    obtain ⟨a, b⟩ := p
    unfold assoc
    split
    · simp_all [lookupD, h.symm]
    · split
      · simp [lookupD, h.symm]
      · simp only [lookupD]
        split
        · rfl
        · exact ih

@[simp] theorem lookup?_assoc_self {α : Type} (l : List (Nat × α)) (k : Nat) (v : α) : lookup? (assoc l k v) k = some v := by
  induction l with
  | nil => simp [assoc, lookup?]
  | cons p l ih =>
    obtain ⟨a, b⟩ := p
    unfold assoc
    split
    · simp [lookup?]
    · split
      · simp [lookup?]
      · simp_all [lookup?]

theorem lookup?_assoc_ne {α : Type} (l : List (Nat × α)) (k j : Nat) (v : α) (h : j ≠ k) :
    lookup? (assoc l k v) j = lookup? l j := by
  induction l with
  | nil => simp [assoc, lookup?, h.symm]
  | cons p l ih =>
    obtain ⟨a, b⟩ := p
    unfold assoc
    split
    · simp_all [lookup?, h.symm]
    · split
      · simp [lookup?, h.symm]
      · simp only [lookup?]
        split
        · rfl
        · exact ih

@[simp] theorem lookupD_dissoc_self {α : Type} (l : List (Nat × α)) (k : Nat) (d : α) : lookupD (dissoc l k) k d = d := by
  unfold dissoc
  induction l with
  | nil => rfl
  | cons p l ih =>
    obtain ⟨a, b⟩ := p
    simp only [List.filter_cons]
    split
    · rename_i h
      simp only [bne_iff_ne, ne_eq] at h
      simp [lookupD, h, ih]
    · exact ih

@[simp] theorem lookup?_dissoc_self {α : Type} (l : List (Nat × α)) (k : Nat) : lookup? (dissoc l k) k = none := by
  unfold dissoc
  induction l with
  | nil => rfl
  | cons p l ih =>
    obtain ⟨a, b⟩ := p
    simp only [List.filter_cons]
    split
    · rename_i h
      simp only [bne_iff_ne, ne_eq] at h
      simp [lookup?, h, ih]
    · exact ih

theorem lookupD_dissoc_ne {α : Type} (l : List (Nat × α)) (k j : Nat) (d : α) (h : j ≠ k) :
    lookupD (dissoc l k) j d = lookupD l j d := by
  unfold dissoc
  induction l with
  | nil => rfl
  | cons p l ih =>
    obtain ⟨a, b⟩ := p
    simp only [List.filter_cons]
    split
    · simp only [lookupD, ih]
    · rename_i g
      simp only [bne_iff_ne, ne_eq, Decidable.not_not] at g
      subst g
      rw [ih, lookupD, if_neg (by simpa using h.symm)]

/-! ### Stores -/

@[simp] theorem Store.get_put_self (st : Store) (k d v : Nat) : (st.put k d v).get k d = v := by
  unfold Store.put Store.get
  split
  · rename_i h
    simp_all
  · simp

theorem Store.get_put_ne (st : Store) (k j d e v : Nat) (h : j ≠ k) : (st.put k d v).get j e = st.get j e := by
  unfold Store.put Store.get
  split
  · exact lookupD_dissoc_ne _ _ _ _ h
  · exact lookupD_assoc_ne _ _ _ _ _ h

/-! ### Application memory -/

/-- Offset above every listed one, or none. -/
theorem memory_wf_cons (a : Nat) (b : Byte) (m : List Host.Cell) :
    Memory.wf ((a, b) :: m) = true ↔ b ≠ unlistedByte ∧ (∀ c ∈ m.head?, a < c.1) ∧ Memory.wf m = true := by
  cases m with
  | nil => simp [Memory.wf]
  | cons c m =>
    obtain ⟨x, y⟩ := c
    simp [Memory.wf, and_assoc]

theorem memSet_head (m : List Host.Cell) (a : Nat) (b : Byte) (k : Nat) (hm : Memory.wf m = true) (h : ∀ c ∈ m.head?, k < c.1)
    (ha : k < a) : ∀ c ∈ (memSet m a b).head?, k < c.1 := by
  cases m with
  | nil =>
    unfold memSet
    split <;> simp_all
  | cons c m =>
    obtain ⟨x, y⟩ := c
    have hx : k < x := h _ rfl
    have ht := (memory_wf_cons x y m).1 hm
    unfold memSet
    split
    · simpa using hx
    · dsimp only
      split
      · split
        · intro c hc
          exact Nat.lt_trans hx (ht.2.1 c hc)
        · simpa using hx
      · simpa using ha

theorem memSet_wf (m : List Host.Cell) (a : Nat) (b : Byte) (hm : Memory.wf m = true) : Memory.wf (memSet m a b) = true := by
  induction m with
  | nil =>
    unfold memSet
    split
    · rfl
    · simp_all [Memory.wf]
  | cons c m ih =>
    obtain ⟨x, y⟩ := c
    have ht := (memory_wf_cons x y m).1 hm
    unfold memSet
    split
    · rename_i hlt
      exact (memory_wf_cons _ _ _).2 ⟨ht.1, memSet_head m a b x ht.2.2 ht.2.1 hlt, ih ht.2.2⟩
    · rename_i hge
      dsimp only
      by_cases hxa : x = a
      · subst hxa
        simp only [beq_self_eq_true, if_true]
        split
        · exact ht.2.2
        · rename_i hb
          exact (memory_wf_cons _ _ _).2 ⟨by simpa using hb, ht.2.1, ht.2.2⟩
      · have hne : (x == a) = false := by simpa using hxa
        simp only [hne, Bool.false_eq_true, if_false]
        split
        · exact hm
        · rename_i hb
          refine (memory_wf_cons _ _ _).2 ⟨by simpa using hb, ?_, hm⟩
          intro c hc
          simp only [List.head?_cons, Option.mem_def, Option.some.injEq] at hc
          subst hc
          dsimp only
          omega

theorem memWrite_wf (m : List Host.Cell) (a : Nat) (bs : Bytes) (hm : Memory.wf m = true) : Memory.wf (memWrite m a bs) = true := by
  induction bs generalizing m a with
  | nil => exact hm
  | cons b bs ih => exact ih _ _ (memSet_wf m a b hm)

theorem memGet_absent (m : List Host.Cell) (k : Nat) (hm : Memory.wf m = true) (h : ∀ c ∈ m.head?, k < c.1) :
    memGet m k = unlistedByte := by
  induction m with
  | nil => rfl
  | cons c m ih =>
    obtain ⟨x, y⟩ := c
    have ht := (memory_wf_cons x y m).1 hm
    have hx : k < x := h _ rfl
    have hne : (x == k) = false := by simp; omega
    simp only [memGet, hne, Bool.false_eq_true, if_false]
    exact ih ht.2.2 fun c hc => Nat.lt_trans hx (ht.2.1 c hc)

/-- A byte written is the byte read. -/
theorem memGet_memSet_self (m : List Host.Cell) (a : Nat) (b : Byte) (hm : Memory.wf m = true) : memGet (memSet m a b) a = b := by
  induction m with
  | nil =>
    unfold memSet
    split <;> simp_all [memGet]
  | cons c m ih =>
    obtain ⟨x, y⟩ := c
    have ht := (memory_wf_cons x y m).1 hm
    unfold memSet
    split
    · rename_i hlt
      have hne : (x == a) = false := by simp; omega
      simp only [memGet, hne, Bool.false_eq_true, if_false]
      exact ih ht.2.2
    · rename_i hge
      dsimp only
      by_cases hxa : x = a
      · subst hxa
        simp only [beq_self_eq_true, if_true]
        split
        · rename_i hb
          rw [memGet_absent m x ht.2.2 ht.2.1]
          exact (by simpa using hb : b = unlistedByte).symm
        · simp [memGet]
      · have hne : (x == a) = false := by simpa using hxa
        simp only [hne, Bool.false_eq_true, if_false]
        split
        · rename_i hb
          have hb : b = unlistedByte := by simpa using hb
          rw [hb]
          refine memGet_absent _ _ hm ?_
          intro c hc
          simp only [List.head?_cons, Option.mem_def, Option.some.injEq] at hc
          subst hc
          dsimp only
          omega
        · simp [memGet]

/-- Every other byte keeps its value. -/
theorem memGet_memSet_ne (m : List Host.Cell) (a k : Nat) (b : Byte) (h : k ≠ a) : memGet (memSet m a b) k = memGet m k := by
  induction m with
  | nil =>
    unfold memSet
    split <;> simp_all [memGet, h.symm]
  | cons c m ih =>
    obtain ⟨x, y⟩ := c
    unfold memSet
    split
    · simp only [memGet, ih]
    · dsimp only
      by_cases hxa : x = a
      · subst hxa
        have hk : (x == k) = false := by simpa using h.symm
        simp only [beq_self_eq_true, if_true]
        split <;> simp only [memGet, hk, Bool.false_eq_true, if_false]
      · have hne : (x == a) = false := by simpa using hxa
        have hk : (a == k) = false := by simpa using h.symm
        simp only [hne, Bool.false_eq_true, if_false]
        split
        · rfl
        · rw [memGet, if_neg (by simpa using hk)]

/-- Bytes below and above those written keep their values. -/
theorem memGet_memWrite_out (m : List Host.Cell) (a k : Nat) (bs : Bytes) (h : k < a ∨ a + bs.length ≤ k) :
    memGet (memWrite m a bs) k = memGet m k := by
  induction bs generalizing m a with
  | nil => rfl
  | cons b bs ih =>
    simp only [List.length_cons] at h
    unfold memWrite
    rw [ih _ _ (by omega), memGet_memSet_ne _ _ _ _ (by omega)]

/-- A byte written among consecutive ones is the byte read. -/
theorem memGet_memWrite_in (m : List Host.Cell) (a i : Nat) (bs : Bytes) (hm : Memory.wf m = true) (h : i < bs.length) :
    memGet (memWrite m a bs) (a + i) = bs[i] := by
  induction bs generalizing m a i with
  | nil => exact absurd h (Nat.not_lt_zero _)
  | cons b bs ih =>
    unfold memWrite
    cases i with
    | zero => rw [memGet_memWrite_out _ _ _ _ (by omega), Nat.add_zero, memGet_memSet_self _ _ _ hm]; rfl
    | succ i =>
      have := ih (memSet m a b) (a + 1) i (memSet_wf m a b hm) (by simpa using h)
      rw [show a + (i + 1) = a + 1 + i by omega, this]
      rfl

end Sys2Proof.Machine
end

