-- ==== Sys2Proof/Laws/State.lean ====
section
/-!
SUPPORT. What each basic operation leaves of the state, field by field, and what the one value it writes reads as
afterwards.
-/

namespace Sys2Proof.Machine

/-! ### Fields that an operation leaves -/

@[simp] theorem State.setCfg_frame (s : State) (o e v : Nat) :
    (State.setCfg s o e v).now = s.now ∧ (State.setCfg s o e v).clock = s.clock ∧
      (State.setCfg s o e v).pending = s.pending ∧ (State.setCfg s o e v).store = s.store ∧
      (State.setCfg s o e v).mgmt = s.mgmt ∧ (State.setCfg s o e v).ep = s.ep ∧ (State.setCfg s o e v).tbl = s.tbl ∧
      (State.setCfg s o e v).tern = s.tern ∧ (State.setCfg s o e v).lrn = s.lrn ∧ (State.setCfg s o e v).pkts = s.pkts ∧
      (State.setCfg s o e v).nextPkt = s.nextPkt ∧ (State.setCfg s o e v).free = s.free ∧
      (State.setCfg s o e v).tm = s.tm ∧ (State.setCfg s o e v).mode = s.mode ∧ (State.setCfg s o e v).wv = s.wv ∧
      (State.setCfg s o e v).pps = s.pps ∧ (State.setCfg s o e v).hs = s.hs ∧ (State.setCfg s o e v).core = s.core ∧
      (State.setCfg s o e v).flt = s.flt ∧ (State.setCfg s o e v).pwr = s.pwr ∧ (State.setCfg s o e v).cry = s.cry ∧
      (State.setCfg s o e v).stg = s.stg ∧ (State.setCfg s o e v).img = s.img ∧ (State.setCfg s o e v).fuse = s.fuse ∧
      (State.setCfg s o e v).pkg = s.pkg ∧ (State.setCfg s o e v).out = s.out :=
  ⟨rfl, rfl, rfl, rfl, rfl, rfl, rfl, rfl, rfl, rfl, rfl, rfl, rfl, rfl, rfl, rfl, rfl, rfl, rfl, rfl, rfl, rfl, rfl, rfl, rfl, rfl⟩

@[simp] theorem State.latch_frame (s : State) (o v : Nat) :
    (State.latch s o v).now = s.now ∧ (State.latch s o v).clock = s.clock ∧ (State.latch s o v).pending = s.pending ∧
      (State.latch s o v).store = s.store ∧ (State.latch s o v).mgmt = s.mgmt ∧ (State.latch s o v).ep = s.ep ∧
      (State.latch s o v).tbl = s.tbl ∧ (State.latch s o v).tern = s.tern ∧ (State.latch s o v).lrn = s.lrn ∧
      (State.latch s o v).pkts = s.pkts ∧ (State.latch s o v).nextPkt = s.nextPkt ∧ (State.latch s o v).free = s.free ∧
      (State.latch s o v).tm = s.tm ∧ (State.latch s o v).mode = s.mode ∧ (State.latch s o v).wv = s.wv ∧
      (State.latch s o v).pps = s.pps ∧ (State.latch s o v).hs = s.hs ∧ (State.latch s o v).core = s.core ∧
      (State.latch s o v).flt = s.flt ∧ (State.latch s o v).pwr = s.pwr ∧ (State.latch s o v).cry = s.cry ∧
      (State.latch s o v).stg = s.stg ∧ (State.latch s o v).img = s.img ∧ (State.latch s o v).fuse = s.fuse ∧
      (State.latch s o v).pkg = s.pkg ∧ (State.latch s o v).out = s.out :=
  ⟨rfl, rfl, rfl, rfl, rfl, rfl, rfl, rfl, rfl, rfl, rfl, rfl, rfl, rfl, rfl, rfl, rfl, rfl, rfl, rfl, rfl, rfl, rfl, rfl, rfl, rfl⟩

@[simp] theorem State.bumpN_frame (s : State) (o n : Nat) :
    (State.bumpN s o n).now = s.now ∧ (State.bumpN s o n).clock = s.clock ∧ (State.bumpN s o n).pending = s.pending ∧
      (State.bumpN s o n).store = s.store ∧ (State.bumpN s o n).mgmt = s.mgmt ∧ (State.bumpN s o n).ep = s.ep ∧
      (State.bumpN s o n).tbl = s.tbl ∧ (State.bumpN s o n).tern = s.tern ∧ (State.bumpN s o n).lrn = s.lrn ∧
      (State.bumpN s o n).pkts = s.pkts ∧ (State.bumpN s o n).nextPkt = s.nextPkt ∧ (State.bumpN s o n).free = s.free ∧
      (State.bumpN s o n).tm = s.tm ∧ (State.bumpN s o n).mode = s.mode ∧ (State.bumpN s o n).wv = s.wv ∧
      (State.bumpN s o n).pps = s.pps ∧ (State.bumpN s o n).hs = s.hs ∧ (State.bumpN s o n).core = s.core ∧
      (State.bumpN s o n).flt = s.flt ∧ (State.bumpN s o n).pwr = s.pwr ∧ (State.bumpN s o n).cry = s.cry ∧
      (State.bumpN s o n).stg = s.stg ∧ (State.bumpN s o n).img = s.img ∧ (State.bumpN s o n).fuse = s.fuse ∧
      (State.bumpN s o n).pkg = s.pkg ∧ (State.bumpN s o n).out = s.out :=
  ⟨rfl, rfl, rfl, rfl, rfl, rfl, rfl, rfl, rfl, rfl, rfl, rfl, rfl, rfl, rfl, rfl, rfl, rfl, rfl, rfl, rfl, rfl, rfl, rfl, rfl, rfl⟩

@[simp] theorem State.bump_frame (s : State) (o : Nat) :
    (State.bump s o).now = s.now ∧ (State.bump s o).clock = s.clock ∧ (State.bump s o).pending = s.pending ∧
      (State.bump s o).store = s.store ∧ (State.bump s o).mgmt = s.mgmt ∧ (State.bump s o).ep = s.ep ∧
      (State.bump s o).tbl = s.tbl ∧ (State.bump s o).tern = s.tern ∧ (State.bump s o).lrn = s.lrn ∧
      (State.bump s o).pkts = s.pkts ∧ (State.bump s o).nextPkt = s.nextPkt ∧ (State.bump s o).free = s.free ∧
      (State.bump s o).tm = s.tm ∧ (State.bump s o).mode = s.mode ∧ (State.bump s o).wv = s.wv ∧
      (State.bump s o).pps = s.pps ∧ (State.bump s o).hs = s.hs ∧ (State.bump s o).core = s.core ∧
      (State.bump s o).flt = s.flt ∧ (State.bump s o).pwr = s.pwr ∧ (State.bump s o).cry = s.cry ∧
      (State.bump s o).stg = s.stg ∧ (State.bump s o).img = s.img ∧ (State.bump s o).fuse = s.fuse ∧
      (State.bump s o).pkg = s.pkg ∧ (State.bump s o).out = s.out :=
  ⟨rfl, rfl, rfl, rfl, rfl, rfl, rfl, rfl, rfl, rfl, rfl, rfl, rfl, rfl, rfl, rfl, rfl, rfl, rfl, rfl, rfl, rfl, rfl, rfl, rfl, rfl⟩

@[simp] theorem State.ctrMax_frame (s : State) (o v : Nat) :
    (State.ctrMax s o v).now = s.now ∧ (State.ctrMax s o v).clock = s.clock ∧ (State.ctrMax s o v).pending = s.pending ∧
      (State.ctrMax s o v).store = s.store ∧ (State.ctrMax s o v).mgmt = s.mgmt ∧ (State.ctrMax s o v).ep = s.ep ∧
      (State.ctrMax s o v).tbl = s.tbl ∧ (State.ctrMax s o v).tern = s.tern ∧ (State.ctrMax s o v).lrn = s.lrn ∧
      (State.ctrMax s o v).pkts = s.pkts ∧ (State.ctrMax s o v).nextPkt = s.nextPkt ∧
      (State.ctrMax s o v).free = s.free ∧ (State.ctrMax s o v).tm = s.tm ∧ (State.ctrMax s o v).mode = s.mode ∧
      (State.ctrMax s o v).wv = s.wv ∧ (State.ctrMax s o v).pps = s.pps ∧ (State.ctrMax s o v).hs = s.hs ∧
      (State.ctrMax s o v).core = s.core ∧ (State.ctrMax s o v).flt = s.flt ∧ (State.ctrMax s o v).pwr = s.pwr ∧
      (State.ctrMax s o v).cry = s.cry ∧ (State.ctrMax s o v).stg = s.stg ∧ (State.ctrMax s o v).img = s.img ∧
      (State.ctrMax s o v).fuse = s.fuse ∧ (State.ctrMax s o v).pkg = s.pkg ∧ (State.ctrMax s o v).out = s.out :=
  ⟨rfl, rfl, rfl, rfl, rfl, rfl, rfl, rfl, rfl, rfl, rfl, rfl, rfl, rfl, rfl, rfl, rfl, rfl, rfl, rfl, rfl, rfl, rfl, rfl, rfl, rfl⟩

@[simp] theorem State.emit_frame (s : State) (o : Output) :
    (State.emit s o).now = s.now ∧ (State.emit s o).clock = s.clock ∧ (State.emit s o).pending = s.pending ∧
      (State.emit s o).dict = s.dict ∧ (State.emit s o).store = s.store ∧ (State.emit s o).mgmt = s.mgmt ∧
      (State.emit s o).ep = s.ep ∧ (State.emit s o).tbl = s.tbl ∧ (State.emit s o).tern = s.tern ∧
      (State.emit s o).lrn = s.lrn ∧ (State.emit s o).pkts = s.pkts ∧ (State.emit s o).nextPkt = s.nextPkt ∧
      (State.emit s o).free = s.free ∧ (State.emit s o).tm = s.tm ∧ (State.emit s o).mode = s.mode ∧
      (State.emit s o).wv = s.wv ∧ (State.emit s o).pps = s.pps ∧ (State.emit s o).hs = s.hs ∧
      (State.emit s o).core = s.core ∧ (State.emit s o).flt = s.flt ∧ (State.emit s o).pwr = s.pwr ∧
      (State.emit s o).cry = s.cry ∧ (State.emit s o).stg = s.stg ∧ (State.emit s o).img = s.img ∧
      (State.emit s o).fuse = s.fuse ∧ (State.emit s o).pkg = s.pkg :=
  ⟨rfl, rfl, rfl, rfl, rfl, rfl, rfl, rfl, rfl, rfl, rfl, rfl, rfl, rfl, rfl, rfl, rfl, rfl, rfl, rfl, rfl, rfl, rfl, rfl, rfl, rfl⟩

@[simp] theorem State.tick_frame (s : State) (dt : Nat) :
    (State.tick s dt).pending = s.pending ∧ (State.tick s dt).dict = s.dict ∧ (State.tick s dt).store = s.store ∧
      (State.tick s dt).mgmt = s.mgmt ∧ (State.tick s dt).ep = s.ep ∧ (State.tick s dt).tbl = s.tbl ∧
      (State.tick s dt).tern = s.tern ∧ (State.tick s dt).lrn = s.lrn ∧ (State.tick s dt).pkts = s.pkts ∧
      (State.tick s dt).nextPkt = s.nextPkt ∧ (State.tick s dt).free = s.free ∧ (State.tick s dt).tm = s.tm ∧
      (State.tick s dt).mode = s.mode ∧ (State.tick s dt).wv = s.wv ∧ (State.tick s dt).pps = s.pps ∧
      (State.tick s dt).hs = s.hs ∧ (State.tick s dt).core = s.core ∧ (State.tick s dt).flt = s.flt ∧
      (State.tick s dt).pwr = s.pwr ∧ (State.tick s dt).cry = s.cry ∧ (State.tick s dt).stg = s.stg ∧
      (State.tick s dt).img = s.img ∧ (State.tick s dt).fuse = s.fuse ∧ (State.tick s dt).pkg = s.pkg ∧
      (State.tick s dt).out = s.out :=
  ⟨rfl, rfl, rfl, rfl, rfl, rfl, rfl, rfl, rfl, rfl, rfl, rfl, rfl, rfl, rfl, rfl, rfl, rfl, rfl, rfl, rfl, rfl, rfl, rfl, rfl⟩

@[simp] theorem State.setPkt_frame (s : State) (p : Pkt) :
    (State.setPkt s p).now = s.now ∧ (State.setPkt s p).clock = s.clock ∧ (State.setPkt s p).pending = s.pending ∧
      (State.setPkt s p).dict = s.dict ∧ (State.setPkt s p).store = s.store ∧ (State.setPkt s p).mgmt = s.mgmt ∧
      (State.setPkt s p).ep = s.ep ∧ (State.setPkt s p).tbl = s.tbl ∧ (State.setPkt s p).tern = s.tern ∧
      (State.setPkt s p).lrn = s.lrn ∧ (State.setPkt s p).nextPkt = s.nextPkt ∧ (State.setPkt s p).free = s.free ∧
      (State.setPkt s p).tm = s.tm ∧ (State.setPkt s p).mode = s.mode ∧ (State.setPkt s p).wv = s.wv ∧
      (State.setPkt s p).pps = s.pps ∧ (State.setPkt s p).hs = s.hs ∧ (State.setPkt s p).core = s.core ∧
      (State.setPkt s p).flt = s.flt ∧ (State.setPkt s p).pwr = s.pwr ∧ (State.setPkt s p).cry = s.cry ∧
      (State.setPkt s p).stg = s.stg ∧ (State.setPkt s p).img = s.img ∧ (State.setPkt s p).fuse = s.fuse ∧
      (State.setPkt s p).pkg = s.pkg ∧ (State.setPkt s p).out = s.out :=
  ⟨rfl, rfl, rfl, rfl, rfl, rfl, rfl, rfl, rfl, rfl, rfl, rfl, rfl, rfl, rfl, rfl, rfl, rfl, rfl, rfl, rfl, rfl, rfl, rfl, rfl, rfl⟩

@[simp] theorem State.requeue_frame (s : State) (p : Pkt) :
    (State.requeue s p).now = s.now ∧ (State.requeue s p).clock = s.clock ∧ (State.requeue s p).pending = s.pending ∧
      (State.requeue s p).dict = s.dict ∧ (State.requeue s p).store = s.store ∧ (State.requeue s p).mgmt = s.mgmt ∧
      (State.requeue s p).ep = s.ep ∧ (State.requeue s p).tbl = s.tbl ∧ (State.requeue s p).tern = s.tern ∧
      (State.requeue s p).lrn = s.lrn ∧ (State.requeue s p).nextPkt = s.nextPkt ∧ (State.requeue s p).free = s.free ∧
      (State.requeue s p).tm = s.tm ∧ (State.requeue s p).mode = s.mode ∧ (State.requeue s p).wv = s.wv ∧
      (State.requeue s p).pps = s.pps ∧ (State.requeue s p).hs = s.hs ∧ (State.requeue s p).core = s.core ∧
      (State.requeue s p).flt = s.flt ∧ (State.requeue s p).pwr = s.pwr ∧ (State.requeue s p).cry = s.cry ∧
      (State.requeue s p).stg = s.stg ∧ (State.requeue s p).img = s.img ∧ (State.requeue s p).fuse = s.fuse ∧
      (State.requeue s p).pkg = s.pkg ∧ (State.requeue s p).out = s.out :=
  ⟨rfl, rfl, rfl, rfl, rfl, rfl, rfl, rfl, rfl, rfl, rfl, rfl, rfl, rfl, rfl, rfl, rfl, rfl, rfl, rfl, rfl, rfl, rfl, rfl, rfl, rfl⟩

@[simp] theorem State.dropPkt_frame (s : State) (id : Nat) :
    (State.dropPkt s id).now = s.now ∧ (State.dropPkt s id).clock = s.clock ∧ (State.dropPkt s id).pending = s.pending ∧
      (State.dropPkt s id).dict = s.dict ∧ (State.dropPkt s id).store = s.store ∧ (State.dropPkt s id).mgmt = s.mgmt ∧
      (State.dropPkt s id).ep = s.ep ∧ (State.dropPkt s id).tbl = s.tbl ∧ (State.dropPkt s id).tern = s.tern ∧
      (State.dropPkt s id).lrn = s.lrn ∧ (State.dropPkt s id).nextPkt = s.nextPkt ∧ (State.dropPkt s id).free = s.free ∧
      (State.dropPkt s id).tm = s.tm ∧ (State.dropPkt s id).mode = s.mode ∧ (State.dropPkt s id).wv = s.wv ∧
      (State.dropPkt s id).pps = s.pps ∧ (State.dropPkt s id).hs = s.hs ∧ (State.dropPkt s id).core = s.core ∧
      (State.dropPkt s id).flt = s.flt ∧ (State.dropPkt s id).pwr = s.pwr ∧ (State.dropPkt s id).cry = s.cry ∧
      (State.dropPkt s id).stg = s.stg ∧ (State.dropPkt s id).img = s.img ∧ (State.dropPkt s id).fuse = s.fuse ∧
      (State.dropPkt s id).pkg = s.pkg ∧ (State.dropPkt s id).out = s.out :=
  ⟨rfl, rfl, rfl, rfl, rfl, rfl, rfl, rfl, rfl, rfl, rfl, rfl, rfl, rfl, rfl, rfl, rfl, rfl, rfl, rfl, rfl, rfl, rfl, rfl, rfl, rfl⟩

@[simp] theorem State.addPkt_frame (s : State) (p : Pkt) :
    (State.addPkt s p).now = s.now ∧ (State.addPkt s p).clock = s.clock ∧ (State.addPkt s p).pending = s.pending ∧
      (State.addPkt s p).dict = s.dict ∧ (State.addPkt s p).store = s.store ∧ (State.addPkt s p).mgmt = s.mgmt ∧
      (State.addPkt s p).ep = s.ep ∧ (State.addPkt s p).tbl = s.tbl ∧ (State.addPkt s p).tern = s.tern ∧
      (State.addPkt s p).lrn = s.lrn ∧ (State.addPkt s p).free = s.free ∧ (State.addPkt s p).tm = s.tm ∧
      (State.addPkt s p).mode = s.mode ∧ (State.addPkt s p).wv = s.wv ∧ (State.addPkt s p).pps = s.pps ∧
      (State.addPkt s p).hs = s.hs ∧ (State.addPkt s p).core = s.core ∧ (State.addPkt s p).flt = s.flt ∧
      (State.addPkt s p).pwr = s.pwr ∧ (State.addPkt s p).cry = s.cry ∧ (State.addPkt s p).stg = s.stg ∧
      (State.addPkt s p).img = s.img ∧ (State.addPkt s p).fuse = s.fuse ∧ (State.addPkt s p).pkg = s.pkg ∧
      (State.addPkt s p).out = s.out :=
  ⟨rfl, rfl, rfl, rfl, rfl, rfl, rfl, rfl, rfl, rfl, rfl, rfl, rfl, rfl, rfl, rfl, rfl, rfl, rfl, rfl, rfl, rfl, rfl, rfl, rfl⟩

@[simp] theorem State.aplic_frame (s : State) (src : Nat) :
    (State.aplic s src).now = s.now ∧ (State.aplic s src).clock = s.clock ∧ (State.aplic s src).pending = s.pending ∧
      (State.aplic s src).dict = s.dict ∧ (State.aplic s src).store = s.store ∧ (State.aplic s src).mgmt = s.mgmt ∧
      (State.aplic s src).ep = s.ep ∧ (State.aplic s src).tbl = s.tbl ∧ (State.aplic s src).tern = s.tern ∧
      (State.aplic s src).lrn = s.lrn ∧ (State.aplic s src).pkts = s.pkts ∧ (State.aplic s src).nextPkt = s.nextPkt ∧
      (State.aplic s src).free = s.free ∧ (State.aplic s src).tm = s.tm ∧ (State.aplic s src).mode = s.mode ∧
      (State.aplic s src).wv = s.wv ∧ (State.aplic s src).pps = s.pps ∧ (State.aplic s src).hs = s.hs ∧
      (State.aplic s src).flt = s.flt ∧ (State.aplic s src).pwr = s.pwr ∧ (State.aplic s src).cry = s.cry ∧
      (State.aplic s src).stg = s.stg ∧ (State.aplic s src).img = s.img ∧ (State.aplic s src).fuse = s.fuse ∧
      (State.aplic s src).pkg = s.pkg ∧ (State.aplic s src).out = s.out :=
  ⟨rfl, rfl, rfl, rfl, rfl, rfl, rfl, rfl, rfl, rfl, rfl, rfl, rfl, rfl, rfl, rfl, rfl, rfl, rfl, rfl, rfl, rfl, rfl, rfl, rfl, rfl⟩

@[simp] theorem State.msi_frame (s : State) (hart level identity : Nat) :
    (State.msi s hart level identity).now = s.now ∧ (State.msi s hart level identity).clock = s.clock ∧
      (State.msi s hart level identity).pending = s.pending ∧ (State.msi s hart level identity).dict = s.dict ∧
      (State.msi s hart level identity).store = s.store ∧ (State.msi s hart level identity).mgmt = s.mgmt ∧
      (State.msi s hart level identity).ep = s.ep ∧ (State.msi s hart level identity).tbl = s.tbl ∧
      (State.msi s hart level identity).tern = s.tern ∧ (State.msi s hart level identity).lrn = s.lrn ∧
      (State.msi s hart level identity).pkts = s.pkts ∧ (State.msi s hart level identity).nextPkt = s.nextPkt ∧
      (State.msi s hart level identity).free = s.free ∧ (State.msi s hart level identity).tm = s.tm ∧
      (State.msi s hart level identity).mode = s.mode ∧ (State.msi s hart level identity).wv = s.wv ∧
      (State.msi s hart level identity).pps = s.pps ∧ (State.msi s hart level identity).hs = s.hs ∧
      (State.msi s hart level identity).flt = s.flt ∧ (State.msi s hart level identity).pwr = s.pwr ∧
      (State.msi s hart level identity).cry = s.cry ∧ (State.msi s hart level identity).stg = s.stg ∧
      (State.msi s hart level identity).img = s.img ∧ (State.msi s hart level identity).fuse = s.fuse ∧
      (State.msi s hart level identity).pkg = s.pkg :=
  ⟨rfl, rfl, rfl, rfl, rfl, rfl, rfl, rfl, rfl, rfl, rfl, rfl, rfl, rfl, rfl, rfl, rfl, rfl, rfl, rfl, rfl, rfl, rfl, rfl, rfl⟩

@[simp] theorem State.setFn_frame (s : State) (f : Nat) (x : Fn) :
    (State.setFn s f x).now = s.now ∧ (State.setFn s f x).clock = s.clock ∧ (State.setFn s f x).pending = s.pending ∧
      (State.setFn s f x).dict = s.dict ∧ (State.setFn s f x).store = s.store ∧ (State.setFn s f x).mgmt = s.mgmt ∧
      (State.setFn s f x).ep = s.ep ∧ (State.setFn s f x).tbl = s.tbl ∧ (State.setFn s f x).tern = s.tern ∧
      (State.setFn s f x).lrn = s.lrn ∧ (State.setFn s f x).pkts = s.pkts ∧ (State.setFn s f x).nextPkt = s.nextPkt ∧
      (State.setFn s f x).free = s.free ∧ (State.setFn s f x).tm = s.tm ∧ (State.setFn s f x).mode = s.mode ∧
      (State.setFn s f x).wv = s.wv ∧ (State.setFn s f x).pps = s.pps ∧ (State.setFn s f x).core = s.core ∧
      (State.setFn s f x).flt = s.flt ∧ (State.setFn s f x).pwr = s.pwr ∧ (State.setFn s f x).cry = s.cry ∧
      (State.setFn s f x).stg = s.stg ∧ (State.setFn s f x).img = s.img ∧ (State.setFn s f x).fuse = s.fuse ∧
      (State.setFn s f x).pkg = s.pkg ∧ (State.setFn s f x).out = s.out :=
  ⟨rfl, rfl, rfl, rfl, rfl, rfl, rfl, rfl, rfl, rfl, rfl, rfl, rfl, rfl, rfl, rfl, rfl, rfl, rfl, rfl, rfl, rfl, rfl, rfl, rfl, rfl⟩

@[simp] theorem State.setMig_frame (s : State) (c status result : Nat) :
    (State.setMig s c status result).now = s.now ∧ (State.setMig s c status result).clock = s.clock ∧
      (State.setMig s c status result).pending = s.pending ∧ (State.setMig s c status result).dict = s.dict ∧
      (State.setMig s c status result).store = s.store ∧ (State.setMig s c status result).mgmt = s.mgmt ∧
      (State.setMig s c status result).ep = s.ep ∧ (State.setMig s c status result).tbl = s.tbl ∧
      (State.setMig s c status result).tern = s.tern ∧ (State.setMig s c status result).lrn = s.lrn ∧
      (State.setMig s c status result).pkts = s.pkts ∧ (State.setMig s c status result).nextPkt = s.nextPkt ∧
      (State.setMig s c status result).free = s.free ∧ (State.setMig s c status result).tm = s.tm ∧
      (State.setMig s c status result).mode = s.mode ∧ (State.setMig s c status result).wv = s.wv ∧
      (State.setMig s c status result).pps = s.pps ∧ (State.setMig s c status result).core = s.core ∧
      (State.setMig s c status result).flt = s.flt ∧ (State.setMig s c status result).pwr = s.pwr ∧
      (State.setMig s c status result).cry = s.cry ∧ (State.setMig s c status result).stg = s.stg ∧
      (State.setMig s c status result).img = s.img ∧ (State.setMig s c status result).fuse = s.fuse ∧
      (State.setMig s c status result).pkg = s.pkg ∧ (State.setMig s c status result).out = s.out :=
  ⟨rfl, rfl, rfl, rfl, rfl, rfl, rfl, rfl, rfl, rfl, rfl, rfl, rfl, rfl, rfl, rfl, rfl, rfl, rfl, rfl, rfl, rfl, rfl, rfl, rfl, rfl⟩

@[simp] theorem State.setQp_frame (s : State) (f q : Nat) (x : Qp) :
    (State.setQp s f q x).now = s.now ∧ (State.setQp s f q x).clock = s.clock ∧
      (State.setQp s f q x).pending = s.pending ∧ (State.setQp s f q x).dict = s.dict ∧
      (State.setQp s f q x).store = s.store ∧ (State.setQp s f q x).mgmt = s.mgmt ∧ (State.setQp s f q x).ep = s.ep ∧
      (State.setQp s f q x).tbl = s.tbl ∧ (State.setQp s f q x).tern = s.tern ∧ (State.setQp s f q x).lrn = s.lrn ∧
      (State.setQp s f q x).pkts = s.pkts ∧ (State.setQp s f q x).nextPkt = s.nextPkt ∧
      (State.setQp s f q x).free = s.free ∧ (State.setQp s f q x).tm = s.tm ∧ (State.setQp s f q x).mode = s.mode ∧
      (State.setQp s f q x).wv = s.wv ∧ (State.setQp s f q x).pps = s.pps ∧ (State.setQp s f q x).core = s.core ∧
      (State.setQp s f q x).flt = s.flt ∧ (State.setQp s f q x).pwr = s.pwr ∧ (State.setQp s f q x).cry = s.cry ∧
      (State.setQp s f q x).stg = s.stg ∧ (State.setQp s f q x).img = s.img ∧ (State.setQp s f q x).fuse = s.fuse ∧
      (State.setQp s f q x).pkg = s.pkg ∧ (State.setQp s f q x).out = s.out :=
  ⟨rfl, rfl, rfl, rfl, rfl, rfl, rfl, rfl, rfl, rfl, rfl, rfl, rfl, rfl, rfl, rfl, rfl, rfl, rfl, rfl, rfl, rfl, rfl, rfl, rfl, rfl⟩

@[simp] theorem State.bumpFn_frame (s : State) (o f : Nat) :
    (State.bumpFn s o f).now = s.now ∧ (State.bumpFn s o f).clock = s.clock ∧ (State.bumpFn s o f).pending = s.pending ∧
      (State.bumpFn s o f).store = s.store ∧ (State.bumpFn s o f).mgmt = s.mgmt ∧ (State.bumpFn s o f).ep = s.ep ∧
      (State.bumpFn s o f).tbl = s.tbl ∧ (State.bumpFn s o f).tern = s.tern ∧ (State.bumpFn s o f).lrn = s.lrn ∧
      (State.bumpFn s o f).pkts = s.pkts ∧ (State.bumpFn s o f).nextPkt = s.nextPkt ∧
      (State.bumpFn s o f).free = s.free ∧ (State.bumpFn s o f).tm = s.tm ∧ (State.bumpFn s o f).mode = s.mode ∧
      (State.bumpFn s o f).wv = s.wv ∧ (State.bumpFn s o f).pps = s.pps ∧ (State.bumpFn s o f).hs = s.hs ∧
      (State.bumpFn s o f).core = s.core ∧ (State.bumpFn s o f).flt = s.flt ∧ (State.bumpFn s o f).pwr = s.pwr ∧
      (State.bumpFn s o f).cry = s.cry ∧ (State.bumpFn s o f).stg = s.stg ∧ (State.bumpFn s o f).img = s.img ∧
      (State.bumpFn s o f).fuse = s.fuse ∧ (State.bumpFn s o f).pkg = s.pkg ∧ (State.bumpFn s o f).out = s.out :=
  ⟨rfl, rfl, rfl, rfl, rfl, rfl, rfl, rfl, rfl, rfl, rfl, rfl, rfl, rfl, rfl, rfl, rfl, rfl, rfl, rfl, rfl, rfl, rfl, rfl, rfl, rfl⟩

@[simp] theorem State.setCens_frame (s : State) (eqid : Nat) (c : CensQ) :
    (State.setCens s eqid c).now = s.now ∧ (State.setCens s eqid c).clock = s.clock ∧
      (State.setCens s eqid c).pending = s.pending ∧ (State.setCens s eqid c).dict = s.dict ∧
      (State.setCens s eqid c).store = s.store ∧ (State.setCens s eqid c).mgmt = s.mgmt ∧
      (State.setCens s eqid c).ep = s.ep ∧ (State.setCens s eqid c).tbl = s.tbl ∧
      (State.setCens s eqid c).tern = s.tern ∧ (State.setCens s eqid c).lrn = s.lrn ∧
      (State.setCens s eqid c).pkts = s.pkts ∧ (State.setCens s eqid c).nextPkt = s.nextPkt ∧
      (State.setCens s eqid c).free = s.free ∧ (State.setCens s eqid c).mode = s.mode ∧
      (State.setCens s eqid c).wv = s.wv ∧ (State.setCens s eqid c).pps = s.pps ∧ (State.setCens s eqid c).hs = s.hs ∧
      (State.setCens s eqid c).core = s.core ∧ (State.setCens s eqid c).flt = s.flt ∧
      (State.setCens s eqid c).pwr = s.pwr ∧ (State.setCens s eqid c).cry = s.cry ∧
      (State.setCens s eqid c).stg = s.stg ∧ (State.setCens s eqid c).img = s.img ∧
      (State.setCens s eqid c).fuse = s.fuse ∧ (State.setCens s eqid c).pkg = s.pkg ∧
      (State.setCens s eqid c).out = s.out :=
  ⟨rfl, rfl, rfl, rfl, rfl, rfl, rfl, rfl, rfl, rfl, rfl, rfl, rfl, rfl, rfl, rfl, rfl, rfl, rfl, rfl, rfl, rfl, rfl, rfl, rfl, rfl⟩

@[simp] theorem State.noteLeave_frame (s : State) (p : Pkt) :
    (State.noteLeave s p).now = s.now ∧ (State.noteLeave s p).clock = s.clock ∧
      (State.noteLeave s p).pending = s.pending ∧ (State.noteLeave s p).dict = s.dict ∧
      (State.noteLeave s p).store = s.store ∧ (State.noteLeave s p).mgmt = s.mgmt ∧ (State.noteLeave s p).ep = s.ep ∧
      (State.noteLeave s p).tbl = s.tbl ∧ (State.noteLeave s p).tern = s.tern ∧ (State.noteLeave s p).lrn = s.lrn ∧
      (State.noteLeave s p).pkts = s.pkts ∧ (State.noteLeave s p).nextPkt = s.nextPkt ∧
      (State.noteLeave s p).free = s.free ∧ (State.noteLeave s p).mode = s.mode ∧ (State.noteLeave s p).wv = s.wv ∧
      (State.noteLeave s p).pps = s.pps ∧ (State.noteLeave s p).hs = s.hs ∧ (State.noteLeave s p).core = s.core ∧
      (State.noteLeave s p).flt = s.flt ∧ (State.noteLeave s p).pwr = s.pwr ∧ (State.noteLeave s p).cry = s.cry ∧
      (State.noteLeave s p).stg = s.stg ∧ (State.noteLeave s p).img = s.img ∧ (State.noteLeave s p).fuse = s.fuse ∧
      (State.noteLeave s p).pkg = s.pkg ∧ (State.noteLeave s p).out = s.out :=
  ⟨rfl, rfl, rfl, rfl, rfl, rfl, rfl, rfl, rfl, rfl, rfl, rfl, rfl, rfl, rfl, rfl, rfl, rfl, rfl, rfl, rfl, rfl, rfl, rfl, rfl, rfl⟩

@[simp] theorem State.setDeficit_frame (s : State) (region node tier : Nat) (d : Int) :
    (State.setDeficit s region node tier d).now = s.now ∧ (State.setDeficit s region node tier d).clock = s.clock ∧
      (State.setDeficit s region node tier d).pending = s.pending ∧
      (State.setDeficit s region node tier d).dict = s.dict ∧ (State.setDeficit s region node tier d).store = s.store ∧
      (State.setDeficit s region node tier d).mgmt = s.mgmt ∧ (State.setDeficit s region node tier d).ep = s.ep ∧
      (State.setDeficit s region node tier d).tbl = s.tbl ∧ (State.setDeficit s region node tier d).tern = s.tern ∧
      (State.setDeficit s region node tier d).lrn = s.lrn ∧ (State.setDeficit s region node tier d).pkts = s.pkts ∧
      (State.setDeficit s region node tier d).nextPkt = s.nextPkt ∧
      (State.setDeficit s region node tier d).free = s.free ∧ (State.setDeficit s region node tier d).mode = s.mode ∧
      (State.setDeficit s region node tier d).wv = s.wv ∧ (State.setDeficit s region node tier d).pps = s.pps ∧
      (State.setDeficit s region node tier d).hs = s.hs ∧ (State.setDeficit s region node tier d).core = s.core ∧
      (State.setDeficit s region node tier d).flt = s.flt ∧ (State.setDeficit s region node tier d).pwr = s.pwr ∧
      (State.setDeficit s region node tier d).cry = s.cry ∧ (State.setDeficit s region node tier d).stg = s.stg ∧
      (State.setDeficit s region node tier d).img = s.img ∧ (State.setDeficit s region node tier d).fuse = s.fuse ∧
      (State.setDeficit s region node tier d).pkg = s.pkg ∧ (State.setDeficit s region node tier d).out = s.out :=
  ⟨rfl, rfl, rfl, rfl, rfl, rfl, rfl, rfl, rfl, rfl, rfl, rfl, rfl, rfl, rfl, rfl, rfl, rfl, rfl, rfl, rfl, rfl, rfl, rfl, rfl, rfl⟩

@[simp] theorem State.setWvLink_frame (s : State) (l : Nat) (x : WvLink) :
    (State.setWvLink s l x).now = s.now ∧ (State.setWvLink s l x).clock = s.clock ∧
      (State.setWvLink s l x).pending = s.pending ∧ (State.setWvLink s l x).dict = s.dict ∧
      (State.setWvLink s l x).store = s.store ∧ (State.setWvLink s l x).mgmt = s.mgmt ∧
      (State.setWvLink s l x).ep = s.ep ∧ (State.setWvLink s l x).tbl = s.tbl ∧ (State.setWvLink s l x).tern = s.tern ∧
      (State.setWvLink s l x).lrn = s.lrn ∧ (State.setWvLink s l x).pkts = s.pkts ∧
      (State.setWvLink s l x).nextPkt = s.nextPkt ∧ (State.setWvLink s l x).free = s.free ∧
      (State.setWvLink s l x).tm = s.tm ∧ (State.setWvLink s l x).mode = s.mode ∧ (State.setWvLink s l x).pps = s.pps ∧
      (State.setWvLink s l x).hs = s.hs ∧ (State.setWvLink s l x).core = s.core ∧ (State.setWvLink s l x).flt = s.flt ∧
      (State.setWvLink s l x).pwr = s.pwr ∧ (State.setWvLink s l x).cry = s.cry ∧ (State.setWvLink s l x).stg = s.stg ∧
      (State.setWvLink s l x).img = s.img ∧ (State.setWvLink s l x).fuse = s.fuse ∧
      (State.setWvLink s l x).pkg = s.pkg ∧ (State.setWvLink s l x).out = s.out :=
  ⟨rfl, rfl, rfl, rfl, rfl, rfl, rfl, rfl, rfl, rfl, rfl, rfl, rfl, rfl, rfl, rfl, rfl, rfl, rfl, rfl, rfl, rfl, rfl, rfl, rfl, rfl⟩

@[simp] theorem State.reap_frame (s : State) :
    (State.reap s).now = s.now ∧ (State.reap s).clock = s.clock ∧ (State.reap s).pending = s.pending ∧
      (State.reap s).dict = s.dict ∧ (State.reap s).store = s.store ∧ (State.reap s).mgmt = s.mgmt ∧
      (State.reap s).ep = s.ep ∧ (State.reap s).tbl = s.tbl ∧ (State.reap s).tern = s.tern ∧
      (State.reap s).lrn = s.lrn ∧ (State.reap s).nextPkt = s.nextPkt ∧ (State.reap s).free = s.free ∧
      (State.reap s).tm = s.tm ∧ (State.reap s).mode = s.mode ∧ (State.reap s).wv = s.wv ∧ (State.reap s).pps = s.pps ∧
      (State.reap s).hs = s.hs ∧ (State.reap s).core = s.core ∧ (State.reap s).flt = s.flt ∧
      (State.reap s).pwr = s.pwr ∧ (State.reap s).cry = s.cry ∧ (State.reap s).stg = s.stg ∧
      (State.reap s).img = s.img ∧ (State.reap s).fuse = s.fuse ∧ (State.reap s).pkg = s.pkg ∧
      (State.reap s).out = s.out :=
  ⟨rfl, rfl, rfl, rfl, rfl, rfl, rfl, rfl, rfl, rfl, rfl, rfl, rfl, rfl, rfl, rfl, rfl, rfl, rfl, rfl, rfl, rfl, rfl, rfl, rfl, rfl⟩

@[simp] theorem State.occupy_frame (s : State) (region pn n : Nat) :
    (State.occupy s region pn n).now = s.now ∧ (State.occupy s region pn n).clock = s.clock ∧
      (State.occupy s region pn n).pending = s.pending ∧ (State.occupy s region pn n).dict = s.dict ∧
      (State.occupy s region pn n).store = s.store ∧ (State.occupy s region pn n).mgmt = s.mgmt ∧
      (State.occupy s region pn n).ep = s.ep ∧ (State.occupy s region pn n).tbl = s.tbl ∧
      (State.occupy s region pn n).tern = s.tern ∧ (State.occupy s region pn n).lrn = s.lrn ∧
      (State.occupy s region pn n).pkts = s.pkts ∧ (State.occupy s region pn n).nextPkt = s.nextPkt ∧
      (State.occupy s region pn n).free = s.free ∧ (State.occupy s region pn n).mode = s.mode ∧
      (State.occupy s region pn n).wv = s.wv ∧ (State.occupy s region pn n).pps = s.pps ∧
      (State.occupy s region pn n).hs = s.hs ∧ (State.occupy s region pn n).core = s.core ∧
      (State.occupy s region pn n).flt = s.flt ∧ (State.occupy s region pn n).pwr = s.pwr ∧
      (State.occupy s region pn n).cry = s.cry ∧ (State.occupy s region pn n).stg = s.stg ∧
      (State.occupy s region pn n).img = s.img ∧ (State.occupy s region pn n).fuse = s.fuse ∧
      (State.occupy s region pn n).pkg = s.pkg ∧ (State.occupy s region pn n).out = s.out :=
  ⟨rfl, rfl, rfl, rfl, rfl, rfl, rfl, rfl, rfl, rfl, rfl, rfl, rfl, rfl, rfl, rfl, rfl, rfl, rfl, rfl, rfl, rfl, rfl, rfl, rfl, rfl⟩

@[simp] theorem State.setCry_frame (s : State) (c : Crypt) :
    (State.setCry s c).now = s.now ∧ (State.setCry s c).clock = s.clock ∧ (State.setCry s c).pending = s.pending ∧
      (State.setCry s c).dict = s.dict ∧ (State.setCry s c).store = s.store ∧ (State.setCry s c).mgmt = s.mgmt ∧
      (State.setCry s c).ep = s.ep ∧ (State.setCry s c).tbl = s.tbl ∧ (State.setCry s c).tern = s.tern ∧
      (State.setCry s c).lrn = s.lrn ∧ (State.setCry s c).pkts = s.pkts ∧ (State.setCry s c).nextPkt = s.nextPkt ∧
      (State.setCry s c).free = s.free ∧ (State.setCry s c).tm = s.tm ∧ (State.setCry s c).mode = s.mode ∧
      (State.setCry s c).wv = s.wv ∧ (State.setCry s c).pps = s.pps ∧ (State.setCry s c).hs = s.hs ∧
      (State.setCry s c).core = s.core ∧ (State.setCry s c).flt = s.flt ∧ (State.setCry s c).pwr = s.pwr ∧
      (State.setCry s c).stg = s.stg ∧ (State.setCry s c).img = s.img ∧ (State.setCry s c).fuse = s.fuse ∧
      (State.setCry s c).pkg = s.pkg ∧ (State.setCry s c).out = s.out :=
  ⟨rfl, rfl, rfl, rfl, rfl, rfl, rfl, rfl, rfl, rfl, rfl, rfl, rfl, rfl, rfl, rfl, rfl, rfl, rfl, rfl, rfl, rfl, rfl, rfl, rfl, rfl⟩

@[simp] theorem State.setNvme_frame (s : State) (f : Nat) (x : Nvme) :
    (State.setNvme s f x).now = s.now ∧ (State.setNvme s f x).clock = s.clock ∧
      (State.setNvme s f x).pending = s.pending ∧ (State.setNvme s f x).dict = s.dict ∧
      (State.setNvme s f x).store = s.store ∧ (State.setNvme s f x).mgmt = s.mgmt ∧ (State.setNvme s f x).ep = s.ep ∧
      (State.setNvme s f x).tbl = s.tbl ∧ (State.setNvme s f x).tern = s.tern ∧ (State.setNvme s f x).lrn = s.lrn ∧
      (State.setNvme s f x).pkts = s.pkts ∧ (State.setNvme s f x).nextPkt = s.nextPkt ∧
      (State.setNvme s f x).free = s.free ∧ (State.setNvme s f x).tm = s.tm ∧ (State.setNvme s f x).mode = s.mode ∧
      (State.setNvme s f x).wv = s.wv ∧ (State.setNvme s f x).pps = s.pps ∧ (State.setNvme s f x).hs = s.hs ∧
      (State.setNvme s f x).core = s.core ∧ (State.setNvme s f x).flt = s.flt ∧ (State.setNvme s f x).pwr = s.pwr ∧
      (State.setNvme s f x).cry = s.cry ∧ (State.setNvme s f x).img = s.img ∧ (State.setNvme s f x).fuse = s.fuse ∧
      (State.setNvme s f x).pkg = s.pkg ∧ (State.setNvme s f x).out = s.out :=
  ⟨rfl, rfl, rfl, rfl, rfl, rfl, rfl, rfl, rfl, rfl, rfl, rfl, rfl, rfl, rfl, rfl, rfl, rfl, rfl, rfl, rfl, rfl, rfl, rfl, rfl, rfl⟩

@[simp] theorem State.setSess_frame (s : State) (y : Session) :
    (State.setSess s y).now = s.now ∧ (State.setSess s y).clock = s.clock ∧ (State.setSess s y).pending = s.pending ∧
      (State.setSess s y).dict = s.dict ∧ (State.setSess s y).store = s.store ∧ (State.setSess s y).ep = s.ep ∧
      (State.setSess s y).tbl = s.tbl ∧ (State.setSess s y).tern = s.tern ∧ (State.setSess s y).lrn = s.lrn ∧
      (State.setSess s y).pkts = s.pkts ∧ (State.setSess s y).nextPkt = s.nextPkt ∧ (State.setSess s y).free = s.free ∧
      (State.setSess s y).tm = s.tm ∧ (State.setSess s y).mode = s.mode ∧ (State.setSess s y).wv = s.wv ∧
      (State.setSess s y).pps = s.pps ∧ (State.setSess s y).hs = s.hs ∧ (State.setSess s y).core = s.core ∧
      (State.setSess s y).flt = s.flt ∧ (State.setSess s y).pwr = s.pwr ∧ (State.setSess s y).cry = s.cry ∧
      (State.setSess s y).stg = s.stg ∧ (State.setSess s y).img = s.img ∧ (State.setSess s y).fuse = s.fuse ∧
      (State.setSess s y).pkg = s.pkg ∧ (State.setSess s y).out = s.out :=
  ⟨rfl, rfl, rfl, rfl, rfl, rfl, rfl, rfl, rfl, rfl, rfl, rfl, rfl, rfl, rfl, rfl, rfl, rfl, rfl, rfl, rfl, rfl, rfl, rfl, rfl, rfl⟩

@[simp] theorem State.clearFilter_frame (s : State) (f : Nat) :
    (State.clearFilter s f).now = s.now ∧ (State.clearFilter s f).clock = s.clock ∧
      (State.clearFilter s f).pending = s.pending ∧ (State.clearFilter s f).dict = s.dict ∧
      (State.clearFilter s f).store = s.store ∧ (State.clearFilter s f).mgmt = s.mgmt ∧
      (State.clearFilter s f).ep = s.ep ∧ (State.clearFilter s f).tbl = s.tbl ∧ (State.clearFilter s f).tern = s.tern ∧
      (State.clearFilter s f).lrn = s.lrn ∧ (State.clearFilter s f).pkts = s.pkts ∧
      (State.clearFilter s f).nextPkt = s.nextPkt ∧ (State.clearFilter s f).free = s.free ∧
      (State.clearFilter s f).tm = s.tm ∧ (State.clearFilter s f).mode = s.mode ∧ (State.clearFilter s f).wv = s.wv ∧
      (State.clearFilter s f).pps = s.pps ∧ (State.clearFilter s f).core = s.core ∧
      (State.clearFilter s f).flt = s.flt ∧ (State.clearFilter s f).pwr = s.pwr ∧ (State.clearFilter s f).cry = s.cry ∧
      (State.clearFilter s f).stg = s.stg ∧ (State.clearFilter s f).img = s.img ∧
      (State.clearFilter s f).fuse = s.fuse ∧ (State.clearFilter s f).pkg = s.pkg ∧
      (State.clearFilter s f).out = s.out :=
  ⟨rfl, rfl, rfl, rfl, rfl, rfl, rfl, rfl, rfl, rfl, rfl, rfl, rfl, rfl, rfl, rfl, rfl, rfl, rfl, rfl, rfl, rfl, rfl, rfl, rfl, rfl⟩

@[simp] theorem State.latchStored_frame (s : State) (o v : Nat) :
    (State.latchStored s o v).now = s.now ∧ (State.latchStored s o v).clock = s.clock ∧
      (State.latchStored s o v).pending = s.pending ∧ (State.latchStored s o v).store = s.store ∧
      (State.latchStored s o v).mgmt = s.mgmt ∧ (State.latchStored s o v).ep = s.ep ∧
      (State.latchStored s o v).tbl = s.tbl ∧ (State.latchStored s o v).tern = s.tern ∧
      (State.latchStored s o v).lrn = s.lrn ∧ (State.latchStored s o v).pkts = s.pkts ∧
      (State.latchStored s o v).nextPkt = s.nextPkt ∧ (State.latchStored s o v).free = s.free ∧
      (State.latchStored s o v).tm = s.tm ∧ (State.latchStored s o v).mode = s.mode ∧
      (State.latchStored s o v).wv = s.wv ∧ (State.latchStored s o v).pps = s.pps ∧
      (State.latchStored s o v).hs = s.hs ∧ (State.latchStored s o v).core = s.core ∧
      (State.latchStored s o v).flt = s.flt ∧ (State.latchStored s o v).pwr = s.pwr ∧
      (State.latchStored s o v).cry = s.cry ∧ (State.latchStored s o v).stg = s.stg ∧
      (State.latchStored s o v).img = s.img ∧ (State.latchStored s o v).fuse = s.fuse ∧
      (State.latchStored s o v).pkg = s.pkg ∧ (State.latchStored s o v).out = s.out :=
  ⟨rfl, rfl, rfl, rfl, rfl, rfl, rfl, rfl, rfl, rfl, rfl, rfl, rfl, rfl, rfl, rfl, rfl, rfl, rfl, rfl, rfl, rfl, rfl, rfl, rfl, rfl⟩

@[simp] theorem State.bumpStored_frame (s : State) (o : Nat) :
    (State.bumpStored s o).now = s.now ∧ (State.bumpStored s o).clock = s.clock ∧
      (State.bumpStored s o).pending = s.pending ∧ (State.bumpStored s o).store = s.store ∧
      (State.bumpStored s o).mgmt = s.mgmt ∧ (State.bumpStored s o).ep = s.ep ∧ (State.bumpStored s o).tbl = s.tbl ∧
      (State.bumpStored s o).tern = s.tern ∧ (State.bumpStored s o).lrn = s.lrn ∧ (State.bumpStored s o).pkts = s.pkts ∧
      (State.bumpStored s o).nextPkt = s.nextPkt ∧ (State.bumpStored s o).free = s.free ∧
      (State.bumpStored s o).tm = s.tm ∧ (State.bumpStored s o).mode = s.mode ∧ (State.bumpStored s o).wv = s.wv ∧
      (State.bumpStored s o).pps = s.pps ∧ (State.bumpStored s o).hs = s.hs ∧ (State.bumpStored s o).core = s.core ∧
      (State.bumpStored s o).flt = s.flt ∧ (State.bumpStored s o).pwr = s.pwr ∧ (State.bumpStored s o).cry = s.cry ∧
      (State.bumpStored s o).stg = s.stg ∧ (State.bumpStored s o).img = s.img ∧ (State.bumpStored s o).fuse = s.fuse ∧
      (State.bumpStored s o).pkg = s.pkg ∧ (State.bumpStored s o).out = s.out :=
  ⟨rfl, rfl, rfl, rfl, rfl, rfl, rfl, rfl, rfl, rfl, rfl, rfl, rfl, rfl, rfl, rfl, rfl, rfl, rfl, rfl, rfl, rfl, rfl, rfl, rfl, rfl⟩

@[simp] theorem State.holdHart_frame (s : State) (h : Nat) (st : Hart) :
    (State.holdHart s h st).now = s.now ∧ (State.holdHart s h st).clock = s.clock ∧
      (State.holdHart s h st).pending = s.pending ∧ (State.holdHart s h st).dict = s.dict ∧
      (State.holdHart s h st).store = s.store ∧ (State.holdHart s h st).mgmt = s.mgmt ∧
      (State.holdHart s h st).ep = s.ep ∧ (State.holdHart s h st).tbl = s.tbl ∧ (State.holdHart s h st).tern = s.tern ∧
      (State.holdHart s h st).lrn = s.lrn ∧ (State.holdHart s h st).pkts = s.pkts ∧
      (State.holdHart s h st).nextPkt = s.nextPkt ∧ (State.holdHart s h st).free = s.free ∧
      (State.holdHart s h st).tm = s.tm ∧ (State.holdHart s h st).mode = s.mode ∧ (State.holdHart s h st).wv = s.wv ∧
      (State.holdHart s h st).pps = s.pps ∧ (State.holdHart s h st).hs = s.hs ∧ (State.holdHart s h st).flt = s.flt ∧
      (State.holdHart s h st).pwr = s.pwr ∧ (State.holdHart s h st).cry = s.cry ∧ (State.holdHart s h st).stg = s.stg ∧
      (State.holdHart s h st).img = s.img ∧ (State.holdHart s h st).fuse = s.fuse ∧
      (State.holdHart s h st).pkg = s.pkg ∧ (State.holdHart s h st).out = s.out :=
  ⟨rfl, rfl, rfl, rfl, rfl, rfl, rfl, rfl, rfl, rfl, rfl, rfl, rfl, rfl, rfl, rfl, rfl, rfl, rfl, rfl, rfl, rfl, rfl, rfl, rfl, rfl⟩

@[simp] theorem State.leaveQueue_frame (s : State) (k : Nat × Nat) :
    (State.leaveQueue s k).now = s.now ∧ (State.leaveQueue s k).clock = s.clock ∧
      (State.leaveQueue s k).pending = s.pending ∧ (State.leaveQueue s k).dict = s.dict ∧
      (State.leaveQueue s k).store = s.store ∧ (State.leaveQueue s k).ep = s.ep ∧ (State.leaveQueue s k).tbl = s.tbl ∧
      (State.leaveQueue s k).tern = s.tern ∧ (State.leaveQueue s k).lrn = s.lrn ∧ (State.leaveQueue s k).pkts = s.pkts ∧
      (State.leaveQueue s k).nextPkt = s.nextPkt ∧ (State.leaveQueue s k).free = s.free ∧
      (State.leaveQueue s k).tm = s.tm ∧ (State.leaveQueue s k).mode = s.mode ∧ (State.leaveQueue s k).wv = s.wv ∧
      (State.leaveQueue s k).pps = s.pps ∧ (State.leaveQueue s k).hs = s.hs ∧ (State.leaveQueue s k).core = s.core ∧
      (State.leaveQueue s k).flt = s.flt ∧ (State.leaveQueue s k).pwr = s.pwr ∧ (State.leaveQueue s k).cry = s.cry ∧
      (State.leaveQueue s k).stg = s.stg ∧ (State.leaveQueue s k).img = s.img ∧ (State.leaveQueue s k).fuse = s.fuse ∧
      (State.leaveQueue s k).pkg = s.pkg ∧ (State.leaveQueue s k).out = s.out :=
  ⟨rfl, rfl, rfl, rfl, rfl, rfl, rfl, rfl, rfl, rfl, rfl, rfl, rfl, rfl, rfl, rfl, rfl, rfl, rfl, rfl, rfl, rfl, rfl, rfl, rfl, rfl⟩

@[simp] theorem State.openSess_frame (s : State) (port n : Nat) (h : Hello) :
    (State.openSess s port n h).now = s.now ∧ (State.openSess s port n h).clock = s.clock ∧
      (State.openSess s port n h).pending = s.pending ∧ (State.openSess s port n h).dict = s.dict ∧
      (State.openSess s port n h).store = s.store ∧ (State.openSess s port n h).ep = s.ep ∧
      (State.openSess s port n h).tbl = s.tbl ∧ (State.openSess s port n h).tern = s.tern ∧
      (State.openSess s port n h).lrn = s.lrn ∧ (State.openSess s port n h).pkts = s.pkts ∧
      (State.openSess s port n h).nextPkt = s.nextPkt ∧ (State.openSess s port n h).free = s.free ∧
      (State.openSess s port n h).tm = s.tm ∧ (State.openSess s port n h).mode = s.mode ∧
      (State.openSess s port n h).wv = s.wv ∧ (State.openSess s port n h).pps = s.pps ∧
      (State.openSess s port n h).hs = s.hs ∧ (State.openSess s port n h).core = s.core ∧
      (State.openSess s port n h).flt = s.flt ∧ (State.openSess s port n h).pwr = s.pwr ∧
      (State.openSess s port n h).cry = s.cry ∧ (State.openSess s port n h).stg = s.stg ∧
      (State.openSess s port n h).img = s.img ∧ (State.openSess s port n h).fuse = s.fuse ∧
      (State.openSess s port n h).pkg = s.pkg ∧ (State.openSess s port n h).out = s.out :=
  ⟨rfl, rfl, rfl, rfl, rfl, rfl, rfl, rfl, rfl, rfl, rfl, rfl, rfl, rfl, rfl, rfl, rfl, rfl, rfl, rfl, rfl, rfl, rfl, rfl, rfl, rfl⟩

@[simp] theorem State.countPairs_frame (s : State) (p : Pkt) (cs : List (Nat × Nat)) :
    (s.countPairs p cs).now = s.now ∧ (s.countPairs p cs).clock = s.clock ∧ (s.countPairs p cs).pending = s.pending ∧
      (s.countPairs p cs).dict = s.dict ∧ (s.countPairs p cs).store = s.store ∧ (s.countPairs p cs).mgmt = s.mgmt ∧
      (s.countPairs p cs).ep = s.ep ∧ (s.countPairs p cs).tbl = s.tbl ∧ (s.countPairs p cs).tern = s.tern ∧
      (s.countPairs p cs).lrn = s.lrn ∧ (s.countPairs p cs).pkts = s.pkts ∧ (s.countPairs p cs).nextPkt = s.nextPkt ∧
      (s.countPairs p cs).free = s.free ∧ (s.countPairs p cs).mode = s.mode ∧ (s.countPairs p cs).wv = s.wv ∧
      (s.countPairs p cs).pps = s.pps ∧ (s.countPairs p cs).hs = s.hs ∧ (s.countPairs p cs).core = s.core ∧
      (s.countPairs p cs).flt = s.flt ∧ (s.countPairs p cs).pwr = s.pwr ∧ (s.countPairs p cs).cry = s.cry ∧
      (s.countPairs p cs).stg = s.stg ∧ (s.countPairs p cs).img = s.img ∧ (s.countPairs p cs).fuse = s.fuse ∧
      (s.countPairs p cs).pkg = s.pkg ∧ (s.countPairs p cs).out = s.out := by
  unfold State.countPairs
  dsimp only
  have h : s.settleCounts = { s with tm := s.settleCounts.tm } := by
    unfold State.settleCounts
    dsimp only
    split <;> rfl
  split <;> rw [h] <;> exact ⟨rfl, rfl, rfl, rfl, rfl, rfl, rfl, rfl, rfl, rfl, rfl, rfl, rfl, rfl, rfl, rfl, rfl, rfl, rfl, rfl, rfl, rfl, rfl, rfl, rfl, rfl⟩

/-! ### Values -/

@[simp] theorem State.tick_now (s : State) (dt : Nat) : (s.tick dt).now = s.nowAfter dt := rfl
theorem State.nowAfter_noSlew (s : State) (dt : Nat) (h : s.wv.slew = none) : s.nowAfter dt = s.now + dt := by
  simp [State.nowAfter, h]
@[simp] theorem State.tick_clock (s : State) (dt : Nat) : (s.tick dt).clock = s.clock + dt := rfl
@[simp] theorem State.tick_cfg (s : State) (dt o e : Nat) : (s.tick dt).cfg o e = s.cfg o e := rfl
@[simp] theorem State.tick_ctr (s : State) (dt o : Nat) : (s.tick dt).ctr o = s.ctr o := rfl
@[simp] theorem State.emit_cfg (s : State) (x : Output) (o e : Nat) : (s.emit x).cfg o e = s.cfg o e := rfl
@[simp] theorem State.emit_ctr (s : State) (x : Output) (o : Nat) : (s.emit x).ctr o = s.ctr o := rfl
@[simp] theorem State.emit_out (s : State) (x : Output) : (s.emit x).out = s.out ++ [(s.clock, x)] := rfl

/-- Keys of one element number are those of different objects. -/
theorem okey_ne {o p : Nat} (e : Nat) (h : o ≠ p) : okey o e ≠ okey p e := by
  unfold okey
  omega

@[simp] theorem State.cfg_setCfg_self (s : State) (o e v : Nat) : (s.setCfg o e v).cfg o e = v := Store.get_put_self _ _ _ _

theorem State.cfg_setCfg_ne (s : State) (o e p f v : Nat) (h : okey p f ≠ okey o e) : (s.setCfg o e v).cfg p f = s.cfg p f :=
  Store.get_put_ne _ _ _ _ _ _ h

@[simp] theorem State.cfg_latch_self (s : State) (o v : Nat) : (s.latch o v).cfg o = v := State.cfg_setCfg_self _ _ _ _

theorem State.cfg_latch_ne (s : State) (o p v : Nat) (h : p ≠ o) : (s.latch o v).cfg p = s.cfg p :=
  State.cfg_setCfg_ne _ _ _ _ _ _ (okey_ne 0 h)

@[simp] theorem State.ctr_setCfg (s : State) (o e v p : Nat) : (s.setCfg o e v).ctr p = s.ctr p := rfl
@[simp] theorem State.ctr_latch (s : State) (o v p : Nat) : (s.latch o v).ctr p = s.ctr p := rfl
@[simp] theorem State.cfg_bumpN (s : State) (o n p e : Nat) : (s.bumpN o n).cfg p e = s.cfg p e := rfl
@[simp] theorem State.cfg_bump (s : State) (o p e : Nat) : (s.bump o).cfg p e = s.cfg p e := rfl

@[simp] theorem State.ctr_bumpN_self (s : State) (o n : Nat) : (s.bumpN o n).ctr o = Nat.min u64Max (s.ctr o + n) :=
  Store.get_put_self _ _ _ _

theorem State.ctr_bumpN_ne (s : State) (o n p : Nat) (h : p ≠ o) : (s.bumpN o n).ctr p = s.ctr p :=
  Store.get_put_ne _ _ _ _ _ _ (okey_ne 0 h)

@[simp] theorem State.ctr_bump_self (s : State) (o : Nat) : (s.bump o).ctr o = Nat.min u64Max (s.ctr o + 1) :=
  State.ctr_bumpN_self _ _ _

theorem State.ctr_bump_ne (s : State) (o p : Nat) (h : p ≠ o) : (s.bump o).ctr p = s.ctr p := State.ctr_bumpN_ne _ _ _ _ h

@[simp] theorem State.fn_setFn_self (s : State) (f : Nat) (x : Fn) : (s.setFn f x).fn f = x := lookupD_assoc_self _ _ _ _

theorem State.fn_setFn_ne (s : State) (f g : Nat) (x : Fn) (h : g ≠ f) : (s.setFn f x).fn g = s.fn g :=
  lookupD_assoc_ne _ _ _ _ _ h

@[simp] theorem State.qp?_setQp_self (s : State) (f q : Nat) (x : Qp) : (s.setQp f q x).qp? f q = some x :=
  lookup?_assoc_self _ _ _

/-! ### Conditions that time alone does not change, and activity -/

@[simp] theorem State.tick_traffic (s : State) (d : Nat) : (s.tick d).traffic = s.traffic := rfl
@[simp] theorem State.tick_alive (s : State) (d : Nat) : (s.tick d).alive = s.alive := rfl
@[simp] theorem State.tick_pkt (s : State) (d i : Nat) : (s.tick d).pkt? i = s.pkt? i := rfl
@[simp] theorem State.tick_qp (s : State) (d i j : Nat) : (s.tick d).qp? i j = s.qp? i j := rfl
@[simp] theorem State.tick_fn (s : State) (d i : Nat) : (s.tick d).fn i = s.fn i := rfl
@[simp] theorem State.tick_linkUp (s : State) (d i : Nat) : (s.tick d).linkUp i = s.linkUp i := rfl
@[simp] theorem State.tick_portUp (s : State) (d i : Nat) : (s.tick d).portUp i = s.portUp i := rfl
@[simp] theorem State.tick_linkState (s : State) (d i : Nat) : (s.tick d).linkState i = s.linkState i := rfl
@[simp] theorem State.tick_wvState (s : State) (d i : Nat) : (s.tick d).wvState i = s.wvState i := rfl
@[simp] theorem State.tick_reached (s : State) (d i : Nat) : (s.tick d).reached i = s.reached i := rfl
@[simp] theorem State.tick_curVer (s : State) (d : Nat) : (s.tick d).curVer = s.curVer := rfl

/-- Activity changes the power step and nothing else but what shows it. -/
@[simp] theorem State.stir_frame (s : State) : s.stir.now = s.now ∧ s.stir.clock = s.clock ∧ s.stir.pending = s.pending ∧
    s.stir.store = s.store ∧ s.stir.mgmt = s.mgmt ∧ s.stir.ep = s.ep ∧ s.stir.tbl = s.tbl ∧ s.stir.tern = s.tern ∧ s.stir.lrn = s.lrn ∧
    s.stir.pkts = s.pkts ∧ s.stir.nextPkt = s.nextPkt ∧ s.stir.free = s.free ∧ s.stir.tm = s.tm ∧
    s.stir.mode.mode = s.mode.mode ∧ s.stir.mode.fenced = s.mode.fenced ∧ s.stir.wv = s.wv ∧ s.stir.pps = s.pps ∧
    s.stir.hs = s.hs ∧ s.stir.core = s.core ∧ s.stir.flt = s.flt ∧ s.stir.cry = s.cry ∧ s.stir.stg = s.stg ∧
    s.stir.img = s.img ∧ s.stir.fuse = s.fuse ∧ s.stir.pkg = s.pkg ∧ s.stir.out = s.out := by
  unfold State.stir
  dsimp only
  split <;> simp [State.setStep]

/-! ### A command's frame -/

/-- A command acts where its condition holds. -/
theorem cmd_then {dt : Nat} {s : State} {cond : State → Bool} {act : State → State} (h : cond (s.tick dt) = true) :
    cmd dt s cond act = .next (act (s.tick dt)) := by
  unfold cmd
  simp only [h, if_true]

/-- Where its condition does not hold, only time passes. -/
theorem cmd_else {dt : Nat} {s : State} {cond : State → Bool} {act : State → State} (h : cond (s.tick dt) = false) :
    cmd dt s cond act = .next (s.tick dt) := by
  unfold cmd
  simp only [h, Bool.false_eq_true, if_false]

/-- A command that is activity acts on the state that activity has stirred. -/
theorem work_then {dt : Nat} {s : State} {cond : State → Bool} {act : State → State} (h : cond (s.tick dt) = true) :
    work dt s cond act = .next (act (s.tick dt).stir) := cmd_then h

/-- A request that its session can send, with none more of its control clock cycle to come and none kept, is taken at once
(R407). -/
theorem ompCmd_then {dt : Nat} {s : State} {want : Bool} {k : Nat × Nat} {m : Bytes} (hw : want = true)
    (hh : (s.tick dt).hears k = true) (hc : s.mgmt.cycle = []) (hm : (s.tick dt).moreRequests = false) :
    ompCmd dt s want k m = .next ((s.tick dt).takeOmp k m) := by
  have hc' : (s.tick dt).mgmt.cycle = [] := hc
  have h2 : ({ s.tick dt with mgmt := { (s.tick dt).mgmt with cycle := [] } } : State) = s.tick dt := by
    rw [← hc']
  simp only [ompCmd, cmd, if_true, State.takeInOrder, hw, hh, hm, hc', Bool.and_self, Bool.false_eq_true, if_false,
    insertRequest, State.takeCycle, List.foldl_cons, List.foldl_nil, h2]

/-- What a request does where nothing can hear it: nothing. -/
theorem ompCmd_else {dt : Nat} {s : State} {want : Bool} {k : Nat × Nat} {m : Bytes}
    (h : (want && (s.tick dt).hears k) = false) (hc : s.mgmt.cycle = []) : ompCmd dt s want k m = .next (s.tick dt) := by
  have hc' : (s.tick dt).mgmt.cycle = [] := hc
  have h2 : ({ s.tick dt with mgmt := { (s.tick dt).mgmt with cycle := [] } } : State) = s.tick dt := by
    rw [← hc']
  simp only [ompCmd, cmd, State.takeInOrder, h, hc', Bool.false_eq_true, if_false, State.takeCycle, List.foldl_nil, h2,
    ite_self]

/-- A fault where no request of its control clock cycle was kept (R434). -/
theorem faultCmd_then {dt : Nat} {s : State} {cond : State → Bool} {act : State → State} (h : cond (s.tick dt) = true)
    (hc : s.mgmt.cycle = []) : faultCmd dt s cond act = .next (act (s.tick dt)) := by
  have hc' : (s.tick dt).mgmt.cycle = [] := hc
  simp only [faultCmd, cmd, if_true, State.thenRequests, hc', List.isEmpty_nil, Bool.true_or, h]

theorem work_else {dt : Nat} {s : State} {cond : State → Bool} {act : State → State} (h : cond (s.tick dt) = false) :
    work dt s cond act = .next (s.tick dt) := cmd_else h

end Sys2Proof.Machine
end

