-- ==== Sys2Proof/WellFormed.lean ====
section
/-!
DEFINITION. Well-formed commands: every operand that names a port, link, queue, function or place lies in the range the manual
gives such names. A meaning does not rest on it: a command that is not well-formed finds nothing to act on (log entry 28).
-/

namespace Sys2Proof

/-- Management or host port. -/
def portOk (p : Nat) : Bool := p < 2
/-- Session of a management port (R389). -/
def sessOk (n : Nat) : Bool := 1 ≤ n && n ≤ 8
/-- Bulk channel (R400). -/
def channelOk (n : Nat) : Bool := 1 ≤ n && n ≤ 4
/-- Network port (R45). -/
def netPortOk (n : Nat) : Bool := n < 16
/-- Weave link (R257). -/
def weaveLinkOk (l : Nat) : Bool := l < 8
/-- Host link: two for each port (R286). -/
def hostLinkOk (l : Nat) : Bool := l < 4
/-- Packet region: PKA, PKB. -/
def packetRegionOk (r : Nat) : Bool := r < 2
/-- Region code of an error (Table 16-5). -/
def blockRegionOk (r : Nat) : Bool := r < 7
/-- Port node of a traffic manager (R215). -/
def portNodeOk (n : Nat) : Bool := n < 27
/-- Egress queue: region and number (R208). -/
def eqidOk (q : Nat) : Bool := q < 131072
/-- Function ID (R321). -/
def fidOk (f : Nat) : Bool := f < 16384
/-- Queue of a function (R325). -/
def queueOk (q : Nat) : Bool := q < 65536
/-- Hart (R36). -/
def hartOk (h : Nat) : Bool := h < 32
/-- Key slot (R360). -/
def keySlotOk (n : Nat) : Bool := n < 8192
/-- Firmware slot (R455). -/
def fwSlotOk (k : Nat) : Bool := k < 4
/-- HBM stack (R39). -/
def stackOk (k : Nat) : Bool := k < 2
/-- Ternary bank (R175). -/
def tcamBankOk (b : Nat) : Bool := b < 8
/-- BAR 0 or 2; 7 stands for configuration space. -/
def barOk (b : Nat) : Bool := b == 0 || b == 2 || b == 7
/-- Bytes of a register access (R294). -/
def sizeOk_ (n : Nat) : Bool := n == 1 || n == 2 || n == 4 || n == 8
/-- A host's request is a read, a write or an AtomicOp (R302). -/
def tlpOk (t : HostTlp) : Bool := t.kind ≤ 2
def u8Ok (v : Nat) : Bool := v < 2 ^ 8
def u32Ok (v : Nat) : Bool := v < 2 ^ 32
def u64Ok (v : Nat) : Bool := v < 2 ^ 64
/-- Reference clock (Table 16-8). -/
def clockOk (w : Nat) : Bool := w < 4
/-- Switched supply output (R495). -/
def supplyOk (w : Nat) : Bool := w < 2
/-- General-purpose pin (Table 17-4). -/
def gpioOk (g : Nat) : Bool := g < 16

/-- Every operand is in range. -/
def Instr.wf (i : Instr) : Bool :=
  match i with
  | .netFrameReceive _ n _ _ _ => netPortOk n
  | .pauseExpiry _ n => netPortOk n
  | .cutThroughFrameBad _ _ _ => true
  | .ingressPass _ _ _ => true
  | .deferredMetering _ _ => true
  | .bridgeCrossing _ region => packetRegionOk region
  | .tmAdmission _ _ _ => true
  | .carveOutFetch _ eqid _ => eqidOk eqid
  | .schedulingDecision _ region pn _ => packetRegionOk region && portNodeOk pn
  | .inlineCipherOp _ _ => true
  | .overdueCheck _ region => packetRegionOk region
  | .maxAgeCheck _ => true
  | .stageAgeCheck _ => true
  | .divertScanStart _ region => packetRegionOk region
  | .divertScanEnd _ _ => true
  | .scrubVisit _ region bank _ _ => packetRegionOk region && tcamBankOk bank
  | .ageScan _ region table _ => packetRegionOk region && u8Ok table
  | .gateEvent _ pn => portNodeOk pn
  | .gateListSwitch _ pn => portNodeOk pn
  | .censusSweepStart _ region => packetRegionOk region
  | .censusSample _ eqid => eqidOk eqid
  | .ipfixExport _ _ => true
  | .ipfixTemplate _ _ => true
  | .netLinkUp _ n _ _ _ => netPortOk n
  | .netLinkDown _ n => netPortOk n
  | .quiesceApply _ => true
  | .read _ port sess _ => portOk port && sessOk sess
  | .write _ port sess _ => portOk port && sessOk sess
  | .stage _ port sess _ => portOk port && sessOk sess
  | .commit _ port sess _ => portOk port && sessOk sess
  | .scheduledCommit _ port sess _ => portOk port && sessOk sess
  | .epochSwitch _ => true
  | .queuedCommitRun _ => true
  | .epochRetire _ => true
  | .epochDiscard _ port sess _ => portOk port && sessOk sess
  | .epochAtArm _ port sess _ => portOk port && sessOk sess
  | .epochAtCancel _ port sess _ => portOk port && sessOk sess
  | .epochAtResync _ port sess _ => portOk port && sessOk sess
  | .prepare _ l _ => weaveLinkOk l
  | .prepareResend _ => true
  | .ack _ l _ => weaveLinkOk l
  | .nak _ l _ => weaveLinkOk l
  | .ackDeadline _ => true
  | .cancel _ l _ => weaveLinkOk l
  | .scheduledSwitch _ => true
  | .outcomeFlood _ => true
  | .outcome _ l _ => weaveLinkOk l
  | .insert _ f q _ _ => fidOk f && queueOk q
  | .delete _ f q _ _ => fidOk f && queueOk q
  | .modify _ f q _ _ => fidOk f && queueOk q
  | .clearHit _ f q _ _ => fidOk f && queueOk q
  | .shuttleBridge _ region => packetRegionOk region
  | .shuttle _ l _ => weaveLinkOk l
  | .helloSend _ l => weaveLinkOk l
  | .hello _ l _ => weaveLinkOk l
  | .helloTimeout _ l => weaveLinkOk l
  | .weaveLaneLock _ l => weaveLinkOk l
  | .weaveLinkLoss _ l => weaveLinkOk l
  | .weaveFrameReceive _ l _ _ => weaveLinkOk l
  | .linkState _ l _ => weaveLinkOk l
  | .linkStateOriginate _ => true
  | .lsdbExpiry _ => true
  | .routeRecompute _ => true
  | .calendarWindow _ l => weaveLinkOk l
  | .calendarSwitch _ => true
  | .timeSet _ port sess _ => portOk port && sessOk sess
  | .ppsInEdge _ => true
  | .ppsMissing _ => true
  | .perstAssert _ port => portOk port
  | .perstDeassert _ port => portOk port
  | .hotReset _ l => hostLinkOk l
  | .hostLinkDown _ l => hostLinkOk l
  | .hostLinkUp _ l _ _ _ => hostLinkOk l
  | .mmioWrite _ f bar _ size val tlp => fidOk f && barOk bar && sizeOk_ size && u64Ok val && tlpOk tlp
  | .submissionDoorbell _ f q v => fidOk f && queueOk q && u32Ok v
  | .completionDoorbell _ f q v => fidOk f && queueOk q && u32Ok v
  | .completionArrival _ l _ _ _ _ => hostLinkOk l
  | .completionTimeout _ l _ => hostLinkOk l
  | .malformedTlp _ l => hostLinkOk l
  | .peerTlp _ port tlp _ _ _ _ _ _ => portOk port && tlpOk tlp
  | .atsInvalidation _ f _ _ _ _ => fidOk f
  | .atsInvalidationDone _ f _ => fidOk f
  | .pageRequestResponse _ f _ _ => fidOk f
  | .priTimeout _ f _ => fidOk f
  | .l1Entry _ l _ _ => hostLinkOk l
  | .l0pWidthChange _ l _ _ _ => hostLinkOk l
  | .portReleaseResume _ _ p => portOk p
  | .portReleaseReset _ _ p => portOk p
  | .bmeClear _ f => fidOk f
  | .bmeSet _ f => fidOk f
  | .flr _ f => fidOk f
  | .dStateChange _ f _ => fidOk f
  | .msixUnmask _ f _ => fidOk f
  | .qpcCreate _ f => fidOk f
  | .qpcModify _ f => fidOk f
  | .qpcQuery _ f => fidOk f
  | .fnSelfReset _ f v => fidOk f && u64Ok v
  | .txPacketFetch _ f q _ => fidOk f && queueOk q
  | .txDataComplete _ f q => fidOk f && queueOk q
  | .rxPacketDelivery _ f _ => fidOk f
  | .moderationTimer _ f q => fidOk f && queueOk q
  | .squashReset _ port sess _ => portOk port && sessOk sess
  | .drainReset _ port sess _ => portOk port && sessOk sess
  | .drainLimit _ f => fidOk f
  | .functionResetComplete _ f => fidOk f
  | .startLog _ c => fidOk c
  | .sync _ c => fidOk c
  | .stopLog _ c => fidOk c
  | .hold _ c => fidOk c
  | .holdComplete _ f => fidOk f
  | .save _ c => fidOk c
  | .restore _ c _ _ _ => fidOk c
  | .release _ c => fidOk c
  | .coreIntEntryWrite _ f _ v => fidOk f && u64Ok v
  | .keyKek _ port sess _ => portOk port && sessOk sess
  | .keySlotWrite _ port sess _ => portOk port && sessOk sess
  | .keySlotErase _ port sess _ => portOk port && sessOk sess
  | .keyZeroise _ n => keySlotOk n
  | .saCheckpoint _ => true
  | .encrypt _ f q _ _ _ => fidOk f && queueOk q
  | .decrypt _ f q _ _ _ => fidOk f && queueOk q
  | .mac _ f q _ _ _ => fidOk f && queueOk q
  | .verify _ f q _ _ _ => fidOk f && queueOk q
  | .tlsSeal _ f q _ _ _ => fidOk f && queueOk q
  | .tlsOpen _ f q _ _ _ => fidOk f && queueOk q
  | .xtsEnc _ f q _ _ _ => fidOk f && queueOk q
  | .xtsDec _ f q _ _ _ => fidOk f && queueOk q
  | .saWrite _ f q _ _ _ => fidOk f && queueOk q
  | .saRead _ f q _ _ _ => fidOk f && queueOk q
  | .patternScan _ f q _ _ => fidOk f && queueOk q
  | .storageCommandArrival _ f q _ _ _ => fidOk f && queueOk q
  | .post _ f q => fidOk f && queueOk q
  | .xfer _ f q _ _ => fidOk f && queueOk q
  | .respond _ f q => fidOk f && queueOk q
  | .controllerEnable _ f _ => fidOk f
  | .controllerReset _ f _ => fidOk f
  | .controllerShutdown _ f _ => fidOk f
  | .createIoSubmissionQueue _ f _ => fidOk f
  | .deleteIoSubmissionQueue _ f _ => fidOk f
  | .createIoCompletionQueue _ f _ => fidOk f
  | .deleteIoCompletionQueue _ f _ => fidOk f
  | .bulkOpen _ port sess _ => portOk port && sessOk sess
  | .bulkData _ port sess _ => portOk port && sessOk sess
  | .bulkCloseFinish _ port sess _ => portOk port && sessOk sess
  | .bulkCloseAbort _ port sess _ => portOk port && sessOk sess
  | .bulkIdleTimeout _ port sess n => portOk port && sessOk sess && channelOk n
  | .subscribe _ port sess _ => portOk port && sessOk sess
  | .unknownOperation _ port sess _ => portOk port && sessOk sess
  | .semAcquire _ port sess _ => portOk port && sessOk sess
  | .semRelease _ port sess _ => portOk port && sessOk sess
  | .mgmtSemHeartbeat _ port sess _ => portOk port && sessOk sess
  | .leaseLapse _ => true
  | .clientHello _ port _ => portOk port
  | .sessionClose _ port sess => portOk port && sessOk sess
  | .sessionIdleTimeout _ port sess => portOk port && sessOk sess
  | .mgmtFrameReceive _ port _ => portOk port
  | .mbxH2dLen _ v => u64Ok v
  | .mbxD2hAck _ v => u64Ok v
  | .csmClusterClock _ _ => true
  | .csmTimeState _ _ => true
  | .csmMode _ _ => true
  | .errLogClear _ port sess _ => portOk port && sessOk sess
  | .coreRunRelease _ port sess _ => portOk port && sessOk sess
  | .coreRunReset _ port sess _ => portOk port && sessOk sess
  | .coreMemoryAccess _ h _ _ _ => hartOk h
  | .coldStart _ straps _ _ _ _ => straps.length == 8
  | .resetNAssert _ => true
  | .vigilFirmwareStart _ _ _ _ _ => true
  | .hbmTrainingComplete _ _ _ => true
  | .serviceImageRunning _ _ => true
  | .epochOneCommit _ => true
  | .rescueFrameReceive _ _ _ _ => true
  | .drainRequest _ port sess _ => portOk port && sessOk sess
  | .vigilRequest _ port sess _ => portOk port && sessOk sess
  | .hibernateRequest _ port sess _ => portOk port && sessOk sess
  | .offWakeRequest _ port sess _ => portOk port && sessOk sess
  | .serviceRequest _ port sess _ => portOk port && sessOk sess
  | .drainDone _ => true
  | .modeDrainLimit _ => true
  | .dormantEntryComplete _ => true
  | .dormantExitComplete _ => true
  | .idleEntry _ _ => true
  | .quietEntry _ => true
  | .lpiWake _ n => netPortOk n
  | .wakeTimer _ => true
  | .gpioWakeEdge _ g => gpioOk g
  | .sensorRead _ readings => readings.length == 48
  | .supplyMeasure _ _ _ _ => true
  | .thermtrip _ => true
  | .undervoltage _ => true
  | .overvoltage _ => true
  | .fwWriteComplete _ k => fwSlotOk k
  | .handoverNow _ port sess _ => portOk port && sessOk sess
  | .handoverAt _ port sess _ => portOk port && sessOk sess
  | .restartAt _ port sess _ => portOk port && sessOk sess
  | .imgActivateCancel _ port sess _ => portOk port && sessOk sess
  | .handoverPrepared _ _ => true
  | .handoverStart _ => true
  | .handoverComplete _ => true
  | .handoverDeferralExpiry _ => true
  | .restartInstant _ => true
  | .imgSvnRaise _ port sess _ => portOk port && sessOk sess
  | .imgSignerRevoke _ port sess _ => portOk port && sessOk sess
  | .settingsStoreWrite _ => true
  | .imageStoreWrite _ => true
  | .eccError _ _ region block inst _ _ => blockRegionOk region && u8Ok block && u8Ok inst
  | .parityError _ region block inst _ _ _ => blockRegionOk region && u8Ok block && u8Ok inst
  | .blockStall _ region block inst _ _ => blockRegionOk region && u8Ok block && u8Ok inst
  | .holdOutRetest _ _ _ => true
  | .clockLoss _ which => clockOk which
  | .watchdogMiss _ _ => true
  | .lockstepMismatch _ _ => true
  | .regionRetest _ => true
  | .fltRegionTest _ port sess _ => portOk port && sessOk sess
  | .regionTestComplete _ _ => true
  | .cellLogWindow _ _ _ => true
  | .diagInjectCorrectable _ port sess _ => portOk port && sessOk sess
  | .diagInjectUncorrectable _ port sess _ => portOk port && sessOk sess
  | .diagInjectBlockReset _ port sess _ => portOk port && sessOk sess
  | .diagInjectRegionFault _ port sess _ => portOk port && sessOk sess
  | .jtagInstruction _ _ => true
  | .testLogicReset _ => true
  | .outputOverload _ which => supplyOk which
  | .outputRetry _ which => supplyOk which
  | .hbmTrainingLoss _ k => stackOk k
  | .internalRailFault _ r _ => packetRegionOk r
  | .takeoverComplete _ => true
  | .standbyReloadComplete _ => true
  | .hostL2Entry _ l => hostLinkOk l
  | .vfEnable _ f _ _ => fidOk f
  | .hartTimerEvent _ h => hartOk h

end Sys2Proof
end

