-- ==== Sys2Proof/Tests/Slice0.lean ====
section
/-!
SUPPORT. Small tests: ill-formed commands, decoding, and for every statement a state and operands that meet its
hypotheses.
-/

namespace Sys2Proof.Tests

-- one theorem after the other: each ends in a computation of the kernel, and the threads that would wait for it take memory
set_option Elab.async false

open Sys2Proof Sys2Proof.Machine

/-! ### States the tests start from -/

/-- A running device in SERVICE with one epoch and application memory set up. -/
def up : State :=
  { State.reset with
    pwr := { Power.reset with
      rails := .run, resetN := true, vin := true, hbmDone := true, svcRunning := true, stackOk := [true, true] }
    mode := { mode := .service, step := 0, fenced := none }
    core := { Cores.reset with memUp := true }
    hs := { HostSide.reset with perst := [] }
    ep := { Epochs.reset with current := 1, openNum := 2, live := [{ Ver.empty with num := 1 }] } }

/-- The state with these values of objects: (object, element, value). -/
def put (s : State) (l : List (Nat × Nat × Nat)) : State := l.foldl (fun t x => t.setCfg x.1 x.2.1 x.2.2) s

/-- The outcome is a next state. -/
def ran (o : Host.Outcome State Fault Refusal) : Bool :=
  match o with
  | .next _ => true
  | _ => false

/-- What a test asks of the next state. -/
def nextIs (o : Host.Outcome State Fault Refusal) (f : State → Bool) : Bool :=
  match o with
  | .next t => f t
  | _ => false

/-- A 60 B frame. -/
def frame : Bytes := List.replicate 12 1 ++ [8, 0] ++ List.replicate 46 0

/-- Network port 0 and Weave link 0 up as well. -/
def netUp : State := put up [(Obj.NET_LINK_STATE, 0, 4), (Obj.WV_LINK_STATE, 0, 2)]

/-- A packet from network port 0. -/
def pkt : Pkt :=
  { id := 0, kind := .data, loc := .rxFifo, bytes := frame, lenKnown := true, rxEnd := 0, srcKind := 0, srcId := 0,
    rxTime := 0, wvSrc := 0, wvHops := 0, md := 0, hv := 0, epoch := some 1, stampAt := 0, region := 0, pipe := 0,
    eqid := 0, enqAt := 0, readyAt := 0, after := .egress, scanFrom := 0, dest := 0, portNode := 0, gateLen := 0 }

/-- The state with one packet. -/
def one (s : State) (p : Pkt) : State := { s with pkts := [p], nextPkt := 1 }

/-- Host function FID 0 on HA0, with bus mastering. -/
def hostUp : State := (put netUp [(Obj.HST_LINK_STATE, 0, 2)]).setFn 0 { Fn.fresh with bme := true }

/-- A pair of a kind with rings of 32 entries and one descriptor. -/
def qp (kind : Nat) : Qp := { Qp.fresh (kind + 5 * 2 ^ 4 + 5 * 2 ^ 9) 0x1000 0x2000 0 0 with prod := 1 }

/-- An image with a pool table 1 of EPOCH entries and an ageing pool table 2 of LIVE ones, 16-bit keys, and a ternary table 3
in bank 0. -/
def img : PipeImage :=
  { version := 1, nodes := [], trans := [], assist := [], programs := [], profiles := [], slots := [], actions := [], banks := [],
    tables := [1 + 2 ^ 8 + 2 ^ 12 + 16 * 2 ^ 16 + 4096 * 2 ^ 64, 2 + 2 ^ 8 + 2 ^ 14 + 16 * 2 ^ 16 + 4096 * 2 ^ 64],
    trieLen := [], learnCtx := [], tern := [3 + 2 ^ 16], emits := [], carry := [] }

/-- The state under an epoch with that image. -/
def withImg (s : State) : State :=
  { s with ep := { s.ep with live := [{ Ver.empty with num := 1, pipe := some img }] } }

/-- Weave link 0 locked and up as well, and device 5 in the link-state database. -/
def wvUp : State :=
  let w := { netUp.wv with link := [(0, { WvLink.fresh with locked := true })], lsdb := [⟨5, 77, [], 0⟩] }
  { netUp with wv := { w with lsDirty := true, routeDirty := true } }

/-- A frame of the device with address 5 with this WH_TYPE, class and PDU, sent at the state's time. -/
def wvFrame (typ cls : Nat) (body : Bytes) : Bytes :=
  let s := put wvUp [(Obj.WV_ADDR_EFFECTIVE, 0, 5)]
  s.stampFrame 0 (s.formFrame typ cls 0 0 0 body)

/-- A commit of nothing staged, as version n. -/
def sealed (n : Nat) : Sealed := { ver := { Ver.empty with num := n }, stage := Staging.none_, sess := (0, 1) }

/-! ### Requests -/

/-- A session with no history. -/
def sess : Session :=
  { port := 0, num := 1, last := 0, mask := 0, evSeq := 0, kept := [], stage := Staging.none_, chans := [], peer := 0,
    local_ := 0, cert := 0 }

/-- Session 1 of MA, holding the semaphore. -/
def mg (s : State) : State := { s with mgmt := { s.mgmt with sessions := [sess], holder := some (0, 1) } }

/-- A request record: operation, flags from bit 41, count, OH_AUX, body. -/
def req (op flags count aux : Nat) (body : Bytes) : Bytes :=
  toBe 8 (1 * 2 ^ 60 + op * 2 ^ 48 + flags * 2 ^ 41 + 7) ++ toBe 8 (body.length * 2 ^ 48 + count * 2 ^ 40 + aux) ++ body

/-- The row of an object. -/
def row (o : Nat) : ObjRow := (objRow? o).getD (subZero o)

/-- A request of one item for an object or an element of it, with its value. -/
def ask (op o : Nat) (el : Option Nat) (v : Nat) : Bytes :=
  let t := typeOf (row o) el.isSome
  let n := if op == 1 then 0 else t.2
  req op 0 1 0 (toBe 3 o ++ toBe 1 (if el.isSome then 1 else 0) ++ toBe 4 (el.getD 0) ++ toBe 2 n ++ toBe 1 t.1 ++ [0]
    ++ padTo (pad4 n) (toBe n v))

/-- The item of such a request. -/
def itm (m : Bytes) : Item := ((ompItems m).getD []).headD ⟨0, 0, 0, 0, 0, 0, []⟩

/-- A WRITE of a value, or of an element, 1 ns from now passes every check. -/
def takes (s : State) (o : Nat) (el : Option Nat) (v : Nat) : Bool :=
  let i := itm (ask 2 o el v)
  (s.tick 1).accepts (0, 1) (ask 2 o el v) (row o) i && i.obj == o && i.elem == el && i.value == v

/-! ### Witnesses of the statements: core, packets -/

theorem wit_StepRunsTheFrontCommand : State.reset.pending = [] := rfl

theorem wit_CountersSaturate :
    (State.reset.bumpN 9 (2 ^ 64 - 1)).ctr 9 + 0 ≤ 2 ^ 64 - 1 ∧ 2 ^ 64 - 1 < (State.reset.bumpN 9 (2 ^ 64 - 1)).ctr 9 + 1 ∧
      8 ≠ 9 := by
  decide +kernel

theorem wit_EveryStepAnswers :
    ({ up with pending := [.maxAgeCheck 1] } : State).pending = .maxAgeCheck 1 :: [] := rfl

theorem wit_EveryStepKeepsAKey :
    up.fuse.keyLeft ∧ step up = .next up := ⟨(by decide : up.fuse.revoked < 15), rfl⟩

theorem wit_OnlyRequestsBurnFuses :
    (∀ dt port sess m, ¬ Requests dt port sess m (.maxAgeCheck 1)) ∧ (∀ dt, Instr.maxAgeCheck 1 ≠ .handoverComplete dt) ∧
      (∀ dt, Instr.maxAgeCheck 1 ≠ .takeoverComplete dt) ∧ (isFault (.clockLoss 1 0) = true ∧ up.mgmt.cycle = []) ∧
      ran (exec (.maxAgeCheck 1) up) = true :=
  ⟨by simp [Requests, Writes], by simp, by simp, ⟨rfl, rfl⟩, by decide +kernel⟩

theorem wit_MemoryReadsWhatWasWritten :
    Memory.wf [(3, 7), (4, 1)] = true ∧ 0 < [(0 : Byte), 5].length ∧ (3 < 4 ∨ 4 + 2 ≤ 3) := by
  decide +kernel

/-- What a parser reads: a frame of 60 B. -/
def env : ParseEnv := { img := img, bytes := frame, len := some 60 }

/-- Reads that end at byte 383 and 384, and at the last byte of the packet and the byte after it. -/
theorem wit_PacketReadsAreChecked :
    384 ≤ 384 + 1 - 1 ∧ env.len = some 60 ∧ 60 ≤ 60 + 1 - 1 ∧ 60 + 1 - 1 < 384 ∧ 59 + 1 - 1 < 60 ∧
      ({ env with len := none } : ParseEnv).len = none ∧ 383 + 1 - 1 < 384 ∧
      (fld (2 ^ 216 + 60 * 2 ^ 48) (192 + 24) 5 ≠ 0 ∧
        readErr env (0 + fld (2 ^ 216 + 60 * 2 ^ 48) 48 8) 1 = some errTruncated) ∧
      (fld (2 ^ 4 + 59 * 2 ^ 16) (192 + 24) 5 = 0 ∧ fld (2 ^ 4 + 59 * 2 ^ 16) 4 2 = 1 ∧
        readErr env (0 + fld (2 ^ 4 + 59 * 2 ^ 16) 16 8) 2 = some errTruncated) ∧
      (nodeSlots ((2 ^ 15 + 60) * 2 ^ 64) = 32828 :: [0, 0, 0] ∧ exEn 32828 = true ∧
        readErr env (0 + fld 32828 0 8) (exLen 32828) = some errTruncated) ∧
      (∀ x ∈ nodeSlots ((2 ^ 15 + 59) * 2 ^ 64), exEn x = true → readErr env (0 + fld x 0 8) (exLen x) = none) := by
  decide +kernel

theorem wit_PolicersDecideTheColour :
    (polAware (2 ^ 65) = true ∧ 2 ≤ 2) ∧ polAware 0 = false ∧
      (let b : Bucket := { c := 5, p := 7, at_ := 0 }
       b.p < 8 ∧ ((7 : Int) ≤ b.p ∧ b.c < 6) ∧ ((5 : Int) ≤ b.p ∧ (5 : Int) ≤ b.c) ∧ polAware (2 ^ 65) = true ∧ 1 = 1) := by
  decide +kernel

theorem wit_LearnCandidatesMeetTheFilter :
    ({ up with lrn := { up.lrn with filter := [(0, 3, 9, 1)] } } : State).suppressed 0 3 9 = true ∧
      ({ up with lrn := { up.lrn with filter := [(0, 3, 9, 0)] } } : State).suppressed 0 3 9 = false ∧
      0 < up.cfg Obj.LRN_SUPPRESS_MS := by
  decide +kernel

/-- Frames of 59, 60, 9,600 and 9,601 B before the FCS, and a MAC control frame. -/
theorem wit_NetworkFrameIsTakenOrCounted :
    netUp.traffic = true ∧ 0 < 16 ∧ netUp.portUp 0 = true ∧ 59 + 4 < 64 ∧ 64 ≤ frame.length + 4 ∧
      frame.length ≤ (netUp.after 1).cfg Obj.NET_RX_MAX_FRAME ∧
      (netUp.after 1).cfg Obj.NET_RX_MAX_FRAME < (List.replicate 9601 (0 : Byte)).length ∧
      beNat (slice frame 12 2) ≠ 0x8808 ∧ netUp.mode.mode ≠ .drain ∧
      beNat (slice (List.replicate 12 1 ++ [0x88, 0x08] ++ List.replicate 46 0) 12 2) = 0x8808 := by
  decide +kernel

theorem wit_NetworkLinkEvents :
    (let s := put up [(Obj.NET_PORT_ENABLE, 0, 1)]
     s.netMayRise 0 = true ∧ s.cfg Obj.NET_LINK_STATE ≠ 4 ∧ s.netMode 0 ∈ [s.netMode 0] ∧ s.netMode 0 ∉ []) ∧
    (netUp.alive = true ∧ netUp.cfg Obj.NET_LINK_STATE = 4) ∧
    (let s := { netUp with tm := { netUp.tm with pause := [(8, 1)] } }
     (∃ x ∈ s.tm.pause, x.1 / 16 = 0 ∧ x.2 ≤ s.clock + 1) ∧ (s.gateOf 0).enable = false) ∧
    (let s := one netUp { pkt with lenKnown := false, rxEnd := 1 }
     s.traffic = true ∧ (s.tick 1).receiving 0 = true ∧ s.pkt? 0 = some { pkt with lenKnown := false, rxEnd := 1 }) := by
  decide +kernel

theorem wit_IngressPassStampsThePacket :
    (one netUp pkt).traffic = true ∧ (one netUp pkt).pkt? 0 = some pkt ∧ ((one netUp pkt).tick 1).mayEnter 0 = true ∧
      pkt.loc ≠ .recirc ∧ ((one netUp { pkt with loc := .recirc }).tick 15).mayEnter 0 = true ∧
      (one netUp { pkt with loc := .meter }).pkt? 0 = some { pkt with loc := .meter } ∧
      ((one netUp { pkt with loc := .meter }).tick 1).mayMeter 0 = true := by
  decide +kernel

/-! ### Witnesses: queues, decisions, ages, scans, tables -/

/-- A packet to a host function whose link is down; one that fits; one whose queue has no port; both bridge and carve-out. -/
theorem wit_QueuesTakeMoveAndFetchPackets :
    netUp.traffic = true ∧
    (let p := { pkt with loc := .atTm, md := mdSet 0 320 3 3 }
     let netUp := { netUp with ep := { netUp.ep with live :=
       [{ Ver.empty with num := 1, objs := [(okey Obj.TM_TOPOLOGY (leafNode 0), 1 + 24 * 2 ^ 4)] }] } }
     (one netUp p).pkt? 0 = some p ∧ ((one netUp p).tick 1).mayAdmit 0 = true ∧ p.eqid / 65536 = p.region ∧
       ((one netUp p).after 1).hostRefuses p = some Obj.HST_DROP_LINK_DOWN) ∧
    (let p := { pkt with loc := .atTm }
     (one netUp p).pkt? 0 = some p ∧ ((one netUp p).tick 1).mayAdmit 0 = true ∧
       ((one netUp p).after 1).hostRefuses p = none ∧
       ((one netUp p).after 1).admitFails p (((one netUp p).after 1).testCells p) false = none ∧
       ((one netUp p).after 1).goesFront p (((one netUp p).after 1).testCells p) = true) ∧
    (let p := { pkt with loc := .atTm, eqid := 1000 }
     ((one netUp p).tick 1).mayAdmit 0 = true ∧ ((one netUp p).after 1).hostRefuses p = none ∧
       ((one netUp p).after 1).admitFails p (((one netUp p).after 1).testCells p) false = some Obj.TM_DROP_UNATTACHED) ∧
    (let p := { pkt with loc := .bridge }
     netUp.mode.fenced = none ∧
       ((one netUp p).pkts.find? fun x => x.loc == .bridge && x.region == 0) = some p) ∧
    (let p := { pkt with loc := .carve }
     (one netUp p).queue 0 = p :: [] ∧ ((one netUp p).tick 1).mayFetch 0 = true) ∧
    (let p := { pkt with loc := .spill }
     (one netUp p).queue 0 = p :: [] ∧ ((one netUp p).tick 1).mayFetch 0 = true ∧ p.loc ≠ .carve) ∧
    (netUp.queuePort 0 = some 0 ∧ (netUp.gateOf 0).enable = false) := by
  decide +kernel

/-- A control frame on the Weave link, a packet of queue 0, an empty port, and a packet for a cipher engine. -/
theorem wit_DecisionsSendPackets :
    netUp.traffic = true ∧ netUp.mode.fenced ≠ some 0 ∧
    (let s := { netUp with wv := { netUp.wv with ctlQ := [⟨0, none, frame⟩] } }
     ((((s.tick 1).reap).sendAgain).retest 0 16).portReady 0 16 = true ∧
       (takeFirst 0 ((((s.tick 1).reap).sendAgain).retest 0 16).wv.ctlQ).isSome = true) ∧
    ((((((one netUp { pkt with loc := .front }).tick 13).reap.sendAgain).retest 0 0).decide_ 0 0).1.map fun x => x.1) =
      some { pkt with loc := .front } ∧
    (((netUp.tick 1).reap.sendAgain).retest 0 0).decide_ 0 0 = (none, ((netUp.tick 1).reap.sendAgain).retest 0 0) ∧
    (one netUp { pkt with loc := .cipher }).pkt? 0 = some { pkt with loc := .cipher } ∧
    ((one netUp { pkt with loc := .cipher }).tick 1).cipherTurn { pkt with loc := .cipher } = true ∧
    ((one netUp { pkt with loc := .ciphered }).tick 1).cipherOut { pkt with loc := .ciphered } = true := by
  decide +kernel

/-- A queue that waits one nanosecond too long; a packet one nanosecond too old in each place. -/
theorem wit_WaitingAndAgeChecks :
    (let s := { one netUp { pkt with loc := .front } with clock := 10000000000, tm := { netUp.tm with wait := [(0, 0)] } }
     s.traffic = true ∧ ((List.range 27).foldl (fun a pn => State.refreshWait a 0 pn) (s.tick 1)).tm.wait = [(0, 0)] ∧
       lookup? s.tm.promo 0 = none ∧
       s.cfg Obj.TM_OVERDUE_US (leafNode (0 % 65536)) * 1000 < s.clock + 1 - 0) ∧
    (∀ l ∈ [Loc.recirc, .divert, .lane 0 1, .bridge, .meter, .atTm, .crossed, .front, .spill, .carve],
      let s := one { netUp with clock := netUp.cfg Obj.TM_MAX_AGE * 1000000 } { pkt with loc := l }
      (s.pkts.filter fun x => (s.tick 1).tooOld x) = [{ pkt with loc := l }] ∧ (s.pkts.filter fun x => s.tooOld x) = []) ∧
    (let s := one { netUp with clock := netUp.cfg Obj.TM_MAX_AGE * 1000000 } { pkt with loc := .staged }
     (s.pkts.filter fun x => x.loc == .staged && !coreFid x.dest && (s.tick 1).tooOld x) = [{ pkt with loc := .staged }]) := by
  decide +kernel

/-- A core-side function with one pair of a kind. -/
def coreQp (kind : Nat) : State :=
  (put netUp [(Obj.MEM_APP_SIZE, 0, 65536), (Obj.FN_ENABLE + 2, 0, 1)]).setQp 0x800 0
    { qp kind with sqBase := appBase + 0x1000, cqBase := appBase + 0x2000 }

theorem wit_ScansOfPackets :
    (let s := one netUp { pkt with loc := .divert }
     s.traffic = true ∧ (s.tick 1).scanPick.1 = some 0 ∧ (s.tick 1).freeLane = some 0 ∧
       s.divertHead 0 = some { pkt with loc := .divert }) ∧
    (one netUp { pkt with loc := .lane 0 1 }).pkt? 0 = some { pkt with loc := .lane 0 1 } ∧
    (let s := coreQp 4
     let x := { qp 4 with sqBase := appBase + 0x1000, cqBase := appBase + 0x2000 }
     (s.tick 1).mayAnswer 0x800 (.data []) = true ∧ s.qp? 0x800 0 = some x ∧ (s.tick 1).scanEnded 0x800 0 = none ∧
       (s.tick 1).scanTurn 0x800 0 = true ∧ (s.after 1).freeLane = some 0 ∧ (s.after 1).scanEnded 0x800 0 = none ∧
       (match ((s.after 1).scanPick.2).jobFetch 0x800 0 x (.data []) with | .got _ _ => true | _ => false) = true ∧
       (match ((s.after 1).scanPick.2).jobFetch 0x800 0 { x with sqBase := 2 ^ 40 } (.data []) with | .lost _ => true | _ => false)
         = true ∧ s.hs.scans = []) ∧
    (let x := { Qp.fresh (4 + 5 * 2 ^ 4 + 5 * 2 ^ 9) 0x1000 0x2000 0 0 with prod := 1 }
     let s := hostUp.setQp 0 0 x
     (match (({ (s.after 1) with hs := { s.hs with xl := [] } }).setFn 0 { Fn.fresh with bme := true, ats := true }).jobFetch 0 0 x
       (.data []) with | .wait _ => true | _ => false) = true) ∧
    (let s := coreQp 4
     let e : LookScan := { fid := 0x800, q := 0, desc := [], lane := 0, ends := 1, len := 0, found := none }
     ({ s with hs := { s.hs with scans := [e] } }.hs.scans.find? fun y => y.fid == 0x800 && y.q == 0) = some e) := by
  decide +kernel

/-- An entry of table 2. -/
def entry : TEntry :=
  { table := 2, inc := 0, region := 0, key := 9, mask := 0, plen := 0, action := 0, data := 0, static := false, hit := true,
    reported := false, visit := none, place := 0, slot := 0, born := none, died := none, journal := false, super := false }

theorem wit_TablesAreScrubbedAgedAndBridged :
    (let s := withImg netUp
     s.traffic = true ∧ s.mode.fenced ≠ some 0 ∧ (((s.tick 1).bankTable 0).map fun i => i.id) = some 3 ∧
       ((s.tick 1).scrubNext 0).map (fun x => (x.2, x.1.fixed)) = some ((0, 0), none) ∧
       (∀ f ∈ s.tern.flips, ¬(f.1 = 0 ∧ f.2.bank = 0 ∧ f.2.entry = 0)) ∧ scrubAfter s.banksUsed (some (0, 4095)) = none ∧
       scrubAfter s.banksUsed (some (0, 4094)) ≠ none) ∧
    (let u := { withImg netUp with tern := { netUp.tern with flips := [(0, ⟨0, 0, 0, 1, 0, 0, 0⟩)] } }
     ((((u.tick 1).scrubNext 0).map fun x => (x.2, x.1.fixed)) = some ((0, 0), none) ∧
       ∃ f ∈ u.tern.flips, f.1 = 0 ∧ f.2.bank = 0 ∧ f.2.entry = 0)) := by
  decide +kernel

theorem wit_TablesAreScrubbedAgedAndBridged_rest :
    (let s := put { withImg netUp with tbl := [entry] } [(tblObj Obj.TBL_AGE_PERIOD_S 2, 2, 1), (tblObj Obj.TBL_AGE_PERIOD_S 2, 0, 1)]
     ((s.tick 1).scanned 0 2 9).map (fun x => (x.1.id, x.2)) = some (2, 0, entry) ∧
       ∃ x ∈ s.tbl, x.table = 2 ∧ x.inc = 0 ∧ x.key = 9 ∧ x.hit = true) ∧
    (let s := { netUp with lrn := { netUp.lrn with bridge := [(0, 1, 2, 9, frame)] } }
     (s.lrn.bridge.find? fun x => x.1 == 0) = some (0, 1, 2, 9, frame)) := by
  decide +kernel

/-- The record of an operation on a table with an open epoch, and 56 B after its first word. -/
def topRec (op table epoch : Nat) (rest : Bytes) : Bytes := toLe 8 (op + table * 2 ^ 8 + epoch * 2 ^ 32) ++ padTo 56 rest

/-- Core-side function 0x800 may change tables 1 to 3 and its ring holds a record of its memory at offset 0x1000. -/
def topUp (r : Bytes) : State :=
  { put (withImg (coreQp 3)) [(Obj.TBL_WRITER_FID, 0, 0x800), (Obj.TBL_WRITER_TABLES, 0, 14 * 2 ^ 248)] with
    core := { netUp.core with mem := memWrite [] 0x1000 r } }

/-- An operation of another function's reach, one of table 1 (record only) and one of ternary table 3 with its payload; host
function 0 is a writer of tables 1 to 3. -/
def topHost : State :=
  put (withImg (hostUp.setQp 0 0 (qp 3))) [(Obj.TBL_WRITER_FID, 0, 0), (Obj.TBL_WRITER_TABLES, 0, 14 * 2 ^ 248)]

/-- Insert of index 0 into ternary table 3 with an external payload of 40 B at address 0x8000. -/
def ternRec : Bytes := topRec (1 + 2 ^ 5) 3 0 (List.replicate 16 0 ++ toLe 8 0x8000 ++ toLe 8 40)

theorem wit_TableOperationsAreTaken :
    topHost.traffic = true ∧ (topHost.tick 1).jobReady 0 0 3 = true ∧
    (topHost.tick 1).mayAnswer 0 (.data []) = true ∧ topHost.qp? 0 0 = some (qp 3) ∧
    (∀ op ∈ [1, 2, 3, 4], (topHost.tick 1).recordOf 0 0 op (.data (topRec op 1 2 [])) = some (qp 3, topRec op 1 2 []) ∧
      (topHost.tick 1).engineFree (topRec op 1 2 []) = true ∧
      (match (topHost.after 1).jobFetch 0 0 (qp 3) (.data (topRec op 1 2 [])) with
       | .got r t => r == topRec op 1 2 [] && t.topCheck 0 r == none && (t.tableFor (topTable r)).isSome
       | _ => false) = true ∧
      (topHost.after 1).topCheck 0 (topRec op 1 2 []) = none ∧
      ((topHost.after 1).tableFor (topTable (topRec op 1 2 []))).isSome = true ∧
      (topHost.after 1).topCheck 0 (topRec op 9 2 []) = some (3, 2)) ∧
    (match (topHost.after 1).tableFor 1 with | some (t, _) => !needsPayload t (topRec 1 1 2 []) | none => false) = true ∧
    (topHost.after 1).topCheck 0 ternRec = none ∧
    (match (topHost.after 1).tableFor 3 with | some (t, _) => needsPayload t ternRec | none => false) = true ∧
    (match (topHost.after 1).fetch 0 0 (qp 3) ((topHost.after 1).ringAttr 0 (qp 3)) [(topAddr ternRec, topLen ternRec, false)]
       (.data (List.replicate 40 0)) with | .got b _ => b.length == 40 | _ => false) = true ∧
    (match (topHost.after 1).fetch 0 0 (qp 3) ((topHost.after 1).ringAttr 0 (qp 3)) [(topAddr ternRec, topLen ternRec, false)]
       (.failed .error) with | .lost _ => true | _ => false) = true ∧
    (topHost.tick 1).ringLost 0 0 (.failed .error) = true ∧
    (match (topHost.after 1).jobFetch 0 0 (qp 3) (.failed .error) with | .lost _ => true | _ => false) = true := by
  decide +kernel

/-- The record names epoch 1, and epoch 2 is open. -/
theorem wit_StaleRecordsChangeNothing :
    (match topHost.tableFor (topTable (topRec 1 1 1 [])) with
     | some (t, _) => t.epoch && !topReserved (topRec 1 1 1 []) (some t) && !t.local_ && t.kind == 1
     | none => false) = true ∧
      1 ≤ topOp (topRec 1 1 1 []) ∧ topOp (topRec 1 1 1 []) ≤ 4 ∧ topHost.mayChange 0 1 = true ∧
      topPlen (topRec 1 1 1 []) = 0 ∧ topRegion (topRec 1 1 1 []) = 0 ∧ topEpoch (topRec 1 1 1 []) ≠ topHost.ep.openNum := by
  decide +kernel
/-! ### Witnesses: time, epochs, the Weave -/

/-- A gate list that opens class 0 alone. -/
def gate : Gate := { enable := true, base := 0, cycle := 1000000, entries := [1 + 1000000 * 2 ^ 8] }

theorem wit_TimeDrivenEventsKeepTime :
    (let s := { netUp with tm := { netUp.tm with gate := [(0, gate)], gatePend := [(0, gate, 1)] } }
     s.traffic = true ∧ (s.gateOf 0).enable = true ∧ lookupD s.tm.gateNow 0 0xFF ≠ (s.tick 1).gateMask 0 ∧
       lookup? s.tm.gatePend 0 = some (gate, 1) ∧ 1 ≤ s.now + 1) ∧
    (let s := put netUp ((Obj.CENSUS_EN, 0, 1) :: (List.range 16).map fun n => (Obj.CENSUS_RING_FID + n, 0, 0xFFFF))
     s.censusRuns = true ∧ s.mode.fenced ≠ some 0 ∧ s.cfg Obj.CENSUS_EN = 1 ∧
       (s.now + 0) % (s.cfg Obj.CENSUS_PERIOD * 1000) = 0 ∧ lookup? s.tm.sweep 0 = none ∧
       (∀ n, n < 16 → s.cfg (Obj.CENSUS_RING_FID + n) = 0xFFFF)) ∧
    (let w : Sweep := { start := 0, at_ := 0, num := 0, period := 1000000, next := 0, owners := [] }
     ({ netUp with tm := { netUp.tm with sweep := [(0, w)] } } : State).censusRuns = true ∧
       (({ netUp with tm := { netUp.tm with sweep := [(0, w)] } } : State).tick 0).sampleDue 0 = some w) ∧
    (let s := put { netUp with clock := 3600000000000, tm := { netUp.tm with ipfixOn := true } } [(Obj.CENSUS_IPFIX_EN, 0, 1)]
     s.ipfixRuns = true ∧ s.tm.ipfixOn = true ∧ netUp.tm.ipfixOn = false ∧ s.tm.ipfixTpl = none ∧
       s.tm.ipfixAt + s.cfg Obj.CENSUS_IPFIX_INTERVAL_S * 1000000000 ≤ s.clock + 1) ∧
    netUp.alive = true ∧ netUp.pps.ref = none := by
  decide +kernel

/-- Edges 999,899,999, 999,900,000, 1,000,100,000 and 1,000,100,001 ns after the previous one. -/
theorem wit_TimeDrivenEventsKeepTime_pps :
    (let s := put { netUp with pps := { ref := some 0, good := 3, off := [] } } [(Obj.TIME_DISCIPLINE, 0, 2)]
     s.pps.ref = some 0 ∧ s.clock + 999899999 - 0 < 999900000 ∧ 1000100000 < s.clock + 1000100001 - 0 ∧
       999900000 ≤ s.clock + 999900000 - 0 ∧ s.clock + 1000100000 - 0 ≤ 1000100000 ∧ s.usesPps = true ∧
       s.cfg Obj.TIME_LOCK_STATE = 0 ∧ 0 + 1000100000 ≤ s.clock + 1000100000 ∧ 3 ≤ s.pps.good ∧
       (put s [(Obj.TIME_LOCK_STATE, 0, 2)]).cfg Obj.TIME_LOCK_STATE = 2 ∧
       (put s [(Obj.TIME_LOCK_STATE, 0, 1)]).cfg Obj.TIME_LOCK_STATE = 1) := by
  decide +kernel

theorem wit_EpochsSwitchInOrder :
    (let s := { up with ep := { up.ep with applying := [(sealed 2, 2000)] } }
     s.alive = true ∧ s.ep.applying = (sealed 2, 2000) :: [] ∧ s.ep.live ≠ [] ∧ up.alive = true) ∧
    (let s := { up with ep := { up.ep with queued := some (sealed 2) } }
     s.ep.queued = some (sealed 2) ∧ s.liveCount < 4) ∧
    (let s := { up with ep := { up.ep with live := [(sealed 1).ver, (sealed 2).ver] } }
     s.ep.live = (sealed 1).ver :: (sealed 2).ver :: [] ∧ s.pkts.any ((s.tick 1).carries (sealed 1).ver.num) = false) := by
  decide +kernel

theorem wit_ScheduledCommitsMeetTheirInstant :
    (let m : Member := { id := 4, t := 1, initiator := 0, contents := sealed 2, wholeAt := 1 }
     let s := { up with ep := { up.ep with member := some m } }
     s.alive = true ∧ s.ep.applying = [] ∧ s.ep.member = some m ∧ m.t ≤ s.now + 1 ∧ m.wholeAt ≤ s.clock + 1 ∧
       s.clock + 1 < ({ m with wholeAt := 2 } : Member).wholeAt) ∧
    (let i : Initiated := { id := 4, t := 70000, members := 1, acked := 0, seq := 1, sentAt := 0, verdict := 0, flooded := false }
     let s := { up with ep := { up.ep with initiated := some i } }
     s.ep.initiated = some i ∧ i.verdict = 0 ∧ s.ep.untold = [] ∧ i.acked &&& i.members ≠ i.members ∧
       (1 : Nat) &&& i.members = i.members ∧ (s.now + 49999 + 20000 < i.t ∧ i.sentAt + 50000 ≤ s.clock + 50000) ∧
       s.now + 50000 + 20000 < i.t + 1 ∧ (i.t ≤ s.now + 50000 + 20000 ∧ s.now + 50000 < i.t) ∧ s.now + 69999 < i.t ∧
       i.t ≤ s.now + 70000 ∧ i.flooded = false) ∧
    (let i : Initiated := { id := 4, t := 70001, members := 1, acked := 0, seq := 1, sentAt := 0, verdict := 0, flooded := false }
     up.now + 50000 + 20000 < i.t ∧ i.sentAt + 50000 ≤ up.clock + 50000) := by
  decide +kernel

/-- One frame for each check: a bad header, a good one with each outcome of the checks behind it. -/
theorem wit_WeaveFramesAreCheckedInOrder :
    let ack := wvFrame 1 0 (pdu 0x11 1 (List.replicate 16 0))
    let shu := wvFrame 1 1 (pdu 0x20 1 (List.replicate 64 0))
    let hel := wvFrame 3 0 (pdu 0x01 1 (List.replicate 56 0))
    let u := (wvUp.after 1).bump Obj.WV_RX_FRAMES
    (wvUp.traffic = true ∧ (wvUp.wvLink 0).locked = true ∧ whType ack ≠ 0 ∧ msgType (wvBody ack) = 0x11) ∧
      headerOk frame = false ∧ headerOk ack = true ∧ headerOk hel = true ∧ headerOk shu = true ∧ whType hel = 3 ∧
      wvUp.wvState 0 = 2 ∧ up.wvState 0 ≠ 2 ∧ u.windowOk ack = true ∧
      ({ u with now := 10 ^ 9 } : State).windowOk ack = false ∧ whClass shu ≠ 0 ∧ whClass ack = 0 ∧
      u.outOfStep = false ∧ ({ u with ep := { u.ep with atState := 5 } } : State).outOfStep = true ∧
      u.windowOk shu = true ∧ u.sourceOk ack = true := by
  decide +kernel

/-- The words of the other message rows: each decodes to its row's type. -/
theorem wit_WeaveFramesAreCheckedInOrder_types :
    (∀ x ∈ [(0x01, 3, 0, 56), (0x02, 2, 0, 16), (0x10, 1, 0, 16), (0x11, 1, 0, 16), (0x12, 1, 0, 16), (0x13, 2, 0, 16),
        (0x14, 2, 0, 16), (0x20, 1, 1, 64)],
      let f := wvFrame x.2.1 x.2.2.1 (pdu x.1 1 (List.replicate x.2.2.2 0))
      whType f ≠ 0 ∧ msgType (wvBody f) = x.1 ∧ headerOk f = true) := by
  decide +kernel

/-- The frame of a message with its FCS. -/
def heard (x : Nat × Nat × Nat × Bytes) : Bytes :=
  let f := wvFrame x.2.1 x.2.2.1 (pdu x.1 1 x.2.2.2)
  f ++ fcs f

/-- A hello of device 5, of this device, and of another fabric; each routed and each flooded message. -/
theorem wit_WeaveFramesAreCheckedInOrder_heard :
    let z := List.replicate 16 (0 : Byte)
    let h := heard (0x01, 3, 0, List.replicate 56 0)
    (wvUp.wvListens 0 = true ∧ fcsGood h = true ∧ headerOk (unFcs h) = true ∧ whType (unFcs h) = 3 ∧
      msgType (wvBody (unFcs h)) = 0x01 ∧ whType h ≠ 0 ∧ msgType (wvBody h) = 0x01 ∧ whSrc (unFcs h) ≠ wvUp.wvAddr ∧
      (put wvUp [(Obj.WV_ADDR_EFFECTIVE, 0, 5)]).wvAddr = whSrc (unFcs h) ∧
      fld (beWord (wvBody (unFcs h)) 2) 32 32 ≠ (put wvUp [(Obj.WV_FABRIC_ID, 0, 7)]).cfg Obj.WV_FABRIC_ID) ∧
    (∀ x ∈ [(0x10, 1, 0, z), (0x11, 1, 0, z), (0x12, 1, 0, z), (0x20, 1, 1, List.replicate 64 0),
        (0x20, 1, 1, [0, 0, 0, 5] ++ List.replicate 60 0)],
      (wvUp.tick 1).wvListens 0 = true ∧ (wvUp.after 1).hearsRouted 0 x.1 (heard x) = true) ∧
    (∀ x ∈ [(0x02, 2, 0, toBe 8 77 ++ toBe 8 0), (0x13, 2, 0, z), (0x14, 2, 0, z)],
      (wvUp.after 1).hearsFlooded 0 x.1 (heard x) = true) ∧
    (let s := { wvUp with ep := { wvUp.ep with armed := some 0 } }
     s.ep.answer = none ∧ wvUp.ep.armed ≠ some (atId z) ∧
       (match s.prepareCheck (atId z) (s.mgmt.holder.getD (0, 0)) with | .inl _ => true | .inr _ => false) = true) := by
  decide +kernel

theorem wit_WeaveLinksComeAndGo :
    wvUp.alive = true ∧ (wvUp.wvLink 0).locked = true ∧ wvUp.wvAddr < 1024 ∧ (wvUp.tick 1).helloDue 0 = true ∧ 2 ≤ wvUp.wvState 0 ∧
      (wvUp.tick 3000000).helloLate 0 = true ∧
      (let s := put up [(Obj.WV_LINK_ENABLE, 0, 1)]
       s.traffic = true ∧ s.wvState 0 = 0 ∧ s.cfg Obj.WV_LINK_ENABLE = 1 ∧ s.flt.held = []) := by
  decide +kernel

theorem wit_WeaveRoutesFollowTheDatabase :
    wvUp.traffic = true ∧ wvUp.mode.mode ≠ .handover ∧ wvUp.wv.lsDirty = true ∧ wvUp.wv.routeDirty = true ∧
      up.wv.lsAt + 1000000000 ≤ up.clock + 1000000000 ∧
      (∃ e ∈ wvUp.wv.lsdb, e.at_ + 3500000000 ≤ wvUp.clock + 3500000000) ∧
      (let s := { up with wv := { up.wv with calPend := some (up.wv.cal, 1) } }
       s.wv.calPend = some (up.wv.cal, 1) ∧ 1 ≤ s.now + 1) := by
  decide +kernel

/-! ### Witnesses: requests -/

/-- A READ that is executed, kept while the dictionary is unavailable, too short, or already answered. -/
theorem wit_RequestsAreAnsweredOnce :
    let m := ask 1 Obj.TIME_NOW none 0
    (Requests 1 0 1 m (.read 1 0 1 m) ∧ Requests 1 0 1 (m.take 8) (.read 1 0 1 (m.take 8))) ∧
      ((mg up).hears (0, 1) = true ∧ ((mg up).tick 1).hearsAlone (0, 1) = true ∧
        (({ mg up with pending := [.read 0 0 1 m] } : State).tick 1).moreRequests = true ∧ (((mg up).tick 1).touch (0, 1)).unavailable = false ∧ ompBad m = false ∧ ompOp m ≠ 9 ∧
        ompRange m = false ∧ (((mg up).tick 1).touch (0, 1)).keptReply (0, 1) m = none) ∧
      (({ mg up with mgmt := { (mg up).mgmt with unavail := some 1 } } : State).tick 1 |>.touch (0, 1)).unavailable = true ∧
      ompBad (m.take 8) = true ∧ ompRange (req 1 0 65 0 []) = true ∧
      ({ up with mgmt := { up.mgmt with sessions := [{ sess with kept := [(1, 7, frame)] }] } } : State).keptReply (0, 1) m =
        some frame := by
  refine ⟨⟨.inl ⟨by decide +kernel, rfl⟩, .inl ⟨by decide +kernel, rfl⟩⟩, ?_⟩
  decide +kernel

theorem wit_AcceptedWritesAreDone :
    takes (mg up) Obj.MGMT_SEM_LEASE_S none 5 = true ∧
      Writes 1 0 1 (ask 2 Obj.MGMT_SEM_LEASE_S none 5) (itm (ask 2 Obj.MGMT_SEM_LEASE_S none 5))
        (.write 1 0 1 (ask 2 Obj.MGMT_SEM_LEASE_S none 5)) :=
  ⟨by decide +kernel, .inl rfl⟩

/-- A LIVE stored value, a QUIESCE value in DRAIN, an EPOCH value (in VIGIL), and a pending value whose block is idle. -/
theorem wit_ValuesAreTakenAsTheirObjectsSay :
    (∀ x ∈ [(mg up, Obj.MGMT_SEM_LEASE_S, 5), (mg { up with mode := { ModeSt.reset with mode := .drain } }, Obj.MEM_RESERVE_GIB, 5),
        (mg { up with mode := ModeSt.reset }, Obj.GATE_ENABLE, 1)],
      takes x.1 x.2.1 none x.2.2 = true ∧
        (((x.1.tick 1).touch (0, 1)).control (0, 1) (row x.2.1) x.2.1 0 x.2.2).isNone = true) ∧
    (row Obj.MGMT_SEM_LEASE_S).app = .live ∧ (row Obj.MEM_RESERVE_GIB).app = .quiesce ∧ (row Obj.GATE_ENABLE).app = .epoch ∧
    (let s := { up with dict := { up.dict with qui := [(okey Obj.NET_PORT_MODE 0, 1)] } }
     s.alive = true ∧ s.dict.qui.any (s.tick 1).quiDue = true) ∧
    (let s := { netUp with dict := { netUp.dict with qui := [(okey Obj.WV_ADDR 0, 5)] } }
     s.alive = true ∧ s.dict.qui.any (s.tick 1).quiDue = true ∧ (s.tick 1).quiDue (okey Obj.WV_ADDR 0, 5) = true ∧
       (∀ y ∈ s.dict.qui, y.1 = okey Obj.WV_ADDR 0 → y = (okey Obj.WV_ADDR 0, 5)) ∧
       within (keyObj (okey Obj.WV_ADDR 0)) Obj.NET_PORT_MODE 2 = false ∧
       within (keyObj (okey Obj.WV_ADDR 0)) Obj.NET_LINK_STATE 16 = false ∧ keyObj (okey Obj.WV_ADDR 0) ≠ Obj.WV_ADDR_EFFECTIVE ∧
       okey Obj.WV_LINK_ENABLE 0 ≠ okey Obj.WV_ADDR_EFFECTIVE 0 ∧
       ∀ y ∈ s.dict.qui, y.1 ≠ okey Obj.WV_LINK_ENABLE 0) := by
  decide +kernel

theorem wit_ReadsStagesAndSubscriptions :
    (let u := ((mg up).tick 1).touch (0, 1)
     (∀ m ∈ [ask 1 Obj.TIME_NOW none 0, ask 1 0xFFFF01 none 0, ask 1 Obj.CORE_RUN none 0, ask 1 Obj.EPOCH_COMMITS none 0,
        ask 1 Obj.KEY_KEK none 0],
      ((mg up).tick 1).wellPut (0, 1) m = true ∧ ompOp m = 1 ∧ ompItems m = some [itm m]) ∧
     u.rowOf? 0xFFFF01 = none ∧
     (∀ o ∈ [Obj.TIME_NOW, Obj.EPOCH_COMMITS], u.rowOf? o = some (row o) ∧ u.readMax (itm (ask 1 o none 0)) ≤ 1184 ∧
       u.itemStatus (0, 1) .read false o none = 0 ∧ (itm (ask 1 o none 0)).typeBad (row o) .read = false) ∧
     (row Obj.TIME_NOW).acc ≠ .rc ∧ (row Obj.EPOCH_COMMITS).acc = .rc ∧
     u.itemStatus (0, 1) .read false Obj.KEY_KEK none = 3) ∧
    (let m := ask 3 Obj.GATE_ENABLE none 1
     let u := ((mg up).tick 1).touch (0, 1)
     ((mg up).tick 1).wellPut (0, 1) m = true ∧ ompOp m = 3 ∧ ompItems m = some [itm m] ∧
       u.rowOf? Obj.GATE_ENABLE = some (row Obj.GATE_ENABLE) ∧ u.itemStatus (0, 1) .stage false Obj.GATE_ENABLE none = 0 ∧
       (itm m).typeBad (row Obj.GATE_ENABLE) .stage = false ∧ u.valueStatus (row Obj.GATE_ENABLE) Obj.GATE_ENABLE 0 1 = 0 ∧
       (u.stageOf (0, 1)).above = false ∧ (u.stageOf (0, 1)).vals = [] ∧
       1 ≤ 16384 ∧ Staging.bytes { vals := [(okey Obj.GATE_ENABLE 0, 1)], bulk := [] } ≤ 2 ^ 20 ∧
       ({ mg up with mgmt := { (mg up).mgmt with holder := none } } : State).mgmt.holder ≠ some (0, 1) ∧
       (itm m).elem = none ∧ bulkOnly (row Obj.GATE_ENABLE) = false ∧ u.accOk (row Obj.GATE_ENABLE) .stage = true) ∧
    (let m := req 8 0 0 0 (List.replicate 8 1)
     ((mg up).tick 1).wellPut (0, 1) m = true ∧ ompOp m = 8 ∧ up.mode.mode ≠ .dormant ∧ (ompBody m).length = 8 ∧
       (let s := { mg up with mode := { up.mode with mode := .dormant } }
        (s.tick 1).wellPut (0, 1) m = true ∧ s.mode.mode = .dormant)) ∧
    (let m := req 11 0 0 0 []
     ((mg up).tick 1).wellPut (0, 1) m = true ∧ 10 < ompOp m) := by
  decide +kernel

/-- A staging area with 16,384 values of other keys is full for one more. -/
theorem wit_ReadsStagesAndSubscriptions_full :
    16384 < (((List.range 16384).map fun n => (n, 1)).filter fun p => p.1 != okey Obj.GATE_ENABLE 0).length + 1 := by
  have h : (((List.range 16384).map fun n => (n, 1)).filter fun p => p.1 != okey Obj.GATE_ENABLE 0)
      = (List.range 16384).map fun n => (n, 1) := by
    rw [List.filter_eq_self]
    intro p hp
    obtain ⟨n, hn, rfl⟩ := List.mem_map.1 hp
    have : n < 16384 := List.mem_range.1 hn
    simp only [bne_iff_ne, ne_eq]
    have : 16384 ≤ okey Obj.GATE_ENABLE 0 := by decide +kernel
    omega
  rw [h]
  simp

theorem wit_CommitsSealTheStagingArea :
    (let m := req 4 0 0 0 []
     let u := ((mg up).tick 1).touch (0, 1)
     ((mg up).tick 1).wellPut (0, 1) m = true ∧ ompOp m = 4 ∧ ompScheduled m = false ∧ (mg up).mgmt.holder = some (0, 1) ∧
       up.mode.mode ≠ .handover ∧ up.mode.mode ≠ .dormant ∧ ompBody m = [] ∧ u.commitBusy = false ∧
       u.checkVer (Ver.with_ u.baseVer 2 (u.stageOf (0, 1))) (u.stageOf (0, 1)).touched = none ∧ (mg up).liveCount < 4) ∧
    (let w := { sess with stage := { vals := [(okey Obj.GATE_ENABLE 0, 1)], bulk := [] } }
     let s := { mg up with mgmt := { (mg up).mgmt with sessions := [w] } }
     let u := (s.tick 1).touch (0, 1)
     (u.checkVer (Ver.with_ u.baseVer 2 (u.stageOf (0, 1))) (u.stageOf (0, 1)).touched).isSome = true) ∧
    (let s := { mg up with ep := { up.ep with live := [1, 2, 3, 4].map fun n => (sealed n).ver } }
     4 ≤ s.liveCount ∧ ((s.tick 1).touch (0, 1)).commitBusy = false) ∧
    (let m := req 4 2 0 0 []
     ((mg up).tick 1).wellPut (0, 1) m = true ∧ ompScheduled m = true ∧
       (((mg up).tick 1).touch (0, 1)).scheduleBad = true ∧
       (({ mg up with ep := { up.ep with queued := some (sealed 2) } } : State).tick 1 |>.touch (0, 1)).commitBusy = true ∧
       (let s := put { mg up with ep := { up.ep with armed := some 4 } } [(Obj.EPOCH_AT_ID, 0, 4), (Obj.EPOCH_AT_TIME, 0, 10 ^ 9),
          (Obj.EPOCH_AT_MEMBERS, 0, 2 ^ 1016)]
        ((s.tick 1).touch (0, 1)).commitBusy = false ∧ ((s.tick 1).touch (0, 1)).scheduleBad = false)) ∧
    ({ mg up with mgmt := { (mg up).mgmt with holder := none } } : State).mgmt.holder ≠ some (0, 1) := by
  decide +kernel
/-! ### Witnesses: controls -/

theorem wit_EpochTimeLogAndCoreControls :
    (∀ x ∈ [(Obj.EPOCH_DISCARD, 1), (Obj.EPOCH_AT_ARM, 0), (Obj.EPOCH_AT_ARM, 1), (Obj.EPOCH_AT_CANCEL, 1),
        (Obj.EPOCH_AT_RESYNC, 1), (Obj.TIME_SET, 99), (Obj.ERR_LOG_CLEAR, 1), (Obj.CORE_RUN, 0), (Obj.CORE_RUN, 1)],
      takes (mg up) x.1 none x.2 = true) ∧
    (up.ep.atState = 0 ∧ (((mg up).tick 1).touch (0, 1)).cancelLate = false ∧ up.ep.initiated = none ∧ up.timeLed = false ∧
      up.cfg Obj.CORE_RUN ≠ 1) ∧
    (let i : Initiated := { id := 4, t := 10001, members := 1, acked := 0, seq := 1, sentAt := 0, verdict := 0, flooded := false }
     let s := { mg up with ep := { up.ep with initiated := some i, atState := 1 } }
     takes s Obj.EPOCH_AT_CANCEL none 1 = true ∧ s.ep.initiated = some i ∧ i.verdict = 0 ∧ s.ep.atState = 1 ∧
       ((s.tick 1).touch (0, 1)).cancelLate = false ∧ ((s.tick 2).touch (0, 1)).cancelLate = true) ∧
    (let s := put (mg up) [(Obj.TIME_DISCIPLINE, 0, 1), (Obj.CORE_RUN, 0, 1)]
     takes s Obj.TIME_SET none 99 = true ∧ s.timeLed = true ∧ takes s Obj.CORE_RUN none 1 = true ∧ s.cfg Obj.CORE_RUN = 1) := by
  decide +kernel

/-- A state whose semaphore session (0, 2) holds, with n sessions waiting. -/
def queued (n : Nat) : State :=
  { mg up with mgmt := { (mg up).mgmt with holder := some (0, 2), waiting := (List.range n).map fun i => (1, i) } }

/-- A sixteenth and a seventeenth session that waits. -/
theorem wit_TheSemaphoreHasOneHolder :
    let acq := req 10 0 0 1 []
    let rel := req 10 0 0 2 []
    (((mg up).tick 1).wellPut (0, 1) acq = true ∧ ompOp acq = 10 ∧ ompBody acq = [] ∧ ompAux acq = 1 ∧ ompOp rel = 10 ∧
      ompBody rel = [] ∧ ompAux rel = 2 ∧ ((mg up).tick 1).wellPut (0, 1) rel = true ∧ (mg up).mgmt.holder = some (0, 1)) ∧
    (let s := { mg up with mgmt := { (mg up).mgmt with holder := none } }
     (s.tick 1).wellPut (0, 1) acq = true ∧ s.mgmt.holder = none ∧ s.mgmt.waiting = []) ∧
    (((queued 15).tick 1).wellPut (0, 1) acq = true ∧ ((queued 16).tick 1).wellPut (0, 1) acq = true ∧
      (queued 15).mgmt.holder ≠ none ∧ (queued 15).mgmt.holder ≠ some (0, 1) ∧ (0, 1) ∉ (queued 16).mgmt.waiting ∧
      (queued 15).mgmt.waiting.length < 16 ∧ 16 ≤ (queued 16).mgmt.waiting.length ∧
      ((queued 16).tick 1).wellPut (0, 1) rel = true) ∧
    (let s := { queued 0 with mgmt := { (queued 0).mgmt with waiting := [(0, 1)] } }
     (s.tick 1).wellPut (0, 1) rel = true ∧ s.mgmt.holder ≠ some (0, 1) ∧ (0, 1) ∈ s.mgmt.waiting) ∧
    takes (mg up) Obj.MGMT_SEM_HEARTBEAT none 1 = true ∧
    (mg up).alive = true ∧ ((mg up).tick 1).unavailable = false ∧ (mg up).mgmt.leaseEnd ≤ (mg up).clock + 1 := by
  decide +kernel

/-- A channel on CORE_LOAD: 16 B, all arrived. -/
def chan (wr : Bool) : Chan :=
  { num := 1, obj := Obj.CORE_LOAD, wr := wr, staged := false, first := 0, len := 16, chunks := [(0, List.replicate 16 1)],
    passed := none, last := 0 }

/-- Session 1 with that channel. -/
def withChan (c : Chan) : State := { mg up with mgmt := { (mg up).mgmt with sessions := [{ sess with chans := [c] }] } }

theorem wit_BulkChannelsOpenCarryAndClose :
    (let o := fun (obj dir : Nat) => req 5 0 0 0 (toBe 3 obj ++ toBe 1 dir ++ toBe 4 0 ++ toBe 8 32)
     let u := ((mg up).tick 1).touch (0, 1)
     let ob := Obj.FN_PF_CONFIG
     (∀ m ∈ [o ob 0, o 0xFFFF01 0], ((mg up).tick 1).wellPut (0, 1) m = true ∧ ompOp m = 5 ∧ (ompBody m).length = 16) ∧
       u.openStatus (0, 1) false 0xFFFF01 0 0 32 = 10 ∧
       beNat (slice (ompBody (o ob 0)) 3 1) = 0 ∧ u.openStatus (0, 1) (ompStagedView (o ob 0)) ob 0 0 32 = 0 ∧
       beNat (slice (ompBody (o ob 0)) 0 3) = ob ∧ u.rowOf? ob = some (row ob) ∧
       (u.sess? (0, 1)).map (fun x => x.freeNum) = some (some 1)) ∧
    (∀ x ∈ [(6, List.replicate 8 0), (7, [0, 0, 0, 0]), (7, [1, 0, 0, 0])],
      let m := req x.1 0 0 1 x.2
      ((mg up).tick 1).wellPut (0, 1) m = true ∧ ompOp m = x.1 ∧ (((mg up).tick 1).touch (0, 1)).chan? (0, 1) (ompAux m) = none ∧
        (((withChan (chan true)).tick 1).wellPut (0, 1) m = true) ∧
        (((withChan (chan true)).tick 1).touch (0, 1)).chan? (0, 1) (ompAux m) = some (chan true) ∧
        8 ≤ (ompBody (req 6 0 0 1 (List.replicate 8 0))).length) ∧
    closeHow (req 7 0 0 1 [0, 0, 0, 0]) ≠ 1 ∧ closeHow (req 7 0 0 1 [1, 0, 0, 0]) = 1 ∧
    ompBody (req 7 0 0 1 [0, 0, 0, 0]) = [0, 0, 0, 0] ∧ ompBody (req 7 0 0 1 [1, 0, 0, 0]) = [1, 0, 0, 0] ∧
    (((withChan (chan true)).tick 1).touch (0, 1)).chanBusy (chan true) = false ∧
    (let m := req 6 0 0 1 (List.replicate 12 0)
     ((withChan (chan false)).tick 1).wellPut (0, 1) m = true ∧ (ompBody m).length = 12 ∧
       (((withChan (chan false)).tick 1).touch (0, 1)).chan? (0, 1) (ompAux m) = some (chan false)) ∧
    (withChan (chan true)).alive = true ∧ (withChan (chan true)).chan? (0, 1) 1 = some (chan true) ∧
    (chan true).last + 10000000000 ≤ up.clock + 10000000000 := by
  decide +kernel

/-- A key in slot 3. -/
def slot : Slot := { direct := true, alg := 2, key := List.replicate 32 1, gen := 1, revoking := true }

theorem wit_TheKekIsTakenWhileSlotsAreEmpty :
    takes (mg up) Obj.KEY_KEK none 5 = true ∧ (mg up).cry.slots = [] ∧
      (let s := { mg up with cry := { up.cry with slots := [(3, slot)] } }
       takes s Obj.KEY_KEK none 5 = true ∧ s.cry.slots ≠ []) := by
  decide +kernel

theorem wit_KeySlotsAreWrittenErasedAndZeroised :
    (let s := { mg up with cry := { up.cry with slots := [(3, slot)] } }
     takes s Obj.KEY_SLOT_WRITE none (8191 * 2 ^ 624) = true ∧ takes s Obj.KEY_SLOT_WRITE none (8192 * 2 ^ 624) = true ∧
       8192 ≤ beNat (slice (toBe 80 (8192 * 2 ^ 624)) 0 2) ∧
       takes s Obj.KEY_SLOT_ERASE none 8191 = true ∧ s.slot? 8191 = none ∧ takes s Obj.KEY_SLOT_ERASE none 3 = true ∧
       s.slot? 3 = some slot ∧ s.alive = true ∧ slot.revoking = true ∧ (∀ h ∈ s.cry.held, h.slot ≠ 3) ∧ s.keyRuns 3 = false) ∧
    up.cry.ckAt + 100000 ≤ up.clock + 100000 := by
  decide +kernel

/-- Every mode that a request is about, and DRAIN finished with the hosts asleep or awake. -/
theorem wit_ModesChangeOnRequest :
    let at_ := fun (m : Mode) (step : Nat) => mg { up with mode := { ModeSt.reset with mode := m, step := step } }
    let done := put (at_ .drain 0) [(Obj.MODE_DRAIN_DONE, 0, 1)]
    (∀ s ∈ [at_ .service 0, at_ .degraded 0, at_ .drain 0, done, at_ .dormant 3], ∀ v ∈ [1, 2, 3, 4, 5],
      takes s Obj.MODE_REQUEST none v = true) ∧
    (at_ .drain 0).cfg Obj.MODE_DRAIN_DONE ≠ 1 ∧ done.cfg Obj.MODE_DRAIN_DONE = 1 ∧ done.hostsAsleep = true ∧
    (put done [(Obj.HST_LINK_STATE, 0, 2)]).hostsAsleep = false ∧ (at_ .dormant 3).mode.step = 3 ∧
    (at_ .dormant 3).pwr.entering = false := by
  decide +kernel

/-- Both firmware slots of each bank hold an image of major version 1; bank A runs. -/
def fw : State :=
  let x : FwSlot := { valid := true, version := 5, svn := 3, signer := 2, major := 1, minor := 0 }
  put { up with img := { up.img with slots := [(0, x), (1, x), (2, x), (3, x)] } } [(Obj.IMG_SETTINGS_MAJOR, 0, 1)]

theorem wit_ImageActivationsAndFuses :
    (∀ v ∈ [1, 2, 3], takes (mg fw) Obj.IMG_ACTIVATE none v = true ∧ takes (mg up) Obj.IMG_ACTIVATE none v = true) ∧
    fw.img.act = none ∧ fw.mode.mode = .service ∧ (let u := ((mg up).tick 1).touch (0, 1); u.bankCode u.targetBank ≠ 0) ∧
    (let u := ((mg fw).tick 1).touch (0, 1)
     u.bankCode u.targetBank = 0 ∧ u.runBank ≠ none ∧ fw.ep.member = none ∧
       (u.fwSlot (2 * u.targetBank)).major = fw.cfg Obj.IMG_SETTINGS_MAJOR ∧
       (put u [(Obj.IMG_ACTIVATE_AT, 0, 10 ^ 13)]).activateAtBad = false) ∧
    (let a : Activ := { form := 2, t := 9, target := 1, ready := false, started := false }
     let s := mg { fw with img := { fw.img with act := some a } }
     takes s Obj.IMG_ACTIVATE_CANCEL none 1 = true ∧ s.img.act = some a ∧ a.started = false ∧ s.img.act ≠ none ∧
       takes s Obj.IMG_ACTIVATE none 1 = true) ∧
    (takes (mg fw) Obj.IMG_ACTIVATE_CANCEL none 1 = true ∧ takes (mg fw) Obj.IMG_SVN_RAISE none 1 = true ∧
      takes (mg fw) Obj.IMG_SVN_RAISE none 2 = true ∧ (mg fw).runBank = some 0) ∧
    (let s := mg { fw with mode := { fw.mode with mode := .degraded } }
     takes s Obj.IMG_SVN_RAISE none 1 = true ∧ s.mode.mode ≠ .service) ∧
    (takes (mg fw) Obj.IMG_SIGNER_REVOKE none 2 = true ∧ fw.signerUsed 2 = true ∧
      takes (mg fw) Obj.IMG_SIGNER_REVOKE none 3 = true ∧ fw.signerUsed 3 = false ∧ fw.fuse.revoked ||| 2 ^ 3 ≠ 15) ∧
    (let s := mg { fw with fuse := { fw.fuse with revoked := 7 } }
     takes s Obj.IMG_SIGNER_REVOKE none 3 = true ∧ s.signerUsed 3 = false ∧ s.fuse.revoked ||| 2 ^ 3 = 15) := by
  decide +kernel

theorem wit_InjectionsTestsAndResetsByTheManager :
    (takes (mg up) Obj.FLT_REGION_TEST none 1 = true ∧ up.mode.mode ≠ .degraded) ∧
    (∀ v ∈ [1, 2],
      let s := mg { up with mode := { up.mode with mode := .degraded, fenced := some (v - 1) } }
      takes s Obj.FLT_REGION_TEST none v = true ∧ s.mode.fenced = some (v - 1) ∧ s.cfg Obj.FLT_REGION_TEST_STATE ≠ 2 ∧
        s.cfg Obj.FLT_REGION_TEST_STATE ≠ 3) ∧
    (∀ k ∈ [1, 2, 3, 4], takes (mg up) Obj.DIAG_INJECT none (k + 2 * 2 ^ 4) = true ∧ djKind (k + 2 * 2 ^ 4) = k ∧
      djRegion (k + 2 * 2 ^ 4) = 2) ∧
    (takes (mg up) Obj.DIAG_INJECT none (4 + 3 * 2 ^ 4) = true ∧ djRegion (4 + 3 * 2 ^ 4) = 3 ∧
      takes (mg up) Obj.DIAG_INJECT none (4 + 1 * 2 ^ 4) = true ∧ djRegion (4 + 1 * 2 ^ 4) = 1) ∧
    (up.cfg Obj.DIAG_INJECT_EN = 0 ∧ (put up [(Obj.DIAG_INJECT_EN, 0, 1)]).cfg Obj.DIAG_INJECT_EN ≠ 0) ∧
    (∀ f ∈ [0, 1], ∀ k ∈ [1, 2], takes (mg up) Obj.FN_RESET_CMD none (f + k * 2 ^ 14) = true ∧
      fld (f + k * 2 ^ 14) 14 2 = k ∧ fld (f + k * 2 ^ 14) 0 14 = f) ∧
    (up.fnExists 1 = false ∧ up.fnExists 0 = true ∧ (up.fn 0).reset = 0) ∧
    (∀ p ∈ [0, 1], ∀ v ∈ [1, 2], takes (mg up) (Obj.HST_PORT_RELEASE + p) none v = true ∧ up.frozen p = false) ∧
    (let s := put hostUp [(Obj.HST_PORT_FROZEN, 0, 1)]
     (s.after 1).reach (8192 * 0) = .takes ∧ s.frozen 0 = true) := by
  decide +kernel
/-! ### Witnesses: hosts, functions, queue pairs -/

/-- The link of HA up, with L0p and FLIT mode, at 64 GT/s and 16 lanes. -/
def linkFast : State :=
  put { hostUp with hs := { hostUp.hs with l0p := [0], flit := [0], width := [(0, 16)] } }
    [(Obj.HST_LINK_SPEED, 0, 6), (Obj.HST_LINK_WIDTH, 0, 16), (Obj.HST_L0P_EN, 0, 1)]

theorem wit_HostLinksChangeState :
    (0 ∉ up.hs.perst) ∧ (0 ∈ HostSide.reset.perst ∧ ({ up with hs := HostSide.reset } : State).alive = true ∧
      up.mode.mode ≠ .dormant ∧ State.reset.alive = false ∧ 0 ∈ State.reset.hs.perst ∧ State.reset.mode.mode ≠ .dormant) ∧
    (let s := put { up with hs := HostSide.reset, mode := { up.mode with mode := .dormant } } [(Obj.PWR_WAKE_SRC, 0, 0)]
     s.alive = true ∧ s.linkUp 0 = false ∧ bit (s.cfg Obj.PWR_WAKE_SRC) 0 = false ∧
       ({ up with hs := HostSide.reset } : State).linkUp (2 * 0) = false) ∧
    ((put hostUp [(Obj.HST_PORT_FROZEN, 0, 1)]).frozen (0 / 2) = true ∧ (put hostUp [(Obj.HST_PORT_FROZEN, 0, 1)]).linkUp 0 = true ∧
      ({ up with pwr := { up.pwr with rails := .boot } } : State).pwr.rails = .boot) ∧
    (hostUp.alive = true ∧ hostUp.linkUp 0 = true ∧ hostUp.frozen (0 / 2) = false) ∧
    (0 / 2 ∉ up.hs.perst ∧ up.linkUp 0 = false ∧ 5 ≤ up.cfg (Obj.HST_SPEED_MAX + 0 / 2) ∧ 16 ∈ [1, 2, 4, 8, 16] ∧
      up.cfg (Obj.HST_BIFURCATE + 0 / 2) ≠ 1 ∧ 0 % 2 = 0 ∧
      (put up [(Obj.HST_BIFURCATE, 0, 1)]).cfg (Obj.HST_BIFURCATE + 1 / 2) = 1 ∧ 8 ≤ 8) ∧
    (let s := hostUp.setFn 0 { Fn.fresh with bme := true, aspmL1 := true }
     s.linkState 0 = 2 ∧ s.l1May 0 0 = true ∧ (∃ x ∈ s.hs.fn, coreFid x.1 = false ∧ s.linkOf x.1 = 0 ∧ x.2.aspmL1 = true) ∧
       s.cfg (Obj.HST_L1_IDLE_US + 0 / 2) * 1000 ≤ 100000000 ∧ s.hs.reqs = [] ∧ (∀ x ∈ s.hs.fn, x.2.wq = []) ∧ s.pkts = [] ∧
       (put (s.setFn 0 { s.fn 0 with l1ss := 15 }) [(Obj.HST_CLKREQ_GPIO, 0, 1)]).l1May 0 1 = true ∧
       (put (s.setFn 0 { s.fn 0 with l1ss := 15 }) [(Obj.HST_CLKREQ_GPIO, 0, 1)]).l1May 0 2 = true) ∧
    (linkFast.linkState 0 = 2 ∧ 64 ≤ speedGts (linkFast.cfg (Obj.HST_LINK_SPEED + 0)) ∧ 0 ∈ linkFast.hs.flit ∧
      0 ∈ linkFast.hs.l0p ∧ linkFast.cfg (Obj.HST_L0P_EN + 0 / 2) = 1 ∧ linkFast.cfg (Obj.HST_BIFURCATE + 0 / 2) ≠ 1 ∧
      8 < linkFast.cfg (Obj.HST_LINK_WIDTH + 0) ∧
      0 * 80 < 8 * speedGts (linkFast.cfg (Obj.HST_LINK_SPEED + 0)) * 80000 ∧
      (let s := put linkFast [(Obj.HST_LINK_WIDTH, 0, 8), (Obj.HST_LINK_STATE, 0, 3)]
       s.alive = true ∧ s.linkState 0 = 3 ∧ s.cfg Obj.HST_LINK_WIDTH < 16 ∧ 16 ≤ s.trained 0)) := by
  decide +kernel

/-- A read request of function 0 with tag 7. -/
def rd : Req :=
  { link := 0, tag := 7, kind := 0, fid := 0, work := 1, piece := 0, addr := 0, len := 64, pasid := none, at_ := 0,
    dead := false, got := [] }

/-- Word of a peer window that is valid and allows reads, writes and AtomicOps of its 4 KiB, at offset 0, to offset 0x1000. -/
def win : Nat := (15 + 12 * 2 ^ 5) * 2 ^ 192 + 0x1000 * 2 ^ 64

/-- Its configuration space is not ready yet, PF0 is in D3hot, or being reset. -/
def notReady : State := { hostUp with hs := { hostUp.hs with upAt := [(0, 100000000)] } }

theorem wit_HostTlpsAreTaken :
    (hostUp.alive = true ∧ (hostUp.after 1).reach 0 = .takes ∧ 0x40000 < 2 ^ 22 ∧ barBytes 0 0 < 0x1FFFFC + 8 ∧
      ((put hostUp [(Obj.FN_ENABLE, 0, 0)]).after 1).reach 0 = .fenced ∧ coreFid 0 = false ∧ (hostUp.after 1).reach 7 = .nothing ∧
      hostUp.linkUp (hostUp.linkOf 0) = true ∧ 8 + 8 ≤ barBytes 0 0 ∧ (notReady.after 1).reach 0 = .ur ∧
      notReady.linkUp (notReady.linkOf 0) = true ∧ ((hostUp.setFn 0 { Fn.fresh with d3 := true }).after 1).reach 0 = .ur ∧
      (hostUp.after 1).cfgReach 0 = .takes ∧ (notReady.after 1).cfgReach 0 = .retry ∧
      ((hostUp.setFn 0 { Fn.fresh with reset := 1 }).after 1).cfgReach 0 = .retry ∧ (hostUp.after 1).cfgReach 7 = .nothing ∧
      hostUp.linkUp (hostUp.linkOf 7) = true) ∧
    (hostUp.linkUp 0 = true ∧ hostUp.req? 0 7 = none ∧ hostUp.frozen (0 / 2) = false) ∧
    (let s := { hostUp with hs := { hostUp.hs with reqs := [rd] } }
     s.req? 0 7 = some rd ∧ rd.kind ≠ 2 ∧ (rd.got ++ List.replicate 32 0).length < rd.len ∧
       (match (s.fn rd.fid).cto with | some d => decide (rd.at_ + d ≤ s.clock + 60000000000) | none => false) = true) ∧
    (let d := { rd with dead := true }
     ({ hostUp with hs := { hostUp.hs with reqs := [d] } } : State).req? 0 7 = some d ∧ d.dead = true) ∧
    ((put hostUp [(Obj.HST_PEER_BAR_LOG2, 0, 20)]).linkUp (2 * 0) = true ∧
      (put hostUp [(Obj.HST_PEER_BAR_LOG2, 0, 20)]).cfg (Obj.HST_PEER_BAR_LOG2 + 0) ≠ 0 ∧
      1048568 + 8 ≤ 2 ^ (put hostUp [(Obj.HST_PEER_BAR_LOG2, 0, 20)]).cfg (Obj.HST_PEER_BAR_LOG2 + 0)) ∧
    (let s := put { up with ep := { up.ep with live := [{ Ver.empty with num := 1, objs := [(okey Obj.HST_PEER_WIN 0, win)] }] } }
        [(Obj.MEM_APP_SIZE, 0, 65536)]
     s.peerMatch 0 4088 8 = some win ∧ s.peerMatch 0 4089 8 = none ∧ s.core.memUp = true ∧ s.cfgReady 0 = true ∧
       (s.fn (0 * 8192)).d3 = false ∧ bit (elemWord 4 win 0) 4 = false ∧
       elemWord 4 win 2 + (4088 - elemWord 4 win 1) + 8 ≤ s.appSize ∧ bit (elemWord 4 win 0) 1 = true ∧
       bit (elemWord 4 win 0) 2 = true ∧ bit (elemWord 4 win 0) 3 = true ∧ Memory.wf s.core.mem = true) := by
  decide +kernel

theorem wit_TranslationsAreInvalidatedAndPagesAnswered :
    hostUp.alive = true ∧ fidUsed 0 = true ∧ coreFid 0 = false ∧ hostUp.linkUp (hostUp.linkOf 0) = true ∧
    (let s := { hostUp with hs := { hostUp.hs with inv := [{ id := 3, fid := 0, waits := [] }] } }
     ∃ v ∈ s.hs.inv, v.fid = 0 ∧ v.id = 3 ∧ v.waits = []) ∧
    (let p : PageReq := { fid := 0, q := 0, page := 5, pasid := none, at_ := 0, work := none, n := 1 }
     let s := { hostUp with hs := { hostUp.hs with pri := [p] } }
     (s.hs.pri.find? fun p => p.fid == 0 && p.page == 5) = some p ∧
       p.at_ + s.cfg (Obj.HST_PRI_TIMEOUT_MS + fidPort 0) * 1000000 ≤ s.clock + 100000000000) := by
  decide +kernel

/-- Core-side function 0 enabled. -/
def coreUp : State := put netUp [(Obj.FN_ENABLE + 2, 0, 1), (Obj.MEM_APP_SIZE, 0, 65536)]

theorem wit_FunctionControlsTakeEffect :
    ((hostUp.after 1).cfgReach 0 = .takes ∧ (notReady.after 1).cfgReach 0 = .retry ∧ (hostUp.after 1).reach 0 = .takes ∧ (hostUp.fn 0).bme = true ∧ fidVf 0 = false ∧ (hostUp.fn 0).d3 = false ∧
      0 ≤ pfcTotalVfs (hostUp.pfc (fidPort 0) (fidNum 0))) ∧
    ((hostUp.setFn 0 Fn.fresh).after 1).cfgReach 0 = .takes ∧ ((hostUp.setFn 0 Fn.fresh).fn 0).bme = false ∧
    (((hostUp.setFn 0 { Fn.fresh with d3 := true }).after 1).cfgReach 0 = .takes ∧ ((hostUp.setFn 0 { Fn.fresh with d3 := true }).fn 0).d3 = true) ∧
    (coreUp.alive = true ∧ (coreUp.after 1).reach 0x800 = .takes ∧ coreFid 0x800 = true ∧ 7 < coreUp.fnCfg Obj.FN_VECTORS 0x800 ∧
      (coreUp.fn 0x800).pend = []) ∧
    (let s := coreUp.setFn 0x800 { Fn.fresh with reset := 2 }
     (s.fn 0x800).reset = 2 ∧ (s.fn 0x800).resetAt + s.cfg Obj.FN_DRAIN_LIMIT_MS * 1000000 ≤ s.clock + 1000000000) ∧
    (let s := { hostUp.setFn 0 { Fn.fresh with reset := 1 } with hs := { (hostUp.setFn 0 { Fn.fresh with reset := 1 }).hs with reqs := [rd] } }
     (s.fn 0).reset = 1 ∧ (s.after 1).tagsOut 0 = true ∧ ((hostUp.setFn 0 { Fn.fresh with reset := 3 }).fn 0).reset = 3 ∧
       ((hostUp.setFn 0 { Fn.fresh with reset := 3 }).after 1).tagsOut 0 = false) := by
  decide +kernel

/-- PF0 of HA with 8 queue pairs, a NET_TX pair 0 and the block's registers as a query of it leaves them. -/
def qpUp : State :=
  let s := put hostUp [(Obj.FN_QP_COUNT, 0, 8)]
  let c := 1 + 6 * 2 ^ 4 + 6 * 2 ^ 9
  (s.setFn 0 { Fn.fresh with bme := true, qpcCtrl := c, qpcSq := 0x1000, qpcCq := 0x2000 }).setQp 0 0
    { Qp.fresh c 0x1000 0x2000 0 0 with prod := 1 }

theorem wit_QueuePairsAreMadeAndRung :
    (qpUp.alive = true ∧ (qpUp.after 1).reach 0 = .takes ∧ (qpUp.fn 0).qpcStatus ≠ 5) ∧
    (qpUp.after 1).createStatus 0 7 (qpUp.fn 0).qpcCtrl (qpUp.fn 0).qpcSq (qpUp.fn 0).qpcCq 0 0 = 0 ∧
    (qpUp.after 1).createStatus 0 8 (qpUp.fn 0).qpcCtrl (qpUp.fn 0).qpcSq (qpUp.fn 0).qpcCq 0 0 = 2 ∧
    (qpUp.qp? 0 (qpUp.fn 0).qpcSel).isSome = true ∧
    (match qpUp.qp? 0 (qpUp.fn 0).qpcSel with
     | some x => modifiable (qpUp.fn 0).qpcCtrl == modifiable x.ctrl && (qpUp.fn 0).qpcSq == x.sqBase &&
         (qpUp.fn 0).qpcCq == x.cqBase && (qpUp.fn 0).qpcHead == x.headAddr && (qpUp.fn 0).qpcAux == x.aux &&
         decide (fld (qpUp.fn 0).qpcCtrl 16 12 < qpUp.fnCfg Obj.FN_VECTORS 0)
     | none => false) = true ∧
    (let s := qpUp.setFn 0 { qpUp.fn 0 with qpcSel := 7 }
     (s.after 1).reach 0 = .takes ∧ s.qp? 0 (s.fn 0).qpcSel = none) ∧
    qpUp.qpCount 0 ≤ 8 ∧ 7 < qpUp.qpCount 0 ∧ qpUp.persona 0 ≠ 3 ∧
    (let s := put qpUp [(Obj.FN_PF_CONFIG, 0, 1 + 3 * 2)]
     (s.after 1).reach 0 = .takes ∧ 7 < s.qpCount 0 ∧ s.persona 0 = 3) ∧
    (let x := { qp 1 with cq := 2 }
     let s := qpUp.setQp 0 0 x
     (s.after 1).reach 0 = .takes ∧ 0 < s.qpCount 0 ∧ s.qp? 0 0 = some x ∧ s.mode.mode ≠ .drain ∧ (s.fn 0).reset ≠ 2 ∧
       x.kind ≠ 5 ∧ x.kind ≠ 2 ∧ (3 + 2 ^ 32 - x.prod) % 2 ^ 32 ≤ x.sqSize ∧ (3 + 2 ^ 32 - x.cons) % 2 ^ 32 ≤ x.sqSize ∧
       1 ≤ (2 + 2 ^ 32 - x.ccons) % 2 ^ 32 ∧ (2 + 2 ^ 32 - x.ccons) % 2 ^ 32 ≤ (x.cq + 2 ^ 32 - x.ccons) % 2 ^ 32) ∧
    (let s := { qpUp with mode := { ModeSt.reset with mode := .drain } }
     (s.after 1).reach 0 = .takes ∧ s.mode.mode = .drain ∧ ((s.qp? 0 0).map fun x => x.kind) = some 1) ∧
    (let s := put { qpUp with stg := { qpUp.stg with sq := [(0, ⟨0, 8, 0, 0, 0⟩)], cq := [(0, ⟨0, 8, 0, 0, false, []⟩)] } }
        [(Obj.FN_PF_CONFIG, 0, 1 + 3 * 2)]
     lookup? s.stg.sq (qpKey 0 0) = some ⟨0, 8, 0, 0, 0⟩ ∧ lookup? s.stg.cq (qpKey 0 0) = some ⟨0, 8, 0, 0, false, []⟩ ∧
       0 < s.qpCount 0 ∧ s.persona 0 = 3 ∧ (s.after 1).reach 0 = .takes) ∧
    (let s := qpUp.setFn 0 { qpUp.fn 0 with qpcStatus := 5 }
     (s.after 1).reach 0 = .takes ∧ (s.fn 0).qpcStatus = 5) := by
  decide +kernel

/-- A descriptor of one buffer of 64 B that ends its packet. -/
def txd : Bytes := toLe 8 0x9000 ++ toLe 8 (64 + 2 ^ 16) ++ List.replicate 16 0

/-- What a read for a command came to: got, lost or wait. -/
def came (x : Fetched) : Nat :=
  match x with
  | .got _ _ => 1
  | .lost _ => 2
  | .wait _ => 3

/-- Pair 0 of core-side function 0x800 in turn, and its one descriptor a packet of 64 B. -/
def coreTx : State :=
  { put (coreQp 1) [(Obj.FN_QP_COUNT + 2, 0, 8)] with core := { netUp.core with mem := memWrite [] 0x1000 txd } }

/-- A receive pair 0 of core-side function 0x800 whose descriptor names a buffer of 64 B. -/
def coreRx : State :=
  one { put ((coreQp 2).setFn 0x800 { Fn.fresh with steer := [(0, 2 ^ 31)] }) [(Obj.FN_QP_COUNT + 2, 0, 8)] with
    core := { netUp.core with mem := memWrite [] 0x1000 (toLe 8 (appBase + 0x9000) ++ toLe 8 64 ++ List.replicate 16 0) } }
    { pkt with loc := .staged, dest := 0x800 }

theorem wit_PacketRingsMovePackets :
    (let x := { Qp.fresh (1 + 6 * 2 ^ 4 + 6 * 2 ^ 9) 0x1000 0x2000 0 0 with prod := 1 }
     let u := qpUp.after 1
     let v := u.setFn 0 { u.fn 0 with ats := true }
     qpUp.alive = true ∧ ((qpUp.tick 1).txPick (arbOf 0)).1 = some 0 ∧ (qpUp.tick 1).txPair 0 = some 0 ∧
       qpUp.qp? 0 0 = some x ∧ qpUp.mayAnswer 0 (.data txd) = true ∧
       came (u.fetch 0 0 x (u.ringAttr 0 x) (x.txSlots (.data txd)) (.data txd)) = 1 ∧ x.txPacket (.data txd) txd = some [txd] ∧
       x.txPacket (.data txd) (List.replicate 32 0) = none ∧
       came (u.fetch 0 0 x (u.ringAttr 0 x) (x.txSlots (.failed .error)) (.failed .error)) = 2 ∧
       came (v.fetch 0 0 x (v.ringAttr 0 x) (x.txSlots (.data txd)) (.data txd)) = 3) ∧
    (let x := { qp 1 with sqBase := appBase + 0x1000, cqBase := appBase + 0x2000 }
     let u := coreTx.after 1
     (coreTx.tick 1 |>.txPick (arbOf 0x800)).1 = some 0x800 ∧ (coreTx.tick 1).txPair 0x800 = some 0 ∧
       coreTx.qp? 0x800 0 = some x ∧ coreFid 0x800 = true ∧
       came (u.fetch 0x800 0 x (u.ringAttr 0x800 x) (x.txSlots (.data [])) (.data [])) = 1 ∧ (x.txPacket (.data []) txd).isSome = true) := by
  decide +kernel

theorem wit_PacketRingsMovePackets_ends :
    (let w : Work := ⟨1, 0, 0, 0, 1, [(0x9000, 60, 0)], [], [(0, frame)], 0, false, 0⟩
     let s := { qpUp with hs := { qpUp.hs with works := [w] } }
     (s.fn 0).reset = 0 ∧ s.work? 0 0 = some w ∧ w.done = true ∧ s.stageRoom 0 0 = true ∧ s.mode.mode ≠ .vigil ∧ w.status = 0 ∧
       ({ w with status := 3 } : Work).done = true ∧ ((s.qp? 0 0).map fun x => x.kind) = some 1 ∧
       (let u := put { s with mode := ModeSt.reset } [(Obj.NET_LINK_STATE, s.rescuePort, 4)]
        u.mode.mode = .vigil ∧ u.alive = true ∧ u.work? 0 0 = some w ∧ u.cfg (Obj.NET_LINK_STATE + u.rescuePort) = 4)) ∧
    (let s := one qpUp { pkt with loc := .staged }
     s.stagedFor 0 = some { pkt with loc := .staged } ∧ s.mayAnswer 0 (.data []) = true ∧ s.mode.mode ≠ .vigil ∧
       (match (s.after 1).rxTest 0 { pkt with loc := .staged } with | .inl c => c == Obj.HST_DROP_NO_RXQ | _ => false) = true) ∧
    (let x := { qp 2 with sqBase := appBase + 0x1000, cqBase := appBase + 0x2000 }
     let p := { pkt with loc := .staged, dest := 0x800 }
     let u := coreRx.after 1
     coreRx.stagedFor 0x800 = some p ∧
       (match u.rxTest 0x800 p with | .inr (y, z) => y == 0 && z == x | _ => false) = true ∧ (coreRx.fn 0x800).stalled = false ∧
       coreRx.mayWrite 0x800 = true ∧ x.kind ≠ 8 ∧ x.page = none ∧ coreFid 0x800 = true ∧
       came (u.fetch 0x800 0 { x with fail := false } (u.ringAttr 0x800 x) (x.slots (x.rxCount (coreFid 0x800) (.data []))) (.data []))
         = 1 ∧ (takeBuffers 0 (entries x.sqEntrySize (toLe 8 (appBase + 0x9000) ++ toLe 8 64 ++ List.replicate 16 0)) p.len).isSome = true) ∧
    (let c := 1 + 6 * 2 ^ 4 + 6 * 2 ^ 9 + 2 ^ 28 + 5 * 2 ^ 29
     let x := { Qp.fresh c 0x1000 0x2000 0 0 with pend := 1 }
     let s := qpUp.setQp 0 0 x
     s.qp? 0 0 = some x ∧ bit x.ctrl 28 = true ∧ x.pend ≠ 0 ∧ fld x.ctrl 29 10 ≠ 0 ∧
       x.pendAt + fld x.ctrl 29 10 * 1000 ≤ s.clock + 5000) := by
  decide +kernel

/-- PF0 of HA controls PF1, and its pair 0 is PF1's log ring. -/
def migUp : State :=
  let s := put hostUp [(Obj.FN_PF_CONFIG, 1, 1), (Obj.FN_QP_COUNT, 0, 8), (Obj.FN_QP_COUNT, 1, 8)]
  (s.setFn 0 { Fn.fresh with bme := true, migFid := 1, migArg1 := 2 ^ 20 }).setQp 0 0
    (Qp.fresh (5 + 6 * 2 ^ 9) 0 0x2000 0 (4 * 2 ^ 24 + 1 * 2 ^ 32))

/-- The same with PF1 held. -/
def migHeld : State := migUp.setFn 1 { Fn.fresh with held := true }

/-- A state image of nothing, whose length field says that only the header counts. -/
def noBody : MigBody := { qps := [], msix := [], pba := [], pend := [], steer := [], page := [], isr := 0, nvme := none, sq := [], cq := [] }

/-- Its header. -/
def noBodyHdr : Bytes :=
  let h := toLe 8 (1 + 64 * 2 ^ 32) ++ List.replicate 56 0
  splice h 20 (toLe 4 (crc32c 0 h))

theorem wit_MigrationCommandsRun :
    (∀ s ∈ [migUp, migHeld], s.alive = true ∧ (s.after 1).reach 0 = .takes ∧ s.controls 0 = true ∧ (s.fn 0).migStatus % 256 ≠ 5 ∧
      s.migTarget 0 = some 1) ∧
    (migUp.logRing? 1 ≠ none ∧ (migUp.fn 1).logOn = false ∧ (∀ x ∈ migUp.qpsOf 1, bit x.2.ctrl 55 = false) ∧
      (migUp.fn 1).held = false ∧ (migHeld.fn 1).held = true ∧ coreFid 0 = false) ∧
    (let s := migUp.setFn 1 { Fn.fresh with logOn := true }
     (s.after 1).reach 0 = .takes ∧ s.migTarget 0 = some 1 ∧ (s.fn 1).logOn = true) ∧
    (let b := (migHeld.after 1).migBody 1
     imageLen b.span (migHeld.fnCfg Obj.FN_VECTORS 1) b.stagedCount ≤ (migHeld.fn 0).migArg1 ∧
       (({ migHeld with hs := { migHeld.hs with fn := assoc migHeld.hs.fn 0 { migHeld.fn 0 with migArg1 := 9 } } } : State).fn 0).migArg1
         < imageLen b.span (migHeld.fnCfg Obj.FN_VECTORS 1) b.stagedCount) ∧
    migHeld.qpsOf 1 = [] ∧
    (let s := migUp.setFn 1 { Fn.fresh with held := true, holding := some (0, 0) }
     (s.fn 1).holding = some (0, 0) ∧ (s.after 1).heldIdle 1 = true ∧ (s.tick 1).heldIdle 1 = true ∧
       (let u := { s with hs := { s.hs with reqs := [{ rd with fid := 1 }] } }
        (u.fn 1).holding = some (0, 0) ∧ (u.after 1).heldIdle 1 = false ∧
          0 + u.cfg Obj.MIG_HOLD_LIMIT_MS * 1000000 ≤ u.clock + 500000000)) := by
  decide +kernel

theorem wit_MigrationCommandsRun_restore : (migHeld.after 1).imageOk 1 noBodyHdr noBody = true := by
  have h : fld (leWord noBodyHdr 0) 32 32 = 64 := by decide +kernel
  have e : imageRest 64 noBody = [] := by simp [imageRest, padTo]
  simp only [State.imageOk, h, e]
  decide +kernel
/-! ### Witnesses: cipher jobs, storage, management, cores -/

/-- A lookaside descriptor of an operation with this parameter address. -/
def ld (op param : Nat) : Bytes := toLe 8 0x9000 ++ toLe 8 0xA000 ++ toLe 8 (op * 2 ^ 21) ++ toLe 8 param

/-- Host function 0 with a lookaside ring. -/
def laUp : State := (put hostUp [(Obj.FN_QP_COUNT, 0, 8)]).setQp 0 0 (qp 6)

/-- The algorithm that a test of an operation uses. -/
def algOf (op : Nat) : Nat := (laAlgs op).headD 0

/-- A core-side function's lookaside ring with a descriptor of an operation on 512 B, its parameter block, and slot 3. -/
def laCore (op : Nat) : State :=
  let d := toLe 8 (appBase + 0x3000) ++ toLe 8 (appBase + 0x4000) ++ toLe 8 (512 + op * 2 ^ 21) ++ toLe 8 (appBase + 0x5000)
  let p := toLe 8 (if op ≤ 8 then 3 + algOf op * 2 ^ 40 else 0) ++ toLe 8 9 ++ List.replicate 112 0
  let m := memWrite (memWrite (memWrite [] 0x1000 d) 0x3003 [1, 251]) 0x5000 p
  { coreQp 6 with
    core := { netUp.core with mem := m }
    cry := { netUp.cry with
      slots := [(3, { direct := true, alg := algOf op, key := List.replicate 64 1, gen := 1, revoking := false })] } }

/-- A key was found. -/
def isKey (x : KeyRes) : Bool :=
  match x with
  | .key _ _ => true
  | _ => false

theorem wit_LookasideOperationsAreTakenInTurn :
    (laUp.traffic = true ∧ (laUp.tick 1).laEnded 0 0 = none ∧ (laUp.tick 1).laNext 0 0 = true ∧ laUp.qp? 0 0 = some (qp 6) ∧
      laUp.mayAnswer 0 (.data []) = true) ∧
    (∀ op ∈ [1, 2, 3, 4, 5, 6, 7, 8, 9, 10],
      let u := laUp.after 1
      let v := u.setFn 0 { u.fn 0 with ats := true }
      laIs op (laUp.jobDesc 0 (qp 6) (.data (ld op 0x41))) = true ∧ came (u.jobFetch 0 0 (qp 6) (.data (ld op 0x41))) = 1 ∧
        came (v.jobFetch 0 0 (qp 6) (.data (ld op 0x41))) = 3 ∧ ldOp (ld op 0x41) = op ∧ ldParam (ld op 0x41) % 64 ≠ 0) ∧
    (laIs 1 (laUp.jobDesc 0 (qp 6) (.failed .error)) = true ∧
      came ((laUp.after 1).jobFetch 0 0 (qp 6) (.failed .error)) = 2) := by
  decide +kernel

theorem wit_LookasideOperationsAreTakenInTurn_data :
    (∀ op ∈ [1, 2, 3, 4, 5, 6, 7, 8],
      let s := laCore op
      let x := (s.qp? 0x800 0).getD (qp 0)
      let d := (s.jobDesc 0x800 x (.data [])).getD []
      let p := (s.appRead (ldParam d) 128).getD []
      let src := (s.appRead (ldSrc d) (ldLen d)).getD []
      s.traffic = true ∧ (s.tick 1).laEnded 0x800 0 = none ∧ (s.tick 1).laNext 0x800 0 = true ∧ coreFid 0x800 = true ∧
        (s.qp? 0x800 0).isSome = true ∧ x.fail = false ∧ (s.jobDesc 0x800 x (.data [])).isSome = true ∧ ldOp d = op ∧
        fld (leWord d 2) 28 4 = 0 ∧ ldParam d % 64 = 0 ∧ (s.appRead (ldParam d) 128).isSome = true ∧ pbBad p = false ∧
        pbAlg p ∈ laAlgs op ∧ laLenOk op d p = true ∧ (s.appRead (ldSrc d) (ldLen d)).isSome = true ∧ tlsBad op d src = false ∧
        isKey (((s.after 1).setCry { s.cry with ring := qpKey 0x800 0 }).ringKey (qpKey 0x800 0) (pbSlot p) (pbAlg p) (pbLabel p))
          = true) := by
  decide +kernel

theorem wit_LookasideOperationsAreTakenInTurn_sas :
    (∀ op ∈ [9, 10],
      let s := put (laCore op) [(Obj.CIPH_SA_WRITER, 0, (2 ^ 15 + 0x800 + 1000 * 2 ^ 35) * 2 ^ 64 + 8191 * 2 ^ 16)]
      let x := (s.qp? 0x800 0).getD (qp 0)
      let d := (s.jobDesc 0x800 x (.data [])).getD []
      (s.tick 1).laEnded 0x800 0 = none ∧ (s.tick 1).laNext 0x800 0 = true ∧ (s.qp? 0x800 0).isSome = true ∧
        (s.jobDesc 0x800 x (.data [])).isSome = true ∧ laIs op (s.jobDesc 0x800 x (.data [])) = true ∧ ldOp d = op ∧
        fld (leWord d 2) 28 4 = 0 ∧ fld (leWord d 2) 19 2 = 0 ∧ ldParam d % 64 = 0 ∧
        (s.appRead (ldParam d) 128).isSome = true ∧ s.saWriter 0x800 (ldSa d) none = true ∧
        (op = 9 → (s.after 1).saStatus 0x800 (ldSa d) ((s.appRead (ldParam d) 128).getD []) = 0)) ∧
    (∀ op ∈ [1, 2, 3, 4, 5, 6, 7, 8, 9, 10], ∀ st ∈ [0, 2],
      let r : LaRun := { fid := 0x800, q := 0, desc := toLe 8 0 ++ toLe 8 (appBase + 0x4000) ++ toLe 8 (op * 2 ^ 21) ++ toLe 8 0,
                         ends := 0, slot := none, status := st, res := ⟨[1, 2], 0, some 0, false⟩ }
      let s := { laCore op with hs := { (laCore op).hs with runs := [r] } }
      (s.tick 1).laEnded 0x800 0 = some r ∧ laIs op (some r.desc) = true ∧ s.inApp (ldDst r.desc) r.res.out.length = true) := by
  decide +kernel

/-- An NVMe function with its admin queues enabled, an I/O queue of each kind, and two entries to fetch. -/
def nvUp : State :=
  let s := ((put hostUp [(Obj.FN_PF_CONFIG, 0, 1 + 3 * 2), (Obj.FN_QP_COUNT, 0, 8), (Obj.FN_VECTORS, 0, 8)]).setQp 0 0
    (qp 0)).setQp 0 1 (qp 0)
  let n : Nvme := { cc := 1, csts := 1, aqa := 0, asq := 0, acq := 0, thr := 0, time := 0 }
  let q : NvSq := { base := 0x1000, size := 64, head := 0, tail := 2, cqid := 0 }
  let c : NvCq := { base := 0x2000, size := 64, head := 0, tail := 0, phase := true, wait := [] }
  { s with stg := { s.stg with nvme := [(0, n)], sq := [(0, q), (1, q)], cq := [(0, c), (1, c)] } }

/-- An admin entry of an opcode about queue `q` of 16 entries, with command dword 11. -/
def sqe (op q dw11 : Nat) : Bytes :=
  toLe 4 op ++ List.replicate 20 0 ++ toLe 8 0x8000 ++ List.replicate 8 0 ++ toLe 4 (q + 15 * 2 ^ 16) ++ toLe 4 dw11
    ++ List.replicate 16 0

/-- A service pair of core-side function 0 in whose slot lies this descriptor. -/
def svc (d : Bytes) : State :=
  let s := coreQp 7
  { s with core := { s.core with mem := memWrite [] 0x1000 d } }

/-- The descriptor of a service operation with its address, tag and units. -/
def psRec (op addr tag units : Nat) : Bytes := toLe 8 addr ++ toLe 8 tag ++ toLe 8 units ++ toLe 8 op

/-- A write of one unit from host memory at 0x8000, held by core software as tag 1. -/
def cmd1 : StgCmd :=
  { gen := 0, fid := 0, queue := 1, record := List.replicate 32 0 ++ sqe 1 0 0, chain := [], svc := qpKey 0x800 0, passed := true }

/-- The service pair of core-side function 0x800 beside the NVMe function, with that command and one format. -/
def svcUp (d : Bytes) : State :=
  let s := ((put nvUp [(Obj.MEM_APP_SIZE, 0, 65536), (Obj.FN_ENABLE + 2, 0, 1), (Obj.STG_SVC, 0, 2 ^ 31)]).setQp 0x800 0
    { qp 7 with sqBase := appBase + 0x1000, cqBase := appBase + 0x2000 }).setFn 0x800 { Fn.fresh with page := [(0x1400, 1)] }
  { s with core := { s.core with mem := memWrite [] 0x1000 d }, stg := { s.stg with cmds := [(1, cmd1)] } }

theorem wit_StorageControllersQueuesAndCommands :
    (let s := put hostUp [(Obj.FN_PF_CONFIG, 0, 1 + 3 * 2), (Obj.FN_QP_COUNT, 0, 8)]
     (s.after 1).reach 0 = .takes ∧ s.persona 0 = 3 ∧ bit 1 0 = true ∧ bit (s.nvme 0).cc 0 = false ∧ s.qpCount 0 ≠ 0) ∧
    ((nvUp.after 1).reach 0 = .takes ∧ bit 0 0 = false ∧ bit (nvUp.nvme 0).cc 0 = true ∧ fld (2 ^ 14) 14 2 ≠ 0) ∧
    (∀ e ∈ [sqe 1 2 1, sqe 0 1 0, sqe 5 2 1, sqe 4 1 0],
      let u := nvUp.after 1
      nvUp.alive = true ∧ (nvUp.tick 1).nvmeFetch 0 0 = true ∧ nvUp.qp? 0 0 = some (qp 0) ∧
        came (u.fetch 0 0 (qp 0) (u.ringAttr 0 (qp 0)) [(u.sqFront 0 0, 64, false)] (.data e)) = 1) ∧
    (let e := sqe 1 2 (1 + 2 ^ 16)
     sqeOp e = 1 ∧ fld (sqeDw e 10) 0 16 = 2 ∧ 2 < nvUp.qpCount 0 ∧ lookup? nvUp.stg.sq (qpKey 0 2) = none ∧
       fld (sqeDw e 11) 16 16 ≠ 0 ∧ lookup? nvUp.stg.cq (qpKey 0 (fld (sqeDw e 11) 16 16)) ≠ none ∧
       1 ≤ fld (sqeDw e 10) 16 16 ∧ bit (sqeDw e 11) 0 = true ∧ sqePrp1 e % (nvUp.nvme 0).page = 0) ∧
    (sqeOp (sqe 0 1 0) = 0 ∧ lookup? nvUp.stg.sq (qpKey 0 1) ≠ none ∧
      (let e := sqe 5 2 1
       sqeOp e = 5 ∧ lookup? nvUp.stg.cq (qpKey 0 2) = none ∧ fld (sqeDw e 11) 16 16 < nvUp.fnCfg Obj.FN_VECTORS 0) ∧
      sqeOp (sqe 4 1 0) = 4 ∧ lookup? nvUp.stg.cq (qpKey 0 1) ≠ none ∧ (∀ y ∈ nvUp.stg.sq, y.1 / 65536 = 0 → y.2.cqid ≠ 1)) := by
  decide +kernel

theorem wit_StorageControllersQueuesAndCommands_arrival :
    (let u := nvUp.after 1
     lookup? nvUp.stg.cmds 9 = none ∧ nvUp.persona 0 = 3 ∧ (nvUp.tick 1).nvmeFetch 0 1 = true ∧ nvUp.qp? 0 1 = some (qp 0) ∧
       nvUp.mayAnswer 0 (.data (sqe 1 0 0)) = true ∧
       came (u.fetch 0 1 (qp 0) (u.ringAttr 0 (qp 0)) [(u.sqFront 0 1, 64, false)] (.data (sqe 1 0 0))) = 1) ∧
    (let s := (put hostUp [(Obj.FN_PF_CONFIG, 0, 1 + 2 * 2), (Obj.FN_QP_COUNT, 0, 8)]).setQp 0 0 (qp 8)
     let u := s.after 1
     s.persona 0 = 2 ∧ (s.tick 1).vblkFetch 0 0 = true ∧ s.qp? 0 0 = some (qp 8) ∧
       came (u.fetch 0 0 (qp 8) (u.ringAttr 0 (qp 8)) [(0x8000, 16, false)] (.data [])) = 1) ∧
    ((svcUp []).svcPair 0 = some (qpKey 0x800 0) ∧ lookupD (svcUp []).stg.posts (qpKey 0x800 0) [] = [] ∧
      (let s := { svcUp [] with stg := { (svcUp []).stg with posts := [(qpKey 0x800 0, [(7, 8)])] } }
       lookupD s.stg.posts (qpKey 0x800 0) [] = (7, 8) :: [])) := by
  decide +kernel

theorem wit_StorageControllersQueuesAndCommands_svc :
    (∀ op ∈ [1, 2, 3],
      let s := svc (psRec op 0 0 0)
      s.alive = true ∧ s.jobReady 0x800 0 7 = true ∧ psBad (psRec op 0 0 0) = false ∧ psOp (psRec op 0 0 0) = op ∧
        (match s.qp? 0x800 0 with
         | some x => s.jobDesc 0x800 x (.data []) == some (psRec op 0 0 0) &&
             (s.jobDesc 0x800 { x with sqBase := 2 ^ 40 } (.data [])).isNone
         | none => false) = true ∧ s.stgCmd? (qpKey 0x800 0) 0 = none) ∧
    (psBad (psRec 0 0 0 0) = true ∧ psIs 1 (some (psRec 0 0 0 0)) = true) ∧
    (let d := psRec 1 (appBase + 0x6000) 0 0
     psBad d = false ∧ psAddr d % 64 = 0 ∧ (svc d).inApp (psAddr d) 128 = true ∧ (svc d).stg.waiting = []) ∧
    (let d := psRec 3 0 1 0
     (svcUp d).stgCmd? (qpKey 0x800 0) (psTag d) = some cmd1 ∧ fld (leWord d 1) 32 16 < 2 ^ 15 ∧ (svcUp d).persona 0 = 3) ∧
    (let d := psRec 2 (appBase + 0x6000) 1 1
     let s := svcUp d
     let mem : List (Nat × Bytes) := [(0x8000, List.replicate 512 3)]
     s.jobReady 0x800 0 7 = true ∧ psOp d = 2 ∧ psBad d = false ∧ s.stgCmd? (qpKey 0x800 0) (psTag d) = some cmd1 ∧
       psUnits d ≠ 0 ∧ psXts d = false ∧ psDir d = false ∧
       (match s.format 0x800 (psFormat d) with
        | some m =>
          (match (s.after 1).walk cmd1 m d mem with
           | .ok (segs, _) => segs == [(0x8000, 512)] && (segs.mapM fun g => hostBytes mem g.1 g.2).isSome
           | .error _ => false) && !m.separate && s.inApp (psAddr d) (psUnits d * (m.unit + m.appMd)) &&
            hostBytes mem 0 0 == some []
        | none => false) = true ∧
       s.qp? cmd1.fid cmd1.queue = some (qp 0) ∧ (qp 0).page = none ∧ s.mayRead 0 = true ∧ s.tagReady 0 = true ∧
       (s.fn 0).ats = false ∧ coreFid 0 = false ∧ (qp 0).fail = false) := by
  decide +kernel

/-- A hello that is in order. -/
def hello : Hello :=
  { suites := [0x1302], groups := [0x18], sigs := [0x0503], root := 0, sound := true, dated := true, peer := 1, cert := 2,
    at_ := 0, num := 1 }

/-- A frame that asks MA for its link-local address. -/
def asks (s : State) : MgmtFrame := { len := 86, tag := none, ask := 1, addr := s.linkLocal 0, auto := false }

/-- MB is the mailbox of PF0. -/
def mbx : State := put (mg hostUp) [(Obj.MGMT_MB_TRANSPORT, 0, 1)]

theorem wit_ManagementPortsOpenAndCloseSessions :
    (up.alive = true ∧ up.frameOk 0 (asks up) = true ∧ up.ownAddr 0 (asks up) = true ∧ (asks up).ask < 4 ∧
      up.frameOk 0 { asks up with tag := some 9 } = false ∧ up.ownAddr 0 { asks up with addr := 0 } = false) ∧
    (up.hasAddr 0 hello.at_ = true ∧ hello.num ∈ up.freeSess 0 ∧ up.helloOk hello = true ∧
      up.helloOk { hello with sound := false } = false ∧ up.hasAddr 0 2 = false) ∧
    ({ up with mgmt := { up.mgmt with sessions := (List.range 8).map fun n => { sess with num := n + 1 } } } : State).freeSess 0 = [] ∧
    (mg up).hears (0, 1) = true ∧ ((mg up).tick 60000000000).sessStale (0, 1) = true ∧
    (mbx.mailbox = true ∧ (mbx.after 1).reach 0 = .takes ∧ mbx.mgmt.h2dBusy = false ∧ fld 1280 0 11 ≤ 1280 ∧ 1 ≤ fld 1 0 11 ∧
      1280 < fld 1281 0 11 ∧ fld 0 0 11 = 0) ∧
    (let s := { mbx with mgmt := { mbx.mgmt with d2h := [frame], d2hReady := true, h2dBusy := true } }
     s.mailbox = true ∧ (s.after 1).reach 0 = .takes ∧ bit 1 0 = true ∧ s.mgmt.d2hReady = true ∧ s.mgmt.h2dBusy = true) := by
  decide +kernel

/-- Hart 0 runs. -/
def running : State := { coreUp with core := { coreUp.core with harts := .running :: List.replicate 31 .waitIpi } }

theorem wit_CoresAskAndAccessMemory :
    (∀ op ∈ [1, 2, 3],
      let v := if op = 1 then 1 + 800 * 2 ^ 16 else op
      csmOp v = op ∧ up.mgmt.csmReq = none ∧ ({ up with mgmt := { up.mgmt with csmReq := some v } } : State).mgmt.csmReq = some v) ∧
    (running.alive = true ∧ running.core.harts[0]? = some .running ∧ running.inApp (appBase + 65528) 8 = true ∧
      running.inApp (appBase + 65529) 8 = false ∧ running.poisoned (appBase + 65528 - appBase) 8 = false ∧
      ({ running with flt := { running.flt with poison := [1023] } } : State).poisoned (appBase + 65528 - appBase) 8 = true ∧
      (match running.coreAt (appBase + 65529) 8 with | .reserved => true | _ => false) = true) := by
  decide +kernel
/-! ### Witnesses: start-up, power, images, faults, the package -/

/-- VIGIL after the chip has started, with or without its memory. -/
def vigil : State :=
  { State.reset with pwr := { Power.reset with rails := .run, resetN := true, vin := true }, hs := { HostSide.reset with perst := [] } }

/-- A frame to every station. -/
def allFrame : Bytes := List.replicate 6 255 ++ List.replicate 54 0

theorem wit_StartUpRunsInItsSteps :
    (State.reset.pwr.rails = .held ∧ State.reset.pkg.jtag = false ∧ State.reset.pwr.tripped = false ∧
      State.reset.pwr.ovLatch = false ∧ up.pwr.resetN = true) ∧
    (let s := { State.reset with pwr := { Power.reset with rails := .boot, resetN := true } }
     s.pwr.rails = .boot ∧ s.pkg.vflashOff = none) ∧
    (vigil.alive = true ∧ vigil.mode.mode = .vigil ∧ vigil.pwr.hbmDone = false) ∧
    (let s := { vigil with pwr := { vigil.pwr with hbmDone := true }, img := fw.img }
     s.pwr.hbmDone = true ∧ s.pwr.svcRunning = false ∧ s.runBank = some 0 ∧ s.pkg.vflashOff = none ∧
       (s.tick 1).serviceCode [] 0 0 = 0) ∧
    (let s := { vigil with pwr := { vigil.pwr with hbmDone := true, svcRunning := true } }
     let v := Ver.with_ Ver.empty s.ep.openNum (s.tick 1).epochOne
     s.ep.live = [] ∧ s.ep.applying = [] ∧ (s.tick 1).badImage = none ∧ (s.tick 1).checkVer v v.held = none) ∧
    (let s := put vigil [(Obj.NET_LINK_STATE + vigil.rescuePort, 0, 4)]
     s.cfg (Obj.NET_LINK_STATE + s.rescuePort) = 4 ∧ allFrame.length ≤ 9600 ∧ s.rescueTakes allFrame = true ∧
       s.rescueTakes (List.replicate 60 0) = false ∧ 60 ≤ allFrame.length ∧ beNat (slice allFrame 12 2) ≠ 0x8808 ∧ 59 < 60 ∧ 9600 < (List.replicate 9601 (0 : Byte)).length) := by
  decide +kernel

theorem wit_DrainAndDormantEnd :
    (let s := { up with mode := { ModeSt.reset with mode := .drain } }
     s.alive = true ∧ s.cfg Obj.MODE_DRAIN_DONE = 0 ∧ (s.tick 1).drainOver = true ∧ s.pwr.drainForced = false ∧
       s.pwr.drainAt + s.pwr.drainLimit * 1000000 ≤ s.clock + 1) ∧
    (let s := { up with mode := { ModeSt.reset with mode := .dormant, step := 3 } }
     s.alive = true ∧ s.pwr.entering = false ∧ s.pwr.rails = .run ∧
       (∀ a ∈ [3, 4],
         let e := { s with pwr := { s.pwr with entering := true, aim := a } }
         e.alive = true ∧ e.pwr.entering = true ∧ e.pwr.wakePending = false ∧ e.pwr.aim = a) ∧
       ({ s with pwr := { s.pwr with exit := some 1 } } : State).pwr.exit = some 1 ∧
       (let w := put s [(Obj.PWR_WAKE_SRC, 0, 12), (Obj.PWR_WAKE_AT, 0, 1), (Obj.PWR_WAKE_GPIO, 0, 5)]
        bit (w.cfg Obj.PWR_WAKE_SRC) 3 = true ∧ bit (w.cfg Obj.PWR_WAKE_SRC) 2 = true ∧ w.cfg Obj.PWR_WAKE_AT ≠ 0 ∧
          w.cfg Obj.PWR_WAKE_AT ≤ w.now + 1 ∧ w.cfg Obj.PWR_WAKE_GPIO = 5) ∧
       ({ s with pwr := { s.pwr with rails := .island } } : State).pwr.entering = false) := by
  decide +kernel

theorem wit_PowerStepsSensorsAndSupplies :
    (let s := put up [(Obj.PWR_AUTO_MAX, 0, 2), (Obj.CENSUS_EN, 0, 0)]
     s.alive = true ∧ s.mode.mode = .service ∧ s.mode.step = 0 ∧ 1 ≤ s.cfg Obj.PWR_AUTO_MAX ∧ (s.tick 10000000000).quiet = true ∧
       s.pwr.busyAt + s.cfg Obj.PWR_IDLE_US * 1000 ≤ s.clock + 10000000000 ∧
       (let t := { s with mode := { s.mode with step := 1 } }
        t.step2Blockers = 0 ∧ t.pwr.idleAt + t.cfg Obj.PWR_QUIET_US * 1000 ≤ t.clock + 10000000000)) ∧
    (let s := put { netUp with mode := { netUp.mode with step := 2 }, pwr := { netUp.pwr with lpi := 1 } } [(Obj.NET_PORT_LPI, 0, 1)]
     s.mode.step = 2 ∧ s.portUp 0 = true ∧ s.usesLpi 0 = true) ∧
    (let s := { up with pwr := { up.pwr with sensorAt := some 0, supplyAt := some 0 } }
     (∀ a, s.pwr.sensorAt = some a → a = 0) ∧ s.clock + 99999 < 0 + 100000 ∧ 0 + 1000000 ≤ s.clock + 1000000 ∧
       (∀ a, s.pwr.supplyAt = some a → a = 0)) ∧
    (let s := { up with core := { up.core with mtimecmp := [(3, 1)] } }
     lookup? s.core.mtimecmp 3 = some 1 ∧ 1 ≤ s.now + 1) ∧
    (List.replicate 48 (0 : Int)).length = 48 ∧ up.pwr.rails ≠ .off := by
  decide +kernel

/-- The first 128 B of a container of the owner's with no body, under the key in slot 3: its hash field holds the SHA-384 of no
bytes, as FIPS 180-4 gives it, and its tag was computed outside this model, by FIPS 197 and SP 800-38D. -/
def emptyBody : Bytes :=
  toBe 128 ((2 ^ 40 + 3) * 2 ^ 840 + 0xad9add8d4086726785e99cc6a035dd12 * 2 ^ 384 +
    0x38b060a751ac96384cd9327eb1b1e36a21fdb71114be07434c0cc7bf63f6e1da274edebfe76f65fbd51ad2f14898b95b)

/-- The state with a firmware write of slot 2 whose container has arrived. -/
def writing (c : Bytes) : State :=
  { up with img := { up.img with writes := [{ slot := 2, closed := some c }] }, cry := { up.cry with slots := [(3, slot)] } }

/-- The body key of that container, by SP 800-108 and RFC 4493, computed outside this model. -/
theorem test_body_key : (writing emptyBody).bodyKey emptyBody = toBe 32 0x5738c4d90259d052836bb52d88ff1b98ef9fa70c54a9e1790e1bd17291f3a90a := by
  decide +kernel

theorem wit_StoresAndPairsAreWritten_body : (writing emptyBody).checkBody emptyBody = 0 := by
  simp only [State.checkBody, State.openBody, test_body_key]
  decide +kernel

theorem wit_StoresAndPairsAreWritten :
    ((writing emptyBody).alive = true ∧ (writing emptyBody).fwClosed 2 = some emptyBody ∧
      (writing emptyBody).pkg.vflashOff = none ∧
      (writing frame).fwClosed 2 = some frame ∧ (writing frame).checkBody frame ≠ 0) ∧
    ({ up with dict := { up.dict with toFlash := [(okey Obj.MGMT_SEM_LEASE_S 0, 5)] } } : State).dict.toFlash =
      [(okey Obj.MGMT_SEM_LEASE_S 0, 5)] ∧
    ({ up with store := { up.store with coming := [(.pipe none, 9)] } } : State).store.coming = (.pipe none, 9) :: [] ∧
    (up.pwr.svcRunning = true ∧ up.img.standby = false ∧ up.img.takeover = false ∧ up.img.act = none) ∧
    (let s := { up with img := { up.img with takeover := true } }
     s.img.takeover = true ∧ s.mgmt.deferred = []) := by
  decide +kernel

/-- An activation in SERVICE, and one whose switch has begun. -/
theorem wit_HandoversRunToTheirEnd :
    let act := fun (a : Activ) => { fw with img := { fw.img with act := some a } }
    let a : Activ := { form := 2, t := 1, target := 1, ready := false, started := false }
    ((act a).alive = true ∧ (act a).img.act = some a ∧ a.form ≤ 2 ∧ a.started = false ∧ a.ready = false) ∧
    (act { a with ready := true }).commitsDone = true ∧ (act a).mode.mode = .service ∧
    (a.t ≤ (act a).now + 1 ∧ (act a).now + 2000000001 ≤ a.t + 2000000000) ∧ a.t + 2000000000 < (act a).now + 2000000002 ∧
    (let s := { act { a with started := true } with mode := { ModeSt.reset with mode := .handover } }
     s.alive = true ∧ s.mode.mode = .handover ∧ s.mgmt.deferred = []) ∧
    ((act { a with form := 3 }).mode.mode ≠ .handover ∧ (act { a with form := 3 }).mode.mode ≠ .dormant ∧ a.t ≤ fw.now + 1) ∧
    ((act { a with form := 1, ready := true }).img.act = some { a with form := 1, ready := true }) := by
  decide +kernel

theorem wit_CellBlockAndPairFaultsAreHandled :
    up.alive = true ∧ up.mgmt.cycle = [] ∧ watched 0x11 = true ∧ up.flt.resets = [] ∧ up.flt.stackBad.contains (1 - 0) = false ∧
    (hostUp.alive = true ∧ hostUp.linkUp (2 * 0) = true ∧ hostUp.linkUp (2 * 0 + 1) = false ∧ hostUp.frozen 0 = false) ∧
    (let s := { up with flt := { up.flt with cells := [(70000, 8, 0, 2)] } }
     s.flt.cells = [(70000, 8, 0, 2)] ∧ 0 + 1000000000 ≤ s.clock + 1000000000) ∧
    (up.linkUp (2 * 0) = false ∧ up.linkUp (2 * 0 + 1) = false) ∧
    (({ up with img := { up.img with standby := true } } : State).canTakeOver = true ∧ up.canTakeOver = false) ∧
    (let s := { up with flt := { up.flt with held := [(70000, some 0)] } }
     s.flt.held = [(70000, some 0)] ∧ 0 + 1000000000 ≤ s.clock + 1000000000 ∧ 70000 / 65536 ≠ 5) := by
  decide +kernel

theorem wit_RegionsAreFencedTestedAndReturned :
    (up.alive = true ∧ up.mgmt.cycle = [] ∧ up.mode.fenced = none ∧ up.mode.mode = .service ∧ up.pwr.hbmDone = true ∧ up.flt.stackBad.contains 1 = false ∧
      ({ up with flt := { up.flt with stackBad := [1] } } : State).flt.stackBad.contains 1 = true) ∧
    (let d := { up with mode := { ModeSt.reset with mode := .degraded, fenced := some 1 }, flt := { up.flt with retestFrom := some 0 } }
     d.mode.fenced = some (1 - 0) ∧ d.mode.mode = .degraded ∧ d.mgmt.cycle = [] ∧
       (put d [(Obj.FLT_REGION_TEST_STATE, 0, 1)]).cfg Obj.FLT_REGION_TEST_STATE = 1 ∧ d.flt.retestFrom = some 0 ∧
       0 + d.cfg Obj.FLT_REGION_RETEST_S * 1000000000 ≤ d.clock + 100000000000000 ∧
       (put d [(Obj.FLT_REGION_TEST_STATE, 0, 2)]).cfg Obj.FLT_REGION_TEST_STATE = 2 ∧
       (put d [(Obj.FLT_REGION_TEST_STATE, 0, 3)]).cfg Obj.FLT_REGION_TEST_STATE = 3) := by
  decide +kernel

theorem wit_PackagePinsAct :
    tapQuiet .bypass = true ∧ tapQuiet .extest = false ∧
    (let s := { State.reset with pkg := { Package.reset with jtag := true } }
     s.pkg.jtag = true ∧ s.pwr.resetN = false) ∧
    (let s := { up with pwr := { up.pwr with rails := .held }, pkg := { Package.reset with jtag := true } }
     s.pkg.jtag = true ∧ s.pwr.resetN = true ∧ s.pwr.rails = .held ∧ s.pwr.tripped = false ∧ s.pwr.ovLatch = false ∧
       s.pwr.vin = true) ∧
    up.outputsPowered = true ∧ up.outputOff 1 = none ∧
    (({ up with pkg := { Package.reset with vioOff := some 0 } } : State).outputOff 0 = some 0 ∧
      0 + 100000000 ≤ up.clock + 100000000) := by
  decide +kernel

theorem wit_OutputPinsFollowFaultsAndSupplies :
    up.alive = true ∧ up.mgmt.cycle = [] ∧ up.pwr.rails ≠ .off ∧
    (let s := { State.reset with pwr := { Power.reset with rails := .boot, resetN := true } }
     s.pwr.rails = .boot ∧ s.pkg.vflashOff = none) ∧
    (let s := { State.reset with pwr := { Power.reset with rails := .off, tripped := true } }
     s.pwr.rails = .off ∧ s.pkg.jtag = false ∧ s.pwr.ovLatch = false ∧ s.pwr.tripped = true) ∧
    up.outputsPowered = true ∧ up.pkg.vioOff = none ∧ up.cfg Obj.TIME_PPS_OUT_EN = 0 := by
  decide +kernel

/-! ### Ill-formed commands, decoding, reset -/

/-- Each check refuses an operand one past its range, and takes the last one in it. -/
theorem test_wellformed :
    ([.netFrameReceive 0 16 [] true false, .read 0 2 1 [], .read 0 0 0 [], .read 0 0 9 [], .bulkIdleTimeout 0 0 1 5,
      .bulkIdleTimeout 0 0 1 0, .hello 0 8 [], .hotReset 0 4, .bridgeCrossing 0 2, .eccError 0 .cell 7 0 0 0 true,
      .eccError 0 .cell 0 256 0 0 true, .eccError 0 .cell 0 0 256 0 true, .schedulingDecision 0 0 27 ⟨false, []⟩,
      .carveOutFetch 0 131072 false, .flr 0 16384, .txDataComplete 0 0 65536, .coreMemoryAccess 0 32 0 0 none, .keyZeroise 0 8192,
      .fwWriteComplete 0 4, .hbmTrainingLoss 0 2, .scrubVisit 0 0 8 0 .same, .mmioWrite 0 0 1 0 4 0 ⟨1, false, false⟩, .mmioWrite 0 0 0 0 4 0 ⟨3, false, false⟩,
      .mmioWrite 0 0 0 0 3 0 ⟨1, false, false⟩,
      .mmioWrite 0 0 0 0 4 (2 ^ 64) ⟨1, false, false⟩, .submissionDoorbell 0 0 0 (2 ^ 32), .clockLoss 0 4, .outputRetry 0 2, .gpioWakeEdge 0 16,
      .ageScan 0 0 256 0, .coldStart 0 [0] true false false false, .sensorRead 0 []] : List Instr).all (fun i => !i.wf) = true ∧
    ([.netFrameReceive 0 15 [] true false, .read 0 1 8 [], .bulkIdleTimeout 0 0 1 4, .hello 0 7 [], .hotReset 0 3,
      .bridgeCrossing 0 1, .eccError 0 .cell 6 255 255 0 true, .schedulingDecision 0 1 26 ⟨false, []⟩, .carveOutFetch 0 131071 false,
      .flr 0 16383, .txDataComplete 0 0 65535, .coreMemoryAccess 0 31 0 0 none, .keyZeroise 0 8191, .fwWriteComplete 0 3,
      .hbmTrainingLoss 0 1, .scrubVisit 0 0 7 0 .same, .mmioWrite 0 0 7 0 8 (2 ^ 64 - 1) ⟨1, false, false⟩, .submissionDoorbell 0 0 0 (2 ^ 32 - 1),
      .clockLoss 0 3, .outputRetry 0 1, .gpioWakeEdge 0 15, .ageScan 0 0 255 0] : List Instr).all (fun i => i.wf) = true := by
  decide +kernel

/-- The command table gives no row any bits. -/
theorem test_decode : decodeTableWord 32 0 = none := rfl

/-- A placed command is the first that a step takes; no word spells one. -/
theorem test_place : State.reset.withFetchWord 32 0 = State.reset := rfl

/-- The calendar at reset is that of the default settings, and memory at reset is in its canonical form. -/
theorem test_reset_calendar : Weave.reset.cal = Ver.empty.cal ∧ Memory.wf State.reset.core.mem = true := by
  decide +kernel

/-- Defaults of Tables 02-9, 08-9, 11-17 and 13-11: NET_RX_MAX_FRAME, GATE_CYCLE_NS, FN_DRAIN_LIMIT_MS, FN_ENABLE of host and
core-side functions. -/
theorem test_defaults :
    State.reset.cfg Obj.GATE_CYCLE_NS = 1000000 ∧ State.reset.cfg Obj.FN_DRAIN_LIMIT_MS = 1000 ∧
      State.reset.cfg Obj.FN_ENABLE = 1 ∧ State.reset.cfg (Obj.FN_ENABLE + 2) = 0 ∧ State.reset.cfg Obj.CENSUS_PERIOD = 1000 := by
  decide +kernel

/-! ### Values that the manual's examples and the standards give -/

/-- FIPS 180-4: SHA-384 of "abc". -/
theorem test_sha384 : sha384 [97, 98, 99] = toBe 48
    0xcb00753f45a35e8bb5a03d699ac65007272c32ab0eded1631a8b605a43ff5bed8086072ba1e7cc2358baeca134c825a7 := by
  decide +kernel

/-- FIPS 197, appendix C.3. -/
theorem test_aes256 : natOf (aesEnc (roundKeys (List.range 32)) (listOf 16 0x00112233445566778899aabbccddeeff)) =
    0x8ea2b7ca516745bfeafc49904b496089 := by
  decide +kernel

/-- The printed substitution box is the defined one. -/
theorem test_sbox : (List.range 256).all (fun x => sbox x == sboxDef x) = true := by
  decide +kernel

/-- Chapter 9's example: the next hops of the flow with hash 0xB3A1 under the three entries for device 12. -/
theorem test_next_hop :
    deNext 0x00115307 0xB3A1 = 1 ∧ deNext 0x00110B05 0xB3A1 = 5 ∧ deNext 0x00115507 0xB3A1 = 2 ∧ deHops 0x00115307 = 2 := by
  decide +kernel

/-- Chapter 9's ring as device 10 sees it: W0 to W3 to device 11, W4 to W7 to device 13. -/
def ring : State :=
  let at_ := fun (a next prev : Nat) => (⟨a, a, (List.range 8).map fun l =>
    if l < 4 then (l, next, l + 4, 1) else (l, prev, l - 4, 1), 0⟩ : LsEntry)
  let s := { up with wv := { up.wv with lsdb := [at_ 10 11 13, at_ 11 12 10, at_ 12 13 11, at_ 13 10 12] } }
  put s ((Obj.WV_ADDR_EFFECTIVE, 0, 10) :: (List.range 8).flatMap fun l =>
    [(Obj.WV_LINK_STATE + l, 0, 2),
     (Obj.WV_LINK_PEER + l, 0, if l < 4 then 11 + (l + 4) * 2 ^ 10 + 2 ^ 13 else 13 + (l - 4) * 2 ^ 10 + 2 ^ 13)])

/-- The entry for device 12 that the example gives. -/
theorem test_ring_routes : lookup? ring.routes 12 = some 0x00115307 := by
  decide +kernel

/-- Table 08-4: the gate list of the example, and the gates open at the instants of Table 08-5. -/
theorem test_gate_list :
    let g : Gate := { enable := true, base := 0, cycle := 100000, entries := [0x4E2040, 0x0137543F, 0x12C80] }
    g.cyc.maskAt 0 = 0x40 ∧ g.cyc.maskAt 19999 = 0x40 ∧ g.cyc.maskAt 20000 = 0x3F ∧ g.cyc.maskAt 99699 = 0x3F ∧
      g.cyc.maskAt 99700 = 0x80 ∧ g.cyc.maskAt 100000 = 0x40 := by
  decide +kernel

/-- Table 11-18: a state image of 8 pairs, 16 vectors and 32 staged entries takes 71,424 B. -/
theorem test_image_length : imageLen 8 16 32 = 71424 := by
  decide


/-- Chapter 9's example: the entry once W1 is lost, and the one computed afterwards. -/
theorem test_ring_loss :
    pruneEntry 1 0x00115307 = 0x00110B05 ∧
      (let s := put { ring with wv := { ring.wv with lsdb := ring.wv.lsdb.map fun e => if e.origin = 11 then
          { e with links := e.links.filter fun x => x.1 != 5 } else { e with links := e.links.filter fun x => !(e.origin == 10 && x.1 == 1) } } }
         [(Obj.WV_LINK_STATE + 1, 0, 0)]
       lookup? s.routes 12 = some 0x00115507) := by
  decide +kernel

/-- Table 07-6: the node word of queue 303 and both admission profiles, and R201: 1,500 B are stored in 7 cells. -/
theorem test_scheduler_words :
    tnValid 0x02340163 = true ∧ tnParent 0x02340163 = 22 ∧ tnPrio 0x02340163 = 5 ∧ tnTc 0x02340163 = 1 ∧ tnAdm 0x02340163 = 2 ∧
      admMin 0x0005700600000040 = 64 ∧ admMax 0x0005700600000040 = 24576 ∧ admMax 0x00000FFFFFF00010 = 16777215 ∧
      netUp.cells { pkt with bytes := List.replicate 1500 0 } = 7 ∧ netUp.gateLen 0 9000 = 9088 := by
  decide +kernel

/-- Chapter 13's example: the WRITE of element 49 of HST_TAG_QUOTA subindex 2 by session 3 of MA. -/
def northReq : Bytes :=
  toBe 8 0x1002000000000A31 ++ toBe 8 0x0010010000000000 ++ toBe 16 0x30130201000000310002030000A00000

/-- Its managers: north with two staged values and the semaphore, south waiting for it; both listen to class 0. -/
def north : State :=
  let a := { sess with num := 3, mask := 1, stage := { vals := [(okey Obj.POL_CONFIG 3, 1), (okey Obj.POL_CONFIG 4, 1)], bulk := [] } }
  let m := { up.mgmt with sessions := [a, { sess with port := 1, mask := 1 }], holder := some (0, 3), waiting := [(1, 1)] }
  { up with mgmt := { m with leaseEnd := 6000000000 } }

/-- The response that the example gives, and the quota. -/
theorem test_omp_write :
    nextIs (exec (.write 0 0 3 northReq) north) (fun t => t.cfg (Obj.HST_TAG_QUOTA + 1) 49 == 160 &&
      t.out == [(0, .omp 0 3 (toBe 8 0x1002010000000A31 ++ toBe 8 0x0010010000000000 ++
        toBe 16 0x30130201000000310002030000A00000))]) = true := by
  decide +kernel

/-- Table 13-16: the lapse discards north's two values, counts, and grants the semaphore to south, which reads as 0x91. -/
theorem test_lease_lapse :
    nextIs (exec (.leaseLapse 6000000000) north) (fun t =>
      t.valueOf (1, 1) false (row Obj.MGMT_SEM_HOLDER) Obj.MGMT_SEM_HOLDER 0 == 0x91 && t.ctr Obj.MGMT_SEM_LAPSES == 1 &&
        t.ctr Obj.EPOCH_STAGE_DISCARDS == 1 && t.ctr Obj.MGMT_SEM_GRANTS == 1 && t.stageOf (0, 3) == Staging.none_) = true := by
  decide +kernel

/-- Table 10-6: a poisoned completion for FID 0x3028 freezes HB with cause 0x0003_0281. -/
theorem test_freeze_cause : (up.freeze 1 1 0x3028).cfg (Obj.HST_FREEZE_CAUSE + 1) = 0x00030281 := by
  decide +kernel

end Sys2Proof.Tests
end

section
/-!
PROOFS. The counters (R13): counting adds, and stops at 2^64 - 1.
-/

namespace Sys2Proof.Machine

@[simp] theorem State.ctr_reset (o : Nat) : State.reset.ctr o = 0 := rfl

theorem State.ctr_bumpN_of_fits (s : State) (o n : Nat) (h : s.ctr o + n ≤ u64Max) :
    (s.bumpN o n).ctr o = s.ctr o + n := by
  rw [State.ctr_bumpN_self]
  exact Nat.min_eq_right h

theorem State.ctr_bumpN_of_overflow (s : State) (o n : Nat) (h : u64Max < s.ctr o + n) :
    (s.bumpN o n).ctr o = u64Max := by
  rw [State.ctr_bumpN_self]
  exact Nat.min_eq_left (Nat.le_of_lt h)

theorem State.ctr_bumpN_le_u64Max (s : State) (o n : Nat) : (s.bumpN o n).ctr o ≤ u64Max := by
  rw [State.ctr_bumpN_self]
  exact Nat.min_le_left _ _

/-- Settles O3: counting stores the lesser of the sum and 2^64 - 1 (`State.ctr_bumpN_self`) under the counter's own key, so
the two cases and the bound are facts about that minimum; other counters have other keys, and values another store. -/
theorem countersSaturate : Obligations.CountersSaturate := by
  unfold Obligations.CountersSaturate
  refine ⟨State.ctr_reset, fun o n s => ⟨?fits, ?overflow, ?bound, ?others, ?values⟩⟩
  case fits => exact State.ctr_bumpN_of_fits s o n
  case overflow => exact State.ctr_bumpN_of_overflow s o n
  case bound => exact State.ctr_bumpN_le_u64Max s o n
  case others => exact fun p hp => State.ctr_bumpN_ne s o n p hp
  case values => exact fun p e => State.cfg_bumpN s o n p e

end Sys2Proof.Machine
end

section
/-!
PROOFS. An accepted WRITE of one item (R397 to R399, R407, R414): the command of any request row takes it at once, its one
item is written, and the response goes out. Then the write of KEY_KEK (R361).
-/

namespace Sys2Proof.Machine

/-! ### Taking a request at once -/

/-- A record that comes in changes management state alone. -/
theorem State.touch_changes_mgmt_only (s : State) (k : Nat × Nat) : s.touch k = { s with mgmt := (s.touch k).mgmt } := by
  unfold State.touch
  cases s.sess? k <;> cases (k.1 == 1 && s.mailbox) <;> rfl

@[simp] theorem State.touch_cry (s : State) (k : Nat × Nat) : (s.touch k).cry = s.cry := by
  rw [State.touch_changes_mgmt_only]

@[simp] theorem State.touch_dict (s : State) (k : Nat × Nat) : (s.touch k).dict = s.dict := by
  rw [State.touch_changes_mgmt_only]

theorem State.ompExec_eq_answered (s : State) (k : Nat × Nat) (m : Bytes) :
    s.ompExec k m = (s.doOp k m).2.answered k m (s.doOp k m).1 := rfl

/-- A request that is executed at once does its operation, and its response goes out (R397 to R399). -/
theorem State.takeOmp_of_executes {s : State} {k : Nat × Nat} {m : Bytes} (h : s.executes k m = true) :
    s.takeOmp k m = ((s.touch k).doOp k m).2.answered k m ((s.touch k).doOp k m).1 := by
  simp only [State.executes, Bool.and_eq_true, Bool.not_eq_true', bne_iff_ne, Option.isNone_iff_eq_none] at h
  obtain ⟨⟨⟨⟨-, available⟩, good⟩, noEvent⟩, notKept⟩ := h
  simp [State.takeOmp, State.ompRun, available, good, noEvent, notKept, State.ompExec_eq_answered]

/-- The command of a row that stands for an executed request does the request's operation at once (R407). -/
theorem ompCmd_of_executes {dt : Nat} {s : State} {want : Bool} {k : Nat × Nat} {m : Bytes} (hw : want = true)
    (h : (s.tick dt).executes k m = true) :
    ompCmd dt s want k m =
      .next ((((s.tick dt).touch k).doOp k m).2.answered k m (((s.tick dt).touch k).doOp k m).1) := by
  have alone : (s.tick dt).hearsAlone k = true := by
    simp only [State.executes, Bool.and_eq_true] at h
    exact h.1.1.1.1
  simp only [State.hearsAlone, Bool.and_eq_true, Bool.not_eq_true', List.isEmpty_iff] at alone
  obtain ⟨⟨heard, noneKept⟩, last⟩ := alone
  rw [ompCmd_then hw heard noneKept last, State.takeOmp_of_executes h]

/-! ### A WRITE of one item -/

/-- The checks that an accepted WRITE of one item has passed, in the order of R414. -/
structure State.Accepted (s : State) (k : Nat × Nat) (m : Bytes) (r : ObjRow) (i : Item) : Prop where
  executes : s.executes k m = true
  range : ompRange m = false
  op : ompOp m = 2
  items : ompItems m = some [i]
  row : (s.touch k).rowOf? i.obj = some r
  item : (s.touch k).itemStatus k .write false i.obj i.elem = 0
  typ : i.typeBad r .write = false
  value : (s.touch k).valueStatus r i.obj (i.elem.getD 0) i.value = 0

theorem State.accepted_of_accepts {s : State} {k : Nat × Nat} {m : Bytes} {r : ObjRow} {i : Item}
    (h : s.accepts k m r i = true) : s.Accepted k m r i := by
  simp only [State.accepts, State.wellPut, Bool.and_eq_true, Bool.not_eq_true', beq_iff_eq] at h
  obtain ⟨⟨⟨⟨⟨⟨⟨executes, range⟩, op⟩, items⟩, row⟩, item⟩, typ⟩, value⟩ := h
  exact ⟨executes, range, op, items, row, item, typ, value⟩

/-- A request of one item to write: the item's status is the response's, and the response echoes the item. Whether the
device is still alive after it makes no difference, for no other item follows. -/
theorem State.runItems_single_write (s : State) (k : Nat × Nat) (staged : Bool) (i : Item) :
    s.runItems k .write staged [i] =
      ((s.writeItem k .write i).1, i.bytes i.typ (s.writeItem k .write i).1 i.data, (s.writeItem k .write i).2) := by
  cases alive : (s.writeItem k .write i).2.alive
  case false => simp [State.runItems, State.oneItem, alive]
  case true =>
    by_cases ok : (s.writeItem k .write i).1 = 0 <;> simp [State.runItems, State.oneItem, alive, ok]

/-- The item of an accepted WRITE is written. -/
theorem State.writeItem_of_accepted {s : State} {k : Nat × Nat} {m : Bytes} {r : ObjRow} {i : Item}
    (h : s.Accepted k m r i) :
    (s.touch k).writeItem k .write i = (s.touch k).writeValue k r i.obj (i.elem.getD 0) i.value := by
  simp [State.writeItem, h.row, h.item, h.typ, h.value]

/-- The operation of an accepted WRITE: its value is written, and the response carries the status that this gives. -/
theorem State.doOp_of_accepted {s : State} {k : Nat × Nat} {m : Bytes} {r : ObjRow} {i : Item}
    (h : s.Accepted k m r i) :
    (s.touch k).doOp k m =
      (oneReply ((s.touch k).writeValue k r i.obj (i.elem.getD 0) i.value).1 i,
        ((s.touch k).writeValue k r i.obj (i.elem.getD 0) i.value).2) := by
  simp [State.doOp, h.range, h.op, State.doItems, h.items, State.runItems_single_write, State.writeItem_of_accepted h,
    oneReply]

/-- The command of a row that stands for an accepted WRITE writes the value and answers with the status of that. -/
theorem ompCmd_of_accepts {dt : Nat} {s : State} {want : Bool} {k : Nat × Nat} {m : Bytes} {r : ObjRow} {i : Item}
    (hw : want = true) (h : (s.tick dt).accepts k m r i = true) :
    ompCmd dt s want k m =
      .next ((((s.tick dt).touch k).writeValue k r i.obj (i.elem.getD 0) i.value).2.answered k m
        (oneReply (((s.tick dt).touch k).writeValue k r i.obj (i.elem.getD 0) i.value).1 i)) := by
  have ha := State.accepted_of_accepts h
  rw [ompCmd_of_executes hw ha.executes, State.doOp_of_accepted ha]

/-- An accepted WRITE is a request of the row of the object that its item names. -/
theorem writes_of_accepts {s : State} {k : Nat × Nat} {m : Bytes} {r : ObjRow} {i : Item} {o : Nat}
    (h : s.accepts k m r i = true) (ho : i.obj = o) : writes m o = true := by
  have ha := State.accepted_of_accepts h
  simp [writes, ha.op, ha.items, ho]

/-- An accepted write of a control leaves the control's effect, taken over and answered with its status. -/
theorem ompCmd_of_accepts_control {dt : Nat} {s : State} {want : Bool} {k : Nat × Nat} {m : Bytes} {r : ObjRow} {i : Item}
    {w : Nat × State} (hw : want = true) (h : (s.tick dt).accepts k m r i = true)
    (hc : ((s.tick dt).touch k).control k r i.obj (i.elem.getD 0) i.value = some w) :
    ompCmd dt s want k m = .next (w.2.written k m i w.1) := by
  simp only [ompCmd_of_accepts hw h, State.writeValue, hc, State.written]

/-! ### The KEK (R361) -/

@[simp] theorem State.cry_setCry (s : State) (c : Crypt) : (s.setCry c).cry = c := rfl

theorem State.control_keyKek (s : State) (k : Nat × Nat) (r : ObjRow) (e v : Nat) :
    s.control k r Obj.KEY_KEK e v = some (s.writeKek v) := rfl

/-- An accepted write of KEY_KEK has the effect and the status of `writeKek`. -/
theorem exec_keyKek_of_accepts {dt port sess : Nat} {m : Bytes} {r : ObjRow} {i : Item} {s : State}
    (h : (s.tick dt).accepts (port, sess) m r i = true) (ho : i.obj = Obj.KEY_KEK) :
    exec (.keyKek dt port sess m) s =
      .next ((((s.tick dt).touch (port, sess)).writeKek i.value).2.written (port, sess) m i
        (((s.tick dt).touch (port, sess)).writeKek i.value).1) :=
  ompCmd_of_accepts_control (writes_of_accepts h ho) h (by rw [ho, State.control_keyKek])

/-- With every slot empty the value is taken as the KEK, and its check value is latched. -/
theorem State.writeKek_of_empty {s : State} (v : Nat) (h : s.cry.slots = []) :
    s.writeKek v =
      (0, (s.setCry { s.cry with kek := some (toBe 32 v) }).latch Obj.KEY_KEK_KCV (kcv (toBe 32 v))) := by
  simp [State.writeKek, h]

/-- With a slot in use the write is refused with BUSY. -/
theorem State.writeKek_of_used {s : State} (v : Nat) (h : s.cry.slots ≠ []) : s.writeKek v = (1, s) := by
  simp [State.writeKek, h]

/-- Settles O36: an accepted write of KEY_KEK comes down to `writeKek` on the state that the record has reached
(`exec_keyKek_of_accepts`), whose slots are those of before; it splits on whether one is in use. -/
theorem theKekIsTakenWhileSlotsAreEmpty : Obligations.TheKekIsTakenWhileSlotsAreEmpty := by
  unfold Obligations.TheKekIsTakenWhileSlotsAreEmpty
  intro dt port sess m r i s h ho
  have hexec := exec_keyKek_of_accepts h ho
  have slots : ((s.tick dt).touch (port, sess)).cry.slots = s.cry.slots := by simp
  refine ⟨fun empty => ?taken, fun used => ?busy⟩
  case taken =>
    rw [State.writeKek_of_empty _ (slots.trans empty)] at hexec
    exact ⟨_, hexec, by simp, State.cfg_latch_self _ _ _⟩
  case busy =>
    rw [State.writeKek_of_used _ (slots ▸ used)] at hexec
    exact ⟨_, hexec, by simp, by simp⟩

end Sys2Proof.Machine
end

section
/-!
PROOFS. The step: it runs the front command, answers a next state, undoes no fuse and leaves a Gorost key. Then the reset
state, and a request kept from before that burns a fuse with a command that is itself no request.
-/

namespace Sys2Proof.Machine

/-! ### The step (R453) -/

theorem step_of_pending {s : State} {c : Instr} {rest : List Instr} (h : s.pending = c :: rest) :
    step s = exec c { s with pending := rest } := by
  simp only [step, h]

theorem step_of_idle {s : State} (h : s.pending = []) : step s = .next s := by
  simp only [step, h]

/-- Settles O1: the two arms of `step`. -/
theorem stepRunsTheFrontCommand : Obligations.StepRunsTheFrontCommand := by
  unfold Obligations.StepRunsTheFrontCommand
  exact ⟨fun _ _ _ => step_of_pending rfl, fun _ => step_of_idle⟩

/-- Every command answers a next state that keeps clock and queue of the time it takes, and undoes no fuse. -/
theorem exec_kept (c : Instr) (s : State) : ∃ dt, Kept dt s (exec c s) := by
  refine ⟨cmdTime c, ?_⟩
  cases c with
  | netFrameReceive => exact (execNetFrameReceive_still ..).kept
  | pauseExpiry => exact (execPauseExpiry_still ..).kept
  | cutThroughFrameBad => exact (execCutThroughFrameBad_still ..).kept
  | ingressPass => exact (execIngressPass_still ..).kept
  | deferredMetering => exact (execDeferredMetering_still ..).kept
  | bridgeCrossing => exact (execBridgeCrossing_still ..).kept
  | tmAdmission => exact (execTmAdmission_still ..).kept
  | carveOutFetch => exact (execCarveOutFetch_still ..).kept
  | schedulingDecision => exact (execSchedulingDecision_still ..).kept
  | inlineCipherOp => exact (execInlineCipherOp_still ..).kept
  | overdueCheck => exact (execOverdueCheck_still ..).kept
  | maxAgeCheck => exact (execMaxAgeCheck_still ..).kept
  | stageAgeCheck => exact (execStageAgeCheck_still ..).kept
  | divertScanStart => exact (execDivertScanStart_still ..).kept
  | divertScanEnd => exact (execDivertScanEnd_still ..).kept
  | scrubVisit => exact (execScrubVisit_still ..).kept
  | ageScan => exact (execAgeScan_still ..).kept
  | gateEvent => exact (execGateEvent_still ..).kept
  | gateListSwitch => exact (execGateListSwitch_still ..).kept
  | censusSweepStart => exact (execCensusSweepStart_still ..).kept
  | censusSample => exact (execCensusSample_still ..).kept
  | ipfixExport => exact (execIpfixExport_still ..).kept
  | ipfixTemplate => exact (execIpfixTemplate_still ..).kept
  | netLinkUp => exact (execNetLinkUp_still ..).kept
  | netLinkDown => exact (execNetLinkDown_still ..).kept
  | quiesceApply => exact (execQuiesceApply_still ..).kept
  | read => exact execRead_kept ..
  | write => exact execWrite_kept ..
  | stage => exact execStage_kept ..
  | commit => exact execCommit_kept ..
  | scheduledCommit => exact execScheduledCommit_kept ..
  | epochSwitch => exact (execEpochSwitch_still ..).kept
  | queuedCommitRun => exact (execQueuedCommitRun_still ..).kept
  | epochRetire => exact (execEpochRetire_still ..).kept
  | epochDiscard => exact execEpochDiscard_kept ..
  | epochAtArm => exact execEpochAtArm_kept ..
  | epochAtCancel => exact execEpochAtCancel_kept ..
  | epochAtResync => exact execEpochAtResync_kept ..
  | prepare => exact (execPrepare_still ..).kept
  | prepareResend => exact (execPrepareResend_still ..).kept
  | ack => exact (execAck_still ..).kept
  | nak => exact (execNak_still ..).kept
  | ackDeadline => exact (execAckDeadline_still ..).kept
  | cancel => exact (execCancel_still ..).kept
  | scheduledSwitch => exact (execScheduledSwitch_still ..).kept
  | outcomeFlood => exact (execOutcomeFlood_still ..).kept
  | outcome => exact (execOutcome_still ..).kept
  | insert => exact (execInsert_still ..).kept
  | delete => exact (execDelete_still ..).kept
  | modify => exact (execModify_still ..).kept
  | clearHit => exact (execClearHit_still ..).kept
  | shuttleBridge => exact (execShuttleBridge_still ..).kept
  | shuttle => exact (execShuttle_still ..).kept
  | helloSend => exact (execHelloSend_still ..).kept
  | hello => exact (execHello_still ..).kept
  | helloTimeout => exact (execHelloTimeout_still ..).kept
  | weaveLaneLock => exact (execWeaveLaneLock_still ..).kept
  | weaveLinkLoss => exact (execWeaveLinkLoss_still ..).kept
  | weaveFrameReceive => exact (execWeaveFrameReceive_still ..).kept
  | linkState => exact (execLinkState_still ..).kept
  | linkStateOriginate => exact (execLinkStateOriginate_still ..).kept
  | lsdbExpiry => exact (execLsdbExpiry_still ..).kept
  | routeRecompute => exact (execRouteRecompute_still ..).kept
  | calendarWindow => exact (execCalendarWindow_still ..).kept
  | calendarSwitch => exact (execCalendarSwitch_still ..).kept
  | timeSet => exact execTimeSet_kept ..
  | ppsInEdge => exact (execPpsInEdge_still ..).kept
  | ppsMissing => exact (execPpsMissing_still ..).kept
  | perstAssert => exact (execPerstAssert_still ..).kept
  | perstDeassert => exact (execPerstDeassert_still ..).kept
  | hotReset => exact (execHotReset_still ..).kept
  | hostLinkDown => exact (execHostLinkDown_still ..).kept
  | hostLinkUp => exact (execHostLinkUp_still ..).kept
  | mmioWrite => exact (execMmioWrite_still ..).kept
  | submissionDoorbell => exact (execSubmissionDoorbell_still ..).kept
  | completionDoorbell => exact (execCompletionDoorbell_still ..).kept
  | completionArrival => exact (execCompletionArrival_still ..).kept
  | completionTimeout => exact (execCompletionTimeout_still ..).kept
  | malformedTlp => exact (execMalformedTlp_still ..).kept
  | peerTlp => exact (execPeerTlp_still ..).kept
  | atsInvalidation => exact (execAtsInvalidation_still ..).kept
  | atsInvalidationDone => exact (execAtsInvalidationDone_still ..).kept
  | pageRequestResponse => exact (execPageRequestResponse_still ..).kept
  | priTimeout => exact (execPriTimeout_still ..).kept
  | l1Entry => exact (execL1Entry_still ..).kept
  | l0pWidthChange => exact (execL0pWidthChange_still ..).kept
  | portReleaseResume => exact execPortReleaseResume_kept ..
  | portReleaseReset => exact execPortReleaseReset_kept ..
  | bmeClear => exact (execBmeClear_still ..).kept
  | bmeSet => exact (execBmeSet_still ..).kept
  | flr => exact (execFlr_still ..).kept
  | dStateChange => exact (execDStateChange_still ..).kept
  | msixUnmask => exact (execMsixUnmask_still ..).kept
  | qpcCreate => exact (execQpcCreate_still ..).kept
  | qpcModify => exact (execQpcModify_still ..).kept
  | qpcQuery => exact (execQpcQuery_still ..).kept
  | fnSelfReset => exact (execFnSelfReset_still ..).kept
  | txPacketFetch => exact (execTxPacketFetch_still ..).kept
  | txDataComplete => exact (execTxDataComplete_still ..).kept
  | rxPacketDelivery => exact (execRxPacketDelivery_still ..).kept
  | moderationTimer => exact (execModerationTimer_still ..).kept
  | squashReset => exact execSquashReset_kept ..
  | drainReset => exact execDrainReset_kept ..
  | drainLimit => exact (execDrainLimit_still ..).kept
  | functionResetComplete => exact (execFunctionResetComplete_still ..).kept
  | startLog => exact (execStartLog_still ..).kept
  | sync => exact (execSync_still ..).kept
  | stopLog => exact (execStopLog_still ..).kept
  | hold => exact (execHold_still ..).kept
  | holdComplete => exact (execHoldComplete_still ..).kept
  | save => exact (execSave_still ..).kept
  | restore => exact (execRestore_still ..).kept
  | release => exact (execRelease_still ..).kept
  | coreIntEntryWrite => exact (execCoreIntEntryWrite_still ..).kept
  | keyKek => exact execKeyKek_kept ..
  | keySlotWrite => exact execKeySlotWrite_kept ..
  | keySlotErase => exact execKeySlotErase_kept ..
  | keyZeroise => exact (execKeyZeroise_still ..).kept
  | saCheckpoint => exact (execSaCheckpoint_still ..).kept
  | encrypt => exact (execEncrypt_still ..).kept
  | decrypt => exact (execDecrypt_still ..).kept
  | mac => exact (execMac_still ..).kept
  | verify => exact (execVerify_still ..).kept
  | tlsSeal => exact (execTlsSeal_still ..).kept
  | tlsOpen => exact (execTlsOpen_still ..).kept
  | xtsEnc => exact (execXtsEnc_still ..).kept
  | xtsDec => exact (execXtsDec_still ..).kept
  | saWrite => exact (execSaWrite_still ..).kept
  | saRead => exact (execSaRead_still ..).kept
  | patternScan => exact (execPatternScan_still ..).kept
  | storageCommandArrival => exact (execStorageCommandArrival_still ..).kept
  | post => exact (execPost_still ..).kept
  | xfer => exact (execXfer_still ..).kept
  | respond => exact (execRespond_still ..).kept
  | controllerEnable => exact (execControllerEnable_still ..).kept
  | controllerReset => exact (execControllerReset_still ..).kept
  | controllerShutdown => exact (execControllerShutdown_still ..).kept
  | createIoSubmissionQueue => exact (execCreateIoSubmissionQueue_still ..).kept
  | deleteIoSubmissionQueue => exact (execDeleteIoSubmissionQueue_still ..).kept
  | createIoCompletionQueue => exact (execCreateIoCompletionQueue_still ..).kept
  | deleteIoCompletionQueue => exact (execDeleteIoCompletionQueue_still ..).kept
  | bulkOpen => exact execBulkOpen_kept ..
  | bulkData => exact execBulkData_kept ..
  | bulkCloseFinish => exact execBulkCloseFinish_kept ..
  | bulkCloseAbort => exact execBulkCloseAbort_kept ..
  | bulkIdleTimeout => exact (execBulkIdleTimeout_still ..).kept
  | subscribe => exact execSubscribe_kept ..
  | unknownOperation => exact execUnknownOperation_kept ..
  | semAcquire => exact execSemAcquire_kept ..
  | semRelease => exact execSemRelease_kept ..
  | mgmtSemHeartbeat => exact execMgmtSemHeartbeat_kept ..
  | leaseLapse => exact (execLeaseLapse_still ..).kept
  | clientHello => exact (execClientHello_still ..).kept
  | sessionClose => exact (execSessionClose_still ..).kept
  | sessionIdleTimeout => exact (execSessionIdleTimeout_still ..).kept
  | mgmtFrameReceive => exact (execMgmtFrameReceive_still ..).kept
  | mbxH2dLen => exact (execMbxH2dLen_still ..).kept
  | mbxD2hAck => exact (execMbxD2hAck_still ..).kept
  | csmClusterClock => exact (execCsmClusterClock_still ..).kept
  | csmTimeState => exact (execCsmTimeState_still ..).kept
  | csmMode => exact (execCsmMode_still ..).kept
  | errLogClear => exact execErrLogClear_kept ..
  | coreRunRelease => exact execCoreRunRelease_kept ..
  | coreRunReset => exact execCoreRunReset_kept ..
  | coreMemoryAccess => exact (execCoreMemoryAccess_still ..).kept
  | coldStart => exact (execColdStart_still ..).kept
  | resetNAssert => exact (execResetNAssert_still ..).kept
  | vigilFirmwareStart => exact (execVigilFirmwareStart_still ..).kept
  | hbmTrainingComplete => exact (execHbmTrainingComplete_still ..).kept
  | serviceImageRunning => exact (execServiceImageRunning_still ..).kept
  | epochOneCommit => exact (execEpochOneCommit_still ..).kept
  | rescueFrameReceive => exact (execRescueFrameReceive_still ..).kept
  | drainRequest => exact execDrainRequest_kept ..
  | vigilRequest => exact execVigilRequest_kept ..
  | hibernateRequest => exact execHibernateRequest_kept ..
  | offWakeRequest => exact execOffWakeRequest_kept ..
  | serviceRequest => exact execServiceRequest_kept ..
  | drainDone => exact (execDrainDone_still ..).kept
  | modeDrainLimit => exact (execModeDrainLimit_still ..).kept
  | dormantEntryComplete => exact (execDormantEntryComplete_still ..).kept
  | dormantExitComplete => exact (execDormantExitComplete_still ..).kept
  | idleEntry => exact (execIdleEntry_still ..).kept
  | quietEntry => exact (execQuietEntry_still ..).kept
  | lpiWake => exact (execLpiWake_still ..).kept
  | wakeTimer => exact (execWakeTimer_still ..).kept
  | gpioWakeEdge => exact (execGpioWakeEdge_still ..).kept
  | sensorRead => exact (execSensorRead_still ..).kept
  | supplyMeasure => exact (execSupplyMeasure_still ..).kept
  | thermtrip => exact (execThermtrip_still ..).kept
  | undervoltage => exact (execUndervoltage_still ..).kept
  | overvoltage => exact (execOvervoltage_still ..).kept
  | fwWriteComplete => exact (execFwWriteComplete_still ..).kept
  | handoverNow => exact execHandoverNow_kept ..
  | handoverAt => exact execHandoverAt_kept ..
  | restartAt => exact execRestartAt_kept ..
  | imgActivateCancel => exact execImgActivateCancel_kept ..
  | handoverPrepared => exact (execHandoverPrepared_still ..).kept
  | handoverStart => exact (execHandoverStart_still ..).kept
  | handoverComplete => exact execHandoverComplete_kept ..
  | handoverDeferralExpiry => exact (execHandoverDeferralExpiry_still ..).kept
  | restartInstant => exact (execRestartInstant_still ..).kept
  | imgSvnRaise => exact execImgSvnRaise_kept ..
  | imgSignerRevoke => exact execImgSignerRevoke_kept ..
  | settingsStoreWrite => exact (execSettingsStoreWrite_still ..).kept
  | imageStoreWrite => exact (execImageStoreWrite_still ..).kept
  | eccError => exact execEccError_kept ..
  | parityError => exact execParityError_kept ..
  | blockStall => exact execBlockStall_kept ..
  | holdOutRetest => exact (execHoldOutRetest_still ..).kept
  | clockLoss => exact execClockLoss_kept ..
  | watchdogMiss => exact execWatchdogMiss_kept ..
  | lockstepMismatch => exact execLockstepMismatch_kept ..
  | regionRetest => exact (execRegionRetest_still ..).kept
  | fltRegionTest => exact execFltRegionTest_kept ..
  | regionTestComplete => exact (execRegionTestComplete_still ..).kept
  | cellLogWindow => exact (execCellLogWindow_still ..).kept
  | diagInjectCorrectable => exact execDiagInjectCorrectable_kept ..
  | diagInjectUncorrectable => exact execDiagInjectUncorrectable_kept ..
  | diagInjectBlockReset => exact execDiagInjectBlockReset_kept ..
  | diagInjectRegionFault => exact execDiagInjectRegionFault_kept ..
  | jtagInstruction => exact (execJtagInstruction_still ..).kept
  | testLogicReset => exact (execTestLogicReset_still ..).kept
  | outputOverload => exact (execOutputOverload_still ..).kept
  | outputRetry => exact (execOutputRetry_still ..).kept
  | hbmTrainingLoss => exact execHbmTrainingLoss_kept ..
  | internalRailFault => exact execInternalRailFault_kept ..
  | takeoverComplete => exact execTakeoverComplete_kept ..
  | standbyReloadComplete => exact (execStandbyReloadComplete_still ..).kept
  | hostL2Entry => exact (execHostL2Entry_still ..).kept
  | vfEnable => exact (execVfEnable_still ..).kept
  | hartTimerEvent => exact (execHartTimerEvent_still ..).kept

/-- What a step with a command in front leads to: a next state with the rest of the queue, no earlier, no fuse undone. -/
theorem step_answers {s : State} {c : Instr} {rest : List Instr} (h : s.pending = c :: rest) :
    ∃ t, step s = .next t ∧ t.pending = rest ∧ s.clock ≤ t.clock ∧ s.fuse.le t.fuse := by
  obtain ⟨dt, t, ht, hclock, hpending, hfuse⟩ := exec_kept c { s with pending := rest }
  refine ⟨t, (step_of_pending h).trans ht, hpending, ?_, hfuse⟩
  rw [hclock]
  exact Nat.le_add_right _ _

/-- Settles O4: `step_answers`, with the parts of `Fuses.le` that speak of what a fuse may not lose. -/
theorem everyStepAnswers : Obligations.EveryStepAnswers := by
  unfold Obligations.EveryStepAnswers
  intro c rest s h
  obtain ⟨t, hstep, hpending, hclock, hvigil, hservice, hrevoked, -⟩ := step_answers h
  exact ⟨t, hstep, hpending, hclock, hvigil, hservice, hrevoked⟩

/-- Settles O5: an idle step changes nothing, and a command's step keeps a key by the last part of `Fuses.le`. -/
theorem everyStepKeepsAKey : Obligations.EveryStepKeepsAKey := by
  unfold Obligations.EveryStepKeepsAKey
  intro s t hkey hstep
  cases hp : s.pending with
  | nil =>
    rw [step_of_idle hp] at hstep
    cases hstep
    exact hkey
  | cons c rest =>
    obtain ⟨u, hu, -, -, -, -, -, hleft⟩ := step_answers hp
    rw [hu] at hstep
    cases hstep
    exact hleft hkey

/-! ### The reset state -/

@[simp] theorem State.cfg_reset (o e : Nat) : State.reset.cfg o e = objDefault o e := rfl

/-- Settles O6: no key is revoked at reset. -/
theorem resetHasAKey : Obligations.ResetHasAKey := by
  unfold Obligations.ResetHasAKey Fuses.keyLeft
  decide

/-- Settles O2: each field is the one that `State.reset` writes; values and counters stand in empty stores. -/
theorem resetState : Obligations.ResetState := by
  unfold Obligations.ResetState
  exact ⟨rfl, rfl, rfl, rfl, rfl, rfl, rfl, rfl, rfl, rfl, rfl, rfl, rfl, rfl, rfl, rfl, State.cfg_reset, State.ctr_reset⟩

/-! ### Requests kept from before (R407) -/

/-- A WRITE of 3 to IMG_SIGNER_REVOKE. -/
def revokeKey3 : Bytes :=
  let i : Item := { obj := Obj.IMG_SIGNER_REVOKE, b3 := 0, element := 0, typ := 2, len := 1, status := 0, data := [3] }
  let b := i.bytes 2 0 i.data
  ompHeader 2 false 0 7 b.length 1 0 ++ b

/-- Session 1 of MA, just opened. -/
def freshSession : Session :=
  { port := 0, num := 1, last := 0, mask := 0, evSeq := 0, kept := [], stage := Staging.none_, chans := [], peer := 0,
    local_ := 0, cert := 0 }

/-- A device in SERVICE with one session, which holds the semaphore and whose request to revoke key 3 is kept for the last
command of its cycle. -/
def revocationKept : State :=
  { State.reset with
    pwr := { Power.reset with rails := .run, resetN := true, vin := true }
    mode := { State.reset.mode with mode := .service }
    mgmt := { State.reset.mgmt with
      sessions := [freshSession]
      holder := some (0, 1)
      cycle := [(0, 1, revokeKey3)] } }

/-- The row of READ with a record that is a WRITE. -/
def readOfWrite : Instr := .read 0 0 1 revokeKey3

/-- That row stands for a READ or a bad record, and this record is neither. -/
theorem readOfWrite_no_request (dt port sess : Nat) (m : Bytes) : ¬ Requests dt port sess m readOfWrite := by
  have op : ompOp revokeKey3 = 2 := by decide +kernel
  have good : ompBad revokeKey3 = false := by decide +kernel
  rintro (⟨hop, heq⟩ | ⟨-, heq⟩ | ⟨i, rest, -, -, hw⟩ | h)
  · cases heq
    simp [op, good] at hop
  · cases heq
  · simp [Writes, readOfWrite] at hw
  · simp [readOfWrite] at h

/-- A request's row, whatever its record: the requests of its cycle are taken in order. -/
theorem ompCmd_eq (dt : Nat) (s : State) (want : Bool) (k : Nat × Nat) (m : Bytes) :
    ompCmd dt s want k m = .next ((s.tick dt).takeInOrder (want && (s.tick dt).hears k) k m) := rfl

/-- It takes the kept request all the same, and key 3 is then revoked. -/
theorem readOfWrite_revokes : ∃ t, exec readOfWrite revocationKept = .next t ∧ t.fuse.revoked = 8 :=
  ⟨_, ompCmd_eq 0 revocationKept _ (0, 1) revokeKey3, by decide +kernel⟩

/-- Refutes O7: a row whose record is not what the row stands for is no management request and no fault, yet it is the
command with which the requests kept of its control-clock cycle run (R407). Here a kept write to IMG_SIGNER_REVOKE is taken
with a READ row that carries a WRITE: no key was revoked before, and key 3 is revoked after. -/
theorem not_onlyRequestsBurnFuses : ¬ Obligations.OnlyRequestsBurnFuses := by
  unfold Obligations.OnlyRequestsBurnFuses
  intro h
  obtain ⟨t, hexec, hrevoked⟩ := readOfWrite_revokes
  have same : t.fuse = revocationKept.fuse :=
    h readOfWrite revocationKept t readOfWrite_no_request nofun nofun nofun hexec
  rw [same] at hrevoked
  exact absurd hrevoked (by decide)

end Sys2Proof.Machine
end

section
/-!
PROOFS. Functions of plain values: application memory (R39), the checks of packet reads (R96), the colour of a metering
(R236). Then the suppression filter of learning (R167) and the frames of network ports (R213, R483).
-/

namespace Sys2Proof.Machine

/-! ### Application memory -/

theorem getD_of_lt {α : Type} {l : List α} {i : Nat} {d : α} (h : i < l.length) : l.getD i d = l[i] := by
  simp only [List.getD_eq_getElem?_getD, List.getElem?_eq_getElem h, Option.getD_some]

theorem memRead_memWrite_same (m : List Host.Cell) (a : Nat) (d : Bytes) (hm : Memory.wf m = true) :
    memRead (memWrite m a d) a d.length = d := by
  refine List.ext_getElem (by simp [memRead]) fun i _ hi => ?_
  simp [memRead, memGet_memWrite_in m a i d hm hi]

/-- Settles O8, by the laws of `memWrite`. -/
theorem memoryReadsWhatWasWritten : Obligations.MemoryReadsWhatWasWritten := by
  unfold Obligations.MemoryReadsWhatWasWritten
  intro m a d hm
  refine ⟨memWrite_wf m a d hm, fun i hi => ?inside, fun b hb => memGet_memWrite_out m a b d hb, memRead_memWrite_same m a d hm⟩
  case inside => exact (memGet_memWrite_in m a i d hm hi).trans (getD_of_lt hi).symm

/-! ### Reads of packet bytes (R96) -/

theorem readErr_beyond_reach {e : ParseEnv} {o n : Nat} (h : 384 < o + n) : readErr e o n = some errDepth := by
  simp [readErr, h]

theorem readErr_of_known_length {e : ParseEnv} {o n l : Nat} (h : o + n ≤ 384) (hl : e.len = some l) :
    readErr e o n = if o + n > l then some errTruncated else none := by
  simp [readErr, Nat.not_lt.mpr h, hl]

theorem readErr_of_unknown_length {e : ParseEnv} {o n : Nat} (h : o + n ≤ 384) (hl : e.len = none) :
    readErr e o n = none := by
  simp [readErr, Nat.not_lt.mpr h, hl]

theorem firstErr_eq_none {l : List (Option Nat)} (h : ∀ x ∈ l, x = none) : firstErr l = none := by
  induction l with
  | nil => rfl
  | cons x l ih =>
    rw [h x (List.mem_cons_self ..)]
    exact ih fun y hy => h y (List.mem_cons_of_mem x hy)

/-- Settles O9: the three branches of `readErr`, and the first error of `nodeReadErr`'s list. -/
theorem packetReadsAreChecked : Obligations.PacketReadsAreChecked := by
  unfold Obligations.PacketReadsAreChecked
  constructor
  case left =>
    intro e o n hn
    refine ⟨fun h => readErr_beyond_reach (by omega), fun l hl h1 h2 => ?trunc, fun l hl h1 h2 => ?ok,
      fun hl h1 => readErr_of_unknown_length (by omega) hl⟩
    case trunc => rw [readErr_of_known_length (by omega) hl, if_pos (by omega)]
    case ok => rw [readErr_of_known_length (by omega) hl, if_neg (by omega)]
  case right =>
    intro e w start c
    refine ⟨fun hsel herr => ?select, fun hsel hadv herr => ?advance, fun hsel hadv x rest hx hen herr => ?slot,
      fun hsel hadv hall => ?good⟩
    case select => simp [nodeReadErr, hsel, herr, firstErr]
    case advance => simp [nodeReadErr, hsel, hadv, herr, firstErr]
    case slot => simp [nodeReadErr, hsel, hadv, hx, hen, herr, firstErr]
    case good =>
      refine firstErr_eq_none ?_
      simpa [hsel, hadv] using hall

/-! ### The colour of a metering (R236) -/

theorem polColor_of_red {e incoming : Nat} (b : Bucket) (len : Int) (aware : polAware e = true) (red : 2 ≤ incoming) :
    polColor e incoming b len = (2, b) := by
  simp [polColor, aware, red]

/-- The colours of a packet that does not stay red for being red. -/
theorem polColor_of_not_red {e incoming : Nat} (b : Bucket) (len : Int) (h : polAware e = false ∨ incoming < 2) :
    polColor e incoming b len =
      if b.p < len then (2, b)
      else if (polAware e && incoming == 1) || b.c < len then (1, { b with p := b.p - len })
      else (0, { b with p := b.p - len, c := b.c - len }) := by
  have stays : (polAware e && decide (incoming ≥ 2)) = false := by
    rcases h with h | h
    · simp [h]
    · simp [Nat.not_le.mpr h]
  simp [polColor, stays]

/-- Settles O10: `polColor`'s branches in their order. -/
theorem policersDecideTheColour : Obligations.PolicersDecideTheColour := by
  unfold Obligations.PolicersDecideTheColour
  intro e incoming b len
  refine ⟨polColor_of_red b len, fun h => ?_⟩
  rw [polColor_of_not_red b len h]
  refine ⟨fun short => ?red, fun peak yellow => ?yellow, fun peak committed green => ?green⟩
  case red => rw [if_pos short]
  case yellow => rw [if_neg (Int.not_lt.mpr peak), if_pos (by simpa using yellow)]
  case green =>
    have fresh : ¬((polAware e && incoming == 1) || decide (b.c < len)) = true := by
      rcases green with h | h <;> simp [h, committed]
    rw [if_neg (Int.not_lt.mpr peak), if_neg fresh]

/-! ### Learn candidates (R167) -/

/-- The filter after a key has entered: unexpired old entries of other keys and the new one; nothing else but counters is
touched. -/
theorem State.suppress_effect (s : State) (region t key : Nat) :
    (∃ live : List (Nat × Nat × Nat × Nat),
      (∀ x ∈ live, x ∈ s.lrn.filter ∧ (x.1 == region && x.2.1 == t && x.2.2.1 == key) = false) ∧
      (s.suppress region t key).lrn.filter =
        live ++ [(region, t, key, s.clock + s.cfg Obj.LRN_SUPPRESS_MS * 1000000)]) ∧
    (s.suppress region t key).clock = s.clock ∧ (s.suppress region t key).pkts = s.pkts ∧
    (s.suppress region t key).tbl = s.tbl := by
  unfold State.suppress
  extract_lets live mine full live' s1
  have hlive : ∀ x ∈ live', x ∈ s.lrn.filter ∧ (x.1 == region && x.2.1 == t && x.2.2.1 == key) = false := by
    intro x hx
    have hx' : x ∈ live := by
      simp only [live'] at hx
      split at hx
      · exact List.mem_of_mem_erase hx
      · exact hx
    obtain ⟨hmem, hkeep⟩ := List.mem_filter.mp hx'
    rw [Bool.and_eq_true, Bool.not_eq_true'] at hkeep
    exact ⟨hmem, hkeep.2⟩
  split <;> exact ⟨⟨live', hlive, rfl⟩, rfl, rfl, rfl⟩

/-- A key that has just entered is held for as long as `LRN_SUPPRESS_MS` says, be it no time at all. -/
theorem State.suppressed_suppress (s : State) (region t key : Nat) :
    (s.suppress region t key).suppressed region t key = decide (0 < s.cfg Obj.LRN_SUPPRESS_MS) := by
  obtain ⟨⟨live, hlive, hfilter⟩, -⟩ := s.suppress_effect region t key
  have old : (live.any fun e => e.1 == region && e.2.1 == t && e.2.2.1 == key && s.clock < e.2.2.2) = false := by
    rw [List.any_eq_false]
    intro x hx
    simp [(hlive x hx).2]
  simp [State.suppressed, hfilter, List.any_append, old]

/-- Settles O11: a candidate that the filter does not hold is produced from the state after `suppress`. -/
theorem learnCandidatesMeetTheFilter : Obligations.LearnCandidatesMeetTheFilter := by
  unfold Obligations.LearnCandidatesMeetTheFilter
  intro t key area i s
  refine ⟨fun held => by simp [State.learn, held], fun fresh time => ⟨s.suppress i.region t key, ?_⟩⟩
  obtain ⟨⟨live, hlive, hfilter⟩, -, hpkts, htbl⟩ := s.suppress_effect i.region t key
  refine ⟨by simp [State.learn, fresh], ?holds, ?nothing_else, hpkts, htbl⟩
  case holds => rw [State.suppressed_suppress, decide_eq_true time]
  case nothing_else =>
    intro x hx
    rw [hfilter] at hx
    simpa using (List.mem_append.mp hx).imp (fun h => (hlive x h).1) id

/-! ### Frames of network ports (R213, R483) -/

theorem State.after_frame (s : State) (dt : Nat) : (s.after dt).clock = s.clock + dt ∧ (s.after dt).now = (s.tick dt).now ∧
    (s.after dt).pkts = s.pkts ∧ (s.after dt).nextPkt = s.nextPkt ∧ (s.after dt).mode.mode = s.mode.mode := by
  simp [State.after, State.tick]

theorem exec_netFrameReceive {s : State} {n : Nat} (dt : Nat) (f : Bytes) (fcsOk overrun : Bool) (carries : s.traffic = true)
    (hn : n < 16) (up : s.portUp n = true) :
    exec (.netFrameReceive dt n f fcsOk overrun) s = .next ((s.after dt).netFrame n f fcsOk overrun) :=
  show execNetFrameReceive .. = _ from work_then (by simp [carries, hn, up])

/-- Settles O12: `netFrame` branch by branch, on the state that activity has stirred. -/
theorem networkFrameIsTakenOrCounted : Obligations.NetworkFrameIsTakenOrCounted := by
  unfold Obligations.NetworkFrameIsTakenOrCounted
  constructor
  case left =>
    intro dt n f fcsOk overrun s carries hn up
    obtain ⟨-, hnow, hpkts, hnext, hmode⟩ := s.after_frame dt
    simp only [exec_netFrameReceive dt f _ _ carries hn up]
    refine ⟨fun runt => ?runt, fun whole long => ?long, fun whole fits => ?fcs, fun whole fits ctl drain => ⟨?overrun, ?taken⟩⟩
    case runt => simp [State.netFrame, runt]
    case long => simp [State.netFrame, Nat.not_lt.mpr whole, long]
    case fcs => simp [State.netFrame, Nat.not_lt.mpr whole, Nat.not_lt.mpr fits]
    case overrun => simp [State.netFrame, Nat.not_lt.mpr whole, Nat.not_lt.mpr fits, ctl, hmode, drain]
    case taken =>
      have entered : (s.after dt).netFrame n f true false = (s.after dt).netAccept n f := by
        simp [State.netFrame, Nat.not_lt.mpr whole, Nat.not_lt.mpr fits, ctl, hmode, drain]
      rw [entered]
      refine ⟨_, _, rfl, congrArg (· ++ _) hpkts, congrArg (· + 1) hnext, hnext, rfl, rfl, rfl, rfl, hnow⟩
  case right =>
    intro dt n f overrun s carries hn up whole fits ctl
    rw [exec_netFrameReceive dt f _ _ carries hn up]
    simp [State.netFrame, Nat.not_lt.mpr whole, Nat.not_lt.mpr fits, ctl]

end Sys2Proof.Machine
end

section
/-!
PROOFS. The traffic managers: what a queue's test anew (`retest`) can change, then link events of network ports, admission,
bridge and carve-out, scheduling decisions and inline cipher operations, and the checks of age and waiting time.
-/

namespace Sys2Proof.Machine

/-! ### What `retest` changes: counters, the census, waiting times, and packets that it drops -/

/-- The state with these counters, census, waiting times and packets. -/
def State.thin (s : State) (ctr : Store) (cens : List (Nat × CensQ)) (wait : List (Nat × Nat)) (pkts : List Pkt) : State :=
  { s with dict := { s.dict with ctr := ctr }, tm := { s.tm with cens := cens, wait := wait }, pkts := pkts }

/-- Only counters, census, waiting times and packets differ, and no packet is new or changed. -/
def Thinned (s t : State) : Prop :=
  ∃ ctr cens wait pkts, t = s.thin ctr cens wait pkts ∧ pkts.Sublist s.pkts

theorem Thinned.refl (s : State) : Thinned s s := ⟨_, _, _, _, rfl, List.Sublist.refl _⟩

theorem Thinned.trans {s t u : State} (h : Thinned s t) (g : Thinned t u) : Thinned s u := by
  obtain ⟨_, _, _, _, rfl, hs⟩ := h
  obtain ⟨_, _, _, _, rfl, hs'⟩ := g
  exact ⟨_, _, _, _, rfl, hs'.trans hs⟩

theorem Thinned.foldl {α : Type} {f : State → α → State} (l : List α) (s : State) (h : ∀ a x, Thinned a (f a x)) :
    Thinned s (l.foldl f s) := by
  induction l generalizing s with
  | nil => exact Thinned.refl s
  | cons x l ih => exact (h s x).trans (ih _)

theorem Thinned.frame {s t : State} (h : Thinned s t) : t.now = s.now ∧ t.clock = s.clock ∧ t.ep = s.ep ∧ t.hs = s.hs ∧
    t.wv = s.wv ∧ t.cry = s.cry ∧ t.mode = s.mode ∧ t.lrn = s.lrn ∧ t.tbl = s.tbl ∧ t.pwr = s.pwr ∧ t.out = s.out ∧
    t.tm.pause = s.tm.pause ∧ t.tm.gate = s.tm.gate ∧ t.tm.gatePend = s.tm.gatePend ∧ t.tm.promo = s.tm.promo ∧
    (∀ o e, t.cfg o e = s.cfg o e) ∧ ∀ p ∈ t.pkts, p ∈ s.pkts := by
  obtain ⟨_, _, _, _, rfl, hs⟩ := h
  exact ⟨rfl, rfl, rfl, rfl, rfl, rfl, rfl, rfl, rfl, rfl, rfl, rfl, rfl, rfl, rfl, fun _ _ => rfl, fun _ hp => hs.mem hp⟩

theorem State.dropQueued_thinned (s : State) (p : Pkt) (ctr : Nat) : Thinned s (s.dropQueued p ctr) :=
  ⟨_, _, _, _, rfl, List.filter_sublist⟩

theorem State.dropTooLong_thinned (region pn eqid fuel : Nat) (s : State) :
    Thinned s (State.dropTooLong region pn eqid fuel s) := by
  induction fuel generalizing s with
  | zero => exact Thinned.refl s
  | succ fuel ih =>
    unfold State.dropTooLong
    split
    · split
      · exact (s.dropQueued_thinned _ _).trans (ih _)
      · exact Thinned.refl s
    · exact Thinned.refl s

theorem State.dropOversize_thinned (s : State) (region pn : Nat) : Thinned s (s.dropOversize region pn) :=
  Thinned.foldl _ s fun a q => State.dropTooLong_thinned region pn q _ a

/-- Waiting times alone change when leaves are tested for waiting. -/
theorem State.refreshWait_changes_wait_only (s : State) (region pn : Nat) :
    s.refreshWait region pn = { s with tm := { s.tm with wait := (s.refreshWait region pn).tm.wait } } := by
  unfold State.refreshWait
  generalize s.busyQueues region = l
  induction l generalizing s with
  | nil => rfl
  | cons q l ih =>
    rw [List.foldl_cons]
    split
    · exact ih s
    · split
      · exact ih { s with tm := { s.tm with wait := _ } }
      · exact ih { s with tm := { s.tm with wait := _ } }

theorem State.refreshWait_thinned (s : State) (region pn : Nat) : Thinned s (s.refreshWait region pn) :=
  ⟨_, _, _, _, s.refreshWait_changes_wait_only region pn, List.Sublist.refl _⟩

theorem State.retest_thinned (s : State) (region pn : Nat) : Thinned s (s.retest region pn) :=
  (s.dropOversize_thinned region pn).trans (State.refreshWait_thinned _ region pn)

theorem State.retestPort_thinned (s : State) (pn : Nat) : Thinned s (s.retestPort pn) :=
  (s.retest_thinned 0 pn).trans (State.retest_thinned _ 1 pn)

theorem State.retestQueue_thinned (s : State) (eqid : Nat) : Thinned s (s.retestQueue eqid) := by
  unfold State.retestQueue
  split
  · exact s.retest_thinned _ _
  · exact Thinned.refl s

/-! ### A network port without a gate has no window that a packet could be too long for (R246) -/

theorem State.oversize_of_no_gate {s : State} {pn : Nat} (hn : pn < 16) (hg : (s.gateOf pn).enable = false) (tc n : Nat) :
    s.oversize pn tc n = false := by
  simp [State.oversize, State.longestFor, hn, hg, fitsIn]

theorem State.dropTooLong_of_no_gate {s : State} {pn : Nat} (hn : pn < 16) (hg : (s.gateOf pn).enable = false)
    (region eqid fuel : Nat) : State.dropTooLong region pn eqid fuel s = s := by
  cases fuel with
  | zero => rfl
  | succ fuel =>
    unfold State.dropTooLong
    split
    · rw [State.oversize_of_no_gate hn hg, Bool.and_false, if_neg Bool.false_ne_true]
    · rfl

theorem State.dropOversize_of_no_gate {s : State} {pn : Nat} (hn : pn < 16) (hg : (s.gateOf pn).enable = false) (region : Nat) :
    s.dropOversize region pn = s := by
  unfold State.dropOversize
  generalize s.busyQueues region = l
  induction l with
  | nil => rfl
  | cons q l ih => rwa [List.foldl_cons, State.dropTooLong_of_no_gate hn hg]

/-- There, `retest` changes waiting times alone. -/
theorem State.retest_of_no_gate {s : State} {pn : Nat} (hn : pn < 16) (hg : (s.gateOf pn).enable = false) (region : Nat) :
    ∃ w, s.retest region pn = { s with tm := { s.tm with wait := w } } := by
  unfold State.retest
  rw [State.dropOversize_of_no_gate hn hg]
  exact ⟨_, s.refreshWait_changes_wait_only region pn⟩

theorem State.retestPort_of_no_gate {s : State} {pn : Nat} (hn : pn < 16) (hg : (s.gateOf pn).enable = false) :
    (s.retestPort pn).pkts = s.pkts ∧ (s.retestPort pn).dict = s.dict := by
  unfold State.retestPort
  obtain ⟨w, hw⟩ := State.retest_of_no_gate hn hg 0
  obtain ⟨w', hw'⟩ := State.retest_of_no_gate (s := s.retest 0 pn) hn (by rw [hw]; exact hg) 1
  rw [hw', hw]
  exact ⟨rfl, rfl⟩

/-! ### Links of network ports (R46, R211, R212) -/

theorem fld_lt_two_pow (x lo w : Nat) : fld x lo w < 2 ^ w := Nat.mod_lt _ (Nat.two_pow_pos w)

/-- A one-bit field that has been written reads as written. -/
theorem bit_setFld_same (x n : Nat) (b : Bool) : bit (setFld x n 1 (b2n b)) n = b := by
  have hx : x = (x >>> n / 2) * 2 ^ (n + 1) + fld x n 1 * 2 ^ n + x % 2 ^ n := by
    have h1 := Nat.div_add_mod x (2 ^ n)
    have h2 := Nat.div_add_mod (x >>> n) 2
    rw [Nat.shiftRight_eq_div_pow] at h2 ⊢
    unfold fld
    rw [Nat.shiftRight_eq_div_pow, Nat.pow_one, Nat.pow_succ]
    calc x = 2 ^ n * (2 * (x / 2 ^ n / 2) + x / 2 ^ n % 2) + x % 2 ^ n := by rw [h2, h1]
      _ = x / 2 ^ n / 2 * (2 ^ n * 2) + x / 2 ^ n % 2 * 2 ^ n + x % 2 ^ n := by
        rw [Nat.mul_add]
        ac_rfl
  have hset : setFld x n 1 (b2n b) = 2 ^ n * (2 * (x >>> n / 2) + b2n b) + x % 2 ^ n := by
    have hb : b2n b % 2 ^ 1 = b2n b := by cases b <;> rfl
    unfold setFld
    rw [hb]
    have : x - fld x n 1 * 2 ^ n = (x >>> n / 2) * 2 ^ (n + 1) + x % 2 ^ n := by omega
    rw [this, Nat.pow_succ, Nat.mul_add]
    ac_rfl
  have hlow : x % 2 ^ n < 2 ^ n := Nat.mod_lt _ (Nat.two_pow_pos n)
  unfold bit
  rw [hset, Nat.testBit_eq_decide_div_mod_eq, Nat.mul_add_div (Nat.two_pow_pos n), Nat.div_eq_of_lt hlow]
  cases b <;> simp [b2n]

theorem State.failFrame_of_rxFifo {s : State} {p : Pkt} (h : p.loc = .rxFifo) : s.failFrame p = s.dropPkt p.id := by
  simp [State.failFrame, h]

/-- Pauses of port n that have run out are gone. -/
def State.endPauses (s : State) (n : Nat) : State :=
  { s with tm := { s.tm with pause := s.tm.pause.filter fun x => !(x.1 / 16 == n && x.2 ≤ s.clock) } }

theorem exec_pauseExpiry {s : State} {dt n : Nat} (expired : ∃ x ∈ s.tm.pause, x.1 / 16 = n ∧ x.2 ≤ s.clock + dt) :
    exec (.pauseExpiry dt n) s = .next (((s.tick dt).endPauses n).retestPort n) :=
  show execPauseExpiry .. = _ from cmd_then (by simpa using expired)

/-- Settles O13: each event acts where its condition holds; a port's test anew is `Thinned`, and without a gate it drops
nothing. -/
theorem networkLinkEvents : Obligations.NetworkLinkEvents := by
  unfold Obligations.NetworkLinkEvents
  intro dt n id s
  refine ⟨fun an techs lpi rise down => ?up, fun alive hn up => ?down, fun expired => ?pause,
    fun p carries receiving hp fifo net => ?bad⟩
  case up =>
    have hexec : exec (.netLinkUp dt n an techs lpi) s = _ :=
      show execNetLinkUp .. = _ from cmd_then (Bool.and_eq_true_iff.mpr ⟨rise, by simpa using down⟩)
    rw [hexec]
    refine ⟨fun han htech => ?fits, fun unfit => ?unfit⟩
    case fits =>
      have fits : (s.tick dt).partnerFits n an techs = true :=
        Bool.and_eq_true_iff.mpr ⟨beq_iff_eq.mpr han, List.contains_iff_mem.mpr htech⟩
      rw [if_pos fits]
      exact ⟨_, rfl, State.cfg_latch_self _ _ _ ▸ rfl, bit_setFld_same _ _ _, rfl, rfl⟩
    case unfit =>
      have unfit : ¬(s.tick dt).partnerFits n an techs = true := by
        intro h
        obtain ⟨han, htech⟩ := Bool.and_eq_true_iff.mp h
        exact unfit.elim (· (beq_iff_eq.mp han)) (· (List.contains_iff_mem.mp htech))
      rw [if_neg unfit]
      exact ⟨_, rfl, State.cfg_latch_self _ _ _ ▸ rfl, rfl, rfl⟩
  case down =>
    have hexec : exec (.netLinkDown dt n) s = .next ((s.tick dt).netFall n 2) :=
      show execNetLinkDown .. = _ from cmd_then (by simp [alive, hn, up])
    rw [hexec]
    simp [State.netFall, up]
  case pause =>
    obtain ⟨-, -, -, -, -, -, -, -, -, -, -, hpause, -, -, -, -, hpkts⟩ :=
      (State.retestPort_thinned ((s.tick dt).endPauses n) n).frame
    exact ⟨_, exec_pauseExpiry expired, hpkts, fun hn gate => State.retestPort_of_no_gate hn gate, hpause⟩
  case bad =>
    have hexec : ∀ tooLong, exec (.cutThroughFrameBad dt id tooLong) s = .next
        (((s.tick dt).bump ((if tooLong then Obj.NET_RX_TOO_LONG else Obj.NET_RX_FCS_ERR) + p.srcId)).dropPkt p.id) := by
      intro tooLong
      refine Eq.trans (show execCutThroughFrameBad .. = _ from cmd_then (by simp [carries, receiving])) ?_
      cases tooLong <;> simp [hp, net, State.failFrame_of_rxFifo fifo]
    exact ⟨hexec false, hexec true⟩

end Sys2Proof.Machine
end

section
/-!
PROOFS. From the traffic manager to the wire: admission (R202 to R206), the bridge (R207), the carve-out (R203), scheduling
decisions (R219, R263), inline cipher operations (R357 to R359), and the checks of age and waiting time (R70, R221, R290).
-/

namespace Sys2Proof.Machine

/-! ### Activity changes no packet, queue or counter but those of the power step -/

@[simp] theorem State.after_clock (s : State) (dt : Nat) : (s.after dt).clock = s.clock + dt := (s.after_frame dt).1
@[simp] theorem State.after_pkts (s : State) (dt : Nat) : (s.after dt).pkts = s.pkts := by simp [State.after, State.tick]
@[simp] theorem State.after_tm (s : State) (dt : Nat) : (s.after dt).tm = s.tm := by simp [State.after, State.tick]
@[simp] theorem State.after_hs (s : State) (dt : Nat) : (s.after dt).hs = s.hs := by simp [State.after, State.tick]
@[simp] theorem State.after_ep (s : State) (dt : Nat) : (s.after dt).ep = s.ep := by simp [State.after, State.tick]
@[simp] theorem State.after_cry (s : State) (dt : Nat) : (s.after dt).cry = s.cry := by simp [State.after, State.tick]

@[simp] theorem State.after_pkt? (s : State) (dt id : Nat) : (s.after dt).pkt? id = s.pkt? id := by
  unfold State.pkt?
  rw [State.after_pkts]

@[simp] theorem State.after_queue (s : State) (dt eqid : Nat) : (s.after dt).queue eqid = s.queue eqid := by
  unfold State.queue
  rw [State.after_pkts]

/-! ### Counters and values that packet operations leave -/

@[simp] theorem State.ctr_dropPkt (s : State) (id o : Nat) : (s.dropPkt id).ctr o = s.ctr o := rfl
@[simp] theorem State.ctr_setPkt (s : State) (p : Pkt) (o : Nat) : (s.setPkt p).ctr o = s.ctr o := rfl
@[simp] theorem State.ctr_requeue (s : State) (p : Pkt) (o : Nat) : (s.requeue p).ctr o = s.ctr o := rfl
@[simp] theorem State.ctr_setCens (s : State) (eqid : Nat) (c : CensQ) (o : Nat) : (s.setCens eqid c).ctr o = s.ctr o := rfl
@[simp] theorem State.ctr_noteLeave (s : State) (p : Pkt) (o : Nat) : (s.noteLeave p).ctr o = s.ctr o := rfl
@[simp] theorem State.pkts_dropPkt (s : State) (id : Nat) : (s.dropPkt id).pkts = s.pkts.filter fun q => q.id != id := rfl

/-! ### Admission (R202 to R205) -/

theorem State.dropAdmit_effect (s : State) (p : Pkt) (c region : Nat) :
    (s.dropAdmit p c region).ctr (c + region) = Nat.min u64Max (s.ctr (c + region) + 1) ∧
      (s.dropAdmit p c region).pkts = s.pkts.filter fun q => q.id != p.id := by
  simp [State.dropAdmit]

/-- A packet that enters its queue goes behind every other, at this instant, to the place it is given. -/
theorem State.enqueue_effect (s : State) (p : Pkt) (loc : Loc) :
    ∃ q : Pkt, (s.enqueue p loc).pkts = (s.pkts.filter fun x => x.id != p.id) ++ [q] ∧ q.bytes = p.bytes ∧ q.eqid = p.eqid ∧
      q.enqAt = s.clock ∧ q.loc = loc := by
  have moved : (s.enqueue p loc).pkts = (s.requeue { p with
      region := p.eqid / 65536, loc := loc, enqAt := s.clock,
      readyAt := if p.lenKnown then s.clock + 13 else Nat.max (s.clock + 13) (p.rxEnd + 18) }).pkts := by
    unfold State.enqueue
    extract_lets r ready s1
    split <;> rfl
  exact ⟨_, moved, rfl, rfl, rfl, rfl⟩

/-- A packet at its own region's traffic manager is admitted there. -/
theorem exec_tmAdmission {s : State} {dt id : Nat} {p : Pkt} (full : Bool) (carries : s.traffic = true)
    (hp : s.pkt? id = some p) (turn : (s.tick dt).mayAdmit id = true) (here : p.loc ≠ .crossed)
    (own : p.eqid / 65536 = p.region) :
    exec (.tmAdmission dt id full) s = .next (((s.after dt).admitPkt p full).retestQueue p.eqid) := by
  have hp' : (s.after dt).pkt? id = some p := by rw [State.after_pkt?, hp]
  refine Eq.trans (show execTmAdmission .. = .next _ from work_then (by simp [carries, turn])) ?_
  rw [← State.after, hp']
  simp [here, own, State.arriveTm]

/-- Admission at the packet's own region, in the state `u` in which the carve-out's write path stands. -/
theorem State.admitPkt_refused {s u : State} {p : Pkt} {full : Bool} (own : p.eqid / 65536 = p.region)
    (hu : u = if full = true then s else s.writeOut p.region) {c : Nat} (refused : u.hostRefuses p = some c) :
    s.admitPkt p full = (u.bump c).dropPkt p.id := by
  subst hu
  simp only [State.admitPkt, own, refused]

theorem State.admitPkt_turned_away {s u : State} {p : Pkt} {full : Bool} (own : p.eqid / 65536 = p.region)
    (hu : u = if full = true then s else s.writeOut p.region) (open_ : u.hostRefuses p = none) {c : Nat}
    (fails : u.admitFails p (u.testCells p) full = some c) : s.admitPkt p full = u.dropAdmit p c p.region := by
  subst hu
  simp only [State.admitPkt, own, open_, fails]

theorem State.admitPkt_taken {s u : State} {p : Pkt} {full : Bool} (own : p.eqid / 65536 = p.region)
    (hu : u = if full = true then s else s.writeOut p.region) (open_ : u.hostRefuses p = none)
    (passes : u.admitFails p (u.testCells p) full = none) :
    s.admitPkt p full = u.enqueue p (u.placeIn p (u.testCells p) full) := by
  subst hu
  simp only [State.admitPkt, own, open_, passes]

theorem exec_bridgeCrossing {s : State} {dt region : Nat} {p : Pkt} (carries : s.traffic = true) (whole : s.mode.fenced = none)
    (first : (s.pkts.find? fun x => x.loc == .bridge && x.region == region) = some p) :
    exec (.bridgeCrossing dt region) s =
      .next ((s.after dt).requeue { p with loc := .crossed, enqAt := s.clock + dt }) := by
  have waits : (s.pkts.any fun x => x.loc == .bridge && x.region == region) = true :=
    by
    have hp := List.find?_some first
    exact List.any_eq_true.mpr ⟨p, List.mem_of_find?_eq_some first, hp⟩
  have first' : ((s.after dt).pkts.find? fun x => x.loc == .bridge && x.region == region) = some p := by
    rw [State.after_pkts, first]
  refine Eq.trans (show execBridgeCrossing .. = .next _ from work_then ?_) ?_
  · exact Bool.and_eq_true_iff.mpr ⟨Bool.and_eq_true_iff.mpr ⟨carries, Option.isNone_iff_eq_none.mpr whole⟩, waits⟩
  · rw [← State.after, first', State.after_clock]

theorem exec_carveOutFetch {s : State} {dt eqid : Nat} {p : Pkt} {rest : List Pkt} (bad : Bool) (carries : s.traffic = true)
    (head : s.queue eqid = p :: rest) (room : (s.tick dt).mayFetch eqid = true) :
    exec (.carveOutFetch dt eqid bad) s = .next ((if bad && p.loc == .carve then
        ((s.after dt).dropQueued p Obj.TM_DROP_BUF_ECC).logCell (ErrInfo.mk' 0 (2 + eqid / 65536) 0x17 0 0x02 8)
      else (s.after dt).setPkt { p with loc := .front }).retestQueue eqid) := by
  have head' : (s.after dt).queue eqid = p :: rest := by rw [State.after_queue, head]
  refine Eq.trans (show execCarveOutFetch .. = .next _ from work_then (by simp [carries, room])) ?_
  rw [← State.after, head']

theorem State.retestQueue_of_no_gate {s : State} {eqid pn : Nat} (hport : s.queuePort eqid = some pn) (hn : pn < 16)
    (hg : (s.gateOf pn).enable = false) : (s.retestQueue eqid).pkts = s.pkts ∧ (s.retestQueue eqid).dict = s.dict := by
  obtain ⟨w, hw⟩ := State.retest_of_no_gate hn hg (eqid / 65536)
  have heq : s.retestQueue eqid = s.retest (eqid / 65536) pn := by simp [State.retestQueue, hport]
  rw [heq, hw]
  exact ⟨rfl, rfl⟩

/-- Settles O15: the three outcomes of `admitPkt`, the moves of the bridge and of the carve-out, and `retestQueue`, which is
`Thinned`. -/
theorem queuesTakeMoveAndFetchPackets : Obligations.QueuesTakeMoveAndFetchPackets := by
  unfold Obligations.QueuesTakeMoveAndFetchPackets
  constructor
  case left =>
    intro dt id region eqid p rest s carries
    refine ⟨fun full u hp turn here own hu => ?admission, fun whole first => exec_bridgeCrossing carries whole first,
      fun head room => ⟨?fetch, fun carved => ?lost, fun spilled => ?spilled⟩⟩
    case admission =>
      rw [exec_tmAdmission full carries hp turn here own]
      have hctr : ∀ c, u.ctr c = (s.after dt).ctr c := by intro c; subst hu; cases full <;> rfl
      have hclock : u.clock = s.clock + dt := by subst hu; cases full <;> simp [State.writeOut]
      refine ⟨fun c refused => by rw [State.admitPkt_refused own hu refused], fun open_ => ⟨fun c fails => ?turned_away, fun passes => ?taken⟩⟩
      case turned_away =>
        rw [State.admitPkt_turned_away own hu open_ fails]
        obtain ⟨hcount, hpkts⟩ := u.dropAdmit_effect p c p.region
        exact ⟨_, rfl, by rw [hcount, hctr], hpkts⟩
      case taken =>
        rw [State.admitPkt_taken own hu open_ passes]
        obtain ⟨q, hpkts, hbytes, heqid, hat, hloc⟩ := u.enqueue_effect p (u.placeIn p (u.testCells p) full)
        exact ⟨_, q, rfl, hpkts, hbytes, heqid, hat.trans hclock, hloc⟩
    case fetch => simpa using exec_carveOutFetch false carries head room
    case lost => simpa [carved] using exec_carveOutFetch true carries head room
    case spilled => simpa [spilled] using exec_carveOutFetch true carries head room
  case right =>
    intro eqid s
    obtain ⟨-, hclock, hep, hhs, -, -, -, -, -, -, -, -, -, -, -, -, hpkts⟩ := (s.retestQueue_thinned eqid).frame
    exact ⟨hclock, hep, hhs, hpkts, fun pn hport hn gate => State.retestQueue_of_no_gate hport hn gate⟩

/-! ### Scheduling decisions (R219, R263) -/

/-- The state that a decision is made in: what has left is gone, repeats of CANCEL are queued, the port is tested anew. -/
def State.decisionState (s : State) (dt region pn : Nat) : State := ((s.tick dt).reap.sendAgain).retest region pn

theorem exec_schedulingDecision {s : State} {region pn : Nat} (dt : Nat) (look : Look) (carries : s.traffic = true)
    (hr : region < 2) (hn : pn < 27) (whole : s.mode.fenced ≠ some region) :
    exec (.schedulingDecision dt region pn look) s = .next (
      match (if 16 ≤ pn && pn < 24 then (s.decisionState dt region pn).sendQueued region (pn - 16) else none) with
      | some t => t
      | none =>
        match ((s.decisionState dt region pn).decide_ region pn).1 with
        | some (p, picks, cut) => ((((s.decisionState dt region pn).decide_ region pn).2.stir).dequeue region pn p picks cut
            look).retest region pn
        | none => ((s.decisionState dt region pn).decide_ region pn).2) := by
  refine Eq.trans (show execSchedulingDecision .. = .next _ from cmd_then ?_) ?_
  · have whole' : ((s.tick dt).mode.fenced != some region) = true := bne_iff_ne.mpr whole
    simp only [State.tick_traffic, carries, hr, hn, whole', decide_true, Bool.and_self]
  · rfl

theorem not_link_port {pn : Nat} (h : pn < 16 ∨ 24 ≤ pn) : (decide (16 ≤ pn) && decide (pn < 24)) = false := by
  simp only [Bool.and_eq_false_iff, decide_eq_false_iff_not]
  omega

/-! ### Inline cipher operations (R357 to R359) -/

theorem lookup?_assoc_useSa (s : State) (region i : Nat) :
    (lookupD (s.useSa region i).cry.saCache region []).head? = some i := by
  simp [State.useSa, State.cry_setCry, saCacheSize]

@[simp] theorem State.useSa_busy (s : State) (region i : Nat) : (s.useSa region i).cry.busy = s.cry.busy := rfl

theorem State.engineStart_le (s : State) (e : Nat) : s.clock * engineUnits ≤ s.engineStart e := Nat.le_max_left _ _

theorem engineTime_ge (alg n : Nat) : 10 * engineUnits ≤ engineTime alg n := Nat.le_max_left _ _

/-- A packet leaves its engine 50 ns or more after its operation begins. -/
theorem State.cipherLeaves_ge (s : State) (p : Pkt) : s.clock + 50 ≤ s.cipherLeaves p := by
  have hstart := s.engineStart_le p.engineNum
  have htime := engineTime_ge (s.cipherAlg p) p.len
  unfold State.cipherLeaves
  generalize s.engineStart p.engineNum = start at *
  generalize engineTime (s.cipherAlg p) p.len = time at *
  extract_lets away derive
  clear_value away derive
  unfold engineUnits at *
  omega

theorem exec_inlineCipherOp {s : State} {dt id : Nat} {p : Pkt} (carries : s.traffic = true) (hp : s.pkt? id = some p)
    (turn : (p.loc = .cipher ∧ (s.tick dt).cipherTurn p = true) ∨ (p.loc = .ciphered ∧ (s.tick dt).cipherOut p = true)) :
    exec (.inlineCipherOp dt id) s =
      .next (if p.loc == .ciphered then (s.tick dt).afterCipher p else (s.tick dt).cipherStart p) := by
  refine Eq.trans (show execInlineCipherOp .. = .next _ from cmd_then ?_) ?_
  · simpa [carries, hp] using turn
  · simp [hp]

/-- Settles O16: the cases of a decision, and the two uses of INLINE_CIPHER_OP, whose operation begins with `cipherStart`. -/
theorem decisionsSendPackets : Obligations.DecisionsSendPackets := by
  unfold Obligations.DecisionsSendPackets
  intro dt region pn id look s carries
  refine ⟨fun u hu hr hn whole => ?decision, fun p hp => ⟨fun waits turn => ?starts, fun done out => ?ends⟩⟩
  case decision =>
    have hu' : s.decisionState dt region pn = u := hu.symm
    rw [exec_schedulingDecision dt look carries hr hn whole, hu']
    refine ⟨fun f q h16 h24 ready control => ?control, fun p picks cut w tree decided => ?picked,
      fun w tree decided => ?nothing⟩
    case control =>
      have sent : u.sendQueued region (pn - 16) = some ({ u with wv := { u.wv with ctlQ := q } }.sendFrame region (pn - 16) f) := by
        have hpn : 16 + (pn - 16) = pn := by omega
        simp [State.sendQueued, hpn, ready, control]
      simp [h16, h24, sent]
    case picked => simp [not_link_port tree, decided]
    case nothing => simp [not_link_port tree, decided]
  case starts =>
    have hexec := exec_inlineCipherOp carries hp (.inl ⟨waits, turn⟩)
    rw [waits, if_neg (by decide)] at hexec
    refine ⟨(s.tick dt).engineStart p.engineNum + engineTime ((s.tick dt).cipherAlg p) p.len, (s.tick dt).cipherLeaves p, _,
      hexec, rfl, rfl, ?engine, ?occupied, (s.tick dt).cipherLeaves_ge p, lookup?_assoc_useSa _ _ _⟩
    case engine => simp [State.cry_setCry]
    case occupied =>
      have hstart := (s.tick dt).engineStart_le p.engineNum
      have htime := engineTime_ge ((s.tick dt).cipherAlg p) p.len
      rw [State.tick_clock] at hstart
      rw [Nat.add_mul]
      exact Nat.add_le_add hstart htime
  case ends =>
    rw [exec_inlineCipherOp carries hp (.inr ⟨done, out⟩), if_pos (by simpa using done)]

/-! ### Age and waiting time (R70, R221, R290) -/

/-- The waiting times of all ports of a region are up to date. -/
def State.freshWaits (s : State) (region : Nat) : State := (List.range 27).foldl (fun a pn => State.refreshWait a region pn) s

theorem State.freshWaits_changes_wait_only (s : State) (region : Nat) :
    s.freshWaits region = { s with tm := { s.tm with wait := (s.freshWaits region).tm.wait } } := by
  unfold State.freshWaits
  generalize List.range 27 = l
  induction l generalizing s with
  | nil => rfl
  | cons pn l ih =>
    rw [List.foldl_cons, ih, s.refreshWait_changes_wait_only region pn]

theorem State.ageFrames_of_no_frames {s : State} (hc : s.wv.ctlQ = []) (hs : s.wv.shuttleQ = []) :
    s.ageFrames.pkts = s.pkts ∧ s.ageFrames.dict = s.dict := by
  simp [State.ageFrames, hc, hs]

theorem State.dropQueued_effect (s : State) (p : Pkt) (c : Nat) :
    (s.dropQueued p c).ctr (c + p.eqid / 65536) = Nat.min u64Max (s.ctr (c + p.eqid / 65536) + 1) ∧
      (s.dropQueued p c).pkts = s.pkts.filter fun x => x.id != p.id := by
  simp [State.dropQueued]

theorem State.ageDrop_wv (s : State) (p : Pkt) : (s.ageDrop p).wv = s.wv := by
  unfold State.ageDrop
  split <;> rfl

theorem exec_maxAgeCheck {s : State} {dt : Nat} {p : Pkt} (carries : s.traffic = true)
    (old : (s.pkts.filter fun x => (s.tick dt).tooOld x) = [p]) :
    exec (.maxAgeCheck dt) s =
      .next ((List.range 27).foldl (fun a pn => a.retestPort pn) ((s.tick dt).ageDrop p).ageFrames) := by
  refine Eq.trans (show execMaxAgeCheck .. = .next _ from cmd_then carries) ?_
  have old' : ((s.tick dt).pkts.filter fun x => (s.tick dt).tooOld x) = [p] := old
  rw [old']
  rfl

theorem exec_stageAgeCheck {s : State} {dt : Nat} {p : Pkt} (carries : s.traffic = true)
    (old : (s.pkts.filter fun x => x.loc == .staged && !coreFid x.dest && (s.tick dt).tooOld x) = [p]) :
    exec (.stageAgeCheck dt) s = .next (((s.tick dt).bump (Obj.HST_DROP_STAGE_AGE + fidPort p.dest)).dropPkt p.id) := by
  refine Eq.trans (show execStageAgeCheck .. = .next _ from cmd_then carries) ?_
  have old' : ((s.tick dt).pkts.filter fun x => x.loc == .staged && !coreFid x.dest && (s.tick dt).tooOld x) = [p] := old
  rw [old']
  rfl

/-- A leaf that has waited beyond its limit is promoted, with its counts. -/
def State.promote (s : State) (region q : Nat) : State :=
  let a := ({ s with tm := { s.tm with promo := assoc s.tm.promo q (s.clock, 0) } }).setCens q
    { s.censOf q with overdue := (s.censOf q).overdue + 1 }
  (a.bump (Obj.TM_OVERDUE + region)).latch (Obj.TM_OVERDUE_LAST + region) q

/-- One leaf of OVERDUE_CHECK, with the device clock since which it waits. -/
def State.overdueLeaf (region : Nat) (s : State) (w : Nat × Nat) : State :=
  if w.1 / 65536 == region && (lookup? s.tm.promo w.1).isNone
      && s.cfg (Obj.TM_OVERDUE_US + region) (leafNode (w.1 % 65536)) * 1000 < s.clock - w.2 then s.promote region w.1
  else s

theorem State.promote_effect (s : State) (region q : Nat) : lookup? (s.promote region q).tm.promo q = some (s.clock, 0) ∧
    (s.promote region q).ctr (Obj.TM_OVERDUE + region) = Nat.min u64Max (s.ctr (Obj.TM_OVERDUE + region) + 1) ∧
    (s.promote region q).cfg (Obj.TM_OVERDUE_LAST + region) = q ∧ (s.promote region q).pkts = s.pkts := by
  refine ⟨by simp [State.promote, State.setCens], ?_, by simp [State.promote], by simp [State.promote]⟩
  simp only [State.promote, State.ctr_latch, State.ctr_bump_self, State.ctr_setCens]
  rfl

theorem exec_overdueCheck {s : State} {dt region : Nat} (carries : s.traffic = true) (hr : region < 2) :
    exec (.overdueCheck dt region) s = .next
      (((s.tick dt).freshWaits region).tm.wait.foldl (State.overdueLeaf region) ((s.tick dt).freshWaits region)) :=
  by
  refine Eq.trans (show execOverdueCheck .. = .next _ from cmd_then (by simp [carries, hr])) ?_
  unfold State.freshWaits State.overdueLeaf State.promote
  rfl

/-- Settles O17: the one waiting leaf is promoted; the one packet that is too old is dropped by `ageDrop`, case by case of its
place; the one staged packet is dropped. -/
theorem waitingAndAgeChecks : Obligations.WaitingAndAgeChecks := by
  unfold Obligations.WaitingAndAgeChecks
  intro dt region s carries
  refine ⟨fun q since u hr hu hwait hq hpromo hlimit => ?overdue, fun p old noCtl noShuttle => ?age, fun p old => ?staged⟩
  case overdue =>
    obtain ⟨w, rfl⟩ : ∃ w, u = { s.tick dt with tm := { s.tm with wait := w } } :=
      ⟨_, hu.trans ((s.tick dt).freshWaits_changes_wait_only region)⟩
    have hexec := exec_overdueCheck (dt := dt) carries hr
    rw [State.freshWaits, ← hu, hwait, List.foldl_cons, List.foldl_nil, State.overdueLeaf, if_pos ?waited] at hexec
    case waited =>
      have late : State.cfg { s.tick dt with tm := { s.tm with wait := w } } (Obj.TM_OVERDUE_US + region) (leafNode (q % 65536)) *
          1000 < s.clock + dt - since := hlimit
      simpa [hq, hpromo] using late
    obtain ⟨hpromoted, hcount, hlast, hpkts⟩ := State.promote_effect _ region q
    exact ⟨_, hexec, hpromoted, hcount, hlast, hpkts⟩
  case age =>
    obtain ⟨hpkts, hdict⟩ : ((s.tick dt).ageDrop p).ageFrames.pkts = ((s.tick dt).ageDrop p).pkts ∧
        ((s.tick dt).ageDrop p).ageFrames.dict = ((s.tick dt).ageDrop p).dict :=
      State.ageFrames_of_no_frames (by rw [State.ageDrop_wv]; exact noCtl) (by rw [State.ageDrop_wv]; exact noShuttle)
    have hctr : ∀ o, ((s.tick dt).ageDrop p).ageFrames.ctr o = ((s.tick dt).ageDrop p).ctr o := by
      intro o
      unfold State.ctr
      rw [hdict]
    refine ⟨_, exec_maxAgeCheck carries old, fun place => ?pipe, fun place => ?manager, fun place => ?queue⟩
    all_goals rw [hpkts, hctr]
    case pipe =>
      have drop : (s.tick dt).ageDrop p = (s.tick dt).dropPipe p Obj.PIPE_DROP_MAX_AGE := by
        rcases place with h | h | ⟨n, e, h⟩ <;> simp [State.ageDrop, h]
      simp [drop, State.dropPipe]
    case manager =>
      have drop : (s.tick dt).ageDrop p = ((s.tick dt).bump (Obj.TM_DROP_MAX_AGE + p.region)).dropPkt p.id := by
        rcases place with h | h | h | h <;> simp [State.ageDrop, h]
      simp [drop]
    case queue =>
      have drop : (s.tick dt).ageDrop p = (s.tick dt).dropQueued p Obj.TM_DROP_MAX_AGE := by
        rcases place with h | h | h <;> simp [State.ageDrop, h]
      rw [drop]
      obtain ⟨hcount, hgone⟩ := (s.tick dt).dropQueued_effect p Obj.TM_DROP_MAX_AGE
      exact ⟨hgone, hcount⟩
  case staged => exact ⟨_, exec_stageAgeCheck carries old, by simp, by simp⟩

end Sys2Proof.Machine
end

section
/-!
PROOFS. Passes of a packet through a pipeline (R61, R87, R90, R240), and pattern scans of diverted packets and of ring data
(R190 to R197).
-/

namespace Sys2Proof.Machine

/-! ### Passes (R61, R87, R90, R240) -/

/-- A packet's pipeline lies in the region it was picked for. -/
theorem pickPipe_region (r : Nat) (p : Pkt) : pickPipe r p / 4 = r := by
  unfold pickPipe
  omega

theorem exec_ingressPass {s : State} {dt id : Nat} {p : Pkt} (look : Look) (carries : s.traffic = true)
    (hp : s.pkt? id = some p) (enters : (s.tick dt).mayEnter id = true) :
    exec (.ingressPass dt id look) s =
      .next (if p.loc == .recirc then (s.after dt).laterPass p look else (s.after dt).firstPass p look) := by
  have hp' : (s.after dt).pkt? id = some p := by rw [State.after_pkt?, hp]
  refine Eq.trans (show execIngressPass .. = .next _ from work_then (by simp [carries, enters])) ?_
  rw [← State.after, hp']

theorem exec_deferredMetering {s : State} {dt id : Nat} {p : Pkt} (carries : s.traffic = true)
    (hp : s.pkt? id = some p) (ready : (s.tick dt).mayMeter id = true) :
    exec (.deferredMetering dt id) s = .next (((s.tick dt).toTm ((s.tick dt).pktVer p) p).releaseFlow p) := by
  refine Eq.trans (show execDeferredMetering .. = .next _ from cmd_then (by simp [carries, ready])) ?_
  rw [State.tick_pkt, hp]

/-- Settles O14: the packet that `firstPass` and `laterPass` send through ingress. -/
theorem ingressPassStampsThePacket : Obligations.IngressPassStampsThePacket := by
  unfold Obligations.IngressPassStampsThePacket
  intro dt id look p s carries hp
  refine ⟨fun enters fresh => ?first, fun enters again => ?later, exec_deferredMetering carries hp⟩
  case first =>
    rw [exec_ingressPass look carries hp enters, if_neg (by simpa using fresh)]
    exact ⟨_, _, rfl, rfl, rfl, rfl, congrArg (some ·.current) (s.after_ep dt), s.after_clock dt, rfl, pickPipe_region _ p⟩
  case later =>
    rw [exec_ingressPass look carries hp enters, if_pos (by simpa using again)]
    refine ⟨_, _, _, rfl, rfl, rfl, ?_⟩
    simp

/-! ### Scans of diverted packets (R190 to R194) -/

theorem exec_divertScanStart {s : State} {dt region lane : Nat} {p : Pkt} (carries : s.traffic = true) (hr : region < 2)
    (turn : (s.tick dt).scanPick.1 = some region) (free : (s.tick dt).freeLane = some lane)
    (head : s.divertHead region = some p) :
    exec (.divertScanStart dt region) s = .next ((((s.tick dt).scanPick.2).chargeScan region p.scanned.length).setPkt
      { p with loc := .lane lane (s.clock + dt + scanTime p.scanned.length) }) := by
  have head' : (s.tick dt).divertHead region = some p := head
  refine Eq.trans (show execDivertScanStart .. = .next _ from cmd_then (by simp [carries, hr, turn, free, head'])) ?_
  rw [head', free]
  rfl

theorem exec_divertScanEnd {s : State} {dt id lane e : Nat} {p : Pkt} (carries : s.traffic = true) (hp : s.pkt? id = some p)
    (hl : p.loc = .lane lane e) (ended : e ≤ s.clock + dt) :
    exec (.divertScanEnd dt id) s =
      .next (((s.tick dt).countScan p.region p.scanned.length (s.scanPkt p).length).toRecirc
        { p with md := mdSet p.md 448 64 (scanWord (mdDivertSet p.md) (s.scanPkt p)) }) := by
  refine Eq.trans (show execDivertScanEnd .. = .next _ from cmd_then (by simp [carries, hp, hl, ended])) ?_
  rw [State.tick_pkt, hp]
  rfl

/-! ### Scans of ring data (R195 to R197) -/

@[simp] theorem State.after_qp? (s : State) (dt f q : Nat) : (s.after dt).qp? f q = s.qp? f q := by
  unfold State.qp?
  rw [State.after_hs]

theorem State.scanEnded_of_oldest {s : State} {f q : Nat} {e : LookScan}
    (oldest : (s.hs.scans.find? fun y => y.fid == f && y.q == q) = some e) (ended : e.ends ≤ s.clock) :
    s.scanEnded f q = some e := by
  simp [State.scanEnded, oldest, Option.filter, ended]

/-- What PATTERN_SCAN does on the state that activity has stirred. -/
theorem exec_patternScan {s : State} {dt f q : Nat} {given data : HostRead} (carries : s.traffic = true)
    (hgiven : (s.tick dt).mayAnswer f given = true) (hdata : (s.tick dt).mayAnswer f data = true)
    (turn : ((s.tick dt).scanEnded f q).isSome = true ∨ (s.tick dt).scanTurn f q = true) :
    exec (.patternScan dt f q given data) s = .next (
      match (s.after dt).scanEnded f q, (s.after dt).qp? f q, (s.after dt).freeLane with
      | some e, some x, _ => (s.after dt).scanFinish e x
      | none, some x, some lane =>
        match State.jobFetch { (s.after dt).scanPick.2 with
            tm := { (s.after dt).scanPick.2.tm with patRing := qpKey f q } } f q x given with
        | .wait u => u
        | .lost u => if (s.after dt).hs.scans.any (fun y => y.fid == f && y.q == q) then s.after dt
          else u.jobDone f q (pscEntry [] 3 false 0 0)
        | .got d u => u.scanTake f q x d lane data
      | _, _, _ => s.after dt) := by
  refine Eq.trans (show execPatternScan .. = .next _ from work_then ?_) rfl
  rcases turn with h | h <;> simp [carries, hgiven, hdata, h]

/-- Settles O18: the starts and ends of scans, and the three outcomes of fetching a ring's descriptor. -/
theorem scansOfPackets : Obligations.ScansOfPackets := by
  unfold Obligations.ScansOfPackets
  intro dt region id f q lane p x given data s carries
  refine ⟨fun hr turn free head => ?start, fun e hp hl ended => exec_divertScanEnd carries hp hl ended,
    fun u hgiven hdata hx notEnded turn free notEnded' hu => ?take, fun e hgiven hdata hx oldest ended => ?finish⟩
  case start => exact ⟨_, exec_divertScanStart carries hr turn free head, rfl⟩
  case take =>
    have hexec := exec_patternScan (given := given) (data := data) carries hgiven hdata (.inr turn)
    rw [notEnded', State.after_qp?, hx, free, ← hu] at hexec
    dsimp only at hexec
    refine ⟨fun t hfetch => ?wait, fun t hfetch none_ => ?lost, fun d t hfetch => ?got⟩
    case wait => rw [hexec, hfetch]
    case lost =>
      have noScan : ((s.after dt).hs.scans.any fun y => y.fid == f && y.q == q) = false := by
        simpa [State.after_hs] using none_
      rw [hexec, hfetch]
      simp only [noScan, Bool.false_eq_true, if_false]
    case got => rw [hexec, hfetch]
  case finish =>
    have ended' := State.scanEnded_of_oldest (s := s.tick dt) oldest ended
    have ended'' : (s.after dt).scanEnded f q = some e :=
      State.scanEnded_of_oldest (by rw [State.after_hs, oldest]) (by rw [State.after_clock]; exact ended)
    have hexec := exec_patternScan (given := given) (data := data) carries hgiven hdata (.inl (by rw [ended']; rfl))
    rw [hexec, ended'', State.after_qp?, hx]

end Sys2Proof.Machine
end

section
/-!
PROOFS. What the operations towards hosts and managers change: records, events, interrupts, messages, writes of functions and
entries of their rings. They leave the datapath, tables, epochs, modes, keys, images and fuses as they are.
-/

namespace Sys2Proof.Machine

/-! ### The part of the state that hosts and managers see change -/

/-- Objects that such operations latch: states of host links (a wake from L1, R305) and what shows the error log (R476). -/
def latchedAside (o : Nat) : Bool :=
  (Obj.HST_LINK_STATE ≤ o && o < Obj.HST_LINK_STATE + 4) || o == Obj.ERR_LOG_COUNT || o == Obj.ERR_LOG_TOTAL
    || o == Obj.ERR_LOG_LAST

/-- The state `s` with that part taken from `u`. -/
def State.hostPut (s u : State) : State :=
  { s with
    dict := { s.dict with val := u.dict.val, ctr := u.dict.ctr }
    mgmt := { s.mgmt with
      sessions := u.mgmt.sessions, evNumber := u.mgmt.evNumber, evLog := u.mgmt.evLog, evHeld := u.mgmt.evHeld,
      d2h := u.mgmt.d2h, d2hReady := u.mgmt.d2hReady }
    hs := { s.hs with
      fn := u.hs.fn, qp := u.hs.qp, reqs := u.hs.reqs, xl := u.hs.xl, pri := u.hs.pri, late := u.hs.late,
      logFilter := u.hs.logFilter }
    core := { s.core with mem := u.core.mem, imsic := u.core.imsic, aplic := u.core.aplic }
    flt := { s.flt with
      log := u.flt.log, cells := u.flt.cells, cellRec := u.flt.cellRec, unwritten := u.flt.unwritten }
    free := u.free
    out := u.out }

/-- Every host link keeps its state, or is up and has woken to L0 (R305). -/
def LinksKeep (s t : State) : Prop :=
  ∀ l, l < 4 → t.linkState l = s.linkState l ∨ (s.linkUp l = true ∧ t.linkState l = 2)

theorem LinksKeep.refl (s : State) : LinksKeep s s := fun _ _ => .inl rfl

theorem linkUp_of_two {s : State} {l : Nat} (h : s.linkState l = 2) : s.linkUp l = true := by
  rw [State.linkUp, h]
  rfl

theorem LinksKeep.trans {s t u : State} (h : LinksKeep s t) (g : LinksKeep t u) : LinksKeep s u := by
  intro l hl
  rcases h l hl with same | ⟨up, woken⟩
  · have up : t.linkUp l = s.linkUp l := by rw [State.linkUp, same, ← State.linkUp]
    rcases g l hl with same' | ⟨up', woken'⟩
    · exact .inl (same'.trans same)
    · exact .inr ⟨up ▸ up', woken'⟩
  · rcases g l hl with same' | ⟨-, woken'⟩
    · exact .inr ⟨up, same'.trans woken⟩
    · exact .inr ⟨up, woken'⟩

theorem LinksKeep.of_val {s t : State} (h : t.dict.val = s.dict.val) : LinksKeep s t := fun l _ => .inl (by
  rw [State.linkState, State.cfg, h, ← State.cfg, ← State.linkState])

theorem State.latch_linksKeep (s : State) {o : Nat} (v : Nat) (h : ∀ l, l < 4 → o ≠ Obj.HST_LINK_STATE + l) :
    LinksKeep s (s.latch o v) := fun l hl => .inl <| State.cfg_setCfg_ne _ _ _ _ _ _ fun heq => h l hl (by
  unfold okey at heq
  omega)

theorem LinksKeep.linkUp {s t : State} (h : LinksKeep s t) {l : Nat} (hl : l < 4) : t.linkUp l = s.linkUp l := by
  rcases h l hl with same | ⟨up, woken⟩
  · rw [State.linkUp, same, ← State.linkUp]
  · rw [up, linkUp_of_two woken]

/-- Only that part differs, and of the dictionary's values only those that are latched aside. -/
structure HostOnly (s t : State) : Prop where
  part : t = s.hostPut t
  cfg : ∀ o e, latchedAside o = false → e < 2 ^ 32 → t.cfg o e = s.cfg o e
  links : LinksKeep s t

theorem HostOnly.refl (s : State) : HostOnly s s := ⟨rfl, fun _ _ _ _ => rfl, .refl s⟩

theorem HostOnly.trans {s t u : State} (h : HostOnly s t) (g : HostOnly t u) : HostOnly s u := by
  refine ⟨?_, fun o e ho he => (g.cfg o e ho he).trans (h.cfg o e ho he), h.links.trans g.links⟩
  calc u = t.hostPut u := g.part
    _ = (s.hostPut t).hostPut u := congrArg (·.hostPut u) h.part
    _ = s.hostPut u := rfl

theorem HostOnly.foldl {α : Type} {f : State → α → State} (l : List α) (s : State) (h : ∀ a x, HostOnly a (f a x)) :
    HostOnly s (l.foldl f s) := by
  induction l generalizing s with
  | nil => exact HostOnly.refl s
  | cons x l ih => exact (h s x).trans (ih _)

/-- A state whose values are those of before. -/
theorem HostOnly.of_part {s t : State} (h : t = s.hostPut t) (hv : t.dict.val = s.dict.val) : HostOnly s t :=
  ⟨h, fun o e _ _ => by unfold State.cfg; rw [hv], .of_val hv⟩

theorem HostOnly.frame {s t : State} (h : HostOnly s t) : t.now = s.now ∧ t.clock = s.clock ∧ t.pending = s.pending ∧
    t.store = s.store ∧ t.ep = s.ep ∧ t.tbl = s.tbl ∧ t.tern = s.tern ∧ t.lrn = s.lrn ∧ t.pkts = s.pkts ∧ t.tm = s.tm ∧
    t.mode = s.mode ∧ t.wv = s.wv ∧ t.pps = s.pps ∧ t.pwr = s.pwr ∧ t.cry = s.cry ∧ t.stg = s.stg ∧ t.img = s.img ∧
    t.fuse = s.fuse ∧ t.pkg = s.pkg := by
  rw [h.part]
  exact ⟨rfl, rfl, rfl, rfl, rfl, rfl, rfl, rfl, rfl, rfl, rfl, rfl, rfl, rfl, rfl, rfl, rfl, rfl, rfl⟩

theorem State.bump_hostOnly (s : State) (o : Nat) : HostOnly s (s.bump o) := .of_part rfl rfl
theorem State.emit_hostOnly (s : State) (o : Output) : HostOnly s (s.emit o) := .of_part rfl rfl
theorem State.setFn_hostOnly (s : State) (f : Nat) (x : Fn) : HostOnly s (s.setFn f x) := .of_part rfl rfl
theorem State.setQp_hostOnly (s : State) (f q : Nat) (x : Qp) : HostOnly s (s.setQp f q x) := .of_part rfl rfl
theorem State.msi_hostOnly (s : State) (hart level identity : Nat) : HostOnly s (s.msi hart level identity) := .of_part rfl rfl
theorem State.fresh_hostOnly (s : State) (w : Nat) : HostOnly s (s.fresh w).2 := .of_part rfl rfl

theorem State.latch_hostOnly (s : State) {o : Nat} (v : Nat) (h : latchedAside o = true) (links : LinksKeep s (s.latch o v)) :
    HostOnly s (s.latch o v) := by
  refine ⟨rfl, fun p e hp he => State.cfg_setCfg_ne _ _ _ _ _ _ fun heq => ?_, links⟩
  have : p = o := by
    unfold okey at heq
    omega
  rw [this, h] at hp
  exact Bool.noConfusion hp

/-- Objects that show the error log. -/
def showsLog (o : Nat) : Prop := o = Obj.ERR_LOG_TOTAL ∨ o = Obj.ERR_LOG_COUNT ∨ o = Obj.ERR_LOG_LAST

theorem showsLog_ne_link {o l : Nat} (h : showsLog o) (hl : l < 4) : o ≠ Obj.HST_LINK_STATE + l := by
  unfold showsLog Obj.ERR_LOG_TOTAL Obj.ERR_LOG_COUNT Obj.ERR_LOG_LAST at h
  unfold Obj.HST_LINK_STATE
  omega

theorem State.latchLog_hostOnly (s : State) {o : Nat} (v : Nat) (h : showsLog o) : HostOnly s (s.latch o v) := by
  refine s.latch_hostOnly v ?_ (s.latch_linksKeep v fun l hl => showsLog_ne_link h hl)
  rcases h with rfl | rfl | rfl <;> rfl

/-! ### Links and interrupts of functions (R305, R342 to R344) -/

theorem fidPort_lt_two (f : Nat) : fidPort f < 2 := fld_lt_two_pow f 13 1

theorem State.linkOf_lt_four (s : State) (f : Nat) : s.linkOf f < 4 := by
  have := fidPort_lt_two f
  unfold State.linkOf
  split <;> omega

theorem State.wake_linksKeep (s : State) {l : Nat} (l1 : (decide (4 ≤ s.linkState l) && decide (s.linkState l ≤ 6)) = true) :
    LinksKeep s (s.latch (Obj.HST_LINK_STATE + l) 2) := by
  intro k _
  by_cases hk : k = l
  · subst hk
    simp only [Bool.and_eq_true, decide_eq_true_eq] at l1
    refine .inr ⟨?_, State.cfg_latch_self _ _ _⟩
    simp only [State.linkUp, Bool.and_eq_true, decide_eq_true_eq]
    omega
  · exact .inl (State.cfg_latch_ne _ _ _ _ (by omega))

theorem State.wakeLink_hostOnly (s : State) {l : Nat} (h : l < 4) : HostOnly s (s.wakeLink l) := by
  unfold State.wakeLink
  split
  next l1 => exact s.latch_hostOnly 2 (by simp [latchedAside, h]) (s.wake_linksKeep l1)
  next => exact .refl s

theorem State.wakeLink_linkOf_hostOnly (s t : State) (f : Nat) : HostOnly s (s.wakeLink (t.linkOf f)) :=
  s.wakeLink_hostOnly (t.linkOf_lt_four f)

theorem State.holdInt_hostOnly (s : State) (f vec : Nat) (pasid : Option Nat) : HostOnly s (s.holdInt f vec pasid) := by
  unfold State.holdInt
  extract_lets x
  split
  · exact .refl s
  · exact s.setFn_hostOnly _ _

theorem State.deliverInt_hostOnly (s : State) (f vec : Nat) (pasid : Option Nat) : HostOnly s (s.deliverInt f vec pasid) := by
  unfold State.deliverInt
  extract_lets x e s1 s2 m
  have h1 : HostOnly s s1 := by
    unfold s1
    split
    · exact s.emit_hostOnly _
    · exact .refl s
  have h2 : HostOnly s s2 := by
    unfold s2
    split
    · exact ((s.wakeLink_linkOf_hostOnly s f).trans (State.emit_hostOnly _ _)).trans (State.setFn_hostOnly _ _ _)
    · exact .refl s
  repeat' split
  · exact .refl s
  · exact s.holdInt_hostOnly _ _ _
  · exact s.msi_hostOnly _ _ _
  · exact h1.trans (s1.holdInt_hostOnly _ _ _)
  · exact h2.trans (s2.holdInt_hostOnly _ _ _)
  · exact .refl s
  · exact s.setFn_hostOnly _ _
  · exact s.holdInt_hostOnly _ _ _
  · exact (s.wakeLink_linkOf_hostOnly s f).trans (State.emit_hostOnly _ _)

/-! ### Messages, events and records (R392 to R404, R475 to R477) -/

theorem State.sendOmp_hostOnly (s : State) (port sess : Nat) (msg : Bytes) : HostOnly s (s.sendOmp port sess msg) := by
  unfold State.sendOmp
  extract_lets _ s1
  have h1 : HostOnly s s1 := .of_part rfl rfl
  repeat' split
  · exact s.bump_hostOnly _
  · exact h1
  · exact h1.trans (s1.deliverInt_hostOnly _ _ _)
  · exact s.emit_hostOnly _

theorem State.sendEventTo_hostOnly (s : State) (x : Session) (body : Bytes) : HostOnly s (s.sendEventTo x body) := by
  unfold State.sendEventTo
  extract_lets ss _ s1
  have h1 : HostOnly s s1 := .of_part rfl rfl
  exact (h1.trans (s1.sendOmp_hostOnly _ _ _)).trans (State.bump_hostOnly _ _)

theorem State.deliverEvent_hostOnly (s : State) (cls : Nat) (only : Option (Nat × Nat)) (body : Bytes) :
    HostOnly s (s.deliverEvent cls only body) :=
  HostOnly.foldl _ s fun a x => a.sendEventTo_hostOnly x body

theorem State.setEvents_hostOnly (s : State) (n : Nat) (lg : List Bytes) (held : List (Nat × Option (Nat × Nat) × Bytes)) :
    HostOnly s { s with mgmt := { s.mgmt with evNumber := n, evLog := lg, evHeld := held } } := .of_part rfl rfl

theorem State.setLog_hostOnly (s : State) (lg : List Bytes) (young : List (Nat × Bytes)) :
    HostOnly s { s with flt := { s.flt with log := lg, unwritten := young } } := .of_part rfl rfl

theorem State.raise_hostOnly (s : State) (code cls obj : Nat) (detail : Bytes) (only : Option (Nat × Nat)) :
    HostOnly s (s.raise code cls obj detail only) := by
  unfold State.raise
  extract_lets n body lg lg' _ s1
  have h1 : HostOnly s s1 := s.setEvents_hostOnly n lg' s.mgmt.evHeld
  split
  · exact h1.trans (s1.setEvents_hostOnly s1.mgmt.evNumber s1.mgmt.evLog _)
  · exact h1.trans (s1.deliverEvent_hostOnly _ _ _)

theorem State.logErr_hostOnly (s : State) (e : ErrInfo) : HostOnly s (s.logErr e) := by
  unfold State.logErr
  extract_lets n b r s1 lg lg' young _ s2 s3
  have h1 : HostOnly s s1 := by
    unfold s1
    split
    · exact s.bump_hostOnly _
    · exact .refl s
  have h2 : HostOnly s1 s2 := s1.setLog_hostOnly lg' _
  have h3 : HostOnly s2 s3 :=
    ((State.latchLog_hostOnly _ _ (.inl rfl)).trans (State.latchLog_hostOnly _ _ (.inr (.inl rfl)))).trans
      (State.latchLog_hostOnly _ _ (.inr (.inr rfl)))
  exact ((((h1.trans h2).trans h3).trans (s3.emit_hostOnly _)).trans (State.emit_hostOnly _ _)).trans
    (State.raise_hostOnly _ _ _ _ _ _)

theorem State.logRate_hostOnly (s : State) (e : ErrInfo) : HostOnly s (s.logRate e) := by
  unfold State.logRate
  extract_lets recent
  split
  · exact s.bump_hostOnly _
  · refine HostOnly.trans ?_ (State.logErr_hostOnly _ _)
    exact .of_part rfl rfl

theorem State.logCell_hostOnly (s : State) (e : ErrInfo) : HostOnly s (s.logCell e) := by
  unfold State.logCell
  extract_lets hot cs
  split
  · exact .of_part rfl rfl
  · refine HostOnly.trans ?_ (State.logRate_hostOnly _ _)
    exact .of_part rfl rfl

/-! ### Writes of functions (R299, R334, R349 to R351) -/

theorem State.appWrite_hostOnly (s : State) (addr : Nat) (bs : Bytes) : HostOnly s (s.appWrite addr bs) := by
  unfold State.appWrite
  split
  · exact .of_part rfl rfl
  · exact .refl s

theorem State.issueMem_hostOnly (s : State) (f : Nat) (attr : Attr) (addr : Nat) (bs : Bytes) :
    HostOnly s (s.issueMem f attr addr bs) := by
  unfold State.issueMem
  split
  · exact s.appWrite_hostOnly _ _
  · exact (s.wakeLink_linkOf_hostOnly s f).trans (State.emit_hostOnly _ _)

theorem State.sendReq_hostOnly (s : State) (r : Req) (attr : Attr) (h : r.link < 4) : HostOnly s (s.sendReq r attr) := by
  unfold State.sendReq
  extract_lets s1
  exact (s.wakeLink_hostOnly h).trans (.of_part rfl rfl)

theorem State.askXl_hostOnly {s t : State} {f work piece addr : Nat} {pasid : Option Nat}
    (h : s.askXl f pasid work piece addr = some t) : HostOnly s t := by
  simp only [State.askXl] at h
  split at h
  · cases h
  · obtain ⟨tag, -, rfl⟩ := Option.map_eq_some_iff.mp h
    exact s.sendReq_hostOnly _ _ (s.linkOf_lt_four f)

theorem State.askXl_getD_hostOnly (s : State) (f : Nat) (pasid : Option Nat) (work piece addr : Nat) :
    HostOnly s ((s.askXl f pasid work piece addr).getD s) := by
  cases h : s.askXl f pasid work piece addr with
  | none => exact .refl s
  | some t => exact State.askXl_hostOnly h

theorem State.askPage_hostOnly (s : State) (r : PageReq) : HostOnly s (s.askPage r) := by
  unfold State.askPage
  extract_lets s1
  exact ((s.bump_hostOnly _).trans (State.wakeLink_linkOf_hostOnly _ s _)).trans (.of_part rfl rfl)

theorem State.xlWrite_wait_hostOnly {s t : State} {f addr : Nat} {pasid : Option Nat}
    (h : s.xlWrite f pasid addr = .wait t) : HostOnly s t := by
  simp only [State.xlWrite] at h
  repeat' split at h
  all_goals cases h
  · exact .refl s
  · exact s.askPage_hostOnly _
  · exact .refl s
  · exact s.askXl_getD_hostOnly _ _ _ _ _

theorem State.writeNow_hostOnly (s : State) (f : Nat) (attr : Attr) (addr : Nat) (bs : Bytes) :
    HostOnly s (s.writeNow f attr addr bs) := by
  unfold State.writeNow
  split
  · exact s.issueMem_hostOnly _ _ _ _
  · exact .refl s

theorem State.ringWrite0_hostOnly (s : State) (f q : Nat) (x : Qp) (entry : Bytes) : HostOnly s (s.ringWrite0 f q x entry) := by
  unfold State.ringWrite0
  extract_lets y a s1 s2
  have h1 : HostOnly s s1 := (s.setQp_hostOnly _ _ _).trans (State.writeNow_hostOnly _ _ _ _ _)
  have h2 : HostOnly s s2 := h1.trans (s1.writeNow_hostOnly _ _ _ _)
  split
  · exact h2.trans (s2.deliverInt_hostOnly _ _ _)
  · exact h2

theorem State.slotXl_hostOnly {s t : State} {f : Nat} {x : Qp} (h : s.slotXl f x = some t) : HostOnly s t := by
  simp only [State.slotXl] at h
  split at h
  · cases h
    exact State.xlWrite_wait_hostOnly ‹_›
  · cases h
    exact State.xlWrite_wait_hostOnly ‹_›
  · cases h

/-- What the log check of a write leaves, whether the write may go or waits. -/
theorem State.logWrite_hostOnly {s t : State} {f addr : Nat} (h : s.logWrite f addr = .go t ∨ s.logWrite f addr = .wait t) :
    HostOnly s t := by
  simp only [State.logWrite] at h
  split at h
  · rcases h with h | h <;> cases h
    exact .refl s
  · split at h
    · rcases h with h | h <;> cases h
      exact .refl s
    · split at h
      · rcases h with h | h <;> cases h
        exact .refl s
      · split at h
        · rcases h with h | h <;> cases h
          exact .refl s
        · split at h
          · rcases h with h | h <;> cases h
            exact .refl s
          · split at h
            · rcases h with h | h <;> cases h
              exact State.slotXl_hostOnly ‹_›
            · rcases h with h | h <;> cases h
              exact (s.ringWrite0_hostOnly _ _ _ _).trans (.of_part rfl rfl)

theorem State.giveUsed_hostOnly (s : State) (f q n : Nat) : HostOnly s (s.giveUsed f q n) := by
  unfold State.giveUsed
  extract_lets x s1
  have h1 : HostOnly s s1 := by
    unfold s1
    split
    · exact .refl s
    · exact s.setFn_hostOnly _ _
  exact (h1.trans (s1.wakeLink_linkOf_hostOnly s f)).trans (State.emit_hostOnly _ _)

/-- The state that an attempt to write leaves. -/
def Sent.state : Sent → State
  | .went s => s
  | .waits s _ => s

theorem State.tryWrite_hostOnly (s : State) (f : Nat) (w : HWrite) : HostOnly s (s.tryWrite f w).state := by
  cases w with
  | int vec pasid => exact s.deliverInt_hostOnly f vec pasid
  | used q n =>
    unfold State.tryWrite
    dsimp only
    split
    · exact s.giveUsed_hostOnly f q n
    · exact .refl s
  | mem attr addr bs =>
    unfold State.tryWrite
    dsimp only
    split
    · exact .refl s
    · split
      · exact State.xlWrite_wait_hostOnly ‹_›
      · exact .refl s
      · split
        · exact (State.logWrite_hostOnly (.inl ‹_›)).trans (State.issueMem_hostOnly _ _ _ _ _)
        · exact State.logWrite_hostOnly (.inr ‹_›)

theorem State.holdWrites_hostOnly (s : State) (f : Nat) (ws : List HWrite) (log : Bool) : HostOnly s (s.holdWrites f ws log) := by
  unfold State.holdWrites
  extract_lets x s1
  have h1 : HostOnly s s1 := s.setFn_hostOnly _ _
  split
  · exact h1.trans (s1.bump_hostOnly _)
  · exact h1

theorem State.hostWrite_hostOnly (s : State) (f : Nat) (w : HWrite) : HostOnly s (s.hostWrite f w) := by
  have h := s.tryWrite_hostOnly f w
  unfold State.hostWrite
  split
  · exact s.holdWrites_hostOnly _ _ _
  · split <;> rename_i heq <;> rw [heq] at h
    · exact h
    · exact h.trans (State.holdWrites_hostOnly _ _ _ _)

/-! ### Entries of rings (R332 to R341) -/

theorem State.publish_hostOnly (s : State) (f q : Nat) (x : Qp) (entry : Bytes) : HostOnly s (s.publish f q x entry) := by
  unfold State.publish
  extract_lets y a s1 s2
  have h1 : HostOnly s s1 := (s.setQp_hostOnly _ _ _).trans (State.hostWrite_hostOnly _ _ _)
  have h2 : HostOnly s s2 := h1.trans (s1.hostWrite_hostOnly _ _)
  split
  · exact h2.trans (s2.hostWrite_hostOnly _ _)
  · exact h2

theorem State.virtioUse_hostOnly (s : State) (f q n : Nat) : HostOnly s (s.virtioUse f q n) := by
  unfold State.virtioUse
  extract_lets s1 v
  have h1 : HostOnly s s1 := s.hostWrite_hostOnly _ _
  have h2 : HostOnly s v.2 := h1.trans (s1.fresh_hostOnly 1)
  repeat' split
  · exact h2.trans (State.hostWrite_hostOnly _ _ _)
  · exact h2
  · exact h1

theorem State.complete_hostOnly (s : State) (f q cons : Nat) (entry : Bytes) : HostOnly s (s.complete f q cons entry) := by
  unfold State.complete
  split
  · exact .refl s
  · extract_lets y z
    repeat' split
    · exact (s.setQp_hostOnly _ _ _).trans (State.virtioUse_hostOnly _ _ _ _)
    · exact s.publish_hostOnly _ _ _ _
    · exact (s.setQp_hostOnly _ _ _).trans (State.bump_hostOnly _ _)
    · exact s.setQp_hostOnly _ _ _

theorem State.jobTaken_hostOnly (s : State) (f q : Nat) : HostOnly s (s.jobTaken f q) := by
  unfold State.jobTaken
  split
  · exact .refl s
  · exact s.setQp_hostOnly _ _ _

theorem State.jobOver_hostOnly (s : State) (f q : Nat) (entry : Bytes) : HostOnly s (s.jobOver f q entry) := by
  unfold State.jobOver
  split
  · exact .refl s
  · exact s.complete_hostOnly _ _ _ _

theorem State.jobDone_hostOnly (s : State) (f q : Nat) (entry : Bytes) : HostOnly s (s.jobDone f q entry) :=
  (s.jobTaken_hostOnly f q).trans (State.jobOver_hostOnly _ _ _ _)

end Sys2Proof.Machine
end

section
/-!
PROOFS. Tables: the ternary scrub (R184, R186), ageing (R165), records that cross the bridge (R171), and table-operation records
(R159, R160, R163, R75).
-/

namespace Sys2Proof.Machine

/-! ### The ternary scrub -/

/-- Bits of an entry have flipped. -/
def State.flippedAt (s : State) (region bank entry : Nat) : Bool :=
  s.tern.flips.any fun f => f.1 == region && f.2.bank == bank && f.2.entry == entry

theorem State.flippedAt_eq_true {s : State} {region bank entry : Nat} :
    s.flippedAt region bank entry = true ↔ ∃ f ∈ s.tern.flips, f.1 = region ∧ f.2.bank = bank ∧ f.2.entry = entry := by
  simp [State.flippedAt, and_assoc]

theorem State.flippedAt_eq_false {s : State} {region bank entry : Nat}
    (h : ∀ f ∈ s.tern.flips, ¬(f.1 = region ∧ f.2.bank = bank ∧ f.2.entry = entry)) : s.flippedAt region bank entry = false := by
  rw [Bool.eq_false_iff, Ne, State.flippedAt_eq_true]
  rintro ⟨f, hf, heq⟩
  exact h f hf heq

theorem exec_scrubVisit {s : State} {dt region bank u : Nat} {p : ScrubPass} {i : TInfo} (found : ScrubFind)
    (carries : s.traffic = true) (hr : region < 2) (whole : s.mode.fenced ≠ some region)
    (next : (s.tick dt).scrubNext region = some (p, bank, u)) (table : (s.tick dt).bankTable bank = some i) :
    exec (.scrubVisit dt region bank u found) s = .next (
      if found == .lost then ((s.tick dt).scrubLose i region bank u).scrubbed region p bank u p.fixed
      else if s.flippedAt region bank (u / i.units) || (found == .differs && p.fixed != some (bank, u / i.units)) then
        ((s.tick dt).scrubFix region bank (u / i.units)).scrubbed region p bank u (some (bank, u / i.units))
      else (s.tick dt).scrubbed region p bank u p.fixed) := by
  refine Eq.trans (show execScrubVisit .. = .next _ from cmd_then (by simp [carries, hr, whole, next])) ?_
  rw [table, next]
  rfl

/-- The repair of an entry: its location and time are shown, its flips are gone, no stored entry changes. -/
theorem State.scrubFix_effect (s : State) (region bank entry : Nat) :
    (s.scrubFix region bank entry).cfg Obj.TCAM_SCRUB_LAST = scrubLoc region bank entry ∧
    (s.scrubFix region bank entry).cfg Obj.TCAM_SCRUB_LAST_TIME = s.now ∧
    (∀ f ∈ (s.scrubFix region bank entry).tern.flips, ¬(f.1 = region ∧ f.2.bank = bank ∧ f.2.entry = entry)) ∧
    (s.scrubFix region bank entry).tbl = s.tbl := by
  unfold State.scrubFix
  extract_lets loc x rest _ t
  generalize ht : ((({ x.2 with tern := t } : State).bump (Obj.TCAM_SCRUB_FIX + region)).latch Obj.TCAM_SCRUB_LAST loc).latch
    Obj.TCAM_SCRUB_LAST_TIME s.now = v
  have logged := v.logCell_hostOnly { ErrInfo.mk' 0 (2 + region) 0x13 bank 0x07 0 with addr := loc }
  obtain ⟨-, -, -, -, -, htbl, htern, -⟩ := logged.frame
  rw [logged.cfg _ 0 (by decide) (by decide), logged.cfg _ 0 (by decide) (by decide), htern, htbl, ← ht]
  refine ⟨?_, State.cfg_latch_self _ _ _, ?_, rfl⟩
  · rw [State.cfg_latch_ne _ _ _ _ (by decide), State.cfg_latch_self]
  · intro f hf heq
    have kept := (List.mem_filter.mp (show f ∈ t.flips from hf)).2
    simp [heq] at kept

/-- The pass goes on from its unit; its last unit is counted, and no other changes a value or a counter. -/
theorem State.scrubbed_effect (s : State) (region : Nat) (p : ScrubPass) (bank u : Nat) (last : Option (Nat × Nat)) :
    lookup? (s.scrubbed region p bank u last).tern.pass region = some ⟨p.start, some (bank, u), last⟩ ∧
    (scrubAfter s.banksUsed (some (bank, u)) = none →
      (s.scrubbed region p bank u last).ctr (Obj.TCAM_SCRUB_PASSES + region) =
        Nat.min u64Max (s.ctr (Obj.TCAM_SCRUB_PASSES + region) + 1)) ∧
    (scrubAfter s.banksUsed (some (bank, u)) ≠ none → (s.scrubbed region p bank u last).dict = s.dict) := by
  unfold State.scrubbed
  extract_lets _ s1
  refine ⟨?_, fun atEnd => ?_, fun notEnd => ?_⟩
  · split <;> simp [s1]
  · rw [if_pos (by simp [atEnd]), State.ctr_bump_self]
    rfl
  · rw [if_neg (by simpa using notEnd)]

/-! ### Ageing -/

/-- The entries that one visit concerns: those of the visited one's key and life, in its copy or, mirrored, in both. -/
def visitedWith (i : TInfo) (region table key inc : Nat) (e x : TEntry) : Bool :=
  x.table == table && x.inc == inc && x.key == key && x.born == e.born && x.died == e.died && (!i.local_ || x.region == region)

/-- Such an entry after a visit that found a hit at `clock`. -/
def visitHit (i : TInfo) (region table key inc clock : Nat) (e x : TEntry) : TEntry :=
  if visitedWith i region table key inc e x then { x with hit := false, reported := false, visit := some clock } else x

theorem exec_ageScan_of_hit {s : State} {dt region table key inc : Nat} {i : TInfo} {e : TEntry} (carries : s.traffic = true)
    (hr : region < 2) (whole : s.mode.fenced ≠ some region)
    (scanned : (s.tick dt).scanned region table key = some (i, inc, e))
    (hit : (s.tbl.any fun x => visitedWith i region table key inc e x && x.hit) = true) :
    exec (.ageScan dt region table key) s =
      .next { s.tick dt with tbl := s.tbl.map (visitHit i region table key inc (s.clock + dt) e) } := by
  refine Eq.trans (show execAgeScan .. = .next _ from cmd_then (by simp [carries, hr, whole, scanned])) ?_
  rw [scanned]
  have hit' : ((s.tick dt).tbl.any fun x => (x.table == table && x.inc == inc && x.key == key && x.born == e.born
      && x.died == e.died && (!i.local_ || x.region == region)) && x.hit) = true := hit
  simp only [hit', Bool.not_true, Bool.false_and, Bool.not_false, if_true]
  rfl

theorem visitHit_clears {i : TInfo} {region table key inc clock : Nat} {e x : TEntry}
    (h : visitedWith i region table key inc e (visitHit i region table key inc clock e x) = true) :
    (visitHit i region table key inc clock e x).hit = false := by
  unfold visitHit at h ⊢
  split
  · rfl
  · rename_i other
    rw [if_neg other] at h
    exact absurd h other

theorem visitedWith_eq_true {i : TInfo} {region table key inc : Nat} {e x : TEntry} :
    visitedWith i region table key inc e x = true ↔ x.table = table ∧ x.inc = inc ∧ x.key = key ∧ x.born = e.born ∧
      x.died = e.died ∧ (i.local_ = true → x.region = region) := by
  cases h : i.local_ <;> simp [visitedWith, h, and_assoc]

/-! ### Records that cross the bridge -/

theorem exec_shuttleBridge {s : State} {dt region : Nat} {b : Nat × Nat × Nat × Nat × Bytes} (carries : s.traffic = true)
    (first : (s.lrn.bridge.find? fun x => x.1 == region) = some b) :
    exec (.shuttleBridge dt region) s = .next ((State.suppress
      { s.tick dt with lrn := { s.lrn with bridge := s.lrn.bridge.erase b } } b.1 b.2.2.1 b.2.2.2.1).toRing b.2.1 b.1
        b.2.2.2.2).1 := by
  have waits : (s.lrn.bridge.any fun x => x.1 == region) = true := by
    have hb := List.find?_some first
    exact List.any_eq_true.mpr ⟨b, List.mem_of_find?_eq_some first, hb⟩
  have first' : ((s.tick dt).lrn.bridge.find? fun x => x.1 == region) = some b := first
  refine Eq.trans (show execShuttleBridge .. = .next _ from cmd_then (Bool.and_eq_true_iff.mpr ⟨carries, waits⟩)) ?_
  rw [first']
  rfl

/-- Settles O19: the branches of a visit of the scrubber, the entries that a visit of the ageing scanner marks, and the
suppression of a key that crosses the bridge. -/
theorem tablesAreScrubbedAgedAndBridged : Obligations.TablesAreScrubbedAgedAndBridged := by
  unfold Obligations.TablesAreScrubbedAgedAndBridged
  constructor
  case left =>
    intro dt region bank u table key i s carries hr whole
    refine ⟨fun p next bankTable => ?scrub, fun p last => ?pass, fun inc e scanned hits => ?age⟩
    case scrub =>
      have hexec := fun found => exec_scrubVisit found carries hr whole next bankTable
      refine ⟨fun intact => ?intact, fun flipped => ?repairs, fun first => ?differs, ?lost⟩
      case intact =>
        rw [hexec, if_neg (by decide), State.flippedAt_eq_false intact]
        rfl
      case repairs =>
        rw [hexec, if_neg (by decide), State.flippedAt_eq_true.mpr flipped]
        rfl
      case differs =>
        refine ⟨_, rfl, ?_, (s.tick dt).scrubFix_effect region bank (u / i.units)⟩
        have first' : (p.fixed != some (bank, u / i.units)) = true := bne_iff_ne.mpr first
        rw [hexec, if_neg (by decide), if_pos (by simp [first'])]
      case lost => exact ⟨_, hexec .lost, rfl⟩
    case pass =>
      obtain ⟨hpass, hend, hmiddle⟩ := (s.tick dt).scrubbed_effect region p bank u last
      exact ⟨by rw [hpass]; rfl, hend, hmiddle⟩
    case age =>
      obtain ⟨x, hx, htable, hinc, hkey, hborn, hdied, hregion, hhit⟩ := hits
      have hit : (s.tbl.any fun x => visitedWith i region table key inc e x && x.hit) = true := by
        refine List.any_eq_true.mpr ⟨x, hx, Bool.and_eq_true_iff.mpr ⟨?_, hhit⟩⟩
        exact visitedWith_eq_true.mpr ⟨htable, hinc, hkey, hborn, hdied, hregion⟩
      refine ⟨_, exec_ageScan_of_hit carries hr whole scanned hit, List.length_map _, rfl, ?_⟩
      intro y hy htable hinc hkey hborn hdied hregion
      obtain ⟨x, -, rfl⟩ := List.mem_map.mp hy
      exact visitHit_clears (visitedWith_eq_true.mpr ⟨htable, hinc, hkey, hborn, hdied, hregion⟩)
  case right =>
    intro dt region b s carries first
    exact ⟨_, rfl, exec_shuttleBridge carries first, State.suppressed_suppress _ _ _ _⟩

end Sys2Proof.Machine
end

section
/-!
PROOFS. Table-operation records: how one is taken from its ring (R159, R160), what it leaves of other tables (R163), and the
record of a stale epoch (R75).
-/

namespace Sys2Proof.Machine

/-! ### Entries of other tables stay (R163) -/

/-- Two lists of entries hold the same entries of every table but one. -/
def SameElsewhere (id : Nat) (l m : List TEntry) : Prop := ∀ e : TEntry, e.table ≠ id → (e ∈ l ↔ e ∈ m)

theorem SameElsewhere.refl (id : Nat) (l : List TEntry) : SameElsewhere id l l := fun _ _ => Iff.rfl

theorem SameElsewhere.trans {id : Nat} {l m n : List TEntry} (h : SameElsewhere id l m) (g : SameElsewhere id m n) :
    SameElsewhere id l n := fun e he => (h e he).trans (g e he)

theorem SameElsewhere.append {id : Nat} (l : List TEntry) (x : TEntry) (h : x.table = id) : SameElsewhere id l (l ++ [x]) := by
  intro e he
  have : e ≠ x := fun g => he (g ▸ h)
  simp [this]

theorem SameElsewhere.erase {id : Nat} (l : List TEntry) (x : TEntry) (h : x.table = id) : SameElsewhere id l (l.erase x) := by
  intro e he
  have : e ≠ x := fun g => he (g ▸ h)
  exact (List.mem_erase_of_ne this).symm

/-- An entry is replaced by one of its own table. -/
theorem SameElsewhere.replace {id : Nat} (l : List TEntry) (x y : TEntry) (h : x.table = id) (g : y.table = id) :
    SameElsewhere id l (l.map fun z => if z == x then y else z) := by
  intro e he
  have hx : e ≠ x := fun g => he (g ▸ h)
  have hy : e ≠ y := fun h => he (h ▸ g)
  rw [List.mem_map]
  constructor
  · exact fun hmem => ⟨e, hmem, if_neg (by simpa using hx)⟩
  · rintro ⟨z, hz, heq⟩
    split at heq
    · exact absurd heq.symm hy
    · exact heq ▸ hz

theorem mem_presentIn {es : List TEntry} {t : TInfo} {epoch idx : Nat} {k : TopKey} {e : TEntry}
    (h : presentIn es t epoch idx k = some e) : e ∈ es := List.mem_of_find?_eq_some h

theorem copyOf_table {tbl : List TEntry} {t : TInfo} {inc region : Nat} {e : TEntry} (h : e ∈ copyOf tbl t inc region) :
    e.table = t.id := by
  have hcopy := (List.mem_filter.mp h).2
  simp only [TEntry.ofCopy, Bool.and_eq_true, beq_iff_eq] at hcopy
  exact hcopy.1.1

theorem replaceIn_sameElsewhere {id : Nat} (tbl : List TEntry) (t : TInfo) (epoch : Nat) (r : Bytes) (k : TopKey) (e : TEntry)
    (h : e.table = id) : SameElsewhere id tbl (replaceIn tbl t epoch r k e) := by
  unfold replaceIn
  extract_lets n
  split
  · exact (SameElsewhere.replace tbl e { e with died := some epoch, journal := true, super := true } h h).trans
      (.append _ { n with born := some epoch } h)
  · exact .replace tbl e n h h

theorem runCopy_sameElsewhere {tbl tbl' : List TEntry} {t : TInfo} {inc region epoch : Nat} {r : Bytes} {k : TopKey}
    {existed changed hit : Bool} {place : Nat}
    (h : runCopy tbl t inc region epoch r k = .ok tbl' existed changed place hit) : SameElsewhere t.id tbl tbl' := by
  have htable : ∀ e, presentIn (copyOf tbl t inc region) t epoch (ttopIndex r) k = some e → e.table = t.id :=
    fun e he => copyOf_table (mem_presentIn he)
  simp only [runCopy] at h
  split at h
  next e _ he =>
    split at h
    · cases h
    · split at h
      · cases h
        exact .refl _ _
      · split at h
        · cases h
        · cases h
          exact replaceIn_sameElsewhere _ _ _ _ _ _ (htable e he)
  next =>
    split at h
    · cases h
    · cases h
      exact .append tbl _ rfl
  next e _ he =>
    split at h
    · cases h
      exact .refl _ _
    · split at h
      · cases h
      · cases h
        exact replaceIn_sameElsewhere _ _ _ _ _ _ (htable e he)
  next e _ he =>
    split at h
    · cases h
      exact .erase _ _ (htable e he)
    · split at h
      · cases h
      · cases h
        exact .replace _ _ _ (htable e he) (htable e he)
  next e _ he =>
    cases h
    exact .replace _ _ _ (htable e he) (htable e he)
  next =>
    cases h
    exact .refl _ _
  next =>
    cases h
    exact .refl _ _

theorem runCopies_sameElsewhere {t : TInfo} {inc epoch : Nat} {r : Bytes} {k : TopKey} {tbl tbl' : List TEntry}
    {ex ex' ch ch' hit hit' : Bool} {pl pl' : Nat} (gs : List Nat)
    (h : runCopies t inc epoch r k gs (.ok tbl ex ch pl hit) = .ok tbl' ex' ch' pl' hit') : SameElsewhere t.id tbl tbl' := by
  induction gs generalizing tbl ex ch pl hit with
  | nil =>
    cases h
    exact .refl _ _
  | cons g gs ih =>
    rw [runCopies] at h
    cases hr : runCopy tbl t inc g epoch r k with
    | ok tbl1 ex1 ch1 pl1 hit1 =>
      rw [hr] at h
      exact (runCopy_sameElsewhere hr).trans (ih h)
    | full _ _ => simp [hr] at h
    | journalFull _ => simp [hr] at h

theorem State.bumpIn_hostOnly (s : State) (o : Nat) (regions : List Nat) : HostOnly s (s.bumpIn o regions) :=
  HostOnly.foldl regions s fun a g => a.bump_hostOnly (o + g)

theorem State.rewritten_frame (s : State) (t : TInfo) (r : Bytes) : (s.rewritten t r).tbl = s.tbl ∧
    (s.rewritten t r).ep = s.ep ∧ (s.rewritten t r).pkts = s.pkts := by
  unfold State.rewritten
  extract_lets c hit
  split <;> exact ⟨rfl, rfl, rfl⟩

/-- A state that differs in tables only in one of them, and in neither epochs nor packets. -/
def RanOn (id : Nat) (s u : State) : Prop := SameElsewhere id s.tbl u.tbl ∧ u.ep = s.ep ∧ u.pkts = s.pkts

theorem RanOn.trans {id : Nat} {s t u : State} (h : RanOn id s t) (g : RanOn id t u) : RanOn id s u :=
  ⟨h.1.trans g.1, g.2.1.trans h.2.1, g.2.2.trans h.2.2⟩

theorem HostOnly.ranOn {s u : State} (h : HostOnly s u) (id : Nat) : RanOn id s u := by
  obtain ⟨-, -, -, -, hep, htbl, -, -, hpkts, -⟩ := h.frame
  exact ⟨htbl ▸ .refl id _, hep, hpkts⟩

/-- A record that is executed leaves the entries of other tables, epochs and packets. -/
theorem State.topRun_ranOn (s : State) (f q : Nat) (t : TInfo) (inc : Nat) (r : Bytes) (k : TopKey) :
    RanOn t.id s (s.topRun f q t inc r k) := by
  unfold State.topRun
  extract_lets regions s1 epoch
  have h1 : RanOn t.id s s1 := (s.bumpIn_hostOnly _ _).ranOn t.id
  split
  next tbl existed changed place hit hrun =>
    extract_lets s2 s3 s4 where_
    have h2 : RanOn t.id s1 s2 := by
      refine ⟨?_, rfl, rfl⟩
      have htbl : s1.tbl = s.tbl := (s.bumpIn_hostOnly Obj.TBL_OPS regions).frame.2.2.2.2.2.1
      rw [htbl]
      exact runCopies_sameElsewhere regions hrun
    have h3 : RanOn t.id s2 s3 := by
      unfold s3
      split
      · obtain ⟨htbl, hep, hpkts⟩ := s2.rewritten_frame t r
        exact ⟨htbl ▸ .refl _ _, hep, hpkts⟩
      · exact (s2.bumpIn_hostOnly _ _).ranOn _
    have h4 : RanOn t.id s3 s4 := by
      unfold s4
      split
      · exact (s3.bumpIn_hostOnly _ _).ranOn _
      · exact (HostOnly.refl s3).ranOn _
    exact (((h1.trans h2).trans h3).trans h4).trans ((s4.jobDone_hostOnly _ _ _).ranOn _)
  next s2 _ existed held hrun =>
    extract_lets s3
    have h3 : HostOnly s1 s3 := by
      unfold s3
      split
      · exact (s1.bumpIn_hostOnly _ _).trans (State.bumpIn_hostOnly _ _ _)
      · exact s1.bumpIn_hostOnly _ _
    exact h1.trans ((h3.trans (s3.jobDone_hostOnly _ _ _)).ranOn _)
  next existed hrun => exact h1.trans (((s1.bump_hostOnly _).trans (State.jobDone_hostOnly _ _ _ _)).ranOn _)

/-! ### A read that fails leaves the epochs (R312, R313) -/

theorem State.sendErr_hostOnly (s : State) (f level : Nat) : HostOnly s (s.sendErr f level) := by
  unfold State.sendErr
  extract_lets l
  split
  · exact (s.wakeLink_linkOf_hostOnly s f).trans (State.emit_hostOnly _ _)
  · exact .refl s

theorem State.aerPut_hostOnly (s : State) (f b : Nat) (advisory : Bool) : HostOnly s (s.aerPut f b advisory) := by
  unfold State.aerPut
  extract_lets x masked h p s1 fatal level
  have h1 : HostOnly s s1 := by
    unfold s1
    split
    · exact s.setFn_hostOnly _ _
    · exact ((s.fresh_hostOnly 128).trans (h.2.fresh_hostOnly 128)).trans (State.setFn_hostOnly _ _ _)
  split
  · exact h1.trans (s1.sendErr_hostOnly _ _)
  · exact h1

theorem State.discardRx_ep (s : State) (test : Pkt → Bool) (ctr : Pkt → Nat) : (s.discardRx test ctr).ep = s.ep := by
  unfold State.discardRx
  generalize s.pkts.filter test = ps
  induction ps generalizing s with
  | nil => rfl
  | cons p ps ih => exact (ih _).trans rfl

theorem State.freeze_ep (s : State) (port cause f : Nat) : (s.freeze port cause f).ep = s.ep := by
  unfold State.freeze
  split
  · rfl
  · extract_lets v s1 s2 s3
    calc (s3.raise 0x0040 4 (Obj.HST_PORT_FROZEN + port) (toBe 1 port ++ [0, 0, 0] ++ toBe 4 v)).ep
      _ = s3.ep := (s3.raise_hostOnly _ _ _ _ _).frame.2.2.2.2.1
      _ = s2.ep := rfl
      _ = s1.ep := s1.discardRx_ep _ _
      _ = s.ep := rfl

theorem State.readFails_ep (s : State) (f : Nat) (w : ReadFail) : (s.readFails f w).ep = s.ep := by
  cases w with
  | poisoned => exact (State.freeze_ep _ _ _ _).trans (State.aerPut_hostOnly _ _ _ _).frame.2.2.2.2.1
  | error => rfl
  | timeout =>
    have h1 := ((s.bump_hostOnly (Obj.HST_CPL_TIMEOUT + fidPort f)).trans
      (State.aerPut_hostOnly _ f aerTimeout false)).frame.2.2.2.2.1
    simp only [State.readFails, State.countCto]
    split
    · exact (State.freeze_ep _ _ _ _).trans h1
    · exact h1

theorem State.fetchTlp_hostOnly (s : State) (f : Nat) (attr : Attr) (addr n : Nat) : HostOnly s (s.fetchTlp f attr addr n) := by
  unfold State.fetchTlp
  extract_lets l
  split
  · exact .refl s
  · refine HostOnly.foldl _ _ fun a p => ?_
    split
    · exact (a.wakeLink_hostOnly (s.linkOf_lt_four f)).trans (State.emit_hostOnly _ _)
    · exact .refl a

theorem State.fetch_lost_ep {s t : State} {f q : Nat} {x : Qp} {attr : Attr} {as : List Access} {given : HostRead}
    (h : s.fetch f q x attr as given = .lost t) : t.ep = s.ep := by
  simp only [State.fetch] at h
  split at h
  · cases h
  · cases h
    rfl
  · split at h
    · split at h <;> cases h
      rfl
    · split at h
      · cases h
      · split at h
        · cases h
        · split at h <;> cases h
          exact (State.readFails_ep _ _ _).trans
            (HostOnly.foldl as s fun a x => a.fetchTlp_hostOnly f attr x.1 x.2.1).frame.2.2.2.2.1

/-! ### How a record is taken (R159) -/

/-- The four commands are one, by the code of the operation. -/
theorem exec_tableOp {dt f q op : Nat} {given payload : HostRead} {s : State} {c : Instr}
    (hc : op = 1 ∧ c = .insert dt f q given payload ∨ op = 2 ∧ c = .delete dt f q given payload ∨
      op = 3 ∧ c = .modify dt f q given payload ∨ op = 4 ∧ c = .clearHit dt f q given payload) :
    exec c s = tableOp op dt f q given payload s := by
  rcases hc with ⟨rfl, rfl⟩ | ⟨rfl, rfl⟩ | ⟨rfl, rfl⟩ | ⟨rfl, rfl⟩ <;> rfl

section
variable {dt f q op : Nat} {given payload : HostRead} {x : Qp} {s : State}

theorem tableOp_of_record {r : Bytes} {t : State} (carries : s.traffic = true) (ready : (s.tick dt).jobReady f q 3 = true)
    (hgiven : (s.tick dt).mayAnswer f given = true) (hpayload : (s.tick dt).mayAnswer f payload = true)
    (hx : s.qp? f q = some x) (record : (s.tick dt).recordOf f q op given = some (x, r))
    (free : (s.tick dt).engineFree r = true) (fetched : (s.after dt).jobFetch f q x given = .got r t) :
    tableOp op dt f q given payload s = .next (t.takeRecord f q x r payload) := by
  refine Eq.trans (show _ = .next _ from work_then (by simp [carries, ready, hgiven, hpayload, record, free])) ?_
  rw [← State.after, State.after_qp?, hx]
  dsimp only
  rw [fetched]

theorem tableOp_of_lost {t : State} (carries : s.traffic = true) (ready : (s.tick dt).jobReady f q 3 = true)
    (hgiven : (s.tick dt).mayAnswer f given = true) (hpayload : (s.tick dt).mayAnswer f payload = true)
    (hx : s.qp? f q = some x) (hop : op = 1) (lost : (s.tick dt).ringLost f q given = true)
    (fetched : (s.after dt).jobFetch f q x given = .lost t) :
    tableOp op dt f q given payload s = .next (t.jobDone f q (topEntry [] 3 3 false false t.ep.current)) := by
  refine Eq.trans (show _ = .next _ from work_then (by simp [carries, ready, hgiven, hpayload, hop, lost])) ?_
  rw [← State.after, State.after_qp?, hx, State.fetch_lost_ep fetched]
  dsimp only
  rw [fetched]

end

/-- Settles O20: a record is fetched, and `takeRecord` checks it, reads its payload and runs it. -/
theorem tableOperationsAreTaken : Obligations.TableOperationsAreTaken := by
  unfold Obligations.TableOperationsAreTaken
  intro dt f q op given payload x r s t c hc carries ready hgiven hpayload hx
  rw [exec_tableOp hc]
  refine ⟨fun record free fetched => ?record, fun hop lost fetched =>
    tableOp_of_lost carries ready hgiven hpayload hx hop lost fetched, fun i inc k u hu => ?frame⟩
  case record =>
    rw [tableOp_of_record carries ready hgiven hpayload hx record free fetched]
    refine ⟨fun st step refused => ?refused, fun i inc passes table => ⟨fun short => ?short, fun b v needs got => ?got,
      fun v needs lost => ?lost⟩⟩
    case refused => simp only [State.takeRecord, refused]
    case short => simp [State.takeRecord, passes, table, short]
    case got => simp [State.takeRecord, passes, table, needs, got]
    case lost => simp [State.takeRecord, passes, table, needs, lost]
  case frame =>
    subst hu
    obtain ⟨same, hep, hpkts⟩ := t.topRun_ranOn f q i inc r k
    exact ⟨fun e he other => (same e other).mp he, fun e he other => (same e other).mpr he, hep, hpkts⟩

/-! ### Stale epochs (R75) -/

/-- Settles O21: the checks before that on the epoch pass, so `topCheck` answers STALE_EPOCH at step 6, and `topRefuse` counts
before it completes. -/
theorem staleRecordsChangeNothing : Obligations.StaleRecordsChangeNothing := by
  unfold Obligations.StaleRecordsChangeNothing
  intro f q r payload t inc s table reserved hop1 hop4 may shape whole epoch stale
  have unused : (topOp r == 0) = false := by simpa using Nat.one_le_iff_ne_zero.mp hop1
  have shape' : ((topRegion r == 1 && !t.local_) || (topPlen r != 0 && t.kind != 3)) = false := by
    rw [Bool.eq_false_iff]
    simpa using shape
  have whole' : (t.local_ && s.mode.fenced == some (topRegion r)) = false := by
    rw [Bool.eq_false_iff]
    simpa using whole
  refine ⟨?check, ?refuse⟩
  case check =>
    simp [State.topCheck, table, reserved, unused, Nat.not_lt.mpr hop4, may, shape', whole', epoch, stale]
  case refuse =>
    refine ⟨s.bumpIn Obj.TBL_OPS (if t.local_ then [topRegion r] else s.copiesOf t r), ?_, ?_⟩
    · simp [State.topRefuse, table, statusCtr, epoch]
    · obtain ⟨-, -, -, -, hep, htbl, -, hlrn, hpkts, -⟩ :=
        (s.bumpIn_hostOnly Obj.TBL_OPS (if t.local_ then [topRegion r] else s.copiesOf t r)).frame
      exact ⟨htbl, hlrn, hep, hpkts⟩

end Sys2Proof.Machine
end

section
/-!
PROOFS. Events, records of the error log, messages and interrupts tell of what happens: they change sessions, the mailbox, the
log, interrupts and four counters of their own, and neither requests, queue pairs nor application memory.
-/

namespace Sys2Proof.Machine

/-- Counters of such messages. -/
def countsTelling (o : Nat) : Bool :=
  o == Obj.MGMT_MBX_DROP || o == Obj.MGMT_EVENTS_SENT || o == Obj.ERR_LOG_OVERWRITTEN || o == Obj.FLT_LOG_SUPPRESSED

/-- The state `s` with what messages change taken from `u`. -/
def State.toldPut (s u : State) : State :=
  { s with
    dict := { s.dict with val := u.dict.val, ctr := u.dict.ctr }
    mgmt := { s.mgmt with
      sessions := u.mgmt.sessions, evNumber := u.mgmt.evNumber, evLog := u.mgmt.evLog, evHeld := u.mgmt.evHeld,
      d2h := u.mgmt.d2h, d2hReady := u.mgmt.d2hReady }
    hs := { s.hs with fn := u.hs.fn }
    core := { s.core with imsic := u.core.imsic, aplic := u.core.aplic }
    flt := { s.flt with
      log := u.flt.log, cells := u.flt.cells, cellRec := u.flt.cellRec, unwritten := u.flt.unwritten }
    out := u.out }

/-- Only that part differs, of the dictionary's values only those latched aside, and of the counters only its own; no write of
a function is added to those that wait. -/
structure Told (s t : State) : Prop where
  part : t = s.toldPut t
  cfg : ∀ o e, latchedAside o = false → e < 2 ^ 32 → t.cfg o e = s.cfg o e
  ctr : ∀ o, countsTelling o = false → t.ctr o = s.ctr o
  links : LinksKeep s t
  wq : ∀ f, (t.fn f).wq = (s.fn f).wq

theorem Told.refl (s : State) : Told s s := ⟨rfl, fun _ _ _ _ => rfl, fun _ _ => rfl, .refl s, fun _ => rfl⟩

theorem Told.trans {s t u : State} (h : Told s t) (g : Told t u) : Told s u := by
  refine ⟨?_, fun o e ho he => (g.cfg o e ho he).trans (h.cfg o e ho he), fun o ho => (g.ctr o ho).trans (h.ctr o ho),
    h.links.trans g.links, fun f => (g.wq f).trans (h.wq f)⟩
  calc u = t.toldPut u := g.part
    _ = (s.toldPut t).toldPut u := congrArg (·.toldPut u) h.part
    _ = s.toldPut u := rfl

theorem Told.foldl {α : Type} {f : State → α → State} (l : List α) (s : State) (h : ∀ a x, Told a (f a x)) :
    Told s (l.foldl f s) := by
  induction l generalizing s with
  | nil => exact Told.refl s
  | cons x l ih => exact (h s x).trans (ih _)

theorem Told.of_part {s t : State} (h : t = s.toldPut t) (hv : t.dict = s.dict) (hf : t.hs.fn = s.hs.fn) : Told s t :=
  ⟨h, fun o e _ _ => by unfold State.cfg; rw [hv], fun o _ => by unfold State.ctr; rw [hv], .of_val (by rw [hv]),
    fun f => by unfold State.fn; rw [hf]⟩

theorem Told.hostOnly {s t : State} (h : Told s t) : HostOnly s t := ⟨by rw [h.part]; rfl, h.cfg, h.links⟩

theorem Told.frame {s t : State} (h : Told s t) : t.now = s.now ∧ t.clock = s.clock ∧ t.pending = s.pending ∧
    t.store = s.store ∧ t.ep = s.ep ∧ t.tbl = s.tbl ∧ t.tern = s.tern ∧ t.lrn = s.lrn ∧ t.pkts = s.pkts ∧ t.tm = s.tm ∧
    t.mode = s.mode ∧ t.wv = s.wv ∧ t.pps = s.pps ∧ t.pwr = s.pwr ∧ t.cry = s.cry ∧ t.stg = s.stg ∧ t.img = s.img ∧
    t.fuse = s.fuse ∧ t.pkg = s.pkg := h.hostOnly.frame

/-- Requests, queue pairs, application memory and harts stay. -/
theorem Told.frame_host {s t : State} (h : Told s t) : t.hs.qp = s.hs.qp ∧ t.hs.reqs = s.hs.reqs ∧ t.hs.works = s.hs.works ∧
    t.hs.xl = s.hs.xl ∧ t.hs.inv = s.hs.inv ∧ t.hs.pri = s.hs.pri ∧ t.hs.upAt = s.hs.upAt ∧ t.core.mem = s.core.mem ∧
    t.core.harts = s.core.harts ∧ t.core.memUp = s.core.memUp ∧ t.free = s.free := by
  rw [h.part]
  exact ⟨rfl, rfl, rfl, rfl, rfl, rfl, rfl, rfl, rfl, rfl, rfl⟩

/-- Holds, fences, stacks, poison and the pin of faults stay. -/
theorem Told.frame_faults {s t : State} (h : Told s t) : t.flt.resets = s.flt.resets ∧ t.flt.held = s.flt.held ∧
    t.flt.holds = s.flt.holds ∧ t.flt.fences = s.flt.fences ∧ t.flt.hbmReads = s.flt.hbmReads ∧
    t.flt.stackBad = s.flt.stackBad ∧ t.flt.retestFrom = s.flt.retestFrom ∧ t.flt.poison = s.flt.poison ∧
    t.flt.faultN = s.flt.faultN := by
  rw [h.part]
  exact ⟨rfl, rfl, rfl, rfl, rfl, rfl, rfl, rfl, rfl⟩

/-! ### The operations -/

theorem State.bump_told (s : State) {o : Nat} (h : countsTelling o = true) : Told s (s.bump o) := by
  refine ⟨rfl, fun _ _ _ _ => rfl, fun p hp => s.ctr_bump_ne o p fun heq => ?_, .of_val rfl, fun _ => rfl⟩
  rw [heq, h] at hp
  exact Bool.noConfusion hp

theorem State.emit_told (s : State) (o : Output) : Told s (s.emit o) := .of_part rfl rfl rfl

theorem State.setFn_told (s : State) (f : Nat) (x : Fn) (h : x.wq = (s.fn f).wq) : Told s (s.setFn f x) := by
  refine ⟨rfl, fun _ _ _ _ => rfl, fun _ _ => rfl, .of_val rfl, fun g => ?_⟩
  by_cases hg : g = f
  · rw [hg, State.fn_setFn_self, h]
  · rw [State.fn_setFn_ne _ _ _ _ hg]

theorem State.msi_told (s : State) (hart level identity : Nat) : Told s (s.msi hart level identity) := .of_part rfl rfl rfl

theorem State.latch_told {s : State} {o v : Nat} (h : HostOnly s (s.latch o v)) : Told s (s.latch o v) :=
  ⟨rfl, h.cfg, fun _ _ => rfl, h.links, fun _ => rfl⟩

theorem State.latchLog_told (s : State) {o : Nat} (v : Nat) (h : showsLog o) : Told s (s.latch o v) :=
  State.latch_told (s.latchLog_hostOnly v h)

theorem State.wakeLink_told (s : State) {l : Nat} (h : l < 4) : Told s (s.wakeLink l) := by
  unfold State.wakeLink
  split
  next l1 => exact State.latch_told (s.latch_hostOnly 2 (by simp [latchedAside, h]) (s.wake_linksKeep l1))
  next => exact .refl s

theorem State.holdInt_told (s : State) (f vec : Nat) (pasid : Option Nat) : Told s (s.holdInt f vec pasid) := by
  unfold State.holdInt
  extract_lets x
  split
  · exact .refl s
  · exact s.setFn_told _ _ rfl

theorem State.deliverInt_told (s : State) (f vec : Nat) (pasid : Option Nat) : Told s (s.deliverInt f vec pasid) := by
  have wake : Told s (s.wakeLink (s.linkOf f)) := s.wakeLink_told (s.linkOf_lt_four f)
  unfold State.deliverInt
  extract_lets x e s1 s2 m
  have h1 : Told s s1 := by
    unfold s1
    split
    · exact s.emit_told _
    · exact .refl s
  have h2 : Told s s2 := by
    unfold s2
    split
    · have woken := wake.trans (State.emit_told _ (.pme f))
      exact woken.trans (State.setFn_told _ _ _ (woken.wq f).symm)
    · exact .refl s
  repeat' split
  · exact .refl s
  · exact s.holdInt_told _ _ _
  · exact s.msi_told _ _ _
  · exact h1.trans (s1.holdInt_told _ _ _)
  · exact h2.trans (s2.holdInt_told _ _ _)
  · exact .refl s
  · exact s.setFn_told _ _ rfl
  · exact s.holdInt_told _ _ _
  · exact wake.trans (State.emit_told _ _)

theorem State.sendOmp_told (s : State) (port sess : Nat) (msg : Bytes) : Told s (s.sendOmp port sess msg) := by
  unfold State.sendOmp
  extract_lets _ s1
  have h1 : Told s s1 := .of_part rfl rfl rfl
  repeat' split
  · exact s.bump_told (by decide)
  · exact h1
  · exact h1.trans (s1.deliverInt_told _ _ _)
  · exact s.emit_told _

theorem State.sendEventTo_told (s : State) (x : Session) (body : Bytes) : Told s (s.sendEventTo x body) := by
  unfold State.sendEventTo
  extract_lets ss _ s1
  have h1 : Told s s1 := .of_part rfl rfl rfl
  exact (h1.trans (s1.sendOmp_told _ _ _)).trans (State.bump_told _ (by decide))

theorem State.setEvents_told (s : State) (n : Nat) (lg : List Bytes) (held : List (Nat × Option (Nat × Nat) × Bytes)) :
    Told s { s with mgmt := { s.mgmt with evNumber := n, evLog := lg, evHeld := held } } := .of_part rfl rfl rfl

theorem State.setLog_told (s : State) (lg : List Bytes) (young : List (Nat × Bytes)) :
    Told s { s with flt := { s.flt with log := lg, unwritten := young } } := .of_part rfl rfl rfl

theorem State.raise_told (s : State) (code cls obj : Nat) (detail : Bytes) (only : Option (Nat × Nat)) :
    Told s (s.raise code cls obj detail only) := by
  unfold State.raise
  extract_lets n body lg lg' _ s1
  have h1 : Told s s1 := s.setEvents_told n lg' s.mgmt.evHeld
  split
  · exact h1.trans (s1.setEvents_told s1.mgmt.evNumber s1.mgmt.evLog _)
  · exact h1.trans (.foldl _ s1 fun a x => a.sendEventTo_told x body)

theorem State.logErr_told (s : State) (e : ErrInfo) : Told s (s.logErr e) := by
  unfold State.logErr
  extract_lets n b r s1 lg lg' young _ s2 s3
  have h1 : Told s s1 := by
    unfold s1
    split
    · exact s.bump_told (by decide)
    · exact .refl s
  have h2 : Told s1 s2 := s1.setLog_told _ _
  have h3 : Told s2 s3 := ((s2.latchLog_told _ (.inl rfl)).trans (State.latchLog_told _ _ (.inr (.inl rfl)))).trans
    (State.latchLog_told _ _ (.inr (.inr rfl)))
  exact (((h1.trans h2).trans h3).trans ((s3.emit_told _).trans (State.emit_told _ _))).trans (State.raise_told _ _ _ _ _ _)

theorem State.logRate_told (s : State) (e : ErrInfo) : Told s (s.logRate e) := by
  unfold State.logRate
  extract_lets recent
  split
  · exact s.bump_told (by decide)
  · refine Told.trans ?_ (State.logErr_told _ _)
    exact .of_part rfl rfl rfl

/-! ### What an operation's result reads after a message -/

theorem Told.cfg0 {s t : State} (h : Told s t) {o : Nat} (ho : latchedAside o = false) : t.cfg o = s.cfg o :=
  h.cfg o 0 ho (by decide)

end Sys2Proof.Machine
end

section
/-!
PROOFS. What time drives: gates (R241 to R246), the census (R248 to R251), IPFIX (R255) and the PPS input (R482).
-/

namespace Sys2Proof.Machine

/-! ### Gates -/

/-- A test of queues anew leaves the gates. -/
theorem Thinned.gates {s t : State} (h : Thinned s t) : t.tm.gate = s.tm.gate ∧ t.tm.gatePend = s.tm.gatePend ∧
    t.tm.gateNow = s.tm.gateNow := by
  obtain ⟨_, _, _, _, rfl, -⟩ := h
  exact ⟨rfl, rfl, rfl⟩

/-- A gate shows its present mask. -/
def State.showGate (s : State) (pn : Nat) : State :=
  { s with tm := { s.tm with gateNow := assoc s.tm.gateNow pn (s.gateMask pn) } }

theorem exec_gateEvent {s : State} {dt pn : Nat} (carries : s.traffic = true) (hn : pn < 24)
    (enabled : (s.gateOf pn).enable = true) (moved : lookupD s.tm.gateNow pn 0xFF ≠ (s.tick dt).gateMask pn) :
    exec (.gateEvent dt pn) s = .next (((s.tick dt).showGate pn).retestPort pn) := by
  have enabled' : ((s.tick dt).gateOf pn).enable = true := enabled
  exact show execGateEvent .. = .next _ from cmd_then (by simp [carries, hn, enabled', moved])

theorem exec_gateListSwitch {s : State} {dt pn at_ : Nat} {g : Gate} (alive : s.alive = true)
    (pending : lookup? s.tm.gatePend pn = some (g, at_)) (due : at_ ≤ (s.tick dt).now) :
    exec (.gateListSwitch dt pn) s = .next (((s.tick dt).latch (Obj.GATE_SWITCH_AT + pn) at_).switchGate pn g) := by
  have pending' : lookup? (s.tick dt).tm.gatePend pn = some (g, at_) := pending
  refine Eq.trans (show execGateListSwitch .. = .next _ from cmd_then ?_) ?_
  · simpa only [pending', Bool.and_eq_true, decide_eq_true_eq] using ⟨alive, due⟩
  · simp only [pending']

theorem State.switchGate_thinned (s : State) (pn : Nat) (g : Gate) : ∃ u, Thinned u (s.switchGate pn g) ∧
    u.tm.gate = assoc s.tm.gate pn g ∧ u.tm.gatePend = dissoc s.tm.gatePend pn ∧ u.dict = s.dict ∧ u.pkts = s.pkts :=
  ⟨_, State.retestPort_thinned _ pn, rfl, rfl, rfl, rfl⟩

theorem State.switchGate_effect (s : State) (pn : Nat) (g : Gate) : (s.switchGate pn g).gateOf pn = g ∧
    lookup? (s.switchGate pn g).tm.gatePend pn = none ∧ (∀ o, (s.switchGate pn g).cfg o = s.cfg o) ∧
    ∀ p ∈ (s.switchGate pn g).pkts, p ∈ s.pkts := by
  obtain ⟨u, thinned, hgate, hpend, hdict, hpkts⟩ := s.switchGate_thinned pn g
  obtain ⟨hgate', hpend', -⟩ := thinned.gates
  obtain ⟨-, -, -, -, -, -, -, -, -, -, -, -, -, -, -, hcfg, hpkts'⟩ := thinned.frame
  refine ⟨?_, ?_, fun o => ?_, fun p hp => hpkts ▸ hpkts' p hp⟩
  · simp only [State.gateOf, hgate', hgate, lookupD_assoc_self]
  · simp only [hpend', hpend, lookup?_dissoc_self]
  · rw [hcfg o 0, State.cfg, hdict, State.cfg]

/-! ### The census -/

/-- A sweep of a region begins. -/
def State.beginSweep (s : State) (region : Nat) (w : Sweep) : State :=
  ({ s with tm := { s.tm with sweep := assoc s.tm.sweep region w } }).latch Obj.CENSUS_SWEEP (w.num % 2 ^ 32)

/-- The sweep that begins at this instant. -/
def State.sweepNow (s : State) (region : Nat) : Sweep :=
  { start := s.now, at_ := s.clock, num := s.now / (s.cfg Obj.CENSUS_PERIOD * 1000), period := s.cfg Obj.CENSUS_PERIOD * 1000
    next := 0, owners := ((List.range 8).map fun k => 8 * region + k).map fun n => s.cfg (Obj.CENSUS_RING_FID + n) }

theorem exec_censusSweepStart {s : State} {dt region : Nat} (runs : s.censusRuns = true) (hr : region < 2)
    (whole : s.mode.fenced ≠ some region) (on : s.cfg Obj.CENSUS_EN = 1)
    (instant : (s.tick dt).now % (s.cfg Obj.CENSUS_PERIOD * 1000) = 0) (first : lookup? s.tm.sweep region = none)
    (noRings : ∀ n, n < 16 → s.cfg (Obj.CENSUS_RING_FID + n) = 0xFFFF) :
    exec (.censusSweepStart dt region) s = .next ((s.tick dt).beginSweep region ((s.tick dt).sweepNow region)) := by
  refine Eq.trans (show execCensusSweepStart .. = .next _ from cmd_then ?_) (congrArg _ ?_)
  · have first' : lookup? (s.tick dt).tm.sweep region = none := first
    simp only [first', Bool.and_eq_true, decide_eq_true_eq, bne_iff_ne, beq_iff_eq, and_true]
    exact ⟨⟨⟨⟨runs, hr⟩, whole⟩, on⟩, instant⟩
  · refine List.foldlRecOn (motive := (· = (s.tick dt).beginSweep region ((s.tick dt).sweepNow region))) _ _ rfl
      fun a ha n hn => ?_
    obtain ⟨k, hk, rfl⟩ := List.mem_map.mp hn
    have hk' := List.mem_range.mp hk
    have unowned : a.cfg (Obj.CENSUS_RING_FID + (8 * region + k)) = 0xFFFF := by
      rw [ha, State.beginSweep, State.cfg_latch_ne _ _ _ _ (by unfold Obj.CENSUS_RING_FID Obj.CENSUS_SWEEP; omega)]
      exact noRings _ (by omega)
    simp only [unowned, beq_self_eq_true, if_true]
    exact ha

theorem State.publish_tm (s : State) (f q : Nat) (x : Qp) (entry : Bytes) : (s.publish f q x entry).tm = s.tm := by
  obtain ⟨-, -, -, -, -, -, -, -, -, htm, -⟩ := (s.publish_hostOnly f q x entry).frame
  exact htm

theorem State.putRecord_tm {s t : State} {f src num : Nat} {record : Bytes} (h : s.putRecord f src num record = .put t) :
    t.tm = s.tm := by
  unfold State.putRecord at h
  split at h
  · cases h
  · split at h
    · cases h
    · split at h <;> cases h
      exact s.publish_tm _ _ _ _

theorem State.censWrite_tm {s t : State} {n owner : Nat} {record : Bytes} (h : s.censWrite n owner record = some t) :
    t.tm = s.tm := by
  unfold State.censWrite at h
  split at h
  next s1 hput =>
    cases h
    split at hput
    · cases hput
    · exact Eq.trans (b := s1.tm) rfl (State.putRecord_tm hput)
  next => cases h

theorem State.censPut1_sweep (s : State) (n owner : Nat) (record : Bytes) : (s.censPut1 n owner record).2.tm.sweep = s.tm.sweep := by
  unfold State.censPut1
  split
  next s1 h => exact congrArg (·.sweep) (State.censWrite_tm h)
  next => rfl

theorem State.censPut_sweep (s : State) (n owner sweep : Nat) (record : Bytes) :
    (s.censPut n owner sweep record).2.tm.sweep = s.tm.sweep := by
  unfold State.censPut
  extract_lets lost
  split
  · exact s.censPut1_sweep _ _ _
  · split
    next s1 h => exact (State.censPut1_sweep _ _ _ _).trans (congrArg (·.sweep) (State.censWrite_tm h))
    next => exact s.censPut1_sweep _ _ _

theorem State.gather_sweep (s : State) (eqid : Nat) : (s.gather eqid).tm.sweep = s.tm.sweep := by
  unfold State.gather
  extract_lets
  split <;> rfl

/-- A sample takes its sweep on to the next queue. -/
theorem State.censSample_sweep (s : State) (w : Sweep) (eqid : Nat) :
    (s.censSample w eqid).tm.sweep = assoc s.tm.sweep (eqid / 65536) { w with next := eqid % 65536 + 1 } := by
  unfold State.censSample
  extract_lets region n owner _ s0 idle record s1 r c
  have h1 : s1.tm.sweep = assoc s.tm.sweep (eqid / 65536) { w with next := eqid % 65536 + 1 } := s0.gather_sweep eqid
  have h2 : r.2.tm.sweep = s1.tm.sweep := s1.censPut_sweep _ _ _ _
  split
  · exact h1
  · split
    · exact Eq.trans h2 h1
    · exact h2.trans h1

theorem exec_censusSample {s : State} {dt eqid : Nat} {w : Sweep} (runs : s.censusRuns = true) (hq : eqid < 131072)
    (whole : s.mode.fenced ≠ some (eqid / 65536)) (due : (s.tick dt).sampleDue eqid = some w) :
    exec (.censusSample dt eqid) s = .next ((s.tick dt).censSample w eqid) := by
  refine Eq.trans (show execCensusSample .. = .next _ from cmd_then ?_) ?_
  · simp only [due, Option.isSome_some, Bool.and_eq_true, decide_eq_true_eq, bne_iff_ne, and_true]
    exact ⟨⟨runs, hq⟩, whole⟩
  · simp only [due]

/-! ### IPFIX -/

theorem State.sendIpfix_clock (s : State) (sent : Bool) (ms : List (List (Nat × Nat × Nat × Nat × Nat))) :
    (s.sendIpfix sent ms).clock = s.clock := by
  unfold State.sendIpfix
  refine List.foldlRecOn (motive := fun a : State => a.clock = s.clock) _ _ rfl fun a ha m _ => ?_
  cases sent <;> exact ha

theorem State.sendIpfix_cfg (s : State) (sent : Bool) (ms : List (List (Nat × Nat × Nat × Nat × Nat))) (o : Nat) :
    (s.sendIpfix sent ms).cfg o = s.cfg o := by
  unfold State.sendIpfix
  refine List.foldlRecOn (motive := fun a : State => a.cfg o = s.cfg o) _ _ rfl fun a ha m _ => ?_
  cases sent <;> exact ha

theorem exec_ipfixExport {s : State} {dt : Nat} (sent : Bool) (runs : s.ipfixRuns = true)
    (due : s.tm.ipfixAt + s.cfg Obj.CENSUS_IPFIX_INTERVAL_S * 1000000000 ≤ s.clock + dt) :
    exec (.ipfixExport dt sent) s =
      .next (if s.tm.ipfixOn then (s.tick dt).exportInterval sent else s.tick dt).startInterval := by
  refine show execIpfixExport .. = .next _ from cmd_then ?_
  rw [Bool.and_eq_true, decide_eq_true_eq]
  exact ⟨runs, due⟩

theorem exec_ipfixTemplate {s : State} {dt : Nat} (sent : Bool) (runs : s.ipfixRuns = true) (on : s.tm.ipfixOn = true)
    (first : s.tm.ipfixTpl = none) : ∃ t, exec (.ipfixTemplate dt sent) s = .next t ∧
      t.tm.ipfixTpl = some (s.clock + dt) ∧ ∀ o, t.ctr o = ((s.tick dt).sendIpfix sent [[]]).ctr o := by
  have first' : (s.tick dt).tm.ipfixTpl = none := first
  refine ⟨_, show execIpfixTemplate .. = .next _ from cmd_then ?_, ?_, fun o => rfl⟩
  · simp only [first', Bool.and_eq_true, and_true]
    exact ⟨runs, on⟩
  · exact congrArg some ((s.tick dt).sendIpfix_clock sent _)

/-! ### The PPS input -/

/-- The lock state changes; the event tells of it. -/
theorem State.setLock_told (s : State) (st : Nat) : Told (s.latch Obj.TIME_LOCK_STATE st) (s.setLock st) ∨
    s.setLock st = s ∧ s.cfg Obj.TIME_LOCK_STATE = st := by
  unfold State.setLock
  split
  next h => exact .inr ⟨rfl, by simpa using h⟩
  next => exact .inl (State.raise_told _ _ _ _ _ _)

theorem State.setLock_effect (s : State) (st : Nat) : (s.setLock st).cfg Obj.TIME_LOCK_STATE = st ∧
    (∀ o, latchedAside o = false → o ≠ Obj.TIME_LOCK_STATE → (s.setLock st).cfg o = s.cfg o) ∧
    (∀ o, countsTelling o = false → (s.setLock st).ctr o = s.ctr o) ∧ (s.setLock st).pps = s.pps := by
  rcases s.setLock_told st with told | ⟨same, held⟩
  · obtain ⟨-, -, -, -, -, -, -, -, -, -, -, -, hpps, -⟩ := told.frame
    refine ⟨?_, fun o ho hne => ?_, fun o ho => told.ctr o ho, hpps⟩
    · rw [told.cfg0 (by decide), State.cfg_latch_self]
    · rw [told.cfg0 ho, State.cfg_latch_ne _ _ _ _ hne]
  · rw [same]
    exact ⟨held, fun _ _ _ => rfl, fun _ _ => rfl, rfl⟩

theorem State.ppsReject_effect (s : State) : s.ppsReject.pps = { s.pps with good := 0 } ∧
    s.ppsReject.ctr Obj.TIME_PPS_REJECTS = Nat.min u64Max (s.ctr Obj.TIME_PPS_REJECTS + 1) ∧
    (s.usesPps = true → s.cfg Obj.TIME_LOCK_STATE = 2 → s.ppsReject.cfg Obj.TIME_LOCK_STATE = 3) := by
  unfold State.ppsReject
  extract_lets s1 _ s2
  have counted : s2.ctr Obj.TIME_PPS_REJECTS = Nat.min u64Max (s.ctr Obj.TIME_PPS_REJECTS + 1) := s.ctr_bump_self _
  split
  · obtain ⟨hlock, -, hctr, hpps⟩ := s2.setLock_effect 3
    exact ⟨hpps, (hctr _ (by decide)).trans counted, fun _ _ => hlock⟩
  next keeps =>
    refine ⟨rfl, counted, fun uses locked => absurd ?_ keeps⟩
    have uses' : s2.usesPps = true := uses
    have locked' : s2.cfg Obj.TIME_LOCK_STATE = 2 := locked
    simp [uses', locked']

theorem State.ppsAccept_effect (s : State) : s.ppsAccept.pps = { s.pps with ref := some s.clock, good := s.pps.good + 1, off := [] } ∧
    s.ppsAccept.cfg Obj.TIME_OFFSET_NS = i64 (secondPhase s.now) ∧
    (s.usesPps = true → 3 ≤ s.pps.good → s.ppsAccept.cfg Obj.TIME_LOCK_STATE = 2) := by
  unfold State.ppsAccept
  extract_lets n _ s1 s2
  have offset : s2.cfg Obj.TIME_OFFSET_NS = i64 (secondPhase s.now) := s1.cfg_latch_self _ _
  have uses_eq : s2.usesPps = s.usesPps := by
    simp only [State.usesPps, s2, s1.cfg_latch_ne Obj.TIME_OFFSET_NS Obj.TIME_DISCIPLINE _ (by decide)]
    rfl
  split
  · obtain ⟨hlock, hcfg, -, hpps⟩ := s2.setLock_effect 2
    exact ⟨hpps, (hcfg _ (by decide) (by decide)).trans offset, fun _ _ => hlock⟩
  next keeps =>
    refine ⟨rfl, offset, fun uses four => absurd ?_ keeps⟩
    simpa [uses_eq, uses, n] using four

section
variable {s : State} {dt r : Nat}

theorem exec_ppsInEdge_first (alive : s.alive = true) (first : s.pps.ref = none) : exec (.ppsInEdge dt) s =
    .next ({ s.tick dt with pps := { s.pps with ref := some (s.clock + dt) } }.ppsReject) := by
  have first' : (s.tick dt).pps.ref = none := first
  refine Eq.trans (show execPpsInEdge .. = .next _ from cmd_then alive) ?_
  simp only [first']
  rfl

theorem exec_ppsInEdge_off (alive : s.alive = true) (hr : s.pps.ref = some r)
    (off : s.clock + dt - r < 999900000 ∨ 1000100000 < s.clock + dt - r) : exec (.ppsInEdge dt) s =
      .next ({ s.tick dt with pps := { s.pps with ref := some (s.clock + dt), off := [] } }.ppsReject) := by
  have hr' : (s.tick dt).pps.ref = some r := hr
  have off' : (decide ((s.tick dt).clock - r < 999900000) || decide ((s.tick dt).clock - r > 1000100000)) = true := by
    simpa using off
  refine Eq.trans (show execPpsInEdge .. = .next _ from cmd_then alive) ?_
  simp only [hr', off', if_true]
  rfl

theorem exec_ppsInEdge_in (alive : s.alive = true) (hr : s.pps.ref = some r) (late : 999900000 ≤ s.clock + dt - r)
    (early : s.clock + dt - r ≤ 1000100000) (unlocked : s.cfg Obj.TIME_LOCK_STATE = 0 ∨ s.cfg Obj.TIME_LOCK_STATE = 1) :
    exec (.ppsInEdge dt) s = .next (s.tick dt).ppsAccept := by
  have hr' : (s.tick dt).pps.ref = some r := hr
  have inside : (decide ((s.tick dt).clock - r < 999900000) || decide ((s.tick dt).clock - r > 1000100000)) = false := by
    rw [Bool.or_eq_false_iff, decide_eq_false_iff_not, decide_eq_false_iff_not]
    exact ⟨Nat.not_lt.mpr late, Nat.not_lt.mpr early⟩
  have unlocked' : ((s.tick dt).cfg Obj.TIME_LOCK_STATE == 2 || (s.tick dt).cfg Obj.TIME_LOCK_STATE == 3) = false := by
    have : (s.tick dt).cfg Obj.TIME_LOCK_STATE = s.cfg Obj.TIME_LOCK_STATE := rfl
    rw [this]
    rcases unlocked with h | h <;> rw [h] <;> rfl
  refine Eq.trans (show execPpsInEdge .. = .next _ from cmd_then alive) ?_
  simp only [hr', inside, unlocked', Bool.false_and, Bool.false_eq_true, if_false]

theorem exec_ppsMissing (alive : s.alive = true) (hr : s.pps.ref = some r) (due : r + 1000100000 ≤ s.clock + dt) :
    ∃ t, exec (.ppsMissing dt) s = .next t ∧ t.pps = { ref := none, good := 0, off := [] } ∧
      (s.usesPps = true → s.cfg Obj.TIME_LOCK_STATE = 2 → t.cfg Obj.TIME_LOCK_STATE = 3) := by
  have hr' : (s.tick dt).pps.ref = some r := hr
  refine ⟨_, show execPpsMissing .. = .next _ from cmd_then ?_, ?_⟩
  · simpa only [hr', Bool.and_eq_true, decide_eq_true_eq] using ⟨alive, due⟩
  · extract_lets t1
    split
    · obtain ⟨hlock, -, -, hpps⟩ := t1.setLock_effect 3
      exact ⟨hpps, fun _ _ => hlock⟩
    next keeps =>
      refine ⟨rfl, fun uses locked => absurd ?_ keeps⟩
      have uses' : t1.usesPps = true := uses
      have locked' : t1.cfg Obj.TIME_LOCK_STATE = 2 := locked
      simp [uses', locked']

end

/-- Settles O22: each event's effect on its own state. -/
theorem timeDrivenEventsKeepTime : Obligations.TimeDrivenEventsKeepTime := by
  unfold Obligations.TimeDrivenEventsKeepTime
  refine ⟨fun dt pn region eqid s => ⟨?gate, ?list, ?sweep, ?sample, ?export_, ?template⟩, fun dt s alive => ⟨?first, ?edges⟩⟩
  case gate =>
    intro carries hn enabled moved
    have thinned := State.retestPort_thinned ((s.tick dt).showGate pn) pn
    obtain ⟨-, -, hnow⟩ := thinned.gates
    obtain ⟨-, -, hep, hhs, -, -, -, -, -, -, -, -, -, -, -, -, hpkts⟩ := thinned.frame
    refine ⟨_, exec_gateEvent carries hn enabled moved, ?_, hpkts, hep, hhs⟩
    rw [hnow]
    exact lookup?_assoc_self _ _ _
  case list =>
    intro g at_ alive pending due
    obtain ⟨hgate, hpend, hcfg, hpkts⟩ := State.switchGate_effect ((s.tick dt).latch (Obj.GATE_SWITCH_AT + pn) at_) pn g
    exact ⟨_, exec_gateListSwitch alive pending due, rfl, hgate, hpend, (hcfg _).trans (State.cfg_latch_self _ _ _), hpkts⟩
  case sweep =>
    intro runs hr whole on instant first noRings
    exact ⟨_, (s.tick dt).sweepNow region, exec_censusSweepStart runs hr whole on instant first noRings,
      lookup?_assoc_self _ _ _, rfl, rfl, rfl, rfl, rfl, State.cfg_latch_self _ _ _⟩
  case sample =>
    intro w runs hq whole due
    have turn : w.next = eqid % 65536 := by
      have h := (Option.filter_eq_some_iff.mp due).2
      simp only [Bool.and_eq_true, beq_iff_eq] at h
      exact h.1
    refine ⟨exec_censusSample runs hq whole due, turn, _, ?_, rfl⟩
    rw [State.censSample_sweep]
    exact lookup?_assoc_self _ _ _
  case export_ =>
    intro sent runs due
    refine ⟨_, exec_ipfixExport sent runs due, rfl, ?_, ?_, fun off => ?_⟩
    · cases s.tm.ipfixOn
      · rfl
      · exact State.sendIpfix_clock _ _ _
    · have hcfg : State.cfg (if s.tm.ipfixOn then (s.tick dt).exportInterval sent else s.tick dt) Obj.CENSUS_IPFIX_EN =
          s.cfg Obj.CENSUS_IPFIX_EN := by
        cases s.tm.ipfixOn
        · rfl
        · exact State.sendIpfix_cfg _ _ _ _
      rw [← hcfg]
      exact beq_iff_eq
    · rw [off]
      rfl
  case template =>
    intro runs on first
    constructor
    · obtain ⟨t, ht, htpl, hctr⟩ := exec_ipfixTemplate (dt := dt) true runs on first
      exact ⟨t, ht, htpl, (hctr _).trans (State.ctr_bump_self _ _)⟩
    · obtain ⟨t, ht, htpl, hctr⟩ := exec_ipfixTemplate (dt := dt) false runs on first
      exact ⟨t, ht, htpl, (hctr _).trans (State.ctr_bump_self _ _)⟩
  case first => exact exec_ppsInEdge_first alive
  case edges =>
    intro r hr
    refine ⟨fun off => ?off, fun late early unlocked => ?in_, exec_ppsMissing alive hr⟩
    case off =>
      obtain ⟨hpps, hctr, hlock⟩ :=
        State.ppsReject_effect { s.tick dt with pps := { s.pps with ref := some (s.clock + dt), off := [] } }
      exact ⟨_, exec_ppsInEdge_off alive hr off, by rw [hpps], by rw [hpps], by rw [hpps], hctr, hlock⟩
    case in_ =>
      obtain ⟨hpps, hoff, hlock⟩ := State.ppsAccept_effect (s.tick dt)
      exact ⟨_, exec_ppsInEdge_in alive hr late early unlocked, congrArg (·.good) hpps, congrArg (·.ref) hpps, hoff, hlock⟩

end Sys2Proof.Machine
end

section
/-!
PROOFS. Epochs: the switch instant (R66), retirement (R69), and scheduled commits at their instant (R80 to R86, R281).
-/

namespace Sys2Proof.Machine

/-! ### The switch instant of a commit -/

/-- The version that a sealed commit becomes at this instant. -/
def State.verNow (s : State) (c : Sealed) : Ver := { c.ver with swClock := s.clock, swTime := s.now }

/-- That version is live, current, counted and shown. -/
def State.showEpoch (s : State) (c : Sealed) : State :=
  let s1 : State := { s with ep := { s.ep with live := s.ep.live ++ [s.verNow c], current := c.ver.num } }
  ((s1.latch Obj.EPOCH_SWITCHED_AT s.now).bump Obj.EPOCH_COMMITS).latch Obj.EPOCH_LAST_STATUS 0

/-- What a new version changes beside: stores, deficits, bindings, tables, policers, banks, gates and the calendar. -/
def State.carryOver (s : State) (old new : Ver) (first : Bool) : State :=
  let s3 := ((if first then s else s.storeVersion old new).resetDeficits old new).moveBindings old new
  ((((if first then s3 else s3.newTables new).newPolicers old new).newBanks old new).newGates old new).newCalendar old new

theorem State.switchTo_eq (s : State) (c : Sealed) : s.switchTo c =
    ((s.showEpoch c).carryOver s.curVer (s.verNow c) s.ep.live.isEmpty).dropUnattached := rfl

/-- An object that is no setting of a table. -/
def outsideTables (o : Nat) : Bool := !(0x4900 ≤ o / 256 && o / 256 < 0x4A00)

theorem lookupD_filter {α : Type} (l : List (Nat × α)) (p : Nat × α → Bool) (k : Nat) (d : α) (h : ∀ v, p (k, v) = true) :
    lookupD (l.filter p) k d = lookupD l k d := by
  induction l with
  | nil => rfl
  | cons x l ih =>
    obtain ⟨j, v⟩ := x
    by_cases hj : j = k
    · subst hj
      simp [lookupD, h]
    · cases hp : p (j, v) <;> simp [lookupD, hp, hj, ih]

/-- Settings of new tables return to their defaults, and no other value changes. -/
theorem State.newTables_cfg (s : State) (new : Ver) {o : Nat} (h : outsideTables o = true) :
    (s.newTables new).cfg o = s.cfg o := by
  refine lookupD_filter _ _ _ _ fun v => ?_
  have hkey : keyObj (okey o 0) = o := by
    unfold keyObj okey
    omega
  simp only [hkey]
  unfold outsideTables at h
  revert h
  cases decide (0x4900 ≤ o / 256) && decide (o / 256 < 0x4A00) <;> simp

theorem State.newCalendar_frame (s : State) (old new : Ver) : (s.newCalendar old new).ep = s.ep ∧
    (s.newCalendar old new).dict = s.dict := by
  unfold State.newCalendar
  split <;> exact ⟨rfl, rfl⟩

/-- The parts of `carryOver` that touch neither epochs nor the dictionary. -/
theorem State.carryOver_frame (s : State) (old new : Ver) (first : Bool) :
    (s.carryOver old new first).ep = (if first then s else (s.storeVersion old new).newTables new).ep ∧
    (s.carryOver old new first).dict = (if first then s else (s.storeVersion old new).newTables new).dict := by
  have policers (t : State) : (t.newPolicers old new).ep = t.ep ∧ (t.newPolicers old new).dict = t.dict := ⟨rfl, rfl⟩
  have banks (t : State) : (t.newBanks old new).ep = t.ep ∧ (t.newBanks old new).dict = t.dict := ⟨rfl, rfl⟩
  have gates (t : State) : (t.newGates old new).ep = t.ep ∧ (t.newGates old new).dict = t.dict := ⟨rfl, rfl⟩
  rw [State.carryOver, (State.newCalendar_frame _ old new).1, (State.newCalendar_frame _ old new).2,
    (gates _).1, (gates _).2, (banks _).1, (banks _).2, (policers _).1, (policers _).2]
  cases first <;> exact ⟨rfl, rfl⟩

theorem State.carryOver_ep (s : State) (old new : Ver) (first : Bool) : (s.carryOver old new first).ep = s.ep := by
  rw [(s.carryOver_frame old new first).1]
  cases first <;> rfl

theorem State.carryOver_ctr (s : State) (old new : Ver) (first : Bool) (o : Nat) :
    (s.carryOver old new first).ctr o = s.ctr o := by
  rw [State.ctr, (s.carryOver_frame old new first).2]
  cases first <;> rfl

theorem State.carryOver_cfg (s : State) (old new : Ver) (first : Bool) {o : Nat} (h : outsideTables o = true) :
    (s.carryOver old new first).cfg o = s.cfg o := by
  rw [State.cfg, (s.carryOver_frame old new first).2]
  cases first
  · exact State.newTables_cfg _ new h
  · rfl

theorem State.dropUnattached_thinned (s : State) : Thinned s s.dropUnattached :=
  Thinned.foldl _ s fun a p => a.dropQueued_thinned p _

theorem State.dropUnattached_ctr (s : State) {o : Nat} (h : o < Obj.TM_DROP_UNATTACHED) : s.dropUnattached.ctr o = s.ctr o := by
  unfold State.dropUnattached
  refine List.foldlRecOn (motive := fun a : State => a.ctr o = s.ctr o) _ _ rfl fun a ha p _ => ?_
  exact (a.ctr_bump_ne _ _ (by omega)).trans ha

theorem State.switchTo_ep (s : State) (c : Sealed) :
    (s.switchTo c).ep = { s.ep with live := s.ep.live ++ [s.verNow c], current := c.ver.num } := by
  obtain ⟨-, -, hep, -⟩ := (State.dropUnattached_thinned
    ((s.showEpoch c).carryOver s.curVer (s.verNow c) s.ep.live.isEmpty)).frame
  rw [s.switchTo_eq c, hep, State.carryOver_ep]
  rfl

theorem State.switchTo_cfg (s : State) (c : Sealed) {o : Nat} (h : outsideTables o = true) :
    (s.switchTo c).cfg o = (s.showEpoch c).cfg o := by
  obtain ⟨-, -, -, -, -, -, -, -, -, -, -, -, -, -, -, hcfg, -⟩ := (State.dropUnattached_thinned
    ((s.showEpoch c).carryOver s.curVer (s.verNow c) s.ep.live.isEmpty)).frame
  rw [s.switchTo_eq c, hcfg, State.carryOver_cfg _ _ _ _ h]

theorem State.switchTo_ctr (s : State) (c : Sealed) {o : Nat} (h : o < Obj.TM_DROP_UNATTACHED) (hne : o ≠ Obj.EPOCH_COMMITS) :
    (s.switchTo c).ctr o = s.ctr o := by
  rw [s.switchTo_eq c, State.dropUnattached_ctr _ h, State.carryOver_ctr]
  exact State.ctr_bump_ne _ _ _ hne

theorem State.switchTo_shows (s : State) (c : Sealed) : (s.switchTo c).cfg Obj.EPOCH_SWITCHED_AT = s.now ∧
    (s.switchTo c).cfg Obj.EPOCH_LAST_STATUS = 0 ∧
    (s.switchTo c).ctr Obj.EPOCH_COMMITS = Nat.min u64Max (s.ctr Obj.EPOCH_COMMITS + 1) := by
  refine ⟨?_, ?_, ?_⟩
  · rw [State.switchTo_cfg _ _ (by decide), State.showEpoch, State.cfg_latch_ne _ _ _ _ (by decide), State.cfg_bump,
      State.cfg_latch_self]
  · rw [State.switchTo_cfg _ _ (by decide)]
    exact State.cfg_latch_self _ _ _
  · rw [s.switchTo_eq c, State.dropUnattached_ctr _ (by decide), State.carryOver_ctr]
    exact State.ctr_bump_self _ _

/-! ### EPOCH_SWITCH, QUEUED_COMMIT_RUN and EPOCH_RETIRE -/

section
variable {s : State} {dt : Nat}

theorem exec_epochSwitch {c : Sealed} {at_ : Nat} {rest : List (Sealed × Nat)} (alive : s.alive = true)
    (first : s.ep.applying = (c, at_) :: rest) : exec (.epochSwitch dt) s =
      .next (if s.ep.live.isEmpty then
        (State.switchTo { s.tick dt with ep := { s.ep with applying := rest } } c).enterService
      else State.switchTo { s.tick dt with ep := { s.ep with applying := rest } } c) := by
  have first' : (s.tick dt).ep.applying = (c, at_) :: rest := first
  refine Eq.trans (show execEpochSwitch .. = .next _ from cmd_then ?_) ?_
  · rw [first', Bool.and_eq_true]
    exact ⟨alive, rfl⟩
  · simp only [first']
    rfl

theorem exec_queuedCommitRun {c : Sealed} (alive : s.alive = true) (waits : s.ep.queued = some c) (room : s.liveCount < 4) :
    exec (.queuedCommitRun dt) s = .next { s.tick dt with ep := { s.ep with
      queued := none, applying := s.ep.applying ++ [(c, s.clock + dt + 2000)] } } := by
  have waits' : (s.tick dt).ep.queued = some c := waits
  refine Eq.trans (show execQueuedCommitRun .. = .next _ from cmd_then ?_) ?_
  · simpa only [waits', Option.isSome_some, Bool.and_true, Bool.and_eq_true, decide_eq_true_eq] using ⟨alive, room⟩
  · simp only [waits']
    rfl

theorem exec_epochRetire {v w : Ver} {rest : List Ver} (alive : s.alive = true) (oldest : s.ep.live = v :: w :: rest)
    (uncarried : s.pkts.any ((s.tick dt).carries v.num) = false) :
    exec (.epochRetire dt) s = .next ((s.tick dt).retire w) := by
  have oldest' : (s.tick dt).ep.live = v :: w :: rest := oldest
  have uncarried' : (s.tick dt).pkts.any ((s.tick dt).carries v.num) = false := uncarried
  have retirable : (s.tick dt).retirable = some (v, w) := by
    simp only [State.retirable, oldest', uncarried', Bool.false_eq_true, if_false]
  refine Eq.trans (show execEpochRetire .. = .next _ from cmd_then ?_) ?_
  · rw [retirable, Option.isSome_some, Bool.and_true]
    exact alive
  · simp only [retirable]

end

/-- Settles O23: `switchTo` brings the oldest commit, a queued one applies, and `retire` drops a version and entries. -/
theorem epochsSwitchInOrder : Obligations.EpochsSwitchInOrder := by
  unfold Obligations.EpochsSwitchInOrder
  intro dt s alive
  refine ⟨fun c at_ rest first => ⟨⟨_, rfl, exec_epochSwitch alive first⟩, fun more => ?switch⟩,
    fun c waits room => exec_queuedCommitRun alive waits room, fun v w rest oldest uncarried => ?retire⟩
  case switch =>
    have later : s.ep.live.isEmpty = false := by simpa using more
    let u : State := { s.tick dt with ep := { s.ep with applying := rest } }
    obtain ⟨hat, hstatus, hcount⟩ := u.switchTo_shows c
    have hep := u.switchTo_ep c
    refine ⟨u.switchTo c, u.verNow c, ?_, ?_, rfl, rfl, ?_, ?_, hat, hstatus, hcount⟩
    · rw [exec_epochSwitch alive first, later]
      rfl
    · rw [hep]
    · rw [hep]
    · rw [hep]
  case retire =>
    refine ⟨_, exec_epochRetire alive oldest uncarried, ?_, rfl, rfl, fun e he => (List.mem_filter.mp he).1⟩
    exact congrArg (List.drop 1) oldest

end Sys2Proof.Machine
end

section
/-!
PROOFS. Scheduled commits: messages of the Weave that they send (R261, R262), and O24 (R80 to R86, R281).
-/

namespace Sys2Proof.Machine

/-! ### Sending on the Weave changes queues, sequences and counters -/

/-- The state with these queues, sequences and counters. -/
def State.sentPut (s : State) (ctl shuttle : List LinkFrame) (seq : List (Nat × Nat)) (ctr : Store) : State :=
  { s with wv := { s.wv with ctlQ := ctl, shuttleQ := shuttle, msgSeq := seq }, dict := { s.dict with ctr := ctr } }

/-- Only those differ. -/
def Sends (s t : State) : Prop := ∃ ctl shuttle seq ctr, t = s.sentPut ctl shuttle seq ctr

theorem Sends.refl (s : State) : Sends s s := ⟨_, _, _, _, rfl⟩

theorem Sends.trans {s t u : State} (h : Sends s t) (g : Sends t u) : Sends s u := by
  obtain ⟨_, _, _, _, rfl⟩ := h
  obtain ⟨_, _, _, _, rfl⟩ := g
  exact ⟨_, _, _, _, rfl⟩

theorem Sends.foldl {α : Type} {f : State → α → State} (l : List α) (s : State) (h : ∀ a x, Sends a (f a x)) :
    Sends s (l.foldl f s) := by
  induction l generalizing s with
  | nil => exact Sends.refl s
  | cons x l ih => exact (h s x).trans (ih _)

theorem Sends.frame {s t : State} (h : Sends s t) : t.now = s.now ∧ t.clock = s.clock ∧ t.ep = s.ep ∧ t.pkts = s.pkts ∧
    t.mgmt = s.mgmt ∧ t.mode = s.mode ∧ t.hs = s.hs ∧ t.tbl = s.tbl ∧ t.tm = s.tm ∧ t.wv.again = s.wv.again ∧
    t.wv.link = s.wv.link ∧ t.wv.dest = s.wv.dest ∧ t.out = s.out ∧ ∀ o e, t.cfg o e = s.cfg o e := by
  obtain ⟨_, _, _, _, rfl⟩ := h
  exact ⟨rfl, rfl, rfl, rfl, rfl, rfl, rfl, rfl, rfl, rfl, rfl, rfl, rfl, fun _ _ => rfl⟩

theorem State.nextSeq_sends (s : State) (typ : Nat) : Sends s (s.nextSeq typ).2 := ⟨_, _, _, _, rfl⟩

theorem State.pushCtl_sends (s : State) (l : Nat) (at_ : Option Nat) (f : Bytes) (head : Bool) :
    Sends s (s.pushCtl l at_ f head) := by
  unfold State.pushCtl
  split <;> exact ⟨_, _, _, _, rfl⟩

theorem State.pushShuttle_sends (s : State) (l : Nat) (at_ : Option Nat) (f : Bytes) : Sends s (s.pushShuttle l at_ f) := by
  unfold State.pushShuttle
  split <;> exact ⟨_, _, _, _, rfl⟩

theorem State.sendRouted_sends (s : State) (typ seq dst : Nat) (rest : Bytes) : Sends s (s.sendRouted typ seq dst rest) := by
  unfold State.sendRouted
  extract_lets e c f
  split
  · exact .refl s
  · split
    · exact s.pushShuttle_sends _ _ _
    · exact s.pushCtl_sends _ _ _ _

theorem State.floodFrame_sends (s : State) (f : Bytes) (head : Bool) : Sends s (s.floodFrame f head) :=
  Sends.foldl _ s fun a l => a.pushCtl_sends l none f head

/-! ### A frame reaches the control queue of every UP link that has room (R262) -/

/-- Frames of a link's control queue. -/
def State.ctlOf (s : State) (l : Nat) : List LinkFrame := s.wv.ctlQ.filter fun x => x.link == l

theorem State.pushCtl_of_room {s : State} {l : Nat} (room : (s.ctlOf l).length < 64) (f : Bytes) :
    ⟨l, none, f⟩ ∈ (s.pushCtl l none f false).wv.ctlQ := by
  have h : ¬ (s.wv.ctlQ.filter fun x => x.link == l).length ≥ 64 := Nat.not_le.mpr room
  simp [State.pushCtl, h]

theorem State.pushCtl_keeps {s : State} {l : Nat} {f : Bytes} {x : LinkFrame} (h : x ∈ s.wv.ctlQ) :
    x ∈ (s.pushCtl l none f false).wv.ctlQ := by
  unfold State.pushCtl
  split
  · exact h
  · exact List.mem_append_left _ h

theorem State.pushCtl_ctlOf_ne {s : State} {k l : Nat} (hne : k ≠ l) (f : Bytes) :
    (s.pushCtl k none f false).ctlOf l = s.ctlOf l := by
  unfold State.pushCtl
  split
  · rfl
  · simp [State.ctlOf, hne]

theorem State.pushes_reach (ls : List Nat) (s : State) (f : Bytes) {l : Nat} (hl : l ∈ ls) (room : (s.ctlOf l).length < 64) :
    ⟨l, none, f⟩ ∈ (ls.foldl (fun a k => a.pushCtl k none f false) s).wv.ctlQ := by
  induction ls generalizing s with
  | nil => exact absurd hl List.not_mem_nil
  | cons k ls ih =>
    by_cases hk : k = l
    · subst hk
      exact List.foldlRecOn (motive := fun a : State => ⟨k, none, f⟩ ∈ a.wv.ctlQ) ls _ (State.pushCtl_of_room room f)
        fun a ha j _ => State.pushCtl_keeps ha
    · refine ih _ ((List.mem_cons.mp hl).resolve_left (Ne.symm hk)) ?_
      rw [State.pushCtl_ctlOf_ne hk]
      exact room

theorem State.floodFrame_reaches {s : State} {l : Nat} (hl : l < 8) (up : s.wvState l = 2) (room : (s.ctlOf l).length < 64)
    (f : Bytes) : ⟨l, none, f⟩ ∈ (s.floodFrame f false).wv.ctlQ :=
  State.pushes_reach _ s f (List.mem_filter.mpr ⟨List.mem_range.mpr hl, beq_iff_eq.mpr up⟩) room

@[simp] theorem length_toLe (n x : Nat) : (toLe n x).length = n := by
  induction n generalizing x with
  | zero => rfl
  | succ n ih => simp [toLe, ih]

@[simp] theorem length_toBe (n x : Nat) : (toBe n x).length = n := by simp [toBe]

/-- The header that `formFrame` puts before a body is 16 B long. -/
theorem State.wvBody_formFrame (s : State) (typ cls dst hash tc : Nat) (body : Bytes) :
    wvBody (s.formFrame typ cls dst hash tc body) = body := by
  simp [wvBody, State.formFrame, List.drop_append]

/-! ### Cancelling and giving back -/

theorem State.giveBack_frame (s : State) (c : Sealed) : (s.giveBack c).ep = s.ep ∧ (s.giveBack c).wv = s.wv ∧
    (∀ o, latchedAside o = false → (s.giveBack c).cfg o = s.cfg o) ∧
    ∀ o, countsTelling o = false → o ≠ Obj.EPOCH_STAGE_DISCARDS → (s.giveBack c).ctr o = s.ctr o := by
  unfold State.giveBack
  split
  · unfold State.setStage
    split <;> exact ⟨rfl, rfl, fun _ _ => rfl, fun _ _ _ => rfl⟩
  · split
    · exact ⟨rfl, rfl, fun _ _ => rfl, fun _ _ _ => rfl⟩
    · have told := (s.bump Obj.EPOCH_STAGE_DISCARDS).raise_told 0x0003 0 0 (toBe 2 c.stage.vals.length ++ toBe 1 4) none
      obtain ⟨-, -, -, -, hep, -, -, -, -, -, -, hwv, -⟩ := told.frame
      exact ⟨hep, hwv, fun o ho => told.cfg0 ho, fun o ho hne => (told.ctr o ho).trans (s.ctr_bump_ne _ _ hne)⟩

theorem State.atGo_frame (s : State) (n : Nat) : (s.atGo n).ep = { s.ep with
    atState := if s.ep.atState = 5 ∨ s.ep.atState = 6 then s.ep.atState else n } ∧ (s.atGo n).wv = s.wv ∧
    (s.atGo n).dict = s.dict := by
  by_cases h : s.ep.atState = 5 ∨ s.ep.atState = 6
  · simp [State.atGo, h]
  · simp [State.atGo, h, State.atState]

/-- A CANCEL that is heard leaves the Weave's queues, the versions and what this device initiated. -/
theorem State.hearCancel_frame (s : State) (id : Nat) : (s.hearCancel id).wv = s.wv ∧
    (s.hearCancel id).ep.current = s.ep.current ∧ (s.hearCancel id).ep.initiated = s.ep.initiated := by
  unfold State.hearCancel
  split
  next m _ =>
    split
    · extract_lets _ s1
      obtain ⟨hep, hwv, -⟩ := s1.giveBack_frame m.contents
      obtain ⟨hep', hwv', -⟩ := (s1.giveBack m.contents).atGo_frame 4
      rw [hep] at hep'
      exact ⟨hwv'.trans hwv, congrArg (·.current) hep', congrArg (·.initiated) hep'⟩
    · exact ⟨rfl, rfl, rfl⟩
  next =>
    split
    · extract_lets _ s1
      obtain ⟨hep, hwv, -⟩ := s1.atGo_frame 4
      exact ⟨hwv, congrArg (·.current) hep, congrArg (·.initiated) hep⟩
    · exact ⟨rfl, rfl, rfl⟩

/-- Heard before its instant, it takes the contents from a prepared member. -/
theorem State.hearCancel_member {s : State} {m : Member} (hm : s.ep.member = some m) (early : s.now < m.t) :
    (s.hearCancel m.id).ep.member = none ∧ (s.hearCancel m.id).ep.own = some (m.id, 2) := by
  have cond : (m.id == m.id && decide (s.now < m.t)) = true := by simp [early]
  simp only [State.hearCancel, hm, cond, if_true]
  obtain ⟨hep, -⟩ := State.giveBack_frame { s with ep := { s.ep with member := none, own := some (m.id, 2) } } m.contents
  obtain ⟨hep', -⟩ := State.atGo_frame
    (State.giveBack { s with ep := { s.ep with member := none, own := some (m.id, 2) } } m.contents) 4
  rw [hep] at hep'
  exact ⟨congrArg (·.member) hep', congrArg (·.own) hep'⟩

/-- The initiator that cancels. -/
def State.cancelling (s : State) (i : Initiated) : State :=
  let r := s.nextSeq 0x13
  let f := r.2.floodMsg 0x13 r.1 (atBody i.id 0 i.t)
  let s0 := r.2.floodFrame f true
  { s0 with
    wv := { s0.wv with again := s0.wv.again ++ [(s.clock + 1000, f), (s.clock + 2000, f)] }
    ep := { s0.ep with initiated := some { i with verdict := 2 } } }

theorem State.sendCancel_eq (s : State) (i : Initiated) : s.sendCancel i = (s.cancelling i).hearCancel i.id := rfl

theorem State.cancelling_frame (s : State) (i : Initiated) : (s.cancelling i).now = s.now ∧
    (s.cancelling i).ep = { s.ep with initiated := some { i with verdict := 2 } } ∧
    ∃ f, (s.cancelling i).wv.again = s.wv.again ++ [(s.clock + 1000, f), (s.clock + 2000, f)] := by
  unfold State.cancelling
  extract_lets r f s0
  obtain ⟨hnow, -, hep, -, -, -, -, -, -, hagain, -⟩ := ((s.nextSeq_sends 0x13).trans (r.2.floodFrame_sends f true)).frame
  exact ⟨hnow, congrArg (fun e : Epochs => { e with initiated := some { i with verdict := 2 } }) hep, f,
    congrArg (· ++ [(s.clock + 1000, f), (s.clock + 2000, f)]) hagain⟩

theorem State.sendCancel_effect (s : State) (i : Initiated) : (s.sendCancel i).ep.initiated = some { i with verdict := 2 } ∧
    (∃ f, (s.sendCancel i).wv.again = s.wv.again ++ [(s.clock + 1000, f), (s.clock + 2000, f)]) ∧
    (∀ m, s.ep.member = some m → m.id = i.id → s.now < m.t →
      (s.sendCancel i).ep.member = none ∧ (s.sendCancel i).ep.own = some (i.id, 2)) ∧
    (s.sendCancel i).ep.current = s.ep.current := by
  obtain ⟨hnow, hep, f, hagain⟩ := s.cancelling_frame i
  obtain ⟨hwv, hcurrent, hinit⟩ := (s.cancelling i).hearCancel_frame i.id
  rw [State.sendCancel_eq]
  refine ⟨?_, ⟨f, ?_⟩, fun m hm hid early => ?_, ?_⟩
  · rw [hinit, hep]
  · rw [hwv, hagain]
  · have hm' : (s.cancelling i).ep.member = some m := by rw [hep]; exact hm
    rw [← hid]
    exact State.hearCancel_member hm' (hnow ▸ early)
  · rw [hcurrent, hep]

/-! ### Telling an outcome -/

theorem State.compareOutcome_frame (s : State) (id out : Nat) : (s.compareOutcome id out).wv = s.wv ∧
    (s.compareOutcome id out).ep.initiated = s.ep.initiated ∧ (s.compareOutcome id out).ep.known = s.ep.known := by
  unfold State.compareOutcome
  split
  · split
    · extract_lets _ s1
      have told := ((s1.bump Obj.EPOCH_AT_DIVERGED).atState 6).raise_told 0x0031 3 0 (toBe 4 id) none
      obtain ⟨-, -, -, -, hep, -, -, -, -, -, -, hwv, -⟩ := told.frame
      exact ⟨hwv, congrArg (·.initiated) hep, congrArg (·.known) hep⟩
    · exact ⟨rfl, rfl, rfl⟩
  · exact ⟨rfl, rfl, rfl⟩

theorem State.learnOutcome_frame (s : State) (id out init : Nat) : (s.learnOutcome id out init).wv = s.wv ∧
    (s.learnOutcome id out init).ep.initiated = s.ep.initiated ∧
    (s.learnOutcome id out init).ep.known = some (id, out, init) := by
  unfold State.learnOutcome
  extract_lets _ s1 s2
  obtain ⟨hwv, hinit, hknown⟩ := s2.compareOutcome_frame id out
  have h2 : s2.wv = s.wv ∧ s2.ep.initiated = s.ep.initiated ∧ s2.ep.known = some (id, out, init) := by
    unfold s2
    split <;> exact ⟨rfl, rfl, rfl⟩
  obtain ⟨hwv2, hinit2, hknown2⟩ := h2
  exact ⟨hwv.trans hwv2, hinit.trans hinit2, hknown.trans hknown2⟩

theorem State.tellOutcome_effect (s : State) (id out t : Nat) :
    (s.tellOutcome id out t).ep.initiated = s.ep.initiated ∧ (s.tellOutcome id out t).ep.known = some (id, out, s.wvAddr) ∧
    ∀ l, l < 8 → s.wvState l = 2 → (s.ctlOf l).length < 64 → ∃ x ∈ (s.tellOutcome id out t).wv.ctlQ, x.link = l ∧
      wvBody x.bytes = pdu 0x14 ((lookupD s.wv.msgSeq 0x14 0 + 1) % 2 ^ 32) (atBody id out t) := by
  unfold State.tellOutcome
  extract_lets r
  obtain ⟨hwv, hinit, hknown⟩ := (r.2.flood 0x14 r.1 (atBody id out t) false).learnOutcome_frame id out s.wvAddr
  obtain ⟨-, -, hep, -⟩ := ((s.nextSeq_sends 0x14).trans
    (r.2.floodFrame_sends (r.2.floodMsg 0x14 r.1 (atBody id out t)) false)).frame
  refine ⟨hinit.trans (congrArg (·.initiated) hep), hknown, fun l hl up room => ?_⟩
  rw [hwv]
  exact ⟨_, State.floodFrame_reaches (s := r.2) hl up room _, rfl, State.wvBody_formFrame _ _ _ _ _ _ _⟩

/-! ### The commands -/

section
variable {s : State} {dt : Nat}

theorem exec_scheduledSwitch {m : Member} (alive : s.alive = true) (idle : s.ep.applying = [])
    (hm : s.ep.member = some m) (due : m.t ≤ (s.tick dt).now) :
    exec (.scheduledSwitch dt) s = .next ((s.tick dt).atSwitch m) := by
  have hm' : (s.tick dt).ep.member = some m := hm
  have idle' : (s.tick dt).ep.applying = [] := idle
  refine Eq.trans (show execScheduledSwitch .. = .next _ from cmd_then ?_) ?_
  · simpa only [hm', idle', List.isEmpty_nil, Bool.and_true, Bool.and_eq_true, decide_eq_true_eq] using ⟨alive, due⟩
  · simp only [hm']

theorem exec_prepareResend {i : Initiated} (alive : s.alive = true) (hi : s.ep.initiated = some i) (open_ : i.verdict = 0)
    (early : (s.tick dt).now + 20000 < i.t) (due : i.sentAt + 50000 ≤ s.clock + dt) :
    exec (.prepareResend dt) s = .next ((s.tick dt).sendPrepares i) := by
  have hi' : (s.tick dt).ep.initiated = some i := hi
  refine Eq.trans (show execPrepareResend .. = .next _ from cmd_then ?_) ?_
  · simpa only [State.openInit, hi', open_, beq_self_eq_true, Bool.true_and, Bool.and_eq_true, decide_eq_true_eq]
      using ⟨alive, early, due⟩
  · simp only [hi']

theorem exec_ackDeadline {i : Initiated} (alive : s.alive = true) (hi : s.ep.initiated = some i) (open_ : i.verdict = 0)
    (due : i.t ≤ (s.tick dt).now + 20000) (early : (s.tick dt).now < i.t) :
    exec (.ackDeadline dt) s = .next (if i.acked &&& i.members == i.members then s.tick dt else (s.tick dt).sendCancel i) := by
  have hi' : (s.tick dt).ep.initiated = some i := hi
  refine Eq.trans (show execAckDeadline .. = .next _ from cmd_then ?_) ?_
  · simpa only [State.openInit, hi', open_, beq_self_eq_true, Bool.true_and, Bool.and_eq_true, decide_eq_true_eq]
      using ⟨alive, due, early⟩
  · simp only [hi']

theorem exec_outcomeFlood {i : Initiated} {out : Nat} (alive : s.alive = true) (hi : s.ep.initiated = some i)
    (due : i.t ≤ (s.tick dt).now) (untold : i.flooded = false) (none_ : s.ep.untold = [])
    (hout : out = if i.verdict = 2 then 2 else 1) :
    exec (.outcomeFlood dt) s = .next (State.tellOutcome { s.tick dt with ep := { s.ep with
      initiated := some { i with verdict := out, flooded := true } } } i.id out i.t) := by
  have hi' : (s.tick dt).ep.initiated = some i := hi
  have none' : (s.tick dt).ep.untold = [] := none_
  have due' : (decide (i.t ≤ (s.tick dt).now) && !i.flooded) = true := by
    rw [untold, decide_eq_true due]
    rfl
  have old : (s.tick dt).tellOld = s.tick dt := by
    simp only [State.tellOld, none', List.filter_nil, List.foldl_nil]
    rw [← none']
  refine Eq.trans (show execOutcomeFlood .. = .next _ from cmd_then ?_) ?_
  · simp only [hi', none', due', List.any_nil, Bool.or_true, Bool.and_true]
    exact alive
  · simp only [old, State.tellNew, hi', due', if_true, hout, beq_iff_eq]
    rfl

end

/-- A scheduled switch that is met: the version is current, and the commit is counted as executed. -/
theorem State.switched_effect (u : State) (m : Member) (armedNone : u.ep.armed = none) (memberNone : u.ep.member = none)
    (arm : u.cfg Obj.EPOCH_AT_ARM = 0) (own : u.ep.own = some (m.id, 1)) (t : State)
    (ht : t = ((u.switchTo m.contents).atGo 3).bump Obj.EPOCH_AT_EXECUTED) :
    t.ep.current = m.contents.ver.num ∧ t.ep.member = none ∧ t.ep.armed = none ∧ t.ep.own = some (m.id, 1) ∧
      t.cfg Obj.EPOCH_AT_ARM = 0 ∧ t.ctr Obj.EPOCH_AT_EXECUTED = Nat.min u64Max (u.ctr Obj.EPOCH_AT_EXECUTED + 1) ∧
      t.ep.atState = (if u.ep.atState = 5 ∨ u.ep.atState = 6 then u.ep.atState else 3) := by
  obtain ⟨hgo, -, hdict⟩ := (u.switchTo m.contents).atGo_frame 3
  rw [u.switchTo_ep m.contents] at hgo
  have hep : t.ep = _ := (congrArg State.ep ht).trans hgo
  have harm : t.cfg Obj.EPOCH_AT_ARM = (u.switchTo m.contents).cfg Obj.EPOCH_AT_ARM := by
    rw [ht, State.cfg_bump, State.cfg, hdict, State.cfg]
  have hctr : t.ctr Obj.EPOCH_AT_EXECUTED = Nat.min u64Max ((u.switchTo m.contents).ctr Obj.EPOCH_AT_EXECUTED + 1) := by
    rw [ht, State.ctr_bump_self, State.ctr, hdict, State.ctr]
  rw [hep]
  refine ⟨rfl, memberNone, armedNone, own, ?_, ?_, rfl⟩
  · rw [harm, State.switchTo_cfg _ _ (by decide), State.showEpoch, State.cfg_latch_ne _ _ _ _ (by decide), State.cfg_bump,
      State.cfg_latch_ne _ _ _ _ (by decide)]
    exact arm
  · rw [hctr, State.switchTo_ctr _ _ (by decide) (by decide)]

/-- One that is missed: nothing switches, and the miss is shown and counted. -/
theorem State.missed_effect (u : State) (m : Member) (t : State)
    (ht : t = ((((u.latch Obj.EPOCH_LAST_STATUS 9).raise 0x0030 3 0 (toBe 4 m.id)).giveBack m.contents).atState 5).bump
      Obj.EPOCH_AT_MISSED) : t.ep = { u.ep with atState := 5 } ∧ t.cfg Obj.EPOCH_LAST_STATUS = 9 ∧
      t.ctr Obj.EPOCH_AT_MISSED = Nat.min u64Max (u.ctr Obj.EPOCH_AT_MISSED + 1) := by
  have told := (u.latch Obj.EPOCH_LAST_STATUS 9).raise_told 0x0030 3 0 (toBe 4 m.id) none
  obtain ⟨-, -, -, -, hep, -⟩ := told.frame
  obtain ⟨hep', -, hcfg, hctr⟩ := ((u.latch Obj.EPOCH_LAST_STATUS 9).raise 0x0030 3 0 (toBe 4 m.id)).giveBack_frame m.contents
  subst ht
  refine ⟨congrArg (fun e : Epochs => { e with atState := 5 }) (hep'.trans hep), ?_, ?_⟩
  · rw [State.cfg_bump]
    exact (hcfg _ (by decide)).trans ((told.cfg0 (by decide)).trans (State.cfg_latch_self _ _ _))
  · rw [State.ctr_bump_self]
    exact congrArg (fun n => Nat.min u64Max (n + 1)) ((hctr _ (by decide) (by decide)).trans (told.ctr _ (by decide)))

/-- A PREPARE that goes out again is noted with its instant. -/
theorem State.sendPrepares_effect (s : State) (i : Initiated) : ∃ dst, dst =
    ((membersOf i.members).filter fun a => !bit i.acked a && a != s.wvAddr) ∧ s.sendPrepares i =
    { List.foldl (fun (a : State) m => a.sendRouted 0x10 i.seq m (atBody i.id 0 i.t)) s dst with
      ep := { s.ep with initiated := some { i with sentAt := s.clock } } } ∧ (s.sendPrepares i).pkts = s.pkts := by
  refine ⟨_, rfl, ?_⟩
  rw [State.sendPrepares]
  generalize ((membersOf i.members).filter fun a => !bit i.acked a && a != s.wvAddr) = dst
  obtain ⟨-, -, hep, hpkts, -⟩ := (Sends.foldl dst s fun a m => a.sendRouted_sends 0x10 i.seq m (atBody i.id 0 i.t)).frame
  refine ⟨?_, hpkts⟩
  simp only [hep]

/-- Settles O24: `atSwitch` met or missed, `sendPrepares`, `sendCancel` and `tellOutcome`. -/
theorem scheduledCommitsMeetTheirInstant : Obligations.ScheduledCommitsMeetTheirInstant := by
  unfold Obligations.ScheduledCommitsMeetTheirInstant
  intro dt s alive
  refine ⟨fun m idle hm due => ?switch, fun i hi open_ => ⟨fun early due => ?resend, fun due early => ⟨fun all => ?all, fun
    missing => ?cancel⟩⟩, fun i hi due untold none_ => ?flood⟩
  case switch =>
    let u : State := ({ s.tick dt with ep := { s.ep with member := none } }).disarm
    refine ⟨u, rfl, fun whole => ?_, fun late => ?_⟩
    · have whole' : m.wholeAt ≤ (s.tick dt).clock := whole
      have run : exec (.scheduledSwitch dt) s = .next (((State.switchTo { u with ep := { u.ep with own := some (m.id, 1) } }
          m.contents).atGo 3).bump Obj.EPOCH_AT_EXECUTED) := by
        rw [exec_scheduledSwitch alive idle hm due, State.atSwitch]
        exact congrArg Host.Outcome.next (if_pos whole')
      exact ⟨run, _, run, State.switched_effect { u with ep := { u.ep with own := some (m.id, 1) } } m rfl rfl
        (State.cfg_latch_self _ _ _) rfl _ rfl⟩
    · have late' : ¬ m.wholeAt ≤ (s.tick dt).clock := Nat.not_le.mpr late
      have run : exec (.scheduledSwitch dt) s = .next (((((u.latch Obj.EPOCH_LAST_STATUS 9).raise 0x0030 3 0
          (toBe 4 m.id)).giveBack m.contents).atState 5).bump Obj.EPOCH_AT_MISSED) := by
        rw [exec_scheduledSwitch alive idle hm due, State.atSwitch]
        exact congrArg Host.Outcome.next (if_neg late')
      obtain ⟨hep, hstatus, hctr⟩ := u.missed_effect m _ rfl
      exact ⟨run, _, run, congrArg (·.current) hep, congrArg (·.live) hep, congrArg (·.member) hep, congrArg (·.armed) hep,
        congrArg (·.atState) hep, hstatus, hctr⟩
  case resend =>
    obtain ⟨dst, hdst, ht, hpkts⟩ := (s.tick dt).sendPrepares_effect i
    exact ⟨_, dst, exec_prepareResend alive hi open_ early due, hdst, ht, hpkts⟩
  case all =>
    rw [exec_ackDeadline alive hi open_ due early, all, beq_self_eq_true, if_pos rfl]
  case cancel =>
    have run : exec (.ackDeadline dt) s = .next ((s.tick dt).sendCancel i) := by
      rw [exec_ackDeadline alive hi open_ due early, if_neg (by simpa using missing)]
    obtain ⟨hinit, ⟨f, hagain⟩, hmember, hcurrent⟩ := (s.tick dt).sendCancel_effect i
    exact ⟨run, _, f, run, hinit, hagain, hmember, hcurrent⟩
  case flood =>
    exact ⟨_, _, exec_outcomeFlood alive hi due untold none_ rfl, rfl, State.tellOutcome_effect _ _ _ _⟩

end Sys2Proof.Machine
end

section
/-!
PROOFS. Frames received on Weave links: the checks of Table 09-10 (R275) and what each message does (R262, R265, R281, R283).
-/

namespace Sys2Proof.Machine

/-! ### Activity leaves the Weave and almost every value -/

@[simp] theorem State.after_now (s : State) (dt : Nat) : (s.after dt).now = (s.tick dt).now := (s.after_frame dt).2.1
@[simp] theorem State.after_wv (s : State) (dt : Nat) : (s.after dt).wv = s.wv := by simp [State.after, State.tick]
@[simp] theorem State.after_mgmt (s : State) (dt : Nat) : (s.after dt).mgmt = s.mgmt := by simp [State.after, State.tick]
@[simp] theorem State.after_tbl (s : State) (dt : Nat) : (s.after dt).tbl = s.tbl := by simp [State.after, State.tick]

theorem State.after_cfg (s : State) (dt : Nat) {o : Nat} (h : o ≠ Obj.MODE_POWER_STEP) : (s.after dt).cfg o = s.cfg o := by
  unfold State.after State.stir
  extract_lets _ t
  split
  · unfold State.setStep
    rw [State.cfg_bump, State.cfg_latch_ne _ _ _ _ h]
    rfl
  · rfl

theorem State.after_wvLink (s : State) (dt l : Nat) : (s.after dt).wvLink l = s.wvLink l := by
  rw [State.wvLink, State.after_wv, State.wvLink]

theorem State.after_wvAddr (s : State) (dt : Nat) : (s.after dt).wvAddr = s.wvAddr := s.after_cfg dt (by decide)

theorem State.after_wvState (s : State) (dt l : Nat) (h : l < 8) : (s.after dt).wvState l = s.wvState l :=
  s.after_cfg dt (by unfold Obj.WV_LINK_STATE Obj.MODE_POWER_STEP; omega)

/-! ### The rows of received frames -/

/-- A frame that arrives on a link: WEAVE_FRAME_RECEIVE, or the row of the message that it carries. -/
def Arrives (dt l typ : Nat) (f : Bytes) (overrun : Bool) (c : Instr) : Prop :=
  c = .weaveFrameReceive dt l f overrun ∨
    overrun = false ∧ whType f ≠ 0 ∧ msgType (wvBody f) = typ ∧
      (typ = 0x01 ∧ c = .hello dt l f ∨ typ = 0x02 ∧ c = .linkState dt l f ∨
        typ = 0x10 ∧ c = .prepare dt l f ∨ typ = 0x11 ∧ c = .ack dt l f ∨
        typ = 0x12 ∧ c = .nak dt l f ∨ typ = 0x13 ∧ c = .cancel dt l f ∨
        typ = 0x14 ∧ c = .outcome dt l f ∨ typ = 0x20 ∧ c = .shuttle dt l f)

theorem messageIn_then {s : State} {dt l typ : Nat} {f : Bytes} (listens : s.wvListens l = true) (message : whType f ≠ 0)
    (htyp : msgType (wvBody f) = typ) :
    messageIn typ dt l f s = .next ((s.after dt).wvReceive l (unFcs f) (fcsGood f) false) := by
  have listens' : (s.tick dt).wvListens l = true := listens
  exact show work .. = .next _ from work_then (by simp only [listens', bne_iff_ne.mpr message, htyp, beq_self_eq_true,
    Bool.and_self])

theorem exec_arrives {s : State} {dt l typ : Nat} {f : Bytes} {overrun : Bool} {c : Instr} (listens : s.wvListens l = true)
    (hc : Arrives dt l typ f overrun c) :
    exec c s = .next ((s.after dt).wvReceive l (unFcs f) (fcsGood f) overrun) := by
  rcases hc with rfl | ⟨rfl, message, htyp, row⟩
  · exact show execWeaveFrameReceive .. = .next _ from work_then listens
  · have run := messageIn_then (dt := dt) listens message htyp
    rcases row with ⟨rfl, rfl⟩ | ⟨rfl, rfl⟩ | ⟨rfl, rfl⟩ | ⟨rfl, rfl⟩ | ⟨rfl, rfl⟩ | ⟨rfl, rfl⟩ | ⟨rfl, rfl⟩ | ⟨rfl, rfl⟩ <;> exact run

/-! ### The checks in order -/

/-- A frame is counted, and again where its FCS fails. -/
def State.countFrame (s : State) (l : Nat) (good : Bool) : State :=
  if good = true then s.bump (Obj.WV_RX_FRAMES + l) else (s.bump (Obj.WV_RX_FRAMES + l)).bump (Obj.WV_RX_FCS_ERR + l)

theorem State.wvReceive_eq (s : State) (l : Nat) (g : Bytes) (good overrun : Bool) : s.wvReceive l g good overrun =
    if !headerOk g then (s.countFrame l good).bump (Obj.WV_DROP_HEADER + l)
    else if whType g == 3 then
      (if good then (s.countFrame l good).takeHello l (whSrc g) (wvBody g) else s.countFrame l good)
    else if (s.countFrame l good).wvState l != 2 then (s.countFrame l good).bump (Obj.WV_DROP_LINK_STATE + l)
    else if !(s.countFrame l good).windowOk g then (s.countFrame l good).bump (Obj.WV_DROP_WINDOW + l)
    else if whClass g != 0 && (s.countFrame l good).outOfStep then (s.countFrame l good).bump (Obj.WV_DROP_OUT_OF_STEP + l)
    else if !(s.countFrame l good).sourceOk g then (s.countFrame l good).bump (Obj.WV_DROP_UNKNOWN_SRC + l)
    else (s.countFrame l good).wvRoute l g good overrun := rfl

theorem State.countFrame_cfg (s : State) (l : Nat) (good : Bool) (o : Nat) : (s.countFrame l good).cfg o = s.cfg o := by
  cases good <;> rfl

section
variable {s : State} {l : Nat} {g : Bytes} {good overrun : Bool}

theorem State.wvReceive_hello (header : headerOk g = true) (hello : whType g = 3) : s.wvReceive l g good overrun =
    if good then (s.countFrame l good).takeHello l (whSrc g) (wvBody g) else s.countFrame l good := by
  simp [State.wvReceive_eq, header, hello]

theorem State.wvReceive_not_up (header : headerOk g = true) (other : whType g ≠ 3) (down : (s.countFrame l good).wvState l ≠ 2) :
    s.wvReceive l g good overrun = (s.countFrame l good).bump (Obj.WV_DROP_LINK_STATE + l) := by
  simp [State.wvReceive_eq, header, other, down]

theorem State.wvReceive_window (header : headerOk g = true) (other : whType g ≠ 3) (up : (s.countFrame l good).wvState l = 2)
    (closed : (s.countFrame l good).windowOk g = false) :
    s.wvReceive l g good overrun = (s.countFrame l good).bump (Obj.WV_DROP_WINDOW + l) := by
  simp [State.wvReceive_eq, header, other, up, closed]

theorem State.wvReceive_out_of_step (header : headerOk g = true) (other : whType g ≠ 3)
    (up : (s.countFrame l good).wvState l = 2) (open_ : (s.countFrame l good).windowOk g = true) (cls : whClass g ≠ 0)
    (out : (s.countFrame l good).outOfStep = true) :
    s.wvReceive l g good overrun = (s.countFrame l good).bump (Obj.WV_DROP_OUT_OF_STEP + l) := by
  simp [State.wvReceive_eq, header, other, up, open_, cls, out]

theorem State.wvReceive_in_step (header : headerOk g = true) (other : whType g ≠ 3)
    (up : (s.countFrame l good).wvState l = 2) (open_ : (s.countFrame l good).windowOk g = true)
    (step : whClass g = 0 ∨ (s.countFrame l good).outOfStep = false) : s.wvReceive l g good overrun =
      if (s.countFrame l good).sourceOk g then (s.countFrame l good).wvRoute l g good overrun
      else (s.countFrame l good).bump (Obj.WV_DROP_UNKNOWN_SRC + l) := by
  have step' : (whClass g != 0 && (s.countFrame l good).outOfStep) = false := by
    rcases step with h | h <;> simp [h]
  cases source : (s.countFrame l good).sourceOk g <;> simp [State.wvReceive_eq, header, other, up, open_, step', source]

end

/-! ### A hello (R265) -/

theorem State.discardPort_thinned (s : State) (pn : Nat) : Thinned s (s.discardPort pn) :=
  Thinned.foldl _ s fun a p => a.dropQueued_thinned p _

/-- A link takes another state; the links' records and every other value stay. -/
theorem State.linkTo_frame (s : State) (l st : Nat) : (s.linkTo l st).wvState l = st ∧
    (s.linkTo l st).wv.link = s.wv.link ∧ (∀ o, o ≠ Obj.WV_LINK_STATE + l → (s.linkTo l st).cfg o = s.cfg o) ∧
    (s.linkTo l st).ep = s.ep ∧ (s.linkTo l st).mode = s.mode := by
  unfold State.linkTo
  split
  next h => exact ⟨by simpa using h, rfl, fun _ _ => rfl, rfl, rfl⟩
  · split
    · extract_lets s1 dest
      obtain ⟨-, -, hep, -, hwv, -, hmode, -, -, -, -, -, -, -, -, hcfg, -⟩ :=
        (((s.latchLink l st).bump (Obj.WV_LINK_DOWNS + l)).discardPort_thinned (16 + l)).frame
      have hcfg' (o : Nat) : s1.cfg o = (s.latchLink l st).cfg o := hcfg o 0
      exact ⟨(hcfg' _).trans (s.cfg_latch_self _ _), congrArg (·.link) hwv,
        fun o ho => (hcfg' o).trans (s.cfg_latch_ne _ _ _ ho), hep, hmode⟩
    · split <;> exact ⟨s.cfg_latch_self _ _, rfl, fun o ho => s.cfg_latch_ne _ _ _ ho, rfl, rfl⟩

/-- Objects that show the time base: they may change with a hello. -/
def showsTime (o : Nat) : Bool := o == Obj.TIME_LOCK_STATE || o == Obj.TIME_OFFSET_NS || o == Obj.WV_TIME_OFFSET_NS

/-- What keeps the links, and every value but those of the time base, of arming and those latched aside. -/
def KeepsLinks (s t : State) : Prop := t.wv.link = s.wv.link ∧
  ∀ o, latchedAside o = false → showsTime o = false → o ≠ Obj.EPOCH_AT_ARM → t.cfg o = s.cfg o

theorem KeepsLinks.refl (s : State) : KeepsLinks s s := ⟨rfl, fun _ _ _ _ => rfl⟩

theorem KeepsLinks.trans {s t u : State} (h : KeepsLinks s t) (g : KeepsLinks t u) : KeepsLinks s u :=
  ⟨g.1.trans h.1, fun o ho hs ha => (g.2 o ho hs ha).trans (h.2 o ho hs ha)⟩

theorem Told.keepsLinks {s t : State} (h : Told s t) : KeepsLinks s t := by
  obtain ⟨-, -, -, -, -, -, -, -, -, -, -, hwv, -⟩ := h.frame
  exact ⟨congrArg (·.link) hwv, fun o ho _ _ => h.cfg0 ho⟩

theorem State.latch_keepsLinks (s : State) {o : Nat} (v : Nat) (h : showsTime o = true ∨ o = Obj.EPOCH_AT_ARM) :
    KeepsLinks s (s.latch o v) := by
  refine ⟨rfl, fun p _ hs ha => s.cfg_latch_ne _ _ _ fun heq => ?_⟩
  subst heq
  rcases h with h | h
  · rw [h] at hs
    exact Bool.noConfusion hs
  · exact ha h

theorem State.setLock_keepsLinks (s : State) (st : Nat) : KeepsLinks s (s.setLock st) := by
  rcases s.setLock_told st with told | ⟨same, -⟩
  · exact (s.latch_keepsLinks st (.inl (by decide))).trans told.keepsLinks
  · rw [same]
    exact .refl s

theorem State.chooseTime_keepsLinks (s : State) (was : Option Nat) : KeepsLinks s (s.chooseTime was) := by
  unfold State.chooseTime
  extract_lets lost
  have slew : KeepsLinks s s.endSlew := ⟨rfl, fun _ _ _ _ => rfl⟩
  split
  · exact .refl s
  · split
    · exact slew.trans (s.endSlew.setLock_keepsLinks 3)
    · split
      · exact slew
      · exact .refl s

theorem State.followOffset_keepsLinks (s : State) (off : Int) : KeepsLinks s (s.followOffset off) := by
  unfold State.followOffset
  extract_lets s1 r _ _ s2
  have h1 : KeepsLinks s s1 := s.latch_keepsLinks _ (.inl (by decide))
  split
  · have step : KeepsLinks s1 (s1.stepTime ((s1.now : Int) + off).toNat) := ⟨rfl, fun _ _ _ _ => rfl⟩
    exact (h1.trans step).trans (State.setLock_keepsLinks _ _)
  · have slew : KeepsLinks s1 s2 := ⟨rfl, fun _ _ _ _ => rfl⟩
    exact (h1.trans slew).trans (s2.setLock_keepsLinks _)

theorem State.learnOutcome_keepsLinks (s : State) (id out init : Nat) : KeepsLinks s (s.learnOutcome id out init) := by
  unfold State.learnOutcome
  extract_lets _ s1 s2
  have h1 : KeepsLinks s s1 := ⟨rfl, fun _ _ _ _ => rfl⟩
  have h2 : KeepsLinks s1 s2 := by
    unfold s2
    split
    · exact State.latch_keepsLinks { s1 with ep := { s1.ep with armed := none } } 0 (.inr rfl)
    · exact .refl s1
  refine (h1.trans h2).trans ?_
  unfold State.compareOutcome
  split
  · split
    · extract_lets _ s3
      have h3 : KeepsLinks s2 ((s3.bump Obj.EPOCH_AT_DIVERGED).atState 6) := ⟨rfl, fun _ _ _ _ => rfl⟩
      exact h3.trans (State.raise_told _ _ _ _ _ _).keepsLinks
    · exact .refl s2
  · exact .refl s2

/-- The offset that a hello measures is shown, and followed, where the link is the parent. -/
def State.hearOffset (s : State) (l : Nat) : Option Int → State
  | some o =>
    let heard := if s.parentLink == some l then s.latch Obj.WV_TIME_OFFSET_NS (i64 o) else s
    if s.followed == some l then heard.followOffset o else heard
  | none => s

theorem State.hearOffset_keepsLinks (s : State) (l : Nat) (off : Option Int) : KeepsLinks s (s.hearOffset l off) := by
  cases off with
  | none => exact .refl s
  | some o =>
    have hheard : KeepsLinks s (if s.parentLink == some l then s.latch Obj.WV_TIME_OFFSET_NS (i64 o) else s) := by
      split
      · exact s.latch_keepsLinks _ (.inl (by decide))
      · exact .refl s
    rw [State.hearOffset]
    split
    · exact hheard.trans (State.followOffset_keepsLinks _ _)
    · exact hheard

/-- A link's state is none of those objects. -/
theorem plain_linkState {l : Nat} (hl : l < 8) : latchedAside (Obj.WV_LINK_STATE + l) = false ∧
    showsTime (Obj.WV_LINK_STATE + l) = false ∧ Obj.WV_LINK_STATE + l ≠ Obj.EPOCH_AT_ARM := by
  revert l
  decide

theorem plain_peerId {l : Nat} (hl : l < 8) : latchedAside (Obj.WV_LINK_PEER_ID + l) = false ∧
    showsTime (Obj.WV_LINK_PEER_ID + l) = false ∧ Obj.WV_LINK_PEER_ID + l ≠ Obj.EPOCH_AT_ARM := by
  revert l
  decide

/-- A hello on link l is remembered, and the link takes the state that it leads to. -/
theorem State.takeHello_effect (s : State) {l : Nat} (hl : l < 8) (src : Nat) (p : Bytes) :
    (∃ y, (s.takeHello l src p).wvLink l = y ∧ y.helloAt = some s.clock ∧ y.echoTx = beWord p 4 ∧
      (s.takeHello l src p).wvState l = s.helloState l src p y) ∧
    (s.takeHello l src p).cfg (Obj.WV_LINK_PEER_ID + l) = beWord p 1 := by
  unfold State.takeHello
  extract_lets w3 w7 x bad off y s1 st s2 s3 s4 news
  have hlink1 : s1.wvLink l = y := lookupD_assoc_self _ _ _ _
  have hid1 : s1.cfg (Obj.WV_LINK_PEER_ID + l) = beWord p 1 := State.cfg_latch_self _ _ _
  have h2 : KeepsLinks s1 s2 := by
    unfold s2
    split
    · exact KeepsLinks.trans ⟨rfl, fun _ _ _ _ => rfl⟩ (State.raise_told _ _ _ _ _ _).keepsLinks
    · exact .refl s1
  obtain ⟨hstate, hlink, hcfg, -⟩ := s2.linkTo_frame l st
  have h3 : KeepsLinks (s2.linkTo l st) s3 := State.chooseTime_keepsLinks _ _
  have h4 : KeepsLinks s3 s4 := s3.hearOffset_keepsLinks l off
  have h5 : KeepsLinks s4 (if news = true then s4.learnOutcome (fld w7 32 32) (fld w7 20 2) (fld w7 22 10) else s4) := by
    split
    · exact s4.learnOutcome_keepsLinks _ _ _
    · exact .refl s4
  obtain ⟨hkeep, hval⟩ := (h3.trans h4).trans h5
  refine ⟨⟨y, ?_, rfl, rfl, ?_⟩, ?_⟩
  · rw [State.wvLink, hkeep, hlink, h2.1]
    exact hlink1
  · rw [State.wvState, hval _ (plain_linkState hl).1 (plain_linkState hl).2.1 (plain_linkState hl).2.2]
    exact hstate
  · obtain ⟨aside, time, arm⟩ := plain_peerId hl
    rw [hval _ aside time arm, hcfg _ (by unfold Obj.WV_LINK_PEER_ID Obj.WV_LINK_STATE; omega), h2.2 _ aside time arm]
    exact hid1

end Sys2Proof.Machine
end

section
/-!
PROOFS. Messages of the Weave reach their consumer (R262, R275), and O25.
-/

namespace Sys2Proof.Machine

/-! ### A message that passes the checks -/

theorem State.passes_iff (s : State) (l typ : Nat) (f : Bytes) : s.passes l typ f = true ↔ s.wvListens l = true ∧
    fcsGood f = true ∧ headerOk (unFcs f) = true ∧ whType (unFcs f) ≠ 0 ∧ msgType (wvBody (unFcs f)) = typ ∧
    s.wvState l = 2 ∧ s.windowOk (unFcs f) = true ∧ (whClass (unFcs f) = 0 ∨ s.outOfStep = false) ∧
    s.sourceOk (unFcs f) = true := by
  simp only [State.passes, Bool.and_eq_true, bne_iff_ne, beq_iff_eq, Bool.or_eq_true, Bool.not_eq_true', and_assoc]

/-- The frame passes the checks, and it is counted. -/
theorem State.wvReceive_of_passes {s : State} {l typ : Nat} {f : Bytes} (h : s.passes l typ f = true)
    (message : whType (unFcs f) ≠ 3) : s.wvReceive l (unFcs f) (fcsGood f) false =
      (s.bump (Obj.WV_RX_FRAMES + l)).wvRoute l (unFcs f) true false := by
  obtain ⟨-, good, header, -, -, up, open_, step, source⟩ := (s.passes_iff l typ f).mp h
  have up' : (s.countFrame l true).wvState l = 2 := up
  have open' : (s.countFrame l true).windowOk (unFcs f) = true := open_
  have step' : whClass (unFcs f) = 0 ∨ (s.countFrame l true).outOfStep = false := step
  have source' : (s.countFrame l true).sourceOk (unFcs f) = true := source
  rw [good, State.wvReceive_in_step header message up' open' step', if_pos source', State.countFrame, if_pos rfl]

theorem State.wvReceive_of_hearsRouted {s : State} {l typ : Nat} {f : Bytes} (h : s.hearsRouted l typ f = true) :
    s.wvReceive l (unFcs f) (fcsGood f) false = (s.bump (Obj.WV_RX_FRAMES + l)).consume l (unFcs f) ∧
      msgType (wvBody (unFcs f)) = typ ∧ whSrc (unFcs f) ≠ s.wvAddr := by
  simp only [State.hearsRouted, Bool.and_eq_true, beq_iff_eq] at h
  obtain ⟨⟨passes, routed⟩, here⟩ := h
  obtain ⟨-, -, -, -, htyp, -, -, -, source⟩ := (s.passes_iff l typ f).mp passes
  have here' : whDst (unFcs f) = (s.bump (Obj.WV_RX_FRAMES + l)).wvAddr := here
  refine ⟨?_, htyp, ?_⟩
  · rw [State.wvReceive_of_passes passes (by rw [routed]; decide)]
    simp [State.wvRoute, routed, here']
  · simp only [State.sourceOk, routed] at source
    simpa using (Bool.and_eq_true_iff.mp source).1

/-- A flooded message goes on to the other links. -/
def State.passOn (s : State) (l : Nat) (g : Bytes) : State :=
  let s1 : State := { s with wv := { s.wv with
    newest := assoc s.wv.newest (whSrc g * 256 + msgType (wvBody g)) (msgSeqOf (wvBody g)) } }
  if whHops g == 15 then s1
  else (s1.upLinks.filter fun k => k != l).foldl (fun a k =>
    a.pushCtl k (some s.clock) (relayFrame g) (msgType (wvBody g) == 0x13)) s1

theorem State.wvReceive_of_hearsFlooded {s : State} {l typ : Nat} {f : Bytes} (h : s.hearsFlooded l typ f = true) :
    s.wvReceive l (unFcs f) (fcsGood f) false =
      ((s.bump (Obj.WV_RX_FRAMES + l)).passOn l (unFcs f)).consume l (unFcs f) ∧ msgType (wvBody (unFcs f)) = typ := by
  simp only [State.hearsFlooded, Bool.and_eq_true, beq_iff_eq] at h
  obtain ⟨⟨passes, flooded⟩, newer⟩ := h
  obtain ⟨-, -, -, -, htyp, -⟩ := (s.passes_iff l typ f).mp passes
  refine ⟨?_, htyp⟩
  rw [State.wvReceive_of_passes passes (by rw [flooded]; decide)]
  have news : (s.bump (Obj.WV_RX_FRAMES + l)).wvRoute l (unFcs f) true false =
      (s.bump (Obj.WV_RX_FRAMES + l)).takeFlood l (unFcs f) := by simp [State.wvRoute, flooded]
  rw [news]
  cases hlook : lookup? s.wv.newest (whSrc (unFcs f) * 256 + typ) with
  | none =>
    have hlook' : lookup? (s.bump (Obj.WV_RX_FRAMES + l)).wv.newest (whSrc (unFcs f) * 256 + typ) = none := hlook
    simp only [State.takeFlood, State.passOn, htyp, hlook', Bool.not_true, Bool.false_eq_true, if_false]
  | some n =>
    have hlook' : lookup? (s.bump (Obj.WV_RX_FRAMES + l)).wv.newest (whSrc (unFcs f) * 256 + typ) = some n := hlook
    have newer' : epochBefore n (msgSeqOf (wvBody (unFcs f))) = true := by simpa only [hlook] using newer
    simp only [State.takeFlood, State.passOn, htyp, hlook', newer', Bool.not_true, Bool.false_eq_true, if_false]

/-- Passing on leaves what the consumers use. -/
theorem State.passOn_frame (s : State) (l : Nat) (g : Bytes) : (s.passOn l g).now = s.now ∧ (s.passOn l g).clock = s.clock ∧
    (s.passOn l g).ep = s.ep ∧
    ∀ o, (∀ k, k < 8 → o ≠ Obj.WV_CTL_DROP + k) → (s.passOn l g).ctr o = s.ctr o := by
  unfold State.passOn
  extract_lets _ s1
  split
  · exact ⟨rfl, rfl, rfl, fun _ _ => rfl⟩
  · obtain ⟨hnow, hclock, hep, -⟩ := (Sends.foldl (s1.upLinks.filter fun k => k != l) s1 fun a k =>
      a.pushCtl_sends k (some s.clock) (relayFrame g) (msgType (wvBody g) == 0x13)).frame
    refine ⟨hnow, hclock, hep, fun o ho => ?_⟩
    refine List.foldlRecOn (motive := fun a : State => a.ctr o = s.ctr o) _ _ rfl fun a ha k hk => ?_
    have hk8 : k < 8 := List.mem_range.mp (List.mem_filter.mp (List.mem_filter.mp hk).1).1
    unfold State.pushCtl
    split
    · exact (a.ctr_bump_ne _ _ (ho k hk8)).trans ha
    · exact ha

/-! ### Consumers -/

theorem State.consume_linkState (s : State) (l : Nat) {g : Bytes} (h : msgType (wvBody g) = 0x02) :
    s.consume l g = s.takeLinkState (whSrc g) (wvBody g) := by simp [State.consume, h]

theorem State.consume_prepare (s : State) (l : Nat) {g : Bytes} (h : msgType (wvBody g) = 0x10) :
    s.consume l g = s.takePrepare (atId (wvBody g)) (atTime (wvBody g)) (whSrc g) := by simp [State.consume, h]

theorem State.consume_ack (s : State) (l : Nat) {g : Bytes} (h : msgType (wvBody g) = 0x11) :
    s.consume l g = s.takeAck (atId (wvBody g)) (whSrc g) := by simp [State.consume, h]

theorem State.consume_nak (s : State) (l : Nat) {g : Bytes} (h : msgType (wvBody g) = 0x12) :
    s.consume l g = s.takeNak (atId (wvBody g)) := by simp [State.consume, h]

theorem State.consume_cancel (s : State) (l : Nat) {g : Bytes} (h : msgType (wvBody g) = 0x13) :
    s.consume l g = s.hearCancel (atId (wvBody g)) := by simp [State.consume, h]

theorem State.consume_outcome (s : State) (l : Nat) {g : Bytes} (h : msgType (wvBody g) = 0x14) :
    s.consume l g = s.learnOutcome (atId (wvBody g)) (atCode (wvBody g)) (whSrc g) := by simp [State.consume, h]

theorem State.consume_shuttle (s : State) (l : Nat) {g : Bytes} (h : msgType (wvBody g) = 0x20) :
    s.consume l g = s.shuttleIn l (whHops g) (slice (wvBody g) 8 64) := by simp [State.consume, h]

/-- An answer to another device changes only what was answered. -/
theorem State.answerPrepare_ep {s : State} {dst : Nat} (other : dst ≠ s.wvAddr) (id t code : Nat) :
    (s.answerPrepare id t dst code).ep = { s.ep with answer := some (id, dst, code) } := by
  unfold State.answerPrepare
  extract_lets _ s1 typ r
  rw [if_neg (by simpa using other)]
  obtain ⟨-, -, hep, -⟩ := ((s1.nextSeq_sends typ).trans (r.2.sendRouted_sends typ r.1 dst (atBody id code t))).frame
  exact hep

theorem State.takePrepare_unarmed {s : State} {id src : Nat} (t : Nat) (first : s.ep.answer = none)
    (unarmed : s.ep.armed ≠ some id) (other : src ≠ s.wvAddr) :
    (s.takePrepare id t src).ep = { s.ep with answer := some (id, src, 3) } := by
  have check : s.prepareCheck id (s.mgmt.holder.getD (0, 0)) = .inr (3, 0) := by simp [State.prepareCheck, unarmed]
  have run : s.takePrepare id t src = s.answerPrepare id t src 3 := by
    simp [State.takePrepare, first, State.prepareNew, check]
  rw [run, State.answerPrepare_ep other]

theorem State.seal_frame (s : State) (k : Nat × Nat) (v : Ver) : (s.seal k v).1.ver = v ∧
    (s.seal k v).2.ep = { s.ep with openNum := (s.ep.openNum + 1) % 2 ^ 32 } ∧ ∀ o e, (s.seal k v).2.cfg o e = s.cfg o e := by
  have staged : (s.setStage k Staging.none_).ep = s.ep ∧ (s.setStage k Staging.none_).dict = s.dict := by
    unfold State.setStage
    split <;> exact ⟨rfl, rfl⟩
  obtain ⟨hep, hdict⟩ := staged
  refine ⟨rfl, congrArg (fun e : Epochs => { e with openNum := (s.ep.openNum + 1) % 2 ^ 32 }) hep, fun o e => ?_⟩
  exact congrArg (fun d : Dict => d.val.get (okey o e) (objDefault o e)) hdict

theorem State.takePrepare_member {s : State} {id src : Nat} {v : Ver} (t : Nat) (first : s.ep.answer = none)
    (check : s.prepareCheck id (s.mgmt.holder.getD (0, 0)) = .inl v) (other : src ≠ s.wvAddr) :
    ∃ m : Member, (s.takePrepare id t src).ep.answer = some (id, src, 0) ∧ (s.takePrepare id t src).ep.member = some m ∧
      m.id = id ∧ m.t = t ∧ m.initiator = src ∧ m.contents.ver = v ∧
      (s.takePrepare id t src).ep.current = s.ep.current := by
  have run : s.takePrepare id t src = s.prepareNew id t src := by simp [State.takePrepare, first]
  rw [run]
  simp only [State.prepareNew, check]
  obtain ⟨hver, hep, hcfg⟩ := s.seal_frame (s.mgmt.holder.getD (0, 0)) v
  generalize s.seal (s.mgmt.holder.getD (0, 0)) v = r at hver hep hcfg
  let m : Member := { id := id, t := t, initiator := src, contents := r.1, wholeAt := s.clock }
  let s1 : State := { r.2 with ep := { r.2.ep with member := some m } }
  obtain ⟨hgo, -, hdict⟩ := s1.atGo_frame 2
  have other' : src ≠ (s1.atGo 2).wvAddr := by
    have : (s1.atGo 2).wvAddr = s.wvAddr := by
      rw [State.wvAddr, State.cfg, hdict]
      exact hcfg _ _
    rwa [this]
  have answered := State.answerPrepare_ep other' id t 0
  rw [hgo] at answered
  refine ⟨m, ?_, ?_, rfl, rfl, rfl, hver, ?_⟩
  · exact congrArg (·.answer) answered
  · exact congrArg (·.member) answered
  · exact (congrArg (·.current) answered).trans (congrArg (·.current) hep)

theorem State.takeAck_of_initiated {s : State} {i : Initiated} (hi : s.ep.initiated = some i) (open_ : i.verdict = 0) (src : Nat) :
    s.takeAck i.id src = { s with ep := { s.ep with initiated := some { i with acked := i.acked ||| 2 ^ src } } } := by
  simp [State.takeAck, hi, open_]

theorem State.takeNak_of_initiated {s : State} {i : Initiated} (hi : s.ep.initiated = some i) (open_ : i.verdict = 0)
    (early : s.now < i.t) : s.takeNak i.id = s.sendCancel i := by
  simp [State.takeNak, hi, open_, early]

/-- A LINK_STATE message is in the database, new or in the place of the one before. -/
theorem State.takeLinkState_enters (s : State) (src : Nat) (p : Bytes) :
    { origin := src, identity := beWord p 1, links := lsLinks p, at_ := s.clock : LsEntry } ∈
      (s.takeLinkState src p).wv.lsdb := by
  unfold State.takeLinkState
  extract_lets ident e same known db changed _ s1 s2 _ s3
  have hdb : e ∈ db := by
    unfold db
    split
    next h =>
      obtain ⟨x, hx⟩ := Option.isSome_iff_exists.mp h
      refine List.mem_map.mpr ⟨x, List.mem_of_find?_eq_some hx, if_pos (List.find?_some hx)⟩
    next => simp
  have h2 : s2.wv.lsdb = db := by
    obtain ⟨-, -, -, -, -, -, -, -, -, -, -, hwv, -⟩ :=
      ((s1.bump Obj.WV_ADDR_CONFLICT).raise_told 0x0051 5 0 (toBe 2 src) none).frame
    exact congrArg (·.lsdb) hwv
  have h3 : e ∈ s3.wv.lsdb := h2 ▸ hdb
  split
  · split
    · obtain ⟨-, -, -, -, -, -, -, -, -, -, -, hwv, -⟩ := (s3.raise_told 0x0051 5 0 (toBe 2 src ++ toBe 1 1) none).frame
      rw [hwv]
      exact h3
    · exact h3
  · exact hdb

/-- A CANCEL that takes the contents from a prepared member is counted. -/
theorem State.hearCancel_counts {s : State} {m : Member} (hm : s.ep.member = some m) (early : s.now < m.t) :
    (s.hearCancel m.id).ctr Obj.EPOCH_AT_CANCELLED = Nat.min u64Max (s.ctr Obj.EPOCH_AT_CANCELLED + 1) := by
  have cond : (m.id == m.id && decide (s.now < m.t)) = true := by simp [early]
  simp only [State.hearCancel, hm, cond, if_true]
  obtain ⟨-, -, -, hctr⟩ := State.giveBack_frame { s with ep := { s.ep with member := none, own := some (m.id, 2) } } m.contents
  obtain ⟨-, -, hdict⟩ := State.atGo_frame
    (State.giveBack { s with ep := { s.ep with member := none, own := some (m.id, 2) } } m.contents) 4
  rw [State.ctr_bump_self, State.ctr, hdict]
  exact congrArg (fun n => Nat.min u64Max (n + 1)) (hctr _ (by decide) (by decide))

theorem State.learnOutcome_current (s : State) (id out init : Nat) : (s.learnOutcome id out init).ep.current = s.ep.current := by
  unfold State.learnOutcome
  extract_lets _ s1 s2
  have h2 : s2.ep.current = s.ep.current := by
    unfold s2
    split <;> rfl
  unfold State.compareOutcome
  split
  · split
    · extract_lets _ s3
      obtain ⟨-, -, -, -, hep, -⟩ := (((s3.bump Obj.EPOCH_AT_DIVERGED).atState 6).raise_told 0x0031 3 0 (toBe 4 id) none).frame
      rw [hep]
      exact h2
    · exact h2
  · exact h2

/-- A SHUTTLE record without a ring is counted; another one goes to the ring of its channel. -/
theorem State.shuttleIn_cases (s : State) (l hops : Nat) (record : Bytes) {k ring : Nat}
    (hk : k = fld (setFld (leWord record 0) 5 1 1) 24 8) (hring : ring = s.cfg (Obj.LRN_CHANNEL_RING + (k - 1))) :
    (k = 0 ∨ ring = 0xFF → s.shuttleIn l hops record = s.bump Obj.LRN_SHUTTLE_DROP) ∧
    (k ≠ 0 → ring ≠ 0xFF → ∃ region rec_ r, r = s.toRing ring region rec_ ∧
      s.shuttleIn l hops record = if r.2 then r.1.bump Obj.LRN_SHUTTLES_IN else r.1) := by
  subst hk hring
  refine ⟨fun none_ => if_pos (by simpa using none_), fun some_ owned => ?_⟩
  exact ⟨_, _, _, rfl, if_neg (by simpa using ⟨some_, owned⟩)⟩

/-! ### The statement -/

theorem State.wvListens_iff (s : State) (l : Nat) : s.wvListens l = true ↔ s.traffic = true ∧ l < 8 ∧ (s.wvLink l).locked = true := by
  simp only [State.wvListens, Bool.and_eq_true, decide_eq_true_eq, and_assoc]

/-- A good hello, counted and taken. -/
theorem exec_goodHello {s : State} {dt l : Nat} {f : Bytes} {c : Instr} (listens : s.wvListens l = true) (good : fcsGood f = true)
    (header : headerOk (unFcs f) = true) (hello : whType (unFcs f) = 3) (hc : Arrives dt l 0x01 f false c) :
    exec c s = .next (((s.after dt).bump (Obj.WV_RX_FRAMES + l)).takeHello l (whSrc (unFcs f)) (wvBody (unFcs f))) := by
  rw [exec_arrives listens hc, State.wvReceive_hello header hello, good, if_pos rfl, State.countFrame, if_pos rfl]

section
variable {s : State} {dt l typ : Nat} {f : Bytes} {c : Instr}

theorem exec_routed (heard : (s.after dt).hearsRouted l typ f = true) (listens : s.wvListens l = true)
    (hc : Arrives dt l typ f false c) :
    exec c s = .next (((s.after dt).bump (Obj.WV_RX_FRAMES + l)).consume l (unFcs f)) ∧
      msgType (wvBody (unFcs f)) = typ ∧ whSrc (unFcs f) ≠ s.wvAddr := by
  obtain ⟨run, htyp, other⟩ := State.wvReceive_of_hearsRouted heard
  rw [State.after_wvAddr] at other
  exact ⟨by rw [exec_arrives listens hc, run], htyp, other⟩

theorem exec_flooded (heard : (s.after dt).hearsFlooded l typ f = true) (listens : s.wvListens l = true)
    (hc : Arrives dt l typ f false c) : exec c s =
      .next ((((s.after dt).bump (Obj.WV_RX_FRAMES + l)).passOn l (unFcs f)).consume l (unFcs f)) ∧
      msgType (wvBody (unFcs f)) = typ := by
  obtain ⟨run, htyp⟩ := State.wvReceive_of_hearsFlooded heard
  exact ⟨by rw [exec_arrives listens hc, run], htyp⟩

end

/-- Settles O25: the checks of `wvReceive` in order, and the consumer of each message. -/
theorem weaveFramesAreCheckedInOrder : Obligations.WeaveFramesAreCheckedInOrder := by
  unfold Obligations.WeaveFramesAreCheckedInOrder
  refine ⟨fun dt l typ f overrun s c carries hl locked hc => ?checks, fun dt l f s c => ⟨?hello, ?messages⟩⟩
  case checks =>
    have listens : s.wvListens l = true := (s.wvListens_iff l).mpr ⟨carries, hl, locked⟩
    have run := exec_arrives listens hc
    have state : ((s.after dt).countFrame l (fcsGood f)).wvState l = s.wvState l :=
      ((s.after dt).countFrame_cfg l _ _).trans (s.after_wvState dt l hl)
    refine ⟨unFcs f, (s.after dt).countFrame l (fcsGood f), rfl, rfl, fun bad => ?_, fun header =>
      ⟨fun hello good => ?_, fun hello bad => ?_, fun other down => ?_, fun other up closed => ?_,
        fun other up open_ cls out => ?_, fun other up open_ step => ?_⟩⟩
    · rw [run, State.wvReceive_eq, bad]
      rfl
    · rw [run, State.wvReceive_hello header hello, good, if_pos rfl]
    · rw [run, State.wvReceive_hello header hello, bad, if_neg Bool.false_ne_true]
    · rw [run, State.wvReceive_not_up header other (state ▸ down)]
    · rw [run, State.wvReceive_window header other (state.trans up) closed]
    · rw [run, State.wvReceive_out_of_step header other (state.trans up) open_ cls out]
    · rw [run, State.wvReceive_in_step header other (state.trans up) open_ step]
  case hello =>
    intro n listens good header hello _ message htyp hn hc
    have arrives : Arrives dt l 0x01 f false c := by
      rcases hc with rfl | rfl
      · exact .inr ⟨rfl, message, htyp, .inl ⟨rfl, rfl⟩⟩
      · exact .inl rfl
    obtain ⟨-, hl, -⟩ := (s.wvListens_iff l).mp listens
    obtain ⟨⟨y, hy, hat, hecho, hstate⟩, hid⟩ := ((s.after dt).bump (Obj.WV_RX_FRAMES + l)).takeHello_effect hl
      (whSrc (unFcs f)) (wvBody (unFcs f))
    have addr : ((s.after dt).bump (Obj.WV_RX_FRAMES + l)).wvAddr = s.wvAddr := s.after_wvAddr dt
    have fabric : ((s.after dt).bump (Obj.WV_RX_FRAMES + l)).cfg Obj.WV_FABRIC_ID = s.cfg Obj.WV_FABRIC_ID :=
      s.after_cfg dt (by decide)
    refine ⟨_, exec_goodHello listens good header hello arrives, ?_, ?_, hid, fun own => ?_, fun other foreign => ?_⟩
    · rw [hy, hat, hn]
      exact congrArg some (s.after_clock dt)
    · rw [hy, hecho]
    · rw [hstate]
      simp [State.helloState, addr, own]
    · rw [hstate]
      simp [State.helloState, addr, fabric, other, foreign]
  case messages =>
    intro typ p u hp message htyp hu
    subst hp hu
    have ep_eq : ((s.after dt).bump (Obj.WV_RX_FRAMES + l)).ep = s.ep := s.after_ep dt
    have now_eq : ((s.after dt).bump (Obj.WV_RX_FRAMES + l)).now = (s.tick dt).now := s.after_now dt
    have addr : ((s.after dt).bump (Obj.WV_RX_FRAMES + l)).wvAddr = s.wvAddr := s.after_wvAddr dt
    refine ⟨fun listens heard => ⟨?prepare, ?initiator, ?shuttle⟩, fun listens heard => ⟨?linkState, ?cancel, ?outcome⟩⟩
    case prepare =>
      rintro rfl rfl first
      obtain ⟨run, hcode, other⟩ := exec_routed heard listens (.inr ⟨rfl, message, htyp, .inr (.inr (.inl ⟨rfl, rfl⟩))⟩)
      rw [State.consume_prepare _ _ hcode] at run
      rw [← addr] at other
      rw [← ep_eq] at first
      refine ⟨fun unarmed => ?_, fun v check => ?_⟩
      · have hep := State.takePrepare_unarmed (atTime (wvBody (unFcs f))) first (ep_eq ▸ unarmed) other
        refine ⟨_, run, ?_, ?_, ?_⟩
        · rw [hep]
        · rw [hep, ep_eq]
        · rw [hep, ep_eq]
      · have holder : ((s.after dt).bump (Obj.WV_RX_FRAMES + l)).mgmt.holder = s.mgmt.holder :=
          congrArg (·.holder) (s.after_mgmt dt)
        rw [← holder] at check
        obtain ⟨m, hanswer, hm, hid, ht, hsrc, hver, hcurrent⟩ :=
          State.takePrepare_member (atTime (wvBody (unFcs f))) first check other
        exact ⟨_, m, run, hanswer, hm, hid, ht, hsrc, hver, hcurrent.trans (congrArg (·.current) ep_eq)⟩
    case initiator =>
      intro i hi hid open_
      rw [← ep_eq] at hi
      refine ⟨?_, ?_⟩
      · rintro rfl rfl
        obtain ⟨run, hcode, -⟩ := exec_routed heard listens (.inr ⟨rfl, message, htyp, .inr (.inr (.inr (.inl ⟨rfl, rfl⟩)))⟩)
        rw [State.consume_ack _ _ hcode, ← hid, State.takeAck_of_initiated hi open_] at run
        exact ⟨_, run, by rw [ep_eq], s.after_wv dt⟩
      · rintro rfl rfl early
        obtain ⟨run, hcode, -⟩ := exec_routed heard listens
          (.inr ⟨rfl, message, htyp, .inr (.inr (.inr (.inr (.inl ⟨rfl, rfl⟩))))⟩)
        rw [State.consume_nak _ _ hcode, ← hid, State.takeNak_of_initiated hi open_ (now_eq ▸ early)] at run
        obtain ⟨hinit, -, -, hcurrent⟩ := ((s.after dt).bump (Obj.WV_RX_FRAMES + l)).sendCancel_effect i
        exact ⟨_, run, hinit, hcurrent.trans (congrArg (·.current) ep_eq)⟩
    case shuttle =>
      rintro rfl rfl
      obtain ⟨run, hcode, -⟩ := exec_routed heard listens
        (.inr ⟨rfl, message, htyp, .inr (.inr (.inr (.inr (.inr (.inr (.inr ⟨rfl, rfl⟩))))))⟩)
      rw [State.consume_shuttle _ _ hcode] at run
      have ring : s.cfg (Obj.LRN_CHANNEL_RING + (fld (setFld (leWord (slice (wvBody (unFcs f)) 8 64) 0) 5 1 1) 24 8 - 1)) =
          ((s.after dt).bump (Obj.WV_RX_FRAMES + l)).cfg
            (Obj.LRN_CHANNEL_RING + (fld (setFld (leWord (slice (wvBody (unFcs f)) 8 64) 0) 5 1 1) 24 8 - 1)) :=
        (s.after_cfg dt (by unfold Obj.LRN_CHANNEL_RING Obj.MODE_POWER_STEP; omega)).symm
      obtain ⟨hnone, hsome⟩ := State.shuttleIn_cases ((s.after dt).bump (Obj.WV_RX_FRAMES + l)) l (whHops (unFcs f))
        (slice (wvBody (unFcs f)) 8 64) rfl ring
      refine ⟨_, rfl, fun none_ => ?_, fun some_ owned => ?_⟩
      · rw [run, hnone none_]
      · obtain ⟨region, record, r, hr, hrun⟩ := hsome some_ owned
        exact ⟨region, record, r, hr, by rw [run, hrun]⟩
    case linkState =>
      rintro rfl rfl
      obtain ⟨run, hcode⟩ := exec_flooded heard listens (.inr ⟨rfl, message, htyp, .inr (.inl ⟨rfl, rfl⟩)⟩)
      rw [State.consume_linkState _ _ hcode] at run
      obtain ⟨-, hclock, -⟩ := ((s.after dt).bump (Obj.WV_RX_FRAMES + l)).passOn_frame l (unFcs f)
      exact ⟨_, _, run, State.takeLinkState_enters _ _ _, rfl, rfl, rfl, hclock.trans (s.after_clock dt)⟩
    case cancel =>
      rintro rfl rfl m hm hid early
      obtain ⟨run, hcode⟩ := exec_flooded heard listens
        (.inr ⟨rfl, message, htyp, .inr (.inr (.inr (.inr (.inr (.inl ⟨rfl, rfl⟩)))))⟩)
      obtain ⟨hnow, -, hep, hctr⟩ := ((s.after dt).bump (Obj.WV_RX_FRAMES + l)).passOn_frame l (unFcs f)
      rw [State.consume_cancel _ _ hcode, ← hid] at run
      rw [← ep_eq, ← hep] at hm
      rw [← now_eq, ← hnow] at early
      obtain ⟨hmember, hown⟩ := State.hearCancel_member hm early
      obtain ⟨-, hcurrent, -⟩ := State.hearCancel_frame
        (((s.after dt).bump (Obj.WV_RX_FRAMES + l)).passOn l (unFcs f)) m.id
      refine ⟨_, run, hmember, hown, hcurrent.trans (by rw [hep, ep_eq]), ?_⟩
      rw [State.hearCancel_counts hm early,
        hctr _ fun k hk => by unfold Obj.EPOCH_AT_CANCELLED Obj.WV_CTL_DROP; omega,
        State.ctr_bump_ne _ _ _ (by unfold Obj.EPOCH_AT_CANCELLED Obj.WV_RX_FRAMES; omega)]
    case outcome =>
      rintro rfl rfl
      obtain ⟨run, hcode⟩ := exec_flooded heard listens
        (.inr ⟨rfl, message, htyp, .inr (.inr (.inr (.inr (.inr (.inr (.inl ⟨rfl, rfl⟩))))))⟩)
      obtain ⟨-, -, hep, -⟩ := ((s.after dt).bump (Obj.WV_RX_FRAMES + l)).passOn_frame l (unFcs f)
      rw [State.consume_outcome _ _ hcode] at run
      obtain ⟨-, -, hknown⟩ := State.learnOutcome_frame
        (((s.after dt).bump (Obj.WV_RX_FRAMES + l)).passOn l (unFcs f)) (atId (wvBody (unFcs f))) (atCode (wvBody (unFcs f)))
        (whSrc (unFcs f))
      exact ⟨_, run, hknown, (State.learnOutcome_current _ _ _ _).trans (by rw [hep, ep_eq])⟩

end Sys2Proof.Machine
end

section
/-!
PROOFS. Weave links (R257, R265, R270), link state, routes and the calendar (R267, R268, R274).
-/

namespace Sys2Proof.Machine

/-! ### Words of frames -/

theorem leNat_toLe (n x : Nat) : leNat (toLe n x) = x % 256 ^ n := by
  induction n generalizing x with
  | zero => simp [toLe, leNat, Nat.mod_one]
  | succ n ih =>
    have byte : (BitVec.ofNat 8 (x % 256)).toNat = x % 256 := by simp
    rw [toLe, leNat, ih, byte, Nat.pow_succ', Nat.mod_mul]

theorem beNat_reverse (bs : Bytes) : beNat bs.reverse = leNat bs := by
  unfold beNat
  rw [List.foldl_reverse]
  induction bs with
  | nil => rfl
  | cons b bs ih =>
    rw [List.foldr_cons, ih, leNat]
    omega

theorem beNat_toBe (n x : Nat) : beNat (toBe n x) = x % 256 ^ n := by rw [toBe, beNat_reverse, leNat_toLe]

/-- The first word of a frame that begins with it. -/
theorem beWord_toBe (v : Nat) (rest : Bytes) : beWord (toBe 8 v ++ rest) 0 = v % 2 ^ 64 := by
  have first : padTo 8 (slice (toBe 8 v ++ rest) 0 8) = toBe 8 v := by
    simp [padTo, slice, List.take_of_length_le]
  rw [beWord, first]
  exact beNat_toBe 8 v

/-- The type of a frame keeps its value when window and cycle are written (R260). -/
theorem fld_type_setFld_stamp (x cycle win : Nat) : fld (setFld (setFld x 6 18 cycle) 0 6 win) 58 2 = fld x 58 2 := by
  simp only [fld, setFld, Nat.shiftRight_eq_div_pow]
  omega

theorem whType_append {f : Bytes} (h : 8 ≤ f.length) (rest : Bytes) : whType (f ++ rest) = whType f := by
  have first : slice (f ++ rest) (8 * 0) 8 = slice f (8 * 0) 8 := List.take_append_of_le_length h
  simp only [whType, beWord, first]

/-- A stamped frame keeps its type. -/
theorem State.whType_stampFrame (s : State) (lead : Nat) (f : Bytes) : whType (s.stampFrame lead f) = whType f := by
  unfold State.stampFrame
  extract_lets t w0 w1 hd g
  have hw0 : fld w0 58 2 = whType f := fld_type_setFld_stamp _ _ _
  have first (rest : Bytes) : fld (beWord (toBe 8 w0 ++ rest) 0) 58 2 = fld w0 58 2 := by
    rw [beWord_toBe]
    simp only [fld, Nat.shiftRight_eq_div_pow]
    omega
  rw [whType, ← hw0]
  simp only [g, hd, List.append_assoc]
  exact first _

theorem State.whType_formFrame (s : State) (body : Bytes) (h : s.wvAddr < 1024) :
    whType (s.formFrame 3 0 0 0 0 body) = 3 := by
  have hep : s.ep.current % 256 < 256 := Nat.mod_lt _ (by decide)
  simp only [whType, State.formFrame, List.append_assoc, beWord_toBe, fld, Nat.shiftRight_eq_div_pow]
  omega

theorem length_stampFrame (s : State) (lead : Nat) (f : Bytes) (h : 60 ≤ f.length) : (s.stampFrame lead f).length = f.length := by
  simp [State.stampFrame, wvBody]
  omega

/-- A frame with its FCS is good. -/
theorem fcsGood_append_fcs (f : Bytes) : fcsGood (f ++ fcs f) = true := by
  have len : (fcs f).length = 4 := length_toLe 4 _
  have body : unFcs (f ++ fcs f) = f := by simp [unFcs, len]
  simp [fcsGood, body, len]

/-! ### Hellos and links -/

/-- A hello of this device on link l, with its sequence. -/
def State.helloFrame (s : State) (seq l : Nat) : Bytes := s.stampFrame 0 (s.formFrame 3 0 0 0 0 (pdu 0x01 seq (s.helloBody l)))

theorem State.length_helloFrame (s : State) (seq l : Nat) : (s.helloFrame seq l).length = 80 := by
  have raw : (s.formFrame 3 0 0 0 0 (pdu 0x01 seq (s.helloBody l))).length = 80 := by
    simp [State.formFrame, pdu, State.helloBody]
  rw [State.helloFrame, length_stampFrame _ _ _ (by omega), raw]

theorem exec_helloSend {s : State} {dt l : Nat} (alive : s.alive = true) (hl : l < 8) (due : (s.tick dt).helloDue l = true) :
    ∃ seq u, exec (.helloSend dt l) s = .next (State.emitWeave u l (u.helloFrame seq l)) ∧
      u.wvLink l = { s.wvLink l with sentAt := some (s.clock + dt) } ∧ u.clock = s.clock + dt ∧ u.out = s.out ∧
      u.dict = s.dict := by
  refine ⟨_, _, show execHelloSend .. = .next _ from cmd_then ?_, lookupD_assoc_self _ _ _ _, rfl, rfl, rfl⟩
  simp only [due, hl, decide_true, Bool.and_true]
  exact alive

/-- The choice of a parent changes, of the Weave, no more than the slew, and counts nothing but messages. -/
theorem State.chooseTime_frame (s : State) (was : Option Nat) :
    ∃ slew, (s.chooseTime was).wv = { s.wv with slew := slew } ∧
      ∀ o, countsTelling o = false → (s.chooseTime was).ctr o = s.ctr o := by
  unfold State.chooseTime
  extract_lets lost
  split
  · exact ⟨_, rfl, fun _ _ => rfl⟩
  · split
    · rcases s.endSlew.setLock_told 3 with told | ⟨same, -⟩
      · obtain ⟨-, -, -, -, -, -, -, -, -, -, -, hwv, -⟩ := told.frame
        exact ⟨none, hwv, fun o ho => told.ctr o ho⟩
      · rw [same]
        exact ⟨none, rfl, fun _ _ => rfl⟩
    · split
      · exact ⟨none, rfl, fun _ _ => rfl⟩
      · exact ⟨_, rfl, fun _ _ => rfl⟩

/-- The peer of a link is no longer seen. -/
def State.forgetPeer (s : State) (l : Nat) : State :=
  s.latch (Obj.WV_LINK_PEER + l) (setFld (s.cfg (Obj.WV_LINK_PEER + l)) 13 1 0)

theorem State.forgetPeer_frame (s : State) (l : Nat) : (s.forgetPeer l).wvState l = s.wvState l ∧
    (s.forgetPeer l).wv = s.wv ∧ bit ((s.forgetPeer l).cfg (Obj.WV_LINK_PEER + l)) 13 = false ∧
    ∀ o, (s.forgetPeer l).ctr o = s.ctr o := by
  refine ⟨s.cfg_latch_ne _ _ _ ?_, rfl, ?_, fun _ => rfl⟩
  · unfold Obj.WV_LINK_STATE Obj.WV_LINK_PEER
    omega
  · rw [State.forgetPeer, State.cfg_latch_self]
    exact bit_setFld_same _ 13 false

/-- A link that takes a new record and state, whose time is then chosen anew, and whose peer is forgotten. -/
theorem State.relink_effect (s : State) {l : Nat} (hl : l < 8) (x : WvLink) (st : Nat) (was : Option Nat) (t : State)
    (ht : t = State.forgetPeer ((((s.setWvLink l x).linkTo l st)).chooseTime was) l) : t.wvState l = st ∧ t.wvLink l = x ∧
      bit (t.cfg (Obj.WV_LINK_PEER + l)) 13 = false := by
  obtain ⟨hstate, hlink, -⟩ := (s.setWvLink l x).linkTo_frame l st
  obtain ⟨hkeep, hval⟩ := ((s.setWvLink l x).linkTo l st).chooseTime_keepsLinks was
  obtain ⟨hst, hwv, hpeer, -⟩ := (((s.setWvLink l x).linkTo l st).chooseTime was).forgetPeer_frame l
  obtain ⟨aside, time, arm⟩ := plain_linkState hl
  subst ht
  refine ⟨hst.trans ((hval _ aside time arm).trans hstate), ?_, hpeer⟩
  rw [State.wvLink, hwv, hkeep, hlink]
  exact lookupD_assoc_self _ _ _ _

theorem countsTelling_linkDowns {l : Nat} (hl : l < 8) : countsTelling (Obj.WV_LINK_DOWNS + l) = false := by
  revert l
  decide

/-- A link that leaves UP is counted, and its neighbours and routes are to be told. -/
theorem State.linkTo_leaves_up {s : State} {l st : Nat} (hl : l < 8) (up : s.wvState l = 2) (other : st ≠ 2) :
    (s.linkTo l st).ctr (Obj.WV_LINK_DOWNS + l) = Nat.min u64Max (s.ctr (Obj.WV_LINK_DOWNS + l) + 1) ∧
      (s.linkTo l st).wv.lsDirty = true ∧ (s.linkTo l st).wv.routeDirty = true := by
  unfold State.linkTo
  rw [if_neg (by simpa [up] using Ne.symm other), if_pos (by simpa using up)]
  extract_lets s1 dest
  refine ⟨?_, rfl, rfl⟩
  have keeps : s1.ctr (Obj.WV_LINK_DOWNS + l) = ((s.latchLink l st).bump (Obj.WV_LINK_DOWNS + l)).ctr (Obj.WV_LINK_DOWNS + l) := by
    refine List.foldlRecOn (motive := fun a : State => a.ctr (Obj.WV_LINK_DOWNS + l) = _) _ _ rfl fun a ha p _ => ?_
    exact (a.ctr_bump_ne _ _ (by unfold Obj.WV_LINK_DOWNS Obj.TM_DROP_PORT_DOWN; omega)).trans ha
  exact keeps.trans (State.ctr_bump_self _ _)

theorem exec_helloTimeout {s : State} {dt l : Nat} (alive : s.alive = true) (hl : l < 8) (state : 2 ≤ s.wvState l)
    (late : (s.tick dt).helloLate l = true) : exec (.helloTimeout dt l) s = .next (State.forgetPeer
      ((((s.tick dt).setWvLink l { s.wvLink l with helloAt := none, offer := none }).linkTo l 1).chooseTime
        (s.tick dt).followed) l) := by
  refine show execHelloTimeout .. = .next _ from cmd_then ?_
  simp only [late, hl, decide_true, Bool.and_true, Bool.and_eq_true, decide_eq_true_eq]
  exact ⟨alive, state⟩

theorem exec_weaveLinkLoss {s : State} {dt l : Nat} (alive : s.alive = true) (hl : l < 8) (state : s.wvState l ≠ 0) :
    exec (.weaveLinkLoss dt l) s = .next (State.forgetPeer
      ((((s.tick dt).setWvLink l WvLink.fresh).linkTo l 0).chooseTime (s.tick dt).followed) l) := by
  refine show execWeaveLinkLoss .. = .next _ from cmd_then ?_
  simp only [hl, decide_true, Bool.and_true, Bool.and_eq_true, bne_iff_ne]
  exact ⟨alive, state⟩

theorem exec_weaveLaneLock {s : State} {dt l : Nat} (carries : s.traffic = true) (hl : l < 8) (idle : s.wvState l = 0)
    (enabled : s.cfg (Obj.WV_LINK_ENABLE + l) = 1) (free : s.flt.held = []) : ∃ u : State,
    exec (.weaveLaneLock dt l) s = .next ((u.setWvLink l { WvLink.fresh with locked := true }).linkTo l 1) := by
  refine ⟨_, show execWeaveLaneLock .. = .next _ from cmd_then ?_⟩
  have free' : (s.tick dt).flt.held = [] := free
  simp only [free', hl, decide_true, List.any_nil, Bool.not_false, Bool.and_true, Bool.and_eq_true, beq_iff_eq]
  exact ⟨⟨carries, idle⟩, enabled⟩

/-- Settles O26: a hello's frame, and the links that `linkTo` takes to another state. -/
theorem weaveLinksComeAndGo : Obligations.WeaveLinksComeAndGo := by
  unfold Obligations.WeaveLinksComeAndGo
  intro dt l s alive hl
  refine ⟨fun due addr => ?hello, fun state late => ?timeout, fun carries idle enabled free => ?lock, fun state => ?loss⟩
  case hello =>
    obtain ⟨seq, u, run, hlink, hclock, hout, hdict⟩ := exec_helloSend alive hl due
    have addr' : u.wvAddr < 1024 := by
      rw [State.wvAddr, State.cfg, hdict]
      exact addr
    have len := u.length_helloFrame seq l
    refine ⟨_, u.helloFrame seq l ++ fcs (u.helloFrame seq l), run, ?_, ?_, ?_, fcsGood_append_fcs _, ?_, ?_, ?_⟩
    · rw [State.emitWeave]
      exact congr (congrArg (fun o c => o ++ [(c, Output.weave l _)]) hout) hclock
    · rw [List.length_append, len]
      exact congrArg (80 + ·) (length_toLe 4 _)
    · rw [whType_append (by omega), State.helloFrame, State.whType_stampFrame, State.whType_formFrame _ _ addr']
    · exact congrArg (·.sentAt) hlink
    · have state : u.wvState l = s.wvState l := by rw [State.wvState, State.cfg, hdict, ← State.cfg, ← State.wvState]
      exact state
    · have sent (b : Bytes) : (u.emit (.weave l b)).ctr (Obj.WV_TX_FRAMES + l) = s.ctr (Obj.WV_TX_FRAMES + l) := by
        rw [State.ctr, State.ctr, ← hdict]
        rfl
      rw [State.emitWeave, State.ctr_bump_self, sent]
  case timeout =>
    obtain ⟨hstate, hlink, hpeer⟩ := State.relink_effect (s.tick dt) hl { s.wvLink l with helloAt := none, offer := none } 1
      (s.tick dt).followed _ rfl
    exact ⟨_, exec_helloTimeout alive hl state late, hstate, congrArg (·.helloAt) hlink, hpeer⟩
  case lock =>
    obtain ⟨u, run⟩ := exec_weaveLaneLock (dt := dt) carries hl idle enabled free
    obtain ⟨hstate, hlink, -⟩ := (u.setWvLink l { WvLink.fresh with locked := true }).linkTo_frame l 1
    refine ⟨_, run, hstate, ?_⟩
    rw [State.wvLink, hlink]
    exact lookupD_assoc_self _ _ _ _
  case loss =>
    obtain ⟨hstate, hlink, hpeer⟩ := State.relink_effect (s.tick dt) hl WvLink.fresh 0 (s.tick dt).followed _ rfl
    refine ⟨_, exec_weaveLinkLoss alive hl state, hstate, hlink, hpeer, fun up => ?_⟩
    have up' : ((s.tick dt).setWvLink l WvLink.fresh).wvState l = 2 := up
    obtain ⟨hdowns, hls, hroute⟩ := State.linkTo_leaves_up (st := 0) hl up' (by decide)
    obtain ⟨slew, hwv, hctr⟩ :=
      (((s.tick dt).setWvLink l WvLink.fresh).linkTo l 0).chooseTime_frame (s.tick dt).followed
    obtain ⟨-, hwv', -, hctr'⟩ := ((((s.tick dt).setWvLink l WvLink.fresh).linkTo l 0).chooseTime
      (s.tick dt).followed).forgetPeer_frame l
    refine ⟨?_, ?_, ?_⟩
    · rw [hctr', hctr _ (countsTelling_linkDowns hl), hdowns]
      exact Nat.le_refl _
    · rw [hwv', hwv]
      exact hls
    · rw [hwv', hwv]
      exact hroute

/-! ### Link state, routes and the calendar -/

theorem State.pushCtl_msgSeq (s : State) (l : Nat) (at_ : Option Nat) (f : Bytes) (head : Bool) :
    (s.pushCtl l at_ f head).wv.msgSeq = s.wv.msgSeq := by
  unfold State.pushCtl
  split <;> rfl

theorem State.floodFrame_msgSeq (s : State) (f : Bytes) (head : Bool) : (s.floodFrame f head).wv.msgSeq = s.wv.msgSeq :=
  List.foldlRecOn (motive := fun a : State => a.wv.msgSeq = s.wv.msgSeq) _ _ rfl fun a ha l _ =>
    (a.pushCtl_msgSeq l none f head).trans ha

theorem exec_linkStateOriginate {s : State} {dt : Nat} (carries : s.traffic = true) (mode : s.mode.mode ≠ .handover)
    (due : s.wv.lsDirty = true ∨ s.wv.lsAt + 1000000000 ≤ s.clock + dt) :
    ∃ t, exec (.linkStateOriginate dt) s = .next t ∧ t.wv.lsAt = s.clock + dt ∧ t.wv.lsDirty = false ∧
      lookupD t.wv.msgSeq 0x02 0 = (lookupD s.wv.msgSeq 0x02 0 + 1) % 2 ^ 32 := by
  refine ⟨_, show execLinkStateOriginate .. = .next _ from cmd_then ?_, ?_⟩
  · simp only [Bool.and_eq_true, bne_iff_ne, Bool.or_eq_true, decide_eq_true_eq]
    exact ⟨⟨carries, mode⟩, due⟩
  · extract_lets links words r t1
    obtain ⟨-, hclock, -⟩ := (r.2.floodFrame_sends (r.2.floodMsg 0x02 r.1
      (toBe 8 ((s.tick dt).cfg Obj.ID_SERIAL) ++ toBe 8 (links.length * 2 ^ 60) ++ words)) false).frame
    refine ⟨hclock, rfl, ?_⟩
    exact (congrArg (lookupD · 0x02 0) (r.2.floodFrame_msgSeq _ _)).trans (lookupD_assoc_self _ _ _ _)

/-- Time alone changes no route. -/
theorem State.tick_routes (s : State) (dt : Nat) : (s.tick dt).routes = s.routes := by
  have addr : (s.tick dt).wvAddr = s.wvAddr := rfl
  have up : (s.tick dt).upLinks = s.upLinks := rfl
  have own : (s.tick dt).ownLink = s.ownLink := rfl
  have lists : (s.tick dt).linkLists = s.linkLists := by
    simp only [State.linkLists, addr, up, own, State.tick_frame]
  have back : (s.tick dt).listedBack = s.listedBack := by
    funext a x
    simp only [State.listedBack, lists]
  have contested : (s.tick dt).contested = s.contested := rfl
  have edges : (s.tick dt).edges = s.edges := by simp only [State.edges, lists, back]
  have route : (s.tick dt).routeTo = s.routeTo := by
    funext nd a
    simp only [State.routeTo, addr, up, own, back]
  simp only [State.routes, addr, up, own, contested, edges, route, State.tick_frame]

theorem exec_routeRecompute {s : State} {dt : Nat} (carries : s.traffic = true) (mode : s.mode.mode ≠ .handover)
    (dirty : s.wv.routeDirty = true) : exec (.routeRecompute dt) s =
      .next ({ s.tick dt with wv := { s.wv with dest := (s.tick dt).routes, routeDirty := false } }.bump
        Obj.WV_ROUTE_RECOMPUTES) := by
  refine show execRouteRecompute .. = .next _ from cmd_then ?_
  simp only [Bool.and_eq_true, bne_iff_ne]
  exact ⟨⟨carries, mode⟩, dirty⟩

theorem exec_lsdbExpiry {s : State} {dt : Nat} (alive : s.alive = true)
    (old : ∃ e ∈ s.wv.lsdb, e.at_ + 3500000000 ≤ s.clock + dt) : exec (.lsdbExpiry dt) s =
      .next { s.tick dt with wv := { s.wv with
        lsdb := s.wv.lsdb.filter fun e => s.clock + dt < e.at_ + 3500000000, routeDirty := true } } := by
  refine show execLsdbExpiry .. = .next _ from cmd_then ?_
  obtain ⟨e, he, hold⟩ := old
  exact Bool.and_eq_true_iff.mpr ⟨alive, List.any_eq_true.mpr ⟨e, he, decide_eq_true hold⟩⟩

theorem exec_calendarWindow {s : State} {dt l : Nat} (carries : s.traffic = true) (hl : l < 8) :
    exec (.calendarWindow dt l) s = .next ((s.tick dt).retestPort (16 + l)) := by
  refine show execCalendarWindow .. = .next _ from cmd_then ?_
  rw [decide_eq_true hl, Bool.and_true]
  exact carries

/-- A calendar takes effect, and the one before is remembered. -/
def State.takeCalendar (s : State) (c : Cal) (at_ : Nat) : State :=
  State.latch { s with wv := { s.wv with cal := c, calPend := none, calOld := some (s.wv.cal, s.clock) } }
    Obj.WV_CAL_SWITCH_AT at_

/-- The queues of every Weave link are tested anew. -/
def State.retestLinks (s : State) : State := (List.range 8).foldl (fun (a : State) l => a.retestPort (16 + l)) s

theorem State.retestLinks_thinned (s : State) : Thinned s s.retestLinks :=
  Thinned.foldl (List.range 8) s fun a l => a.retestPort_thinned (16 + l)

theorem exec_calendarSwitch {s : State} {dt at_ : Nat} {c : Cal} (alive : s.alive = true)
    (pending : s.wv.calPend = some (c, at_)) (due : at_ ≤ (s.tick dt).now) :
    exec (.calendarSwitch dt) s = .next ((s.tick dt).takeCalendar c at_).retestLinks := by
  have pending' : (s.tick dt).wv.calPend = some (c, at_) := pending
  refine Eq.trans (show execCalendarSwitch .. = .next _ from cmd_then ?_) ?_
  · simpa only [pending', Bool.and_eq_true, decide_eq_true_eq] using ⟨alive, due⟩
  · simp only [pending', State.retestLinks, State.takeCalendar]

/-- Settles O27: each command's effect on the Weave's own state; queues tested anew are `Thinned`. -/
theorem weaveRoutesFollowTheDatabase : Obligations.WeaveRoutesFollowTheDatabase := by
  unfold Obligations.WeaveRoutesFollowTheDatabase
  intro dt l s
  refine ⟨fun carries mode => ⟨exec_linkStateOriginate carries mode, fun dirty => ?route⟩, exec_lsdbExpiry, fun k => rfl,
    fun carries hl => ⟨exec_calendarWindow carries hl, ?window⟩, fun c at_ alive pending due => ?switch⟩
  case route =>
    exact ⟨_, exec_routeRecompute carries mode dirty, s.tick_routes dt, rfl, rfl, State.ctr_bump_self _ _⟩
  case window =>
    obtain ⟨-, -, hep, hhs, hwv, -, -, -, -, -, -, -, -, -, -, -, hpkts⟩ := ((s.tick dt).retestPort_thinned (16 + l)).frame
    exact ⟨_, exec_calendarWindow carries hl, hpkts, hwv, hep, hhs⟩
  case switch =>
    obtain ⟨-, -, -, -, hwv, -, -, -, -, -, -, -, -, -, -, hcfg, hpkts⟩ :=
      ((s.tick dt).takeCalendar c at_).retestLinks_thinned.frame
    exact ⟨_, exec_calendarSwitch alive pending due, congrArg (·.cal) hwv, congrArg (·.calPend) hwv, congrArg (·.calOld) hwv,
      (hcfg _ 0).trans (State.cfg_latch_self _ _ _), hpkts⟩

end Sys2Proof.Machine
end

section
/-!
PROOFS. Requests of management sessions: the row of each (R394), their order within a control-clock cycle (R407), and what an
answer touches (R392, R397).
-/

namespace Sys2Proof.Machine

/-! ### The row of a request -/

theorem writes_of_items {m : Bytes} {i : Item} {rest : List Item} {o : Nat} {p : Nat → Bool} (hop : ompOp m = 2)
    (items : ompItems m = some (i :: rest)) (ho : i.obj = o) (hp : p i.value = true) : writes m o p = true := by
  simp [writes, hop, items, ho, hp]

section
variable {dt port sess : Nat} {m : Bytes} {c : Instr} {s : State}

theorem ompCmd_want {want : Bool} (h : want = true) :
    ompCmd dt s want (port, sess) m = ompCmd dt s true (port, sess) m := by rw [h]

/-- Every row of a WRITE takes its request alike. -/
theorem exec_of_writes {i : Item} {rest : List Item} (hop : ompOp m = 2) (items : ompItems m = some (i :: rest))
    (hc : Writes dt port sess m i c) : exec c s = ompCmd dt s true (port, sess) m := by
  have named (o : Nat) (ho : i.obj = o) : writes m o = true := writes_of_items hop items ho rfl
  have valued (o : Nat) (p : Nat → Bool) (ho : i.obj = o) (hp : p i.value = true) : writes m o p = true :=
    writes_of_items hop items ho hp
  rcases hc with rfl | ⟨ho, rfl⟩ | ⟨ho, rfl⟩ | ⟨ho, rfl⟩ | ⟨ho, rfl⟩ | ⟨ho, rfl⟩ | ⟨ho, rfl⟩ | ⟨ho, rfl⟩ | ⟨ho, rfl⟩ |
    ⟨ho, rfl⟩ | ⟨ho, rfl⟩ | ⟨ho, hv, rfl⟩ | ⟨ho, hv, rfl⟩ | ⟨ho, hv, rfl⟩ | ⟨ho, hv, rfl⟩ | ⟨ho, hv, rfl⟩ | ⟨ho, hv, rfl⟩ |
    ⟨ho, hv, rfl⟩ | ⟨ho, hv, rfl⟩ | ⟨ho, hv, rfl⟩ | ⟨ho, hv, rfl⟩ | ⟨ho, rfl⟩ | ⟨ho, rfl⟩ | ⟨ho, rfl⟩ | ⟨ho, rfl⟩ |
    ⟨ho, hv, rfl⟩ | ⟨ho, hv, rfl⟩ | ⟨ho, hv, rfl⟩ | ⟨ho, hv, rfl⟩ | ⟨ho, hv, rfl⟩ | ⟨ho, hv, rfl⟩ | ⟨p, hp, ho, hv, rfl⟩ |
    ⟨p, hp, ho, hv, rfl⟩
  · exact ompCmd_want (beq_iff_eq.mpr hop)
  iterate 10 exact ompCmd_want (named _ ho)
  iterate 10 exact ompCmd_want (valued _ _ ho (by simpa using hv))
  iterate 4 exact ompCmd_want (named _ ho)
  iterate 6 exact ompCmd_want (valued _ _ ho (by simpa using hv))
  iterate 2 exact ompCmd_want (Bool.and_eq_true_iff.mpr ⟨decide_eq_true hp, valued _ _ ho (by simpa using hv)⟩)

/-- Every row of a request takes it alike. -/
theorem exec_of_requests (hc : Requests dt port sess m c) : exec c s = ompCmd dt s true (port, sess) m := by
  rcases hc with ⟨h, rfl⟩ | ⟨h, rfl⟩ | ⟨i, rest, hop, items, hw⟩ | ⟨h, rfl⟩ | ⟨h, g, rfl⟩ | ⟨h, g, rfl⟩ | ⟨h, rfl⟩ | ⟨h, rfl⟩ |
    ⟨h, g, rfl⟩ | ⟨h, g, rfl⟩ | ⟨h, rfl⟩ | ⟨h, rfl⟩ | ⟨h, g, rfl⟩ | ⟨h, g, rfl⟩
  · exact ompCmd_want (by simpa using h)
  · exact ompCmd_want (beq_iff_eq.mpr h)
  · exact exec_of_writes hop items hw
  · exact ompCmd_want (beq_iff_eq.mpr h)
  iterate 2 exact ompCmd_want (by simp [h, g])
  iterate 2 exact ompCmd_want (beq_iff_eq.mpr h)
  iterate 2 exact ompCmd_want (by simp [h, g])
  · exact ompCmd_want (beq_iff_eq.mpr h)
  · exact ompCmd_want (by simpa [or_assoc] using h)
  iterate 2 exact ompCmd_want (by simp [h, g])

end

/-! ### The order within a control-clock cycle (R407) -/

/-- The place of a request within its cycle: management port, then session. -/
def requestRank (x : Nat × Nat × Bytes) : Nat := x.1 * 2 ^ 32 + x.2.1

theorem insertRequest_split (x : Nat × Nat × Bytes) (l : List (Nat × Nat × Bytes)) : ∃ a b, l = a ++ b ∧
    insertRequest x l = a ++ x :: b ∧ (∀ y ∈ a, requestRank y ≤ requestRank x) ∧ ∀ y ∈ b.head?, requestRank x < requestRank y := by
  induction l with
  | nil => exact ⟨[], [], rfl, rfl, nofun, nofun⟩
  | cons y l ih =>
    by_cases h : requestRank x < requestRank y
    · refine ⟨[], y :: l, rfl, ?_, nofun, ?_⟩
      · exact if_pos h
      · rintro z ⟨⟩
        exact h
    · obtain ⟨a, b, rfl, heq, ha, hb⟩ := ih
      refine ⟨y :: a, b, rfl, ?_, ?_, hb⟩
      · exact (if_neg h).trans (congrArg (y :: ·) heq)
      · intro z hz
        rcases List.mem_cons.mp hz with rfl | hz
        · exact Nat.not_lt.mp h
        · exact ha z hz

/-- A request that is not the last of its cycle is kept among those of its cycle. -/
theorem ompCmd_keeps {dt : Nat} {s : State} {k : Nat × Nat} {m : Bytes} (heard : s.hears k = true)
    (more : (s.tick dt).moreRequests = true) : ompCmd dt s true k m =
      .next { s.tick dt with mgmt := { s.mgmt with cycle := insertRequest (k.1, k.2, m) s.mgmt.cycle } } := by
  have heard' : (s.tick dt).hears k = true := heard
  simp only [ompCmd, cmd, State.takeInOrder, heard', more, Bool.and_self, if_true, State.tick_frame]

/-- The last of its cycle, with none kept before it, is taken at once. -/
theorem ompCmd_alone {dt : Nat} {s : State} {k : Nat × Nat} {m : Bytes} (alone : (s.tick dt).hearsAlone k = true) :
    ompCmd dt s true k m = .next ((s.tick dt).takeOmp k m) := by
  simp only [State.hearsAlone, Bool.and_eq_true, Bool.not_eq_true', List.isEmpty_iff] at alone
  obtain ⟨⟨heard, noneKept⟩, last⟩ := alone
  exact ompCmd_then rfl heard noneKept last

/-- Settles O28: the row is `exec_of_requests`, the order `insertRequest_split`, and the rest the branches of `takeOmp`. -/
theorem requestsAreAnsweredOnce : Obligations.RequestsAreAnsweredOnce := by
  unfold Obligations.RequestsAreAnsweredOnce
  refine ⟨fun dt port sess m c s hc heard more => ?kept, fun dt port sess m c s hc alone => ?taken⟩
  case kept =>
    obtain ⟨a, b, hl, hinsert, ha, hb⟩ := insertRequest_split (port, sess, m) s.mgmt.cycle
    exact ⟨_, a, b, (exec_of_requests hc).trans (ompCmd_keeps heard more), hl, by rw [hinsert], ha, hb⟩
  case taken =>
    have run : exec c s = .next ((s.tick dt).takeOmp (port, sess) m) := (exec_of_requests hc).trans (ompCmd_alone alone)
    refine ⟨_, rfl, fun off => ?_, fun on bad => ?_, fun on good noEvent => ⟨fun msg kept => ?_, fun first => ⟨fun range => ?_,
      fun range => ?_⟩⟩⟩
    · rw [run, State.takeOmp, if_pos off]
    · have bad' : (ompBad m || ompOp m == 9) = true := by simpa using bad
      rw [run, State.takeOmp, if_neg (by rw [on]; exact Bool.false_ne_true), State.ompRun, if_pos bad']
    all_goals
      have good' : (ompBad m || ompOp m == 9) = false := by simp [good, noEvent]
      rw [run, State.takeOmp, if_neg (by rw [on]; exact Bool.false_ne_true), State.ompRun,
        if_neg (by rw [good']; exact Bool.false_ne_true)]
    · simp only [kept]
    · simp only [first, State.ompExec_eq_answered, State.doOp, range, if_true]
    · simp only [first, State.ompExec_eq_answered]

/-! ### What an answer touches -/

/-- The state with what an interrupt of PF0 changes: a link's state, the function and the outputs. -/
def State.interruptPut (s : State) (val : Store) (fn : List (Nat × Fn)) (out : List (Nat × Output)) : State :=
  { s with dict := { s.dict with val := val }, hs := { s.hs with fn := fn }, out := out }

theorem State.deliverInt_pf0 (s : State) (vec : Nat) : ∃ val fn out, s.deliverInt 0 vec none = s.interruptPut val fn out := by
  have host : coreFid 0 = false := rfl
  have wake (l : Nat) : ∃ val, s.wakeLink l = { s with dict := { s.dict with val := val } } := by
    unfold State.wakeLink
    split <;> exact ⟨_, rfl⟩
  have held (t : State) (h : ∃ val fn out, t = s.interruptPut val fn out) :
      ∃ val fn out, t.holdInt 0 vec none = s.interruptPut val fn out := by
    obtain ⟨_, _, _, rfl⟩ := h
    unfold State.holdInt
    extract_lets x
    split <;> exact ⟨_, _, _, rfl⟩
  obtain ⟨val, hwake⟩ := wake (s.linkOf 0)
  have self : ∃ val fn out, s = s.interruptPut val fn out := ⟨_, _, _, rfl⟩
  unfold State.deliverInt
  extract_lets x e s1 s2 m
  rw [host, if_neg Bool.false_ne_true]
  have h1 : ∃ val fn out, s1 = s.interruptPut val fn out := by
    unfold s1
    split
    · exact ⟨_, _, _, rfl⟩
    · exact self
  have h2 : ∃ val fn out, s2 = s.interruptPut val fn out := by
    unfold s2
    rw [hwake]
    split
    · exact ⟨_, _, _, rfl⟩
    · exact self
  repeat' split
  · exact self
  · exact held s1 h1
  · exact held s2 h2
  · exact self
  · exact ⟨_, _, _, rfl⟩
  · exact held s self
  · rw [hwake]
    exact ⟨_, _, _, rfl⟩

/-- The state with what a response changes beside: the mailbox's queue and counters. -/
def State.answerPut (s : State) (d2h : List Bytes) (ready : Bool) (dict : Dict) (fn : List (Nat × Fn))
    (out : List (Nat × Output)) : State :=
  { s with
    mgmt := { s.mgmt with d2h := d2h, d2hReady := ready }
    dict := { s.dict with val := dict.val, ctr := dict.ctr }
    hs := { s.hs with fn := fn }
    out := out }

theorem State.sendOmp_part (s : State) (port sess : Nat) (msg : Bytes) :
    ∃ d2h ready dict fn out, s.sendOmp port sess msg = s.answerPut d2h ready dict fn out := by
  unfold State.sendOmp
  extract_lets _ s1
  repeat' split
  · exact ⟨s.mgmt.d2h, s.mgmt.d2hReady, (s.bump Obj.MGMT_MBX_DROP).dict, s.hs.fn, s.out, rfl⟩
  · exact ⟨_, _, s.dict, s.hs.fn, s.out, rfl⟩
  · obtain ⟨val, fn, out, h⟩ := s1.deliverInt_pf0 s1.mgmt.mbxVector
    rw [h]
    exact ⟨_, _, { s.dict with val := val }, fn, out, rfl⟩
  · exact ⟨s.mgmt.d2h, s.mgmt.d2hReady, s.dict, s.hs.fn, _, rfl⟩

theorem State.answer_part (s : State) (k : Nat × Nat) (msg : Bytes) :
    ∃ d2h ready dict fn out, s.answer k msg = s.answerPut d2h ready dict fn out := by
  unfold State.answer
  repeat' split
  · exact s.sendOmp_part _ _ _
  · exact ⟨s.mgmt.d2h, s.mgmt.d2hReady, s.dict, s.hs.fn, s.out, rfl⟩
  · exact ⟨s.mgmt.d2h, s.mgmt.d2hReady, s.dict, s.hs.fn, _, rfl⟩

/-- A session found by its number has that number. -/
theorem State.sess?_eq {s : State} {k : Nat × Nat} {x : Session} (h : s.sess? k = some x) : (x.port, x.num) = k := by
  simpa using List.find?_some h

/-- A session that is replaced in place is found with its new content. -/
theorem State.sess?_setSess_self {s : State} {k : Nat × Nat} {x y : Session} (h : s.sess? k = some x)
    (hp : y.port = x.port) (hn : y.num = x.num) : (s.setSess y).sess? k = some y := by
  have hk := State.sess?_eq h
  have key : ∀ z : Session, (z.port == y.port && z.num == y.num) = ((z.port, z.num) == k) := by
    intro z
    rw [← hk, hp, hn]
    rfl
  simp only [State.sess?, State.setSess] at h ⊢
  revert h
  induction s.mgmt.sessions with
  | nil => simp
  | cons z l ih =>
    intro h
    simp only [List.map_cons, key]
    by_cases hz : (z.port, z.num) = k
    · have hy : (y.port, y.num) = k := by rw [hp, hn, hk]
      simp [hz, hy]
    · have hz' : ((z.port, z.num) == k) = false := by simpa using hz
      rw [List.find?_cons, hz'] at h
      have := ih h
      simp only [key] at this
      simpa [hz] using this

theorem State.stageOf_keepReply (s : State) (k : Nat × Nat) (m msg : Bytes) :
    (s.keepReply k m msg).stageOf k = s.stageOf k := by
  unfold State.keepReply
  cases h : s.sess? k with
  | none => rfl
  | some x =>
    have found := State.sess?_setSess_self (y := { x with kept := ((ompOp m, ompReq m, msg) :: x.kept).take 64 }) h rfl rfl
    simp only [State.stageOf, found, h]

/-- What an answer changes: sessions, the mailbox, PF0's interrupt, counters, the link that it wakes, and free values. -/
theorem State.answered_part (s : State) (k : Nat × Nat) (m : Bytes) (r : Reply) :
    ∃ sessions d2h ready dict fn out free, s.answered k m r =
      { State.answerPut { s with mgmt := { s.mgmt with sessions := sessions } } d2h ready dict fn out with free := free } := by
  unfold State.answered
  extract_lets a msg
  have h1 : ∃ free, a.2 = { s with free := free } := by
    unfold a State.replyAux
    split <;> exact ⟨_, rfl⟩
  obtain ⟨free, h1⟩ := h1
  have h2 : ∃ sessions, a.2.keepReply k m msg = { a.2 with mgmt := { a.2.mgmt with sessions := sessions } } := by
    unfold State.keepReply
    split <;> exact ⟨_, rfl⟩
  obtain ⟨sessions, h2⟩ := h2
  obtain ⟨d2h, ready, dict, fn, out, h3⟩ := ((a.2.keepReply k m msg).bump (Obj.MGMT_RX_MSGS + k.1)).answer_part k msg
  refine ⟨sessions, d2h, ready, dict, fn, out, free, ?_⟩
  rw [h3, h2, h1]
  rfl

theorem State.stageOf_answered (s : State) (k : Nat × Nat) (m : Bytes) (r : Reply) :
    (s.answered k m r).stageOf k = s.stageOf k := by
  unfold State.answered
  extract_lets a msg
  have h1 : a.2.mgmt = s.mgmt := by
    unfold a State.replyAux
    split <;> rfl
  obtain ⟨d2h, ready, dict, fn, out, h3⟩ := ((a.2.keepReply k m msg).bump (Obj.MGMT_RX_MSGS + k.1)).answer_part k msg
  have h4 : (State.answer ((a.2.keepReply k m msg).bump (Obj.MGMT_RX_MSGS + k.1)) k msg).stageOf k =
      (a.2.keepReply k m msg).stageOf k := by
    rw [h3]
    rfl
  rw [h4, State.stageOf_keepReply, State.stageOf, State.sess?, h1, State.stageOf, State.sess?]

/-- An accepted WRITE, by any row that stands for it. -/
theorem exec_write_of_accepts {dt port sess : Nat} {m : Bytes} {r : ObjRow} {i : Item} {c : Instr} {s : State}
    (hc : Writes dt port sess m i c) (h : (s.tick dt).accepts (port, sess) m r i = true) : exec c s =
      .next ((((s.tick dt).touch (port, sess)).writeValue (port, sess) r i.obj (i.elem.getD 0) i.value).2.answered
        (port, sess) m
        (oneReply (((s.tick dt).touch (port, sess)).writeValue (port, sess) r i.obj (i.elem.getD 0) i.value).1 i)) := by
  have ha := State.accepted_of_accepts h
  rw [exec_of_writes ha.op ha.items hc, ompCmd_of_accepts rfl h]

/-- Settles O29: the row is `exec_of_writes`, and the frame `answered_part`. -/
theorem acceptedWritesAreDone : Obligations.AcceptedWritesAreDone := by
  unfold Obligations.AcceptedWritesAreDone
  refine ⟨fun dt port sess m r i c s hc h => ⟨_, rfl, exec_write_of_accepts hc h⟩, fun k m r s => ?frame⟩
  have staged := s.stageOf_answered k m r
  obtain ⟨sessions, d2h, ready, dict, fn, out, free, part⟩ := s.answered_part k m r
  refine ⟨_, rfl, ?_⟩
  rw [part] at staged ⊢
  exact ⟨rfl, rfl, rfl, rfl, rfl, rfl, rfl, rfl, rfl, rfl, rfl, rfl, rfl, rfl, rfl, rfl, rfl, rfl, rfl, rfl, rfl, rfl, rfl, staged⟩

end Sys2Proof.Machine
end

section
/-!
PROOFS. Values of objects: taken at once, when their block leaves idle, or with the next epoch (R47 to R50, R415).
-/

namespace Sys2Proof.Machine

/-! ### A value that is due takes effect -/

/-- What `settleQui` does with one value. -/
def State.settleOne (s : State) (x : Nat × Nat) : State :=
  let o := keyObj x.1
  let b := s.setCfg o (keyElem x.1) x.2
  if within o Obj.NET_PORT_MODE 2 then b.retrainPort (nth o Obj.NET_PORT_MODE)
  else if o == Obj.WV_ADDR_SRC || o == Obj.WV_ADDR then b.latch Obj.WV_ADDR_EFFECTIVE b.chosenAddr
  else b

/-- The values that are due no longer wait. -/
def State.unwait (s : State) : State := { s with dict := { s.dict with qui := s.dict.qui.filter fun x => !(s.quiDue x) } }

theorem okey_key (k : Nat) : okey (keyObj k) (keyElem k) = k := by
  unfold okey keyObj keyElem
  omega

theorem keyObj_okey {o : Nat} : keyObj (okey o 0) = o := by
  unfold okey keyObj
  omega

/-- Keys that the device itself sets beside: the effective Weave address and the link states of network ports. -/
def setByDevice (k : Nat) : Bool := k == okey Obj.WV_ADDR_EFFECTIVE 0 || within (keyObj k) Obj.NET_LINK_STATE 16

theorem within_iff (x o n : Nat) : within x o n = true ↔ o ≤ x ∧ x < o + n := by simp [within]

theorem State.netFall_frame (s : State) {n : Nat} (hn : n < 16) (lst : Nat) : (s.netFall n lst).dict.qui = s.dict.qui ∧
    ∀ k d, setByDevice k = false → (s.netFall n lst).dict.val.get k d = s.dict.val.get k d := by
  have latched (k d : Nat) (hk : setByDevice k = false) :
      (s.latch (Obj.NET_LINK_STATE + n) lst).dict.val.get k d = s.dict.val.get k d := by
    refine Store.get_put_ne _ _ _ _ _ _ fun heq => ?_
    have : within (keyObj k) Obj.NET_LINK_STATE 16 = true := by
      rw [heq, keyObj_okey, within_iff]
      omega
    simp [setByDevice, this] at hk
  unfold State.netFall
  split
  · obtain ⟨_, _, _, _, h, -⟩ := ((s.latch (Obj.NET_LINK_STATE + n) lst).bump (Obj.NET_LINK_DOWNS + n)).discardPort_thinned n
    rw [h]
    exact ⟨rfl, latched⟩
  · exact ⟨rfl, latched⟩

theorem State.retrainPort_frame (s : State) {p : Nat} (hp : p < 2) : (s.retrainPort p).dict.qui = s.dict.qui ∧
    ∀ k d, setByDevice k = false → (s.retrainPort p).dict.val.get k d = s.dict.val.get k d := by
  unfold State.retrainPort
  refine List.foldlRecOn (motive := fun a : State => a.dict.qui = s.dict.qui ∧
    ∀ k d, setByDevice k = false → a.dict.val.get k d = s.dict.val.get k d) _ _ ⟨rfl, fun _ _ _ => rfl⟩ fun a ha i hi => ?_
  have hi8 := List.mem_range.mp hi
  obtain ⟨hqui, hval⟩ := a.netFall_frame (n := 8 * p + i) (by omega) (a.netIdle (8 * p + i))
  exact ⟨hqui.trans ha.1, fun k d hk => (hval k d hk).trans (ha.2 k d hk)⟩

theorem nth_portMode {o : Nat} (h : within o Obj.NET_PORT_MODE 2 = true) : nth o Obj.NET_PORT_MODE < 2 := by
  rw [within_iff] at h
  unfold nth Obj.NET_PORT_MODE at *
  omega

/-- One value taken into effect: other keys keep their values, and its own has it. -/
theorem State.settleOne_frame (s : State) (x : Nat × Nat) : (s.settleOne x).dict.qui = s.dict.qui ∧
    (∀ k d, setByDevice k = false → k ≠ x.1 → (s.settleOne x).dict.val.get k d = s.dict.val.get k d) ∧
    (setByDevice x.1 = false → (s.settleOne x).cfg (keyObj x.1) (keyElem x.1) = x.2) := by
  have put (k d : Nat) (hk : k ≠ x.1) :
      (s.setCfg (keyObj x.1) (keyElem x.1) x.2).dict.val.get k d = s.dict.val.get k d :=
    Store.get_put_ne _ _ _ _ _ _ (by rw [okey_key]; exact hk)
  have self : (s.setCfg (keyObj x.1) (keyElem x.1) x.2).cfg (keyObj x.1) (keyElem x.1) = x.2 := State.cfg_setCfg_self _ _ _ _
  unfold State.settleOne
  extract_lets o b
  split
  next h =>
    obtain ⟨hqui, hval⟩ := b.retrainPort_frame (nth_portMode h)
    refine ⟨hqui, fun k d hk hne => (hval k d hk).trans (put k d hne), fun hk => ?_⟩
    rw [State.cfg, hval _ _ (by rw [okey_key]; exact hk)]
    exact self
  · split
    · have latched (k d : Nat) (hk : setByDevice k = false) :
          (b.latch Obj.WV_ADDR_EFFECTIVE b.chosenAddr).dict.val.get k d = b.dict.val.get k d := by
        refine Store.get_put_ne _ _ _ _ _ _ fun heq => ?_
        simp [setByDevice, heq] at hk
      refine ⟨rfl, fun k d hk hne => (latched k d hk).trans (put k d hne), fun hk => ?_⟩
      rw [State.cfg, latched _ _ (by rw [okey_key]; exact hk)]
      exact self
    · exact ⟨rfl, fun k d _ hne => put k d hne, fun _ => self⟩

/-- Where it is no port's mode, only its own key and the effective Weave address change. -/
theorem State.settleOne_no_port (s : State) {x : Nat × Nat} (h : within (keyObj x.1) Obj.NET_PORT_MODE 2 = false) :
    (∀ k d, k ≠ okey Obj.WV_ADDR_EFFECTIVE 0 → k ≠ x.1 → (s.settleOne x).dict.val.get k d = s.dict.val.get k d) ∧
      (s.settleOne x).ep = s.ep ∧ (s.settleOne x).pkts = s.pkts := by
  have put (k d : Nat) (hk : k ≠ x.1) :
      (s.setCfg (keyObj x.1) (keyElem x.1) x.2).dict.val.get k d = s.dict.val.get k d :=
    Store.get_put_ne _ _ _ _ _ _ (by rw [okey_key]; exact hk)
  unfold State.settleOne
  extract_lets o b
  rw [if_neg (by rw [h]; exact Bool.false_ne_true)]
  split
  · exact ⟨fun k d hw hk => (Store.get_put_ne _ _ _ _ _ _ hw).trans (put k d hk), rfl, rfl⟩
  · exact ⟨fun k d _ hk => put k d hk, rfl, rfl⟩

/-! ### All that are due -/

theorem settleAll_frame (l : List (Nat × Nat)) (s : State) : (l.foldl State.settleOne s).dict.qui = s.dict.qui ∧
    ∀ k d, setByDevice k = false → (∀ x ∈ l, k ≠ x.1) → (l.foldl State.settleOne s).dict.val.get k d = s.dict.val.get k d := by
  induction l generalizing s with
  | nil => exact ⟨rfl, fun _ _ _ _ => rfl⟩
  | cons x l ih =>
    obtain ⟨hqui, hval⟩ := ih (s.settleOne x)
    obtain ⟨hqui', hval', -⟩ := s.settleOne_frame x
    refine ⟨hqui.trans hqui', fun k d hk hne => ?_⟩
    exact (hval k d hk fun y hy => hne y (List.mem_cons_of_mem _ hy)).trans (hval' k d hk (hne x List.mem_cons_self))

/-- The value of a key that is in effect at the end. -/
theorem settleAll_takes (l : List (Nat × Nat)) (s : State) {x : Nat × Nat} (hx : x ∈ l) (only : ∀ y ∈ l, y.1 = x.1 → y = x)
    (own : setByDevice x.1 = false) : (l.foldl State.settleOne s).cfg (keyObj x.1) (keyElem x.1) = x.2 := by
  induction l generalizing s with
  | nil => exact absurd hx List.not_mem_nil
  | cons y l ih =>
    by_cases hxl : x ∈ l
    · exact ih (s.settleOne y) hxl fun z hz => only z (List.mem_cons_of_mem _ hz)
    · have hyx : y = x := ((List.mem_cons.mp hx).resolve_right hxl).symm
      subst hyx
      have later : ∀ z ∈ l, y.1 ≠ z.1 := fun z hz heq =>
        hxl (only z (List.mem_cons_of_mem _ hz) heq.symm ▸ hz)
      rw [List.foldl_cons, State.cfg, (settleAll_frame l _).2 _ _ (by rw [okey_key]; exact own) (by rw [okey_key]; exact later)]
      exact (s.settleOne_frame y).2.2 own

theorem settleAll_no_port (l : List (Nat × Nat)) (s : State)
    (h : ∀ x ∈ l, within (keyObj x.1) Obj.NET_PORT_MODE 2 = false) :
    (∀ k d, k ≠ okey Obj.WV_ADDR_EFFECTIVE 0 → (∀ x ∈ l, k ≠ x.1) →
      (l.foldl State.settleOne s).dict.val.get k d = s.dict.val.get k d) ∧
    (l.foldl State.settleOne s).ep = s.ep ∧ (l.foldl State.settleOne s).pkts = s.pkts := by
  induction l generalizing s with
  | nil => exact ⟨fun _ _ _ _ => rfl, rfl, rfl⟩
  | cons x l ih =>
    obtain ⟨hval, hep, hpkts⟩ := ih (s.settleOne x) fun y hy => h y (List.mem_cons_of_mem _ hy)
    obtain ⟨hval', hep', hpkts'⟩ := s.settleOne_no_port (h x List.mem_cons_self)
    refine ⟨fun k d hw hk => ?_, hep.trans hep', hpkts.trans hpkts'⟩
    exact (hval k d hw fun y hy => hk y (List.mem_cons_of_mem _ hy)).trans (hval' k d hw (hk x List.mem_cons_self))

theorem exec_quiesceApply {s : State} {dt : Nat} (alive : s.alive = true) (due : s.dict.qui.any (s.tick dt).quiDue = true) :
    exec (.quiesceApply dt) s = .next (s.tick dt).settleQui :=
  show execQuiesceApply .. = .next _ from cmd_then (Bool.and_eq_true_iff.mpr ⟨alive, due⟩)

/-! ### A WRITE of a value -/

/-- Where a value goes, by how its object takes it. -/
theorem State.putValue_effect (s : State) (r : ObjRow) (o e v : Nat) :
    (s.putValue r o e v).dict.toFlash = (if r.stored then s.dict.toFlash ++ [(okey o e, v)] else s.dict.toFlash) ∧
    (r.app = .epoch → ∀ p f, (s.putValue r o e v).cfg p f = s.cfg p f) ∧
    (r.app = .quiesce → (s.putValue r o e v).wanted o e = v ∧ ∀ p f, (s.putValue r o e v).cfg p f = s.cfg p f) ∧
    (r.app ≠ .epoch → r.app ≠ .quiesce → (s.putValue r o e v).cfg o e = v) ∧
    (s.putValue r o e v).mgmt = s.mgmt ∧ (s.putValue r o e v).ep = s.ep ∧ (s.putValue r o e v).pkts = s.pkts := by
  have stored : (s.toStore r o e v).dict.toFlash = (if r.stored then s.dict.toFlash ++ [(okey o e, v)] else s.dict.toFlash) ∧
      (s.toStore r o e v).dict.val = s.dict.val ∧ (s.toStore r o e v).mgmt = s.mgmt ∧ (s.toStore r o e v).ep = s.ep ∧
      (s.toStore r o e v).pkts = s.pkts := by
    unfold State.toStore
    split <;> exact ⟨rfl, rfl, rfl, rfl, rfl⟩
  obtain ⟨hflash, hval, hmgmt, hep, hpkts⟩ := stored
  have same (p f : Nat) : (s.toStore r o e v).cfg p f = s.cfg p f := by rw [State.cfg, hval, State.cfg]
  unfold State.putValue
  extract_lets s1 q
  cases happ : r.app with
  | epoch => exact ⟨hflash, fun _ => same, nofun, fun h => absurd rfl h, hmgmt, hep, hpkts⟩
  | quiesce =>
    refine ⟨hflash, nofun, fun _ => ⟨?_, same⟩, fun _ h => absurd rfl h, hmgmt, hep, hpkts⟩
    have found : (q ++ [(okey o e, v)]).find? (fun p => p.1 == okey o e) = some (okey o e, v) := by
      rw [List.find?_append, List.find?_eq_none.mpr]
      · simp
      · intro x hx
        simpa using (List.mem_filter.mp hx).2
    simp only [State.wanted, found]
  | none => exact ⟨hflash, nofun, nofun, fun _ _ => State.cfg_setCfg_self _ _ _ _, hmgmt, hep, hpkts⟩
  | live => exact ⟨hflash, nofun, nofun, fun _ _ => State.cfg_setCfg_self _ _ _ _, hmgmt, hep, hpkts⟩

@[simp] theorem State.touch_ep (s : State) (k : Nat × Nat) : (s.touch k).ep = s.ep := by rw [State.touch_changes_mgmt_only]
@[simp] theorem State.touch_pkts (s : State) (k : Nat × Nat) : (s.touch k).pkts = s.pkts := by rw [State.touch_changes_mgmt_only]

theorem State.touch_cfg (s : State) (k : Nat × Nat) (o e : Nat) : (s.touch k).cfg o e = s.cfg o e := by
  rw [State.cfg, State.touch_dict, State.cfg]

/-- Settles O30: `putValue` says where a written value goes, and `settleQui` is a fold of `settleOne` over those that are due. -/
theorem valuesAreTakenAsTheirObjectsSay : Obligations.ValuesAreTakenAsTheirObjectsSay := by
  unfold Obligations.ValuesAreTakenAsTheirObjectsSay
  intro dt port sess m r i s
  refine ⟨fun accepted plain => ?write, fun alive due => ⟨exec_quiesceApply alive due, ?settle⟩⟩
  case write =>
    obtain ⟨hflash, hepoch, hquiesce, hlive, hmgmt, hep, hpkts⟩ :=
      ((s.tick dt).touch (port, sess)).putValue_effect r i.obj (i.elem.getD 0) i.value
    have cfg_eq (o e : Nat) : ((s.tick dt).touch (port, sess)).cfg o e = s.cfg o e := State.touch_cfg _ _ _ _
    refine ⟨_, _, rfl, ?_, ?_, fun h o e => (hepoch h o e).trans (cfg_eq o e),
      fun h => ⟨(hquiesce h).1, fun o e => ((hquiesce h).2 o e).trans (cfg_eq o e)⟩, hlive, hmgmt, ?_, ?_⟩
    · rw [exec_write_of_accepts (.inl rfl) accepted, State.writeValue, plain, cfg_eq]
    · rw [hflash, State.touch_dict]
      rfl
    · rw [hep, State.touch_ep]
      rfl
    · rw [hpkts, State.touch_pkts]
      rfl
  case settle =>
    obtain ⟨hqui, hval⟩ := settleAll_frame ((s.tick dt).dict.qui.filter (s.tick dt).quiDue) (s.tick dt).unwait
    refine ⟨_, exec_quiesceApply alive due, hqui, fun x hx hdue only noLink noAddr => ?_, fun noPort => ?_⟩
    · refine settleAll_takes _ _ (List.mem_filter.mpr ⟨hx, hdue⟩) (fun y hy => only y (List.mem_filter.mp hy).1) ?_
      have noKey : x.1 ≠ okey Obj.WV_ADDR_EFFECTIVE 0 := fun heq => noAddr (heq ▸ keyObj_okey)
      simp [setByDevice, noLink, noKey]
    · obtain ⟨hkeep, hep, hpkts⟩ := settleAll_no_port _ (s.tick dt).unwait fun x hx =>
        noPort x (List.mem_filter.mp hx).1 (List.mem_filter.mp hx).2
      refine ⟨fun o e hw none_ => ?_, hep, hpkts⟩
      exact hkeep _ _ hw fun x hx => (none_ x (List.mem_filter.mp hx).1).symm

end Sys2Proof.Machine
end

section
/-!
PROOFS. READ, STAGE, SUBSCRIBE and operations that do not exist (R14, R55, R394 to R396, R403).
-/

namespace Sys2Proof.Machine

section
variable {dt port sess : Nat} {m : Bytes} {s : State}

theorem State.wellPut_iff (s : State) (k : Nat × Nat) (m : Bytes) :
    s.wellPut k m = true ↔ s.executes k m = true ∧ ompRange m = false := by
  simp only [State.wellPut, Bool.and_eq_true, Bool.not_eq_true']

/-- A row whose request is well put does the request's operation, and answers. -/
theorem exec_of_wellPut {c : Instr} {want : Bool} (hc : exec c s = ompCmd dt s want (port, sess) m) (hw : want = true)
    (h : (s.tick dt).wellPut (port, sess) m = true) : exec c s =
      .next ((((s.tick dt).touch (port, sess)).doOp (port, sess) m).2.answered (port, sess) m
        (((s.tick dt).touch (port, sess)).doOp (port, sess) m).1) := by
  rw [hc, ompCmd_of_executes hw ((State.wellPut_iff _ _ _).mp h).1]

theorem ompRange_of_wellPut {k : Nat × Nat} (h : s.wellPut k m = true) : ompRange m = false :=
  ((State.wellPut_iff _ _ _).mp h).2

end

/-! ### One item (R395, R396) -/

/-- A request of one item gives that item's status and its item of the response. -/
theorem State.runItems_single (s : State) (k : Nat × Nat) (op : ItemOp) (staged : Bool) (i : Item) :
    s.runItems k op staged [i] = s.oneItem k op staged i := by
  cases alive : (s.oneItem k op staged i).2.2.alive
  case false => simp [State.runItems, alive]
  case true =>
    by_cases ok : (s.oneItem k op staged i).1 = 0
    · simp only [State.runItems, alive, ok, if_true, List.append_nil]
      exact Prod.ext ok.symm rfl
    · simp [State.runItems, alive, ok]

section
variable {s : State} {k : Nat × Nat} {m : Bytes} {i : Item} {r : ObjRow}

/-- One item that is read within the length of a response. -/
theorem State.doOp_read (range : ompRange m = false) (hop : ompOp m = 1) (items : ompItems m = some [i])
    (fits : s.readMax i ≤ 1184) : s.doOp k m =
      ({ status := (s.readItem k (ompStagedView m) i).1, count := 1, aux := 0, body := (s.readItem k (ompStagedView m) i).2.1 },
        (s.readItem k (ompStagedView m) i).2.2) := by
  simp [State.doOp, range, hop, State.doItems, items, sumBy, Nat.not_lt.mpr fits, State.runItems_single, State.oneItem]

theorem State.readMax_of_no_row (row : s.rowOf? i.obj = none) : s.readMax i ≤ 1184 := by simp [State.readMax, row]

theorem State.readItem_of_no_row (row : s.rowOf? i.obj = none) (staged : Bool) :
    s.readItem k staged i = (10, i.bytes i.typ 10 [], s) := by simp [State.readItem, row]

theorem State.readItem_of_failing (row : s.rowOf? i.obj = some r) {staged : Bool} {st : Nat} (fails : st ≠ 0)
    (check : s.itemStatus k .read staged i.obj i.elem = st) : s.readItem k staged i = (st, i.bytes i.typ st [], s) := by
  simp [State.readItem, row, check, fails]

theorem State.readItem_of_passing (row : s.rowOf? i.obj = some r) {staged : Bool}
    (check : s.itemStatus k .read staged i.obj i.elem = 0) (typ : i.typeBad r .read = false) :
    s.readItem k staged i = (0, i.bytes (typeOf r i.elem.isSome).1 0 (valueBytes (typeOf r i.elem.isSome).1
      (typeOf r i.elem.isSome).2 (s.valueOf k staged r i.obj (i.elem.getD 0))), s.clearRead r i.obj) := by
  simp [State.readItem, row, check, typ]

/-- Reading clears a clear-on-read object, and changes no other counter and no value. -/
theorem State.clearRead_effect (s : State) (r : ObjRow) (o : Nat) : (r.acc ≠ .rc → s.clearRead r o = s) ∧
    (r.acc = .rc → o ≠ Obj.THERM_TJ_PEAK_MC → (s.clearRead r o).ctr o = 0) ∧
    (∀ p, p ≠ o → (s.clearRead r o).ctr p = s.ctr p) ∧ ∀ p e, (s.clearRead r o).cfg p e = s.cfg p e := by
  unfold State.clearRead
  split
  next h => exact ⟨fun _ => rfl, fun rc => absurd rc (by simpa using h), fun _ _ => rfl, fun _ _ => rfl⟩
  next h =>
    have rc : r.acc = .rc := by simpa using h
    split
    next peak => exact ⟨fun h => absurd rc h, fun _ hne => absurd (by simpa using peak) hne, fun _ _ => rfl, fun _ _ => rfl⟩
    next =>
      refine ⟨fun h => absurd rc h, fun _ _ => ?_, fun p hp => ?_, fun _ _ => rfl⟩
      · exact Store.get_put_self s.dict.ctr (okey o 0) 0 0
      · exact Store.get_put_ne s.dict.ctr (okey o 0) (okey p 0) 0 0 0 (okey_ne 0 hp)

/-! ### STAGE (R55) -/

theorem State.doOp_stage (range : ompRange m = false) (hop : ompOp m = 3) (items : ompItems m = some [i]) :
    s.doOp k m = (oneReply (s.writeItem k .stage i).1 i, (s.writeItem k .stage i).2) := by
  simp [State.doOp, range, hop, State.doItems, items, State.runItems_single, State.oneItem, oneReply]

theorem State.writeItem_stage (row : s.rowOf? i.obj = some r) (check : s.itemStatus k .stage false i.obj i.elem = 0)
    (typ : i.typeBad r .stage = false) (value : s.valueStatus r i.obj (i.elem.getD 0) i.value = 0) :
    s.writeItem k .stage i = s.stageValue k i.obj (i.elem.getD 0) i.value := by
  simp [State.writeItem, row, check, typ, value]

/-- A staging area with one value more, or in the place of the one that its key had. -/
def Staging.with_ (st : Staging) (key v : Nat) : Staging := { st with vals := (st.vals.filter fun p => p.1 != key) ++ [(key, v)] }

theorem State.stageValue_full {o e v : Nat} (h : (s.stageOf k).above = true ∨
    16384 < ((s.stageOf k).with_ (okey o e) v).vals.length ∨ 2 ^ 20 < ((s.stageOf k).with_ (okey o e) v).bytes) :
    s.stageValue k o e v = (1, s.bump Obj.EPOCH_STAGE_FULL) := by
  refine if_pos ?_
  rw [Bool.or_eq_true, Bool.or_eq_true, decide_eq_true_eq, decide_eq_true_eq, or_assoc]
  exact h

theorem State.stageValue_room {o e v : Nat} (below : (s.stageOf k).above = false)
    (count : ((s.stageOf k).with_ (okey o e) v).vals.length ≤ 16384)
    (size : ((s.stageOf k).with_ (okey o e) v).bytes ≤ 2 ^ 20) :
    s.stageValue k o e v = (0, s.setStage k ((s.stageOf k).with_ (okey o e) v)) := by
  refine if_neg ?_
  simp only [Bool.or_eq_true, decide_eq_true_eq, not_or]
  exact ⟨⟨by rw [below]; exact Bool.false_ne_true, Nat.not_lt.mpr count⟩, Nat.not_lt.mpr size⟩

theorem State.stageOf_setStage {x : Session} (h : s.sess? k = some x) (st : Staging) :
    (s.setStage k st).stageOf k = st := by
  have found := State.sess?_setSess_self (y := { x with stage := st }) h rfl rfl
  simp only [State.setStage, h, State.stageOf, found]

theorem State.setStage_frame (s : State) (k : Nat × Nat) (st : Staging) : (s.setStage k st).ep = s.ep ∧
    (s.setStage k st).dict = s.dict ∧ (s.setStage k st).mode = s.mode ∧ (s.setStage k st).pkts = s.pkts ∧
    (s.setStage k st).clock = s.clock ∧ (s.setStage k st).now = s.now := by
  unfold State.setStage
  split <;> exact ⟨rfl, rfl, rfl, rfl, rfl, rfl⟩

/-- A session that can be heard is still there when its record has come in. -/
theorem State.sess?_touch {k : Nat × Nat} (h : (s.sess? k).isSome = true) : ∃ x, (s.touch k).sess? k = some x := by
  obtain ⟨x, hx⟩ := Option.isSome_iff_exists.mp h
  have found := State.sess?_setSess_self (y := { x with last := s.clock }) hx rfl rfl
  unfold State.touch
  simp only [hx]
  split
  · exact ⟨_, found⟩
  · exact ⟨_, found⟩

theorem State.sess?_of_executes (h : s.executes k m = true) : ∃ x, (s.touch k).sess? k = some x := by
  simp only [State.executes, State.hearsAlone, State.hears, Bool.and_eq_true] at h
  obtain ⟨⟨⟨⟨⟨⟨⟨⟨-, known⟩, -⟩, -⟩, -⟩, -⟩, -⟩, -⟩, -⟩ := h
  exact State.sess?_touch known

@[simp] theorem State.touch_mode (s : State) (k : Nat × Nat) : (s.touch k).mode = s.mode := by rw [State.touch_changes_mgmt_only]

@[simp] theorem State.touch_clock (s : State) (k : Nat × Nat) : (s.touch k).clock = s.clock := by
  rw [State.touch_changes_mgmt_only]

@[simp] theorem State.touch_now (s : State) (k : Nat × Nat) : (s.touch k).now = s.now := by rw [State.touch_changes_mgmt_only]

@[simp] theorem State.touch_holder (s : State) (k : Nat × Nat) : (s.touch k).mgmt.holder = s.mgmt.holder := by
  unfold State.touch
  cases s.sess? k <;> cases (k.1 == 1 && s.mailbox) <;> rfl

theorem State.touch_ctr (s : State) (k : Nat × Nat) (o : Nat) : (s.touch k).ctr o = s.ctr o := by
  rw [State.ctr, State.touch_dict, State.ctr]

/-- An item that only the holder may stage. -/
theorem State.writeItem_no_semaphore (row : s.rowOf? i.obj = some r) (elem : i.elem = none) (plain : bulkOnly r = false)
    (acc : s.accOk r .stage = true) (other : s.mgmt.holder ≠ some k) : s.writeItem k .stage i = (4, s) := by
  have check : s.itemStatus k .stage false i.obj i.elem = 4 := by
    simp [State.itemStatus, row, elem, plain, acc, other]
  simp [State.writeItem, row, check]

end

/-! ### SUBSCRIBE (R403) -/

theorem State.doOp_subscribe {s : State} {k : Nat × Nat} {m : Bytes} (range : ompRange m = false) (hop : ompOp m = 8) :
    s.doOp k m = s.doSubscribe k m := by simp [State.doOp, range, hop]

theorem State.doOp_unknown {s : State} {k : Nat × Nat} {m : Bytes} (range : ompRange m = false)
    (hop : ompOp m = 0 ∨ 10 < ompOp m) : s.doOp k m = (Reply.of 10, s) := by
  unfold State.doOp
  rw [range, if_neg Bool.false_ne_true]
  rcases hop with hop | hop
  · simp only [hop]
  · split
    iterate 9 next => omega
    next => rfl

/-- Settles O31: the one item of a READ or a STAGE, and the branches of `doSubscribe`. -/
theorem readsStagesAndSubscriptions : Obligations.ReadsStagesAndSubscriptions := by
  unfold Obligations.ReadsStagesAndSubscriptions
  refine ⟨fun dt port sess m r i s h hop items => ⟨_, rfl, ?read⟩, fun dt port sess m r i s h hop items => ⟨_, rfl, ?stage⟩,
    fun dt port sess m s h => ⟨_, rfl, ?others⟩⟩
  case read =>
    have range := ompRange_of_wellPut h
    have run := exec_of_wellPut (c := .read dt port sess m) rfl (by simp [hop]) h
    refine ⟨fun row => ?_, fun row fits => ⟨fun st fails check => ?_, fun check typ => ?_⟩⟩
    · rw [run, State.doOp_read range hop items (State.readMax_of_no_row row), State.readItem_of_no_row row]
    · rw [run, State.doOp_read range hop items fits, State.readItem_of_failing row fails check]
    · obtain ⟨hkeep, hclear, hctr, hcfg⟩ := ((s.tick dt).touch (port, sess)).clearRead_effect r i.obj
      refine ⟨_, _, rfl, ?_, hkeep, hclear, fun o ho => (hctr o ho).trans (State.touch_ctr _ _ _),
        fun o e => (hcfg o e).trans (State.touch_cfg _ _ _ _)⟩
      rw [run, State.doOp_read range hop items fits, State.readItem_of_passing row check typ]
  case stage =>
    have range := ompRange_of_wellPut h
    have run := exec_of_wellPut (c := .stage dt port sess m) rfl (by simp [hop]) h
    rw [State.doOp_stage range hop items] at run
    obtain ⟨x, hx⟩ := State.sess?_of_executes ((State.wellPut_iff _ _ _).mp h).1
    refine ⟨fun row check typ value => ?_, fun other row elem plain acc => ?_⟩
    · rw [State.writeItem_stage row check typ value] at run
      by_cases room : (((s.tick dt).touch (port, sess)).stageOf (port, sess)).above = false ∧
          ((((s.tick dt).touch (port, sess)).stageOf (port, sess)).with_ (okey i.obj (i.elem.getD 0)) i.value).vals.length
            ≤ 16384 ∧
          ((((s.tick dt).touch (port, sess)).stageOf (port, sess)).with_ (okey i.obj (i.elem.getD 0)) i.value).bytes ≤ 2 ^ 20
      · obtain ⟨below, count, size⟩ := room
        rw [State.stageValue_room below count size] at run
        obtain ⟨hep, hdict, -⟩ := ((s.tick dt).touch (port, sess)).setStage_frame (port, sess)
          ((((s.tick dt).touch (port, sess)).stageOf (port, sess)).with_ (okey i.obj (i.elem.getD 0)) i.value)
        refine ⟨_, _, rfl, hep.trans (State.touch_ep _ _), fun o e => ?_,
          fun _ _ _ => ⟨run, State.stageOf_setStage hx _⟩, fun full => ?_⟩
        · rw [State.cfg, hdict, ← State.cfg, State.touch_cfg]
          rfl
        · rcases full with above | many | large
          · exact absurd (below.symm.trans above) Bool.false_ne_true
          · exact absurd many (Nat.not_lt.mpr count)
          · exact absurd large (Nat.not_lt.mpr size)
      · refine ⟨((s.tick dt).touch (port, sess)).bump Obj.EPOCH_STAGE_FULL, _, rfl, State.touch_ep _ _,
          fun o e => State.touch_cfg _ _ _ _, fun below count size => absurd ⟨below, count, size⟩ room, fun full => ?_⟩
        rw [State.stageValue_full full] at run
        refine ⟨run, rfl, ?_⟩
        rw [State.ctr_bump_self, State.touch_ctr]
        rfl
    · rw [run, State.writeItem_no_semaphore row elem plain acc fun same => other ((State.touch_holder (s.tick dt) _).symm.trans same)]
  case others =>
    have range := ompRange_of_wellPut h
    obtain ⟨x, hx⟩ := State.sess?_of_executes ((State.wellPut_iff _ _ _).mp h).1
    have mode : ((s.tick dt).touch (port, sess)).mode = s.mode := State.touch_mode _ _
    refine ⟨fun hop awake len => ?_, fun hop asleep => ?_, fun hop => ?_⟩
    · have awake' : (((s.tick dt).touch (port, sess)).mode.mode == .dormant) = false := by simpa [mode] using awake
      have run := exec_of_wellPut (c := .subscribe dt port sess m) rfl (by simp [hop]) h
      rw [State.doOp_subscribe range hop, State.doSubscribe, if_neg (by rw [awake']; exact Bool.false_ne_true),
        if_neg (by simp [len]), hx] at run
      refine ⟨_, run, ?_, State.touch_ep _ _, State.touch_dict _ _⟩
      rw [State.sess?_setSess_self (y := { x with mask := beNat (ompBody m) }) hx rfl rfl]
      rfl
    · have asleep' : (((s.tick dt).touch (port, sess)).mode.mode == .dormant) = true := by simpa [mode] using asleep
      rw [exec_of_wellPut (c := .subscribe dt port sess m) rfl (by simp [hop]) h, State.doOp_subscribe range hop,
        State.doSubscribe, if_pos asleep']
    · rw [exec_of_wellPut (c := .unknownOperation dt port sess m) rfl (by rcases hop with hop | hop <;> simp [hop]) h,
        State.doOp_unknown range hop]

end Sys2Proof.Machine
end

section
/-!
PROOFS. Commits of a session, local and scheduled (R57 to R59, R65 to R68, R79).
-/

namespace Sys2Proof.Machine

/-! ### An accepted write of a control -/

/-- The row of an accepted write of a control leaves the control's effect, and answers with its status. -/
theorem exec_of_control {dt port sess : Nat} {m : Bytes} {r : ObjRow} {i : Item} {s : State} {c : Instr} {want : Bool} {o : Nat}
    {w : Nat × State} (hc : exec c s = ompCmd dt s want (port, sess) m) (hw : want = true)
    (h : (s.tick dt).accepts (port, sess) m r i = true) (ho : i.obj = o)
    (ctl : ∀ e, ((s.tick dt).touch (port, sess)).control (port, sess) r o e i.value = some w) :
    exec c s = .next (w.2.written (port, sess) m i w.1) := by
  rw [hc, ompCmd_of_accepts_control hw h (by rw [ho]; exact ctl _)]

theorem State.doOp_commit {s : State} {k : Nat × Nat} {m : Bytes} (range : ompRange m = false) (hop : ompOp m = 4) :
    s.doOp k m = s.doCommit k m := by simp [State.doOp, range, hop]

/-! ### Who may commit -/

section
variable {s : State} {k : Nat × Nat} {m : Bytes}

theorem State.doCommit_of_other (other : s.mgmt.holder ≠ some k) : s.doCommit k m = (Reply.of 4, s) :=
  if_pos (bne_iff_ne.mpr other)

/-- The holder's commit outside hand-over and DORMANT, with an empty body. -/
theorem State.doCommit_of_holder (mine : s.mgmt.holder = some k) (h1 : s.mode.mode ≠ .handover) (h2 : s.mode.mode ≠ .dormant)
    (body : ompBody m = []) : s.doCommit k m =
      if ompScheduled m then (Reply.of s.commitScheduled.1, s.commitScheduled.2)
      else ({ status := (s.commitLocal k).1, count := 0, aux := (s.commitLocal k).2.1, body := [] }, (s.commitLocal k).2.2) := by
  have h1' : (s.mode.mode == .handover) = false := beq_eq_false_iff_ne.mpr h1
  have h2' : (s.mode.mode == .dormant) = false := beq_eq_false_iff_ne.mpr h2
  simp [State.doCommit, mine, h1', h2', body]

end

/-! ### A local commit -/

section
variable {s : State} {k : Nat × Nat} {v : Ver}

theorem State.commitLocal_rejected {o : Nat} (free : s.commitBusy = false)
    (check : s.checkVer (Ver.with_ s.baseVer s.ep.openNum (s.stageOf k)) (s.stageOf k).touched = some o) :
    s.commitLocal k = (2, 0, (s.latch Obj.EPOCH_REJECT_INDEX o).latch Obj.EPOCH_LAST_STATUS 2) := by
  simp [State.commitLocal, free, check]

/-- The state in which a version is sealed, and no object rejected. -/
def State.sealed (s : State) (k : Nat × Nat) (v : Ver) : State := (s.seal k v).2.latch Obj.EPOCH_REJECT_INDEX 0

theorem State.commitLocal_applied (free : s.commitBusy = false)
    (check : s.checkVer (Ver.with_ s.baseVer s.ep.openNum (s.stageOf k)) (s.stageOf k).touched = none)
    (room : s.liveCount < 4) (hv : v = Ver.with_ s.baseVer s.ep.openNum (s.stageOf k)) : s.commitLocal k =
      (0, s.ep.openNum, ((s.sealed k v).latch Obj.EPOCH_LAST_STATUS 0).apply (s.seal k v).1) := by
  subst hv
  simp [State.commitLocal, free, check, Nat.not_le.mpr room, State.sealed]

theorem State.commitLocal_queued (free : s.commitBusy = false)
    (check : s.checkVer (Ver.with_ s.baseVer s.ep.openNum (s.stageOf k)) (s.stageOf k).touched = none)
    (full : 4 ≤ s.liveCount) (hv : v = Ver.with_ s.baseVer s.ep.openNum (s.stageOf k)) : s.commitLocal k =
      (5, s.ep.openNum, { ((s.sealed k v).bump Obj.EPOCH_COMMITS_QUEUED).latch Obj.EPOCH_LAST_STATUS 5 with
        ep := { (s.sealed k v).ep with queued := some (s.seal k v).1 } }) := by
  subst hv
  simp only [State.commitLocal, free, check, full, State.sealed, if_true, Bool.false_eq_true, if_false]
  rfl

/-- Sealing empties the staging area, and leaves the clock. -/
theorem State.seal_stage {x : Session} (h : s.sess? k = some x) (v : Ver) : (s.seal k v).1.stage = s.stageOf k ∧
    (s.seal k v).1.sess = k ∧ (s.seal k v).2.stageOf k = Staging.none_ ∧ (s.seal k v).2.clock = s.clock := by
  obtain ⟨-, -, -, -, hclock, -⟩ := s.setStage_frame k Staging.none_
  exact ⟨rfl, rfl, State.stageOf_setStage h Staging.none_, hclock⟩

end

/-! ### A scheduled commit -/

/-- The state has this commit initiated, whatever has been answered to it, and this version current. -/
def State.HasCommit (s : State) (i : Initiated) (cur : Nat) : Prop :=
  s.ep.current = cur ∧ ∃ a v, s.ep.initiated = some { i with acked := a, verdict := v }

section
variable {s : State} {i : Initiated} {cur : Nat}

theorem State.HasCommit.of_ep {t : State} (h : s.HasCommit i cur) (hc : t.ep.current = s.ep.current)
    (hi : t.ep.initiated = s.ep.initiated) : t.HasCommit i cur := by
  obtain ⟨current, a, v, initiated⟩ := h
  exact ⟨hc.trans current, a, v, hi.trans initiated⟩

theorem State.HasCommit.takeAck (h : s.HasCommit i cur) (id src : Nat) : (s.takeAck id src).HasCommit i cur := by
  unfold State.takeAck
  split
  next j hj =>
    split
    · obtain ⟨current, a, v, initiated⟩ := h
      cases hj.symm.trans initiated
      exact ⟨current, _, v, rfl⟩
    · exact h
  next => exact h

theorem State.HasCommit.takeNak (h : s.HasCommit i cur) (id : Nat) : (s.takeNak id).HasCommit i cur := by
  unfold State.takeNak
  split
  next j hj =>
    split
    · obtain ⟨current, a, v, initiated⟩ := h
      cases hj.symm.trans initiated
      obtain ⟨hi, -, -, hc⟩ := s.sendCancel_effect { i with acked := a, verdict := v }
      exact ⟨hc.trans current, a, 2, hi⟩
    · exact h
  next => exact h

theorem State.HasCommit.answerPrepare (h : s.HasCommit i cur) (id t dst code : Nat) :
    (s.answerPrepare id t dst code).HasCommit i cur := by
  unfold State.answerPrepare
  extract_lets _ s1 typ r
  have h1 : s1.HasCommit i cur := h.of_ep rfl rfl
  split
  · split
    · exact h1.takeAck id dst
    · exact h1.takeNak id
  · obtain ⟨-, -, hep, -⟩ := ((s1.nextSeq_sends typ).trans (r.2.sendRouted_sends typ r.1 dst (atBody id code t))).frame
    exact h1.of_ep (congrArg (·.current) hep) (congrArg (·.initiated) hep)

theorem State.HasCommit.prepareNew (h : s.HasCommit i cur) (id t src : Nat) : (s.prepareNew id t src).HasCommit i cur := by
  unfold State.prepareNew
  extract_lets k
  split
  next code o _ =>
    refine State.HasCommit.answerPrepare ?_ _ _ _ _
    split
    · exact h.of_ep rfl rfl
    · exact h
  next v _ =>
    obtain ⟨-, hep, -⟩ := s.seal_frame k v
    extract_lets r m _ _ s1
    obtain ⟨hgo, -⟩ := s1.atGo_frame 2
    refine State.HasCommit.answerPrepare (h.of_ep ?_ ?_) _ _ _ _
    · exact (congrArg (·.current) hgo).trans (congrArg (·.current) hep)
    · exact (congrArg (·.initiated) hgo).trans (congrArg (·.initiated) hep)

theorem State.HasCommit.takePrepare (h : s.HasCommit i cur) (id t src : Nat) : (s.takePrepare id t src).HasCommit i cur := by
  unfold State.takePrepare
  split
  · split
    · exact h.answerPrepare _ _ _ _
    · exact h.prepareNew _ _ _
  · exact h.prepareNew _ _ _

end

theorem State.sendPrepares_ep (s : State) (i : Initiated) :
    (s.sendPrepares i).ep = { s.ep with initiated := some { i with sentAt := s.clock } } := by
  obtain ⟨dst, -, hsent, -⟩ := s.sendPrepares_effect i
  rw [hsent]

theorem State.sendPrepares_hasCommit {s : State} {i : Initiated} (hs : i.sentAt = s.clock) :
    (s.sendPrepares i).HasCommit i s.ep.current := by
  rw [State.HasCommit, State.sendPrepares_ep, ← hs]
  exact ⟨rfl, i.acked, i.verdict, rfl⟩

theorem State.keepUntold_frame (s : State) : s.keepUntold.ep.current = s.ep.current ∧ s.keepUntold.clock = s.clock := by
  unfold State.keepUntold
  split
  · split <;> exact ⟨rfl, rfl⟩
  · exact ⟨rfl, rfl⟩

theorem State.commitScheduled_busy {s : State} (busy : s.commitBusy = true) : s.commitScheduled = (1, s) := if_pos busy

theorem State.commitScheduled_bad {s : State} (free : s.commitBusy = false) (bad : s.scheduleBad = true) :
    s.commitScheduled = (2, s.latch Obj.EPOCH_LAST_STATUS 2) := by simp [State.commitScheduled, free, bad]

/-- One that is in order is initiated, and answers PENDING. -/
theorem State.commitScheduled_initiates {s : State} (free : s.commitBusy = false) (good : s.scheduleBad = false) :
    s.commitScheduled.1 = 5 ∧ ∃ i : Initiated, i.id = s.cfg Obj.EPOCH_AT_ID ∧ i.t = s.cfg Obj.EPOCH_AT_TIME ∧
      i.members = s.atMembers ∧ i.sentAt = s.clock ∧ i.flooded = false ∧ s.commitScheduled.2.HasCommit i s.ep.current := by
  rw [State.commitScheduled, if_neg (by rw [free]; exact Bool.false_ne_true),
    if_neg (by rw [good]; exact Bool.false_ne_true)]
  extract_lets r i s1
  obtain ⟨-, hclock, hep, -⟩ := (s.keepUntold.nextSeq_sends 0x10).frame
  obtain ⟨hcur, hkclock⟩ := s.keepUntold_frame
  have sent : i.sentAt = r.2.clock := (hclock.trans hkclock).symm
  have initiated : s1.HasCommit i r.2.ep.current := (State.sendPrepares_hasCommit sent).of_ep rfl rfl
  rw [hep, hcur] at initiated
  have prepared := initiated.takePrepare i.id i.t s1.wvAddr
  refine ⟨rfl, i, rfl, rfl, rfl, rfl, rfl, ?_⟩
  clear_value s1 i
  exact prepared

/-- Settles O32: the branches of `doCommit`, `commitLocal` and `commitScheduled`. -/
theorem commitsSealTheStagingArea : Obligations.CommitsSealTheStagingArea := by
  unfold Obligations.CommitsSealTheStagingArea
  intro dt port sess m s h hop
  have range := ompRange_of_wellPut h
  have holder : ((s.tick dt).touch (port, sess)).mgmt.holder = s.mgmt.holder := State.touch_holder _ _
  have mode : ((s.tick dt).touch (port, sess)).mode = s.mode := State.touch_mode _ _
  have ep : ((s.tick dt).touch (port, sess)).ep = s.ep := State.touch_ep _ _
  have clock : ((s.tick dt).touch (port, sess)).clock = s.clock + dt := State.touch_clock _ _
  have runLocal (plain : ompScheduled m = false) := exec_of_wellPut (c := .commit dt port sess m) rfl (by simp [hop, plain]) h
  have runScheduled (at_ : ompScheduled m = true) :=
    exec_of_wellPut (c := .scheduledCommit dt port sess m) rfl (by simp [hop, at_]) h
  obtain ⟨x, hx⟩ := State.sess?_of_executes ((State.wellPut_iff _ _ _).mp h).1
  have cfg (o : Nat) : ((s.tick dt).touch (port, sess)).cfg o = s.cfg o := State.touch_cfg _ _ _ _
  rw [State.doOp_commit range hop] at runLocal runScheduled
  generalize (s.tick dt).touch (port, sess) = u at *
  refine ⟨u, rfl, fun plain other => ?other, fun at_ other => ?otherScheduled, fun mine awake1 awake2 body =>
    ⟨fun plain free => ?local_, fun at_ => ?scheduled⟩⟩
  case other => rw [runLocal plain, State.doCommit_of_other (by rw [holder]; exact other)]
  case otherScheduled => rw [runScheduled at_, State.doCommit_of_other (by rw [holder]; exact other)]
  all_goals
    rw [State.doCommit_of_holder (holder.trans mine) (by rw [mode]; exact awake1) (by rw [mode]; exact awake2) body]
      at runLocal runScheduled
  case local_ =>
    have run := runLocal plain
    rw [if_neg (by rw [plain]; exact Bool.false_ne_true)] at run
    rw [← ep]
    refine ⟨_, rfl, fun o check => ?_, fun check => ?_⟩
    · rw [State.commitLocal_rejected free check] at run
      exact ⟨_, run, (State.cfg_latch_ne _ _ _ _ (by decide)).trans (State.cfg_latch_self _ _ _), rfl, rfl⟩
    · obtain ⟨v, hv⟩ : ∃ v, v = Ver.with_ u.baseVer u.ep.openNum (u.stageOf (port, sess)) := ⟨_, rfl⟩
      obtain ⟨hver, hep, -⟩ := u.seal_frame (port, sess) v
      obtain ⟨hstage, hsess, hnone, hclock⟩ := State.seal_stage (v := v) hx
      have live : s.liveCount = u.liveCount := by rw [State.liveCount, State.liveCount, ep]
      rw [live, ← hv]
      have hep' : (u.sealed (port, sess) v).ep = { u.ep with openNum := (u.ep.openNum + 1) % 2 ^ 32 } := hep
      rcases Nat.lt_or_ge u.liveCount 4 with room | full
      · rw [State.commitLocal_applied free check room hv] at run
        refine ⟨_, (u.seal (port, sess) v).1, hver, hstage, hsess, ?_, ?_, ?_, fun _ => ⟨?_, run⟩,
          fun full => absurd room (Nat.not_lt.mpr full)⟩
        · exact hnone
        · exact congrArg (·.openNum) hep'
        · exact congrArg (·.current) hep'
        · have at_ : (u.sealed (port, sess) v).clock + 2000 = s.clock + dt + 2000 :=
            congrArg (· + 2000) (hclock.trans clock)
          have before : (u.sealed (port, sess) v).ep.applying = u.ep.applying := congrArg (·.applying) hep'
          rw [← at_, ← before]
          rfl
      · rw [State.commitLocal_queued free check full hv] at run
        refine ⟨_, (u.seal (port, sess) v).1, hver, hstage, hsess, ?_, ?_, ?_,
          fun room => absurd room (Nat.not_lt.mpr full), fun _ => ⟨?_, run⟩⟩
        · exact hnone
        · exact congrArg (·.openNum) hep'
        · exact congrArg (·.current) hep'
        · rfl
  case scheduled =>
    have run := runScheduled at_
    rw [if_pos at_] at run
    refine ⟨fun busy => ?_, fun free bad => ?_, fun free good => ?_⟩
    · rw [run, State.commitScheduled_busy busy]
    · rw [run, State.commitScheduled_bad free bad]
    · obtain ⟨hstatus, i, hid, ht, hmembers, hsent, hflooded, hcur, a, v, hinit⟩ := State.commitScheduled_initiates free good
      refine ⟨by rw [run, hstatus], _, hinit, hid.trans (cfg _), ht.trans (cfg _), hmembers, hsent.trans clock, hflooded, ?_⟩
      rw [hcur, ep]

end Sys2Proof.Machine
end

section
/-!
PROOFS. Controls of epochs, time, error log and cores (R38, R58, R79 to R86, R247, R458), and the semaphore (R406 to R411).
-/

namespace Sys2Proof.Machine

theorem writes_valued_of_accepts {s : State} {k : Nat × Nat} {m : Bytes} {r : ObjRow} {i : Item} {o : Nat} {p : Nat → Bool}
    (h : s.accepts k m r i = true) (ho : i.obj = o) (hp : p i.value = true) : writes m o p = true := by
  have ha := State.accepted_of_accepts h
  exact writes_of_items ha.op ha.items ho hp

/-- The state `u` that a record of a session has reached. -/
structure Heard (dt : Nat) (k : Nat × Nat) (s u : State) : Prop where
  eq : u = (s.tick dt).touch k
  clock : u.clock = s.clock + dt
  ep : u.ep = s.ep
  dict : u.dict = s.dict
  core : u.core = s.core
  mode : u.mode = s.mode
  pwr : u.pwr = s.pwr
  cry : u.cry = s.cry
  img : u.img = s.img
  fuse : u.fuse = s.fuse
  flt : u.flt = s.flt
  hs : u.hs = s.hs
  pkts : u.pkts = s.pkts
  holder : u.mgmt.holder = s.mgmt.holder
  waiting : u.mgmt.waiting = s.mgmt.waiting

section
variable {dt port sess : Nat} {k : Nat × Nat} {s u : State}

theorem heard (dt : Nat) (k : Nat × Nat) (s : State) : Heard dt k s ((s.tick dt).touch k) := by
  have mgmt : ((s.tick dt).touch k).mgmt.holder = s.mgmt.holder ∧ ((s.tick dt).touch k).mgmt.waiting = s.mgmt.waiting := by
    unfold State.touch
    cases (s.tick dt).sess? k <;> cases (k.1 == 1 && (s.tick dt).mailbox) <;> exact ⟨rfl, rfl⟩
  obtain ⟨holder, waiting⟩ := mgmt
  refine ⟨rfl, ?_, ?_, ?_, ?_, ?_, ?_, ?_, ?_, ?_, ?_, ?_, ?_, holder, waiting⟩
  all_goals
    rw [State.touch_changes_mgmt_only]
    rfl

theorem Heard.cfg (hu : Heard dt k s u) (o : Nat) : u.cfg o = s.cfg o := by rw [State.cfg, hu.dict, ← State.cfg]

theorem Heard.ctr (hu : Heard dt k s u) (o : Nat) : u.ctr o = s.ctr o := by rw [State.ctr, hu.dict, ← State.ctr]

/-- The row of an accepted write of a control leaves the control's effect, and answers with its status. -/
theorem Heard.exec_control {m : Bytes} {r : ObjRow} {i : Item} {c : Instr} {want : Bool} {o st : Nat} {x : State}
    (hu : Heard dt (port, sess) s u) (h : (s.tick dt).accepts (port, sess) m r i = true) (ho : i.obj = o)
    (ctl : ∀ e, u.control (port, sess) r o e i.value = some (st, x)) (hw : want = true)
    (hc : exec c s = ompCmd dt s want (port, sess) m) : exec c s = .next (x.written (port, sess) m i st) :=
  exec_of_control (w := (st, x)) hc hw h ho fun e => by rw [← hu.eq]; exact ctl e

theorem Heard.session {m : Bytes} (hu : Heard dt k s u) (h : (s.tick dt).executes k m = true) : ∃ x, u.sess? k = some x := by
  rw [hu.eq]
  exact State.sess?_of_executes h

end

/-! ### Epochs -/

theorem State.control_epochDiscard (s : State) (k : Nat × Nat) (r : ObjRow) (e v : Nat) :
    s.control k r Obj.EPOCH_DISCARD e v = some (0, s.discardStage k 0) := rfl

theorem State.control_epochAtArm (s : State) (k : Nat × Nat) (r : ObjRow) (e v : Nat) :
    s.control k r Obj.EPOCH_AT_ARM e v = some (0, (s.latch Obj.EPOCH_AT_ARM v).writeArm v) := rfl

theorem State.control_epochAtCancel (s : State) (k : Nat × Nat) (r : ObjRow) (e v : Nat) :
    s.control k r Obj.EPOCH_AT_CANCEL e v = some (if s.cancelLate then (1, s) else (0, s.writeCancel)) := rfl

theorem State.control_epochAtResync (s : State) (k : Nat × Nat) (r : ObjRow) (e v : Nat) :
    s.control k r Obj.EPOCH_AT_RESYNC e v = some (0, s.writeResync) := rfl

theorem State.control_timeSet (s : State) (k : Nat × Nat) (r : ObjRow) (e v : Nat) :
    s.control k r Obj.TIME_SET e v = some (if s.timeLed then (1, s) else (0, s.writeTimeSet v)) := rfl

theorem State.control_errLogClear (s : State) (k : Nat × Nat) (r : ObjRow) (e v : Nat) :
    s.control k r Obj.ERR_LOG_CLEAR e v = some (0, s.clearLog) := rfl

theorem State.control_coreRun (s : State) (k : Nat × Nat) (r : ObjRow) (e v : Nat) :
    s.control k r Obj.CORE_RUN e v = some (0, if v == 1 then s.runCores else s.stopCores) := rfl

theorem State.discardStage_effect {s : State} {k : Nat × Nat} {x : Session} (h : s.sess? k = some x) :
    (s.discardStage k 0).stageOf k = Staging.none_ ∧ (s.discardStage k 0).ep = s.ep := by
  unfold State.discardStage
  extract_lets st s1
  split
  next empty =>
    refine ⟨?_, rfl⟩
    simp only [Staging.isEmpty, Bool.and_eq_true, List.isEmpty_iff] at empty
    obtain ⟨vals, bulk⟩ := empty
    change st = Staging.none_
    revert vals bulk
    cases st
    rintro rfl rfl
    rfl
  next => exact ⟨State.stageOf_setStage h _, (s.setStage_frame k _).1⟩

theorem State.writeArm_one (s : State) : (s.writeArm 1).dict = s.dict ∧
    (s.writeArm 1).ep.armed = some (s.cfg Obj.EPOCH_AT_ID) ∧ (s.writeArm 1).ep.answer = none ∧
    (s.ep.atState = 0 ∨ s.ep.atState = 3 ∨ s.ep.atState = 4 → (s.writeArm 1).ep.atState = 1) := by
  rw [State.writeArm, if_pos (by rfl)]
  extract_lets _ s1
  split
  next two =>
    have two' : s.ep.atState = 2 := by simpa using two
    refine ⟨rfl, rfl, rfl, fun h => ?_⟩
    omega
  next =>
    obtain ⟨hep, -, hdict⟩ := s1.atGo_frame 1
    rw [hep]
    refine ⟨hdict, rfl, rfl, fun h => if_neg ?_⟩
    change ¬(s.ep.atState = 5 ∨ s.ep.atState = 6)
    omega

theorem State.writeArm_other (s : State) {v : Nat} (hv : v ≠ 1) : (s.writeArm v).dict = s.dict ∧
    (s.writeArm v).ep.armed = none ∧ (s.ep.atState = 1 → (s.writeArm v).ep.atState = 0) := by
  rw [State.writeArm, if_neg (by simpa using hv)]
  extract_lets _ s1
  split
  next => exact ⟨rfl, rfl, fun _ => rfl⟩
  next h => exact ⟨rfl, rfl, fun one => absurd (by simpa using one) h⟩

theorem State.writeResync_ep (s : State) : s.writeResync.ep = { s.ep with atState :=
    if s.ep.atState = 5 ∨ s.ep.atState = 6 then
      (if s.ep.member.isSome then 2 else if s.ep.armed.isSome then 1 else 0) else s.ep.atState } := by
  by_cases h : s.ep.atState = 5 ∨ s.ep.atState = 6
  · rw [State.writeResync, if_pos (by simpa using h), if_pos h]
    rfl
  · rw [State.writeResync, if_neg (by simpa using h), if_neg h]

/-! ### Cores -/

theorem State.holdCores_effect (s : State) : s.holdCores.cfg Obj.CORE_RUN = 0 ∧ (∀ h ∈ s.holdCores.core.harts, h = .held) ∧
    s.holdCores.core.mem = s.core.mem := by
  refine ⟨State.cfg_latch_self _ _ _, fun h hh => ?_, rfl⟩
  obtain ⟨_, -, rfl⟩ := List.mem_map.mp hh
  rfl

theorem State.runCores_of_held {s : State} (h : s.cfg Obj.CORE_RUN ≠ 1) : s.runCores.cfg Obj.CORE_RUN = 1 ∧
    s.runCores.core.harts = .running :: List.replicate 31 .waitIpi ∧ s.runCores.core.mem = s.core.mem := by
  rw [State.runCores, if_neg (by simpa using h)]
  exact ⟨State.cfg_latch_self _ _ _, rfl, rfl⟩

/-- Settles O33: for each control its effect and the row that writes it. -/
theorem epochTimeLogAndCoreControls : Obligations.EpochTimeLogAndCoreControls := by
  unfold Obligations.EpochTimeLogAndCoreControls
  refine ⟨fun dt port sess m r i s h => ?epochs, fun dt port sess m r i s h => ?others⟩
  all_goals
    obtain ⟨u, hu⟩ : ∃ u, Heard dt (port, sess) s u := ⟨_, heard _ _ _⟩
  case epochs =>
    refine ⟨u, hu.eq, fun ho => ?discard, fun ho => ?arm, fun ho => ?cancel, fun ho => ?resync⟩
    case discard =>
      obtain ⟨x, hx⟩ := hu.session (State.accepted_of_accepts h).executes
      obtain ⟨hstage, hep⟩ := State.discardStage_effect hx
      exact ⟨_, hu.exec_control h ho (u.control_epochDiscard _ _ · _) (writes_of_accepts h ho) rfl, hstage, hep.trans hu.ep⟩
    case arm =>
      refine ⟨_, hu.exec_control h ho (u.control_epochAtArm _ _ · _) (writes_of_accepts h ho) rfl, ?_, fun hv => ?_, fun hv => ?_⟩
      · have hdict : ((u.latch Obj.EPOCH_AT_ARM i.value).writeArm i.value).dict = (u.latch Obj.EPOCH_AT_ARM i.value).dict := by
          by_cases hv : i.value = 1
          · rw [hv]
            exact (State.writeArm_one _).1
          · exact (State.writeArm_other _ hv).1
        rw [State.cfg, hdict, ← State.cfg]
        exact State.cfg_latch_self _ _ _
      · rw [hv]
        obtain ⟨-, harmed, hanswer, hstate⟩ := (u.latch Obj.EPOCH_AT_ARM 1).writeArm_one
        refine ⟨?_, hanswer, fun h => hstate (by rw [← hu.ep] at h; exact h)⟩
        rw [harmed, State.cfg_latch_ne _ _ _ _ (by decide), hu.cfg]
      · obtain ⟨-, harmed, hstate⟩ := (u.latch Obj.EPOCH_AT_ARM i.value).writeArm_other hv
        exact ⟨harmed, fun h => hstate (by rw [← hu.ep] at h; exact h)⟩
    case cancel =>
      have row {st : Nat} {x : State} (hw : (if u.cancelLate then (1, u) else (0, u.writeCancel)) = (st, x)) :
          exec (.epochAtCancel dt port sess m) s = .next (x.written (port, sess) m i st) :=
        hu.exec_control h ho (fun _ => (u.control_epochAtCancel _ _ _ _).trans (congrArg some hw)) (writes_of_accepts h ho) rfl
      refine ⟨fun late => row (if_pos late), fun early none_ => ?_, fun a early hi open_ => ?_⟩
      all_goals
        have run := row (if_neg (by rw [early]; exact Bool.false_ne_true))
      · rw [run, State.writeCancel, hu.ep, none_]
      · have cancels : u.writeCancel = u.sendCancel a := by
          simp only [State.writeCancel, hu.ep, hi, open_, beq_self_eq_true, if_true]
        exact ⟨_, run, by rw [cancels]; exact (State.sendCancel_effect _ a).1⟩
    case resync =>
      refine ⟨_, hu.exec_control h ho (u.control_epochAtResync _ _ · _) (writes_of_accepts h ho) rfl, ?_⟩
      rw [State.writeResync_ep, hu.ep]
  case others =>
    refine ⟨u, hu.eq, fun ho => ?time, fun ho => ?log, fun ho hv held => ?run, fun ho hv running => ?runs, fun ho hv => ?stop⟩
    case time =>
      have led : u.timeLed = s.timeLed := by simp only [State.timeLed, hu.cfg]
      have row {st : Nat} {x : State} (hw : (if u.timeLed then (1, u) else (0, u.writeTimeSet i.value)) = (st, x)) :
          exec (.timeSet dt port sess m) s = .next (x.written (port, sess) m i st) :=
        hu.exec_control h ho (fun _ => (u.control_timeSet _ _ _ _).trans (congrArg some hw)) (writes_of_accepts h ho) rfl
      refine ⟨fun other => row (if_pos (led.trans other)),
        fun own => ⟨_, row (if_neg (by rw [led, own]; exact Bool.false_ne_true)), rfl, hu.clock, ?_⟩⟩
      rw [State.writeTimeSet, State.stepTime, State.ctr_bump_self]
      exact congrArg (fun n => Nat.min u64Max (n + 1)) (hu.ctr _)
    case log =>
      exact ⟨_, hu.exec_control h ho (u.control_errLogClear _ _ · _) (writes_of_accepts h ho) rfl, rfl,
        State.cfg_latch_self _ _ _, hu.ctr⟩
    case run =>
      obtain ⟨hcfg, hharts, hmem⟩ := State.runCores_of_held fun same => held ((hu.cfg _).symm.trans same)
      exact ⟨_, hu.exec_control h ho (fun _ => (u.control_coreRun _ _ _ _).trans
        (congrArg (fun x => some (0, x)) (if_pos (beq_iff_eq.mpr hv)))) (writes_valued_of_accepts h ho (by simp [hv])) rfl, hcfg, hharts,
        hmem.trans (congrArg (·.mem) hu.core)⟩
    case runs =>
      have already : u.runCores = u := if_pos (beq_iff_eq.mpr ((hu.cfg _).trans running))
      exact hu.exec_control (x := u) h ho
        (fun _ => (u.control_coreRun _ _ _ _).trans
          (congrArg (fun x => some (0, x)) ((if_pos (beq_iff_eq.mpr hv)).trans already)))
        (writes_valued_of_accepts h ho (by simp [hv])) rfl
    case stop =>
      obtain ⟨hcfg, hharts, hmem⟩ := u.holdCores_effect
      exact ⟨_, hu.exec_control h ho (fun _ => (u.control_coreRun _ _ _ _).trans
        (congrArg (fun x => some (0, x)) (if_neg (by simp [hv])))) (writes_valued_of_accepts h ho (by simp [hv])) rfl, hcfg, hharts,
        hmem.trans (congrArg (·.mem) hu.core)⟩

end Sys2Proof.Machine
end

section
/-!
PROOFS. The semaphore (R54, R406 to R411).
-/

namespace Sys2Proof.Machine

/-! ### An event leaves every staging area -/

/-- Sessions that change in something else keep their staging areas. -/
theorem State.stageOf_map (s : State) (f : Session → Session) (k : Nat × Nat)
    (hf : ∀ y, (f y).port = y.port ∧ (f y).num = y.num ∧ (f y).stage = y.stage) :
    State.stageOf { s with mgmt := { s.mgmt with sessions := s.mgmt.sessions.map f } } k = s.stageOf k := by
  have same : (fun y : Session => (y.port, y.num) == k) ∘ f = fun y => (y.port, y.num) == k := by
    funext y
    obtain ⟨hport, hnum, -⟩ := hf y
    simp [hport, hnum]
  simp only [State.stageOf, State.sess?, List.find?_map, same]
  cases s.mgmt.sessions.find? fun y => (y.port, y.num) == k with
  | none => rfl
  | some x => exact (hf x).2.2

theorem State.stageOf_sendEventTo (s : State) (x : Session) (body : Bytes) (k : Nat × Nat) :
    (s.sendEventTo x body).stageOf k = s.stageOf k := by
  unfold State.sendEventTo
  extract_lets ss _ s1
  obtain ⟨_, _, _, _, _, h⟩ := s1.sendOmp_part x.port x.num (ompHeader 0x09 false 0 0 48 0 (x.evSeq + 1) ++ body)
  rw [h]
  refine s.stageOf_map _ k fun y => ?_
  split <;> exact ⟨rfl, rfl, rfl⟩

theorem State.stageOf_raise (s : State) (code cls obj : Nat) (detail : Bytes) (only : Option (Nat × Nat)) (k : Nat × Nat) :
    (s.raise code cls obj detail only).stageOf k = s.stageOf k := by
  unfold State.raise
  extract_lets n body lg lg' _ s1
  split
  · rfl
  · exact List.foldlRecOn (motive := fun a : State => a.stageOf k = s.stageOf k) _ _ rfl
      fun a ha x _ => (a.stageOf_sendEventTo x body k).trans ha

/-! ### Granting and freeing -/

theorem Told.frame_mgmt {s t : State} (h : Told s t) : t.mgmt.holder = s.mgmt.holder ∧ t.mgmt.waiting = s.mgmt.waiting ∧
    t.mgmt.leaseEnd = s.mgmt.leaseEnd := by
  rw [h.part]
  exact ⟨rfl, rfl, rfl⟩

theorem State.setStage_mgmt (s : State) (k : Nat × Nat) (st : Staging) :
    (s.setStage k st).mgmt.holder = s.mgmt.holder ∧ (s.setStage k st).mgmt.waiting = s.mgmt.waiting := by
  unfold State.setStage
  split <;> exact ⟨rfl, rfl⟩

theorem State.ctr_of_dict {s t : State} (h : t.dict = s.dict) (o : Nat) : t.ctr o = s.ctr o := by
  rw [State.ctr, h, ← State.ctr]

theorem State.grantSem_frame (s : State) (k : Nat × Nat) : (s.grantSem k).mgmt.holder = some k ∧
    (s.grantSem k).mgmt.waiting = s.mgmt.waiting ∧
    (s.grantSem k).mgmt.leaseEnd = s.clock + s.cfg Obj.MGMT_SEM_LEASE_S * 1000000000 ∧
    (s.grantSem k).ctr Obj.MGMT_SEM_GRANTS = Nat.min u64Max (s.ctr Obj.MGMT_SEM_GRANTS + 1) ∧
    (s.grantSem k).ctr Obj.MGMT_SEM_LAPSES = s.ctr Obj.MGMT_SEM_LAPSES := by
  unfold State.grantSem
  extract_lets s1
  obtain ⟨-, hdict, -, -, hclock, -⟩ := s.setStage_frame k Staging.none_
  have hlease : s1.leaseNs = s.cfg Obj.MGMT_SEM_LEASE_S * 1000000000 := by
    rw [State.leaseNs, State.cfg_bump, State.cfg, hdict, ← State.cfg]
  generalize s1.leaseNs = lease at hlease ⊢
  have hctr (o : Nat) : (s.setStage k Staging.none_).ctr o = s.ctr o := by rw [State.ctr, hdict, ← State.ctr]
  have hmgmt (o : Nat) :
      State.ctr { s1 with mgmt := { s1.mgmt with holder := some k, leaseEnd := s1.clock + lease } } o = s1.ctr o :=
    State.ctr_of_dict rfl o
  have told := State.raise_told { s1 with mgmt := { s1.mgmt with holder := some k, leaseEnd := s1.clock + lease } }
    0x0001 0 0 (toBe 1 (holderByte k)) (some k)
  obtain ⟨hholder, hwaiting, hlend⟩ := told.frame_mgmt
  refine ⟨hholder, hwaiting.trans (s.setStage_mgmt k _).2, ?_, (told.ctr _ (by decide)).trans ?_,
    (told.ctr _ (by decide)).trans ?_⟩
  · rw [hlend, hlease]
    exact congrArg (· + s.cfg Obj.MGMT_SEM_LEASE_S * 1000000000) hclock
  · rw [hmgmt, State.ctr_bump_self, hctr]
  · rw [hmgmt, State.ctr_bump_ne _ _ _ (by decide), hctr]

theorem State.grantSem_stage {s : State} {k : Nat × Nat} {x : Session} (h : s.sess? k = some x) :
    (s.grantSem k).stageOf k = Staging.none_ := by
  rw [State.grantSem, State.stageOf_raise]
  exact State.stageOf_setStage h Staging.none_

/-- What freeing does before the next session is granted the semaphore: waiting sessions and the count of lapses stay. -/
structure Passes (s t : State) : Prop where
  waiting : t.mgmt.waiting = s.mgmt.waiting
  lapses : t.ctr Obj.MGMT_SEM_LAPSES = s.ctr Obj.MGMT_SEM_LAPSES

theorem Passes.refl (s : State) : Passes s s := ⟨rfl, rfl⟩

theorem Passes.trans {s t u : State} (h : Passes s t) (g : Passes t u) : Passes s u :=
  ⟨g.waiting.trans h.waiting, g.lapses.trans h.lapses⟩

theorem State.discardStage_passes (s : State) (k : Nat × Nat) (reason : Nat) : Passes s (s.discardStage k reason) := by
  unfold State.discardStage
  extract_lets st s1
  have h1 : Passes s s1 := by
    refine ⟨(s.setStage_mgmt k _).2, (State.ctr_bump_ne _ _ _ (by decide)).trans ?_⟩
    rw [State.ctr, (s.setStage_frame k _).2.1, ← State.ctr]
  split
  · exact .refl s
  · split
    · exact h1
    · have told := s1.raise_told 0x0003 0 0 (toBe 2 st.vals.length ++ toBe 1 reason) none
      exact h1.trans ⟨told.frame_mgmt.2.1, told.ctr _ (by decide)⟩

/-- The state with what giving up a firmware write changes. -/
def State.abandonPut (s : State) (val : Store) (img : Images) (free : Nat) : State :=
  { s with dict := { s.dict with val := val }, img := img, free := free }

theorem State.fwAbandon_part (s : State) (n : Nat) : ∃ val img free, s.fwAbandon n = s.abandonPut val img free := by
  unfold State.fwAbandon State.fwStatus
  extract_lets r
  split <;> exact ⟨_, _, _, rfl⟩

theorem State.abandonChan_part (s : State) (c : Chan) : ∃ val img free, s.abandonChan c = s.abandonPut val img free := by
  unfold State.abandonChan
  repeat' split
  · exact s.fwAbandon_part _
  · exact ⟨_, _, _, rfl⟩
  · exact ⟨_, _, _, rfl⟩

theorem State.dropChans_part (s : State) (k : Nat × Nat) (p : Chan → Bool) : ∃ sessions val img free,
    s.dropChans k p = State.abandonPut { s with mgmt := { s.mgmt with sessions := sessions } } val img free := by
  unfold State.dropChans
  split
  · exact ⟨_, _, _, _, rfl⟩
  next x _ =>
    extract_lets s1
    have h1 : ∃ val img free, s1 = s.abandonPut val img free := by
      refine List.foldlRecOn (motive := fun a : State => ∃ val img free, a = s.abandonPut val img free) _ _
        ⟨_, _, _, rfl⟩ fun a ha c _ => ?_
      obtain ⟨_, _, _, rfl⟩ := ha
      obtain ⟨_, _, _, h⟩ := State.abandonChan_part (s.abandonPut _ _ _) c
      exact ⟨_, _, _, h⟩
    obtain ⟨val, img, free, h1⟩ := h1
    rw [h1]
    exact ⟨((s.abandonPut val img free).setSess { x with chans := x.chans.filter fun c => !(p c) }).mgmt.sessions, val, img,
      free, rfl⟩

theorem State.dropChans_passes (s : State) (k : Nat × Nat) (p : Chan → Bool) : Passes s (s.dropChans k p) := by
  obtain ⟨_, _, _, _, h⟩ := s.dropChans_part k p
  rw [h]
  exact ⟨rfl, rfl⟩

theorem State.grantNext_effect {s : State} (h : s.mgmt.holder = none) : s.grantNext.mgmt.holder = s.mgmt.waiting.head? ∧
    s.grantNext.mgmt.waiting = s.mgmt.waiting.tail ∧ s.grantNext.ctr Obj.MGMT_SEM_LAPSES = s.ctr Obj.MGMT_SEM_LAPSES := by
  unfold State.grantNext
  split
  next k t hw =>
    obtain ⟨hholder, hwaiting, -, -, hlapses⟩ := State.grantSem_frame { s with mgmt := { s.mgmt with waiting := t } } k
    rw [hw]
    exact ⟨hholder, hwaiting, hlapses⟩
  next hw =>
    exact ⟨h.trans (by rw [hw]; rfl), by rw [hw]; rfl, rfl⟩

/-- The holder's staging area and its channels for writing are gone, and no session holds the semaphore. -/
def State.unheld (s : State) (k : Nat × Nat) (lapse : Bool) : State :=
  let s2 := (s.discardStage k (if lapse then 1 else 2)).dropChans k fun c => c.wr
  { s2 with mgmt := { s2.mgmt with holder := none } }

theorem State.unheld_passes (s : State) (k : Nat × Nat) (lapse : Bool) : Passes s (s.unheld k lapse) :=
  ((s.discardStage_passes k _).trans (State.dropChans_passes _ k _)).trans ⟨rfl, rfl⟩

theorem State.freeSem_of_held {s : State} {k : Nat × Nat} (h : s.mgmt.holder = some k) (lapse : Bool) : s.freeSem lapse =
    (if lapse then ((s.unheld k lapse).bump Obj.MGMT_SEM_LAPSES).raise 0x0002 0 0 (toBe 1 (holderByte k))
      else s.unheld k lapse).grantNext := by
  simp only [State.freeSem, h, State.unheld]

/-- The first waiting session holds the freed semaphore, and a lapse is counted. -/
theorem State.freeSem_effect {s : State} {k : Nat × Nat} (h : s.mgmt.holder = some k) (lapse : Bool) :
    (s.freeSem lapse).mgmt.holder = s.mgmt.waiting.head? ∧ (s.freeSem lapse).mgmt.waiting = s.mgmt.waiting.tail ∧
    (lapse = true →
      (s.freeSem lapse).ctr Obj.MGMT_SEM_LAPSES = Nat.min u64Max (s.ctr Obj.MGMT_SEM_LAPSES + 1)) := by
  rw [State.freeSem_of_held h]
  have pass := s.unheld_passes k lapse
  have none_ : (s.unheld k lapse).mgmt.holder = none := rfl
  generalize s.unheld k lapse = s3 at pass none_
  generalize h4' : (if lapse = true then _ else s3) = s4
  have h4 : s4.mgmt.holder = none ∧ s4.mgmt.waiting = s.mgmt.waiting ∧
      (lapse = true → s4.ctr Obj.MGMT_SEM_LAPSES = Nat.min u64Max (s.ctr Obj.MGMT_SEM_LAPSES + 1)) := by
    subst h4'
    cases lapse with
    | false => exact ⟨none_, pass.waiting, nofun⟩
    | true =>
      have told := (s3.bump Obj.MGMT_SEM_LAPSES).raise_told 0x0002 0 0 (toBe 1 (holderByte k)) none
      obtain ⟨hholder, hwaiting, -⟩ := told.frame_mgmt
      refine ⟨hholder.trans none_, hwaiting.trans pass.waiting, fun _ => (told.ctr _ (by decide)).trans ?_⟩
      rw [State.ctr_bump_self, pass.lapses]
  obtain ⟨hholder, hwaiting, hlapses⟩ := h4
  obtain ⟨next, rest, count⟩ := State.grantNext_effect hholder
  exact ⟨by rw [next, hwaiting], by rw [rest, hwaiting], fun hl => by rw [count, hlapses hl]⟩

/-! ### SEM -/

section
variable {s : State} {k : Nat × Nat} {m : Bytes}

theorem State.doOp_acquire (range : ompRange m = false) (hop : ompOp m = 10) (body : ompBody m = []) (aux : ompAux m = 1) :
    s.doOp k m = (Reply.of (s.semAcquire k).1, (s.semAcquire k).2) := by
  simp [State.doOp, range, hop, State.doSem, body, aux]

theorem State.doOp_release (range : ompRange m = false) (hop : ompOp m = 10) (body : ompBody m = []) (aux : ompAux m = 2) :
    s.doOp k m = (Reply.of (s.semRelease k).1, (s.semRelease k).2) := by
  simp [State.doOp, range, hop, State.doSem, body, aux]

theorem State.semAcquire_of_free (free : s.mgmt.holder = none) (first : s.mgmt.waiting = []) :
    s.semAcquire k = (0, s.grantSem k) := by simp [State.semAcquire, free, first]

theorem State.semAcquire_of_mine (mine : s.mgmt.holder = some k) : s.semAcquire k = (0, s) := by
  simp [State.semAcquire, mine]

theorem State.semAcquire_of_held (held : s.mgmt.holder ≠ none) (other : s.mgmt.holder ≠ some k)
    (fresh : k ∉ s.mgmt.waiting) : s.semAcquire k = if 16 ≤ s.mgmt.waiting.length then (1, s)
      else (5, { s with mgmt := { s.mgmt with waiting := s.mgmt.waiting ++ [k] } }) := by
  have held' : s.mgmt.holder.isNone = false := by
    rw [Option.isNone_eq_false_iff]
    exact Option.isSome_iff_ne_none.mpr held
  simp [State.semAcquire, other, held', fresh]

theorem State.semRelease_of_holder (mine : s.mgmt.holder = some k) : s.semRelease k = (0, s.freeSem false) := by
  simp [State.semRelease, mine]

theorem State.semRelease_of_other (other : s.mgmt.holder ≠ some k) :
    s.semRelease k = if k ∈ s.mgmt.waiting then (0, s.leaveQueue k) else (4, s) := by
  simp [State.semRelease, other]

end

/-- A heartbeat sets the end of the lease alone. -/
theorem State.heartbeat_effect (s : State) : ∃ n, n = s.clock + s.cfg Obj.MGMT_SEM_LEASE_S * 1000000000 ∧
    s.heartbeat = { s with mgmt := { s.mgmt with leaseEnd := n } } :=
  ⟨s.clock + s.leaseNs, by rw [State.leaseNs], rfl⟩

theorem State.control_mgmtSemHeartbeat (s : State) (k : Nat × Nat) (r : ObjRow) (e v : Nat) :
    s.control k r Obj.MGMT_SEM_HEARTBEAT e v = some (0, s.heartbeat) := rfl

theorem exec_leaseLapse {s : State} {dt : Nat} {k : Nat × Nat} (alive : s.alive = true) (avail : (s.tick dt).unavailable = false)
    (hk : s.mgmt.holder = some k) (due : s.mgmt.leaseEnd ≤ s.clock + dt) :
    exec (.leaseLapse dt) s = .next ((s.tick dt).freeSem true) := by
  have hk' : (s.tick dt).mgmt.holder = some k := hk
  have due' : (s.tick dt).mgmt.leaseEnd ≤ (s.tick dt).clock := due
  refine show execLeaseLapse .. = .next _ from cmd_then ?_
  simp only [hk', Option.isSome_some, avail, Bool.not_false, Bool.and_true, Bool.and_eq_true, decide_eq_true_eq]
  exact ⟨alive, due'⟩

/-- Settles O34: the branches of `semAcquire` and `semRelease`, `grantSem` and `freeSem`. -/
theorem theSemaphoreHasOneHolder : Obligations.TheSemaphoreHasOneHolder := by
  unfold Obligations.TheSemaphoreHasOneHolder
  intro dt port sess m r i s
  obtain ⟨u, hu⟩ : ∃ u, Heard dt (port, sess) s u := ⟨_, heard _ _ _⟩
  refine ⟨fun h hop body => ?sem, fun h ho => ?heartbeat, fun k alive avail hk due => ?lapse⟩
  case sem =>
    have range := ompRange_of_wellPut h
    have acquire (haux : ompAux m = 1) : exec (.semAcquire dt port sess m) s =
        .next ((u.semAcquire (port, sess)).2.answered (port, sess) m (Reply.of (u.semAcquire (port, sess)).1)) := by
      rw [exec_of_wellPut (c := .semAcquire dt port sess m) rfl (by simp [hop, haux]) h, ← hu.eq,
        State.doOp_acquire range hop body haux]
    have release (haux : ompAux m = 2) : exec (.semRelease dt port sess m) s =
        .next ((u.semRelease (port, sess)).2.answered (port, sess) m (Reply.of (u.semRelease (port, sess)).1)) := by
      rw [exec_of_wellPut (c := .semRelease dt port sess m) rfl (by simp [hop, haux]) h, ← hu.eq,
        State.doOp_release range hop body haux]
    obtain ⟨x, hx⟩ := hu.session ((State.wellPut_iff _ _ _).mp h).1
    rw [← hu.eq, ← hu.holder, ← hu.waiting]
    refine ⟨fun haux free first => ?_, fun haux mine => ?_, fun haux held other new => ⟨fun room => ?_, fun full => ?_⟩,
      fun haux mine => ?_, fun haux other waits => ?_, fun haux other new => ?_⟩
    · have run := acquire haux
      rw [State.semAcquire_of_free free first] at run
      obtain ⟨hholder, -, hlease, hgrants, -⟩ := u.grantSem_frame (port, sess)
      refine ⟨_, run, hholder, State.grantSem_stage hx, ?_, ?_⟩
      · rw [hlease, hu.clock, hu.cfg]
      · rw [hgrants, hu.ctr]
    · have run := acquire haux
      rw [State.semAcquire_of_mine mine] at run
      exact run
    · have run := acquire haux
      rw [State.semAcquire_of_held held other new, if_neg (Nat.not_le.mpr room)] at run
      exact ⟨_, run, rfl, rfl⟩
    · have run := acquire haux
      rw [State.semAcquire_of_held held other new, if_pos full] at run
      exact run
    · have run := release haux
      rw [State.semRelease_of_holder mine] at run
      obtain ⟨next, rest, -⟩ := State.freeSem_effect mine false
      exact ⟨_, run, next, rest⟩
    · have run := release haux
      rw [State.semRelease_of_other other, if_pos waits] at run
      exact ⟨_, run, rfl, rfl⟩
    · have run := release haux
      rw [State.semRelease_of_other other, if_neg new] at run
      exact run
  case heartbeat =>
    have run := hu.exec_control (c := .mgmtSemHeartbeat dt port sess m) h ho (u.control_mgmtSemHeartbeat _ _ · _)
      (writes_of_accepts h ho) rfl
    obtain ⟨n, hn, heffect⟩ := u.heartbeat_effect
    rw [heffect] at run
    exact ⟨_, run, by rw [hn, hu.clock, hu.cfg], hu.holder⟩
  case lapse =>
    have hk' : (s.tick dt).mgmt.holder = some k := hk
    obtain ⟨next, rest, count⟩ := State.freeSem_effect hk' true
    exact ⟨_, exec_leaseLapse alive avail hk due, next, rest, count rfl⟩

end Sys2Proof.Machine
end

section
/-!
PROOFS. Bulk channels (R398 to R402).
-/

namespace Sys2Proof.Machine

/-! ### A session's channels -/

section
variable {s : State} {k : Nat × Nat} {c : Chan} {n : Nat}

theorem State.putChan_frame (s : State) (k : Nat × Nat) (c : Chan) : (s.putChan k c).mode = s.mode := by
  unfold State.putChan
  split <;> rfl

theorem State.chanBusy_putChan (s : State) (k : Nat × Nat) (c d : Chan) : (s.putChan k c).chanBusy d = s.chanBusy d := by
  rw [State.chanBusy, State.putChan_frame, State.chanBusy]

theorem State.sess?_of_chan (h : s.chan? k n = some c) : ∃ x, s.sess? k = some x ∧ c.num = n := by
  obtain ⟨x, hx, hc⟩ := Option.bind_eq_some_iff.mp h
  exact ⟨x, hx, by simpa using List.find?_some hc⟩

theorem State.sess?_putChan {x : Session} (h : s.sess? k = some x) (c : Chan) :
    (s.putChan k c).sess? k = some { x with chans := x.chans.filter (fun y => y.num != c.num) ++ [c] } := by
  simp only [State.putChan, h]
  exact State.sess?_setSess_self h rfl rfl

/-- A channel that is put into a session is found there. -/
theorem State.chan?_putChan {x : Session} (h : s.sess? k = some x) (c : Chan) : (s.putChan k c).chan? k c.num = some c := by
  have others : (x.chans.filter fun y => y.num != c.num).find? (fun y => y.num == c.num) = none := by simp
  rw [State.chan?, State.sess?_putChan h, Option.bind_some, List.find?_append, others]
  simp

/-- A channel that is aborted is no longer there. -/
theorem State.chan?_dropChans {x : Session} (h : s.sess? k = some x) (n : Nat) :
    (s.dropChans k fun y => y.num == n).chan? k n = none := by
  simp only [State.dropChans, h]
  generalize hs : List.foldl (fun (a : State) c => a.abandonChan c) s (x.chans.filter fun y => y.num == n) = t
  have sessions : t.sess? k = some x := by
    rw [← hs, ← h]
    refine List.foldlRecOn (motive := fun a : State => a.sess? k = s.sess? k) _ _ rfl fun a ha c _ => ?_
    obtain ⟨_, _, _, hpart⟩ := a.abandonChan_part c
    rw [hpart]
    exact ha
  rw [State.chan?, State.sess?_setSess_self (y := { x with chans := x.chans.filter fun y => !(y.num == n) }) sessions rfl rfl]
  simp [List.find?_filter]

end

/-! ### The requests -/

section
variable {s : State} {k : Nat × Nat} {m : Bytes} {c : Chan}

theorem State.doOp_open (range : ompRange m = false) (hop : ompOp m = 5) : s.doOp k m = s.doOpen k m := by
  simp [State.doOp, range, hop]

theorem State.doOp_data (range : ompRange m = false) (hop : ompOp m = 6) : s.doOp k m = s.doData k m := by
  simp [State.doOp, range, hop]

theorem State.doOp_close (range : ompRange m = false) (hop : ompOp m = 7) : s.doOp k m = s.doClose k m := by
  simp [State.doOp, range, hop]

theorem State.doOpen_refused {st : Nat} (len : (ompBody m).length = 16) (bad : st ≠ 0)
    (check : s.openStatus k (ompStagedView m) (beNat (slice (ompBody m) 0 3)) (beNat (slice (ompBody m) 3 1))
      (beNat (slice (ompBody m) 4 4)) (beNat (slice (ompBody m) 8 8)) = st) : s.doOpen k m = (Reply.of st, s) := by
  simp [State.doOpen, len, check, bad]

/-- The channel that an opening for reading makes. -/
def State.readChan (s : State) (k : Nat × Nat) (m : Bytes) (r : ObjRow) (n : Nat) : Chan :=
  { num := n, obj := beNat (slice (ompBody m) 0 3), wr := false, staged := ompStagedView m, first := beNat (slice (ompBody m) 4 4),
    len := s.readLength k (ompStagedView m) r (beNat (slice (ompBody m) 0 3)) (beNat (slice (ompBody m) 4 4))
      (beNat (slice (ompBody m) 8 8)),
    chunks := [], passed := none, last := s.clock }

theorem State.doOpen_reading {r : ObjRow} {n : Nat} {x : Session} (len : (ompBody m).length = 16)
    (dir : beNat (slice (ompBody m) 3 1) = 0)
    (check : s.openStatus k (ompStagedView m) (beNat (slice (ompBody m) 0 3)) 0 (beNat (slice (ompBody m) 4 4))
      (beNat (slice (ompBody m) 8 8)) = 0)
    (row : s.rowOf? (beNat (slice (ompBody m) 0 3)) = some r) (hx : s.sess? k = some x) (free : x.freeNum = some n) :
    s.doOpen k m = ({ status := 0, count := 0, aux := n, body := toBe 8 (s.readChan k m r n).len },
      s.putChan k (s.readChan k m r n)) := by
  simp [State.doOpen, len, dir, check, row, hx, free, State.readChan]

theorem State.doData_of_none (h : s.chan? k (ompAux m) = none) : s.doData k m = (Reply.of 2, s) := by
  simp [State.doData, h]

theorem State.doClose_of_none (h : s.chan? k (ompAux m) = none) : s.doClose k m = (Reply.of 2, s) := by
  simp [State.doClose, h]

/-- The channel of a request that is heard, with the instant of the request. -/
def State.heardOn (s : State) (c : Chan) : Chan := { c with last := s.clock }

theorem State.doData_writes (h : s.chan? k (ompAux m) = some c) (wr : c.wr = true) (free : s.chanBusy c = false)
    (len : 8 ≤ (ompBody m).length) : s.doData k m =
      (Reply.of ((s.putChan k (s.heardOn c)).writeChunk k (s.heardOn c) (beNat (slice (ompBody m) 0 8)) ((ompBody m).drop 8)).1,
        ((s.putChan k (s.heardOn c)).writeChunk k (s.heardOn c) (beNat (slice (ompBody m) 0 8)) ((ompBody m).drop 8)).2) := by
  have free' : (s.putChan k (s.heardOn c)).chanBusy (s.heardOn c) = false := (s.chanBusy_putChan _ _ _).trans free
  obtain ⟨num, obj, w, staged, first, l, chunks, passed, last⟩ := c
  obtain rfl : w = true := wr
  rw [State.heardOn] at *
  simp [State.doData, h, free', Nat.not_lt.mpr len]

theorem State.doData_reads (h : s.chan? k (ompAux m) = some c) (rd : c.wr = false) (len : (ompBody m).length = 12) :
    s.doData k m = (s.putChan k (s.heardOn c)).readChunk k (s.heardOn c) (beNat (slice (ompBody m) 0 8))
      (beNat (slice (ompBody m) 8 4)) := by
  have free' : (s.putChan k (s.heardOn c)).chanBusy (s.heardOn c) = false := by simp [State.chanBusy, State.heardOn, rd]
  obtain ⟨num, obj, w, staged, first, l, chunks, passed, last⟩ := c
  obtain rfl : w = false := rd
  rw [State.heardOn] at *
  simp [State.doData, h, free', len]

theorem State.doClose_finishes (h : s.chan? k (ompAux m) = some c) (free : s.chanBusy c = false)
    (body : ompBody m = [0, 0, 0, 0]) : s.doClose k m =
      (Reply.of ((s.putChan k (s.heardOn c)).finishChan k (s.heardOn c)).1,
        ((s.putChan k (s.heardOn c)).finishChan k (s.heardOn c)).2) := by
  have free' : (s.putChan k (s.heardOn c)).chanBusy (s.heardOn c) = false := (s.chanBusy_putChan _ _ _).trans free
  have hdata : ([0, 0, 0, 0] : Bytes).length = 4 ∧ beNat (slice [0, 0, 0, 0] 0 1) = 0 ∧ zeros (List.drop 1 [0, 0, 0, 0]) = true := by
    decide
  obtain ⟨h1, h2, h3⟩ := hdata
  rw [State.heardOn] at *
  simp only [State.doClose, h, body, h1, h2, h3, free']
  rfl

theorem State.doClose_aborts (h : s.chan? k (ompAux m) = some c) (body : ompBody m = [1, 0, 0, 0]) : s.doClose k m =
    (Reply.of 0, (s.putChan k (s.heardOn c)).dropChans k fun y => y.num == c.num) := by
  have hdata : ([1, 0, 0, 0] : Bytes).length = 4 ∧ beNat (slice [1, 0, 0, 0] 0 1) = 1 ∧ zeros (List.drop 1 [1, 0, 0, 0]) = true := by
    decide
  obtain ⟨h1, h2, h3⟩ := hdata
  simp only [State.doClose, h, body, h1, h2, h3]
  rfl

end

theorem exec_bulkIdleTimeout {s : State} {dt port sess n : Nat} {c : Chan} (alive : s.alive = true)
    (hc : s.chan? (port, sess) n = some c) (due : c.last + 10000000000 ≤ s.clock + dt) :
    exec (.bulkIdleTimeout dt port sess n) s = .next ((s.tick dt).dropChans (port, sess) fun y => y.num == n) := by
  have hc' : (s.tick dt).chan? (port, sess) n = some c := hc
  have due' : (s.tick dt).chanStale c = true := decide_eq_true due
  refine show execBulkIdleTimeout .. = .next _ from cmd_then ?_
  simp only [hc', due', Bool.and_true]
  exact alive

/-- Settles O35: the branches of `doOpen`, `doData` and `doClose`. -/
theorem bulkChannelsOpenCarryAndClose : Obligations.BulkChannelsOpenCarryAndClose := by
  unfold Obligations.BulkChannelsOpenCarryAndClose
  intro dt port sess m s
  obtain ⟨u, hu⟩ : ∃ u, Heard dt (port, sess) s u := ⟨_, heard _ _ _⟩
  refine ⟨fun h => ⟨u, hu.eq, fun hop len => ⟨fun st bad check => ?refused, fun r n x dir check row hx free => ?opened⟩,
    fun _ none_ => ⟨fun hop => ?noData, fun hop how => ?noFinish, fun hop how => ?noAbort⟩, fun c hc => ?channel⟩,
    fun n c alive hc due => ?idle⟩
  case idle =>
    obtain ⟨x, hx, -⟩ := State.sess?_of_chan hc
    exact ⟨_, exec_bulkIdleTimeout alive hc due, State.chan?_dropChans (s := s.tick dt) hx n⟩
  all_goals
    have range := ompRange_of_wellPut h
    have opens (hop : ompOp m = 5) := exec_of_wellPut (c := .bulkOpen dt port sess m) rfl (by simp [hop]) h
    have data (hop : ompOp m = 6) := exec_of_wellPut (c := .bulkData dt port sess m) rfl (by simp [hop]) h
    have finish (hop : ompOp m = 7) (how : closeHow m ≠ 1) :=
      exec_of_wellPut (c := .bulkCloseFinish dt port sess m) rfl (by simp [hop, how]) h
    have abort (hop : ompOp m = 7) (how : closeHow m = 1) :=
      exec_of_wellPut (c := .bulkCloseAbort dt port sess m) rfl (by simp [hop, how]) h
    rw [← hu.eq] at opens data finish abort
  case refused => rw [opens hop, State.doOp_open range hop, State.doOpen_refused len bad check]
  case opened =>
    refine ⟨u.putChan (port, sess) (u.readChan (port, sess) m r n), u.readChan (port, sess) m r n, State.chan?_putChan hx _, rfl, rfl, hu.clock, ?_⟩
    rw [opens hop, State.doOp_open range hop, State.doOpen_reading len dir check row hx free]
  case noData => rw [data hop, State.doOp_data range hop, State.doData_of_none none_]
  case noFinish => rw [finish hop how, State.doOp_close range hop, State.doClose_of_none none_]
  case noAbort => rw [abort hop how, State.doOp_close range hop, State.doClose_of_none none_]
  case channel =>
    have heardOn : { c with last := s.clock + dt } = u.heardOn c := by rw [State.heardOn, hu.clock]
    rw [heardOn]
    refine ⟨_, rfl, fun hop wr free len => ?_, fun hop rd len => ?_, fun hop body free => ?_, fun hop body => ?_⟩
    · rw [data hop, State.doOp_data range hop, State.doData_writes hc wr free len]
    · rw [data hop, State.doOp_data range hop, State.doData_reads hc rd len]
    · rw [finish hop (by rw [closeHow, body]; decide), State.doOp_close range hop, State.doClose_finishes hc free body]
    · obtain ⟨x, hx, hnum⟩ := State.sess?_of_chan hc
      refine ⟨_, (abort hop (by rw [closeHow, body]; decide)).trans ?_, State.chan?_dropChans (State.sess?_putChan hx (u.heardOn c)) _⟩
      rw [State.doOp_close range hop, State.doClose_aborts hc body, hnum]

end Sys2Proof.Machine
end

section
/-!
PROOFS. Key slots (R362, R365) and checkpoints of associations (R373).
-/

namespace Sys2Proof.Machine

theorem State.control_keySlotWrite (s : State) (k : Nat × Nat) (r : ObjRow) (e v : Nat) :
    s.control k r Obj.KEY_SLOT_WRITE e v = some (s.writeSlot v) := rfl

theorem State.control_keySlotErase (s : State) (k : Nat × Nat) (r : ObjRow) (e v : Nat) :
    s.control k r Obj.KEY_SLOT_ERASE e v = some (s.eraseSlot v) := rfl

/-! ### Loading and erasing -/

theorem State.loadSlot_fails_or_loads (s : State) (n mode alg : Nat) (w : Bytes) :
    (s.loadSlot n mode alg w).1 = 0 ∨ (s.loadSlot n mode alg w).2.cry = s.cry := by
  unfold State.loadSlot
  split
  · exact .inr rfl
  · extract_lets
    split
    · exact .inr rfl
    · exact .inl rfl

theorem State.writeSlot_fails_or_loads (s : State) (v : Nat) : (s.writeSlot v).1 = 0 ∨ (s.writeSlot v).2.cry = s.cry := by
  unfold State.writeSlot
  extract_lets r n mode alg wlen w
  refine iteInduction (motive := fun a : Nat × State => a.1 = 0 ∨ a.2.cry = s.cry) (fun _ => .inr rfl) fun _ => ?_
  split
  · split
    · exact .inr rfl
    · exact s.loadSlot_fails_or_loads n mode alg w
  · exact s.loadSlot_fails_or_loads n mode alg w

theorem State.writeSlot_of_no_slot {s : State} {v : Nat} (h : 8192 ≤ beNat (slice (toBe 80 v) 0 2)) :
    s.writeSlot v = (2, s) := by
  unfold State.writeSlot
  extract_lets r n mode alg wlen w
  refine if_pos ?_
  rw [decide_eq_true h]
  rfl

theorem State.eraseSlot_of_empty {s : State} {n : Nat} (hn : n < 8192) (h : s.slot? n = none) : s.eraseSlot n = (0, s) := by
  simp [State.eraseSlot, Nat.not_le.mpr hn, h]

theorem State.eraseSlot_of_slot {s : State} {n : Nat} {x : Slot} (hn : n < 8192) (h : s.slot? n = some x) : s.eraseSlot n =
    (0, s.setCry { s.cry with slots := assoc s.cry.slots n { x with revoking := true } }) := by
  simp [State.eraseSlot, Nat.not_le.mpr hn, h]

/-! ### Zeroising -/

/-- The slot and what was derived from its key are gone. -/
def State.zeroised (s : State) (n : Nat) : State := s.setCry { s.cry with
  slots := dissoc s.cry.slots n
  kdf := s.cry.kdf.map fun d => (d.1, d.2.filter fun k => k.slot != n) }

theorem exec_keyZeroise {s : State} {dt n : Nat} {x : Slot} (alive : s.alive = true) (hx : s.slot? n = some x)
    (revoking : x.revoking = true) (unheld : ∀ h ∈ s.cry.held, h.slot ≠ n) (idle : s.keyRuns n = false) :
    exec (.keyZeroise dt n) s =
      .next ((((s.tick dt).zeroised n).bump Obj.KEY_ERASES).raise 0x0060 6 0 (toBe 2 n)) := by
  have hx' : (s.tick dt).slot? n = some x := hx
  have unheld' : ((s.tick dt).cry.held.any fun h => h.slot == n) = false := by simpa using unheld
  have idle' : (s.tick dt).keyRuns n = false := idle
  refine Eq.trans (show execKeyZeroise .. = .next _ from cmd_then ?_) rfl
  simp only [hx', revoking, unheld', idle', Bool.not_false, Bool.and_true]
  exact alive

theorem State.zeroised_effect (s : State) (n : Nat) : (s.zeroised n).slot? n = none ∧
    ∀ d ∈ (s.zeroised n).cry.kdf, ∀ x ∈ d.2, x.slot ≠ n := by
  refine ⟨lookup?_dissoc_self _ _, fun d hd x hx => ?_⟩
  obtain ⟨d', -, rfl⟩ := List.mem_map.mp hd
  simpa using (List.mem_filter.mp hx).2

theorem exec_saCheckpoint {s : State} {dt : Nat} (alive : s.alive = true) (due : s.cry.ckAt + 100000 ≤ s.clock + dt) :
    exec (.saCheckpoint dt) s = .next ((s.tick dt).setCry { s.cry with
      ckAt := s.clock + dt, sas := s.cry.sas.map fun p => (p.1, { p.2 with ckSeq := p.2.seq, ckMap := p.2.map }) }) := by
  refine Eq.trans (show execSaCheckpoint .. = .next _ from cmd_then ?_) rfl
  have due' : (s.tick dt).cry.ckAt + 100000 ≤ (s.tick dt).clock := due
  rw [Bool.and_eq_true, decide_eq_true_eq]
  exact ⟨alive, due'⟩

/-- Settles O37: `writeSlot` and `eraseSlot`, and the two commands of the device itself. -/
theorem keySlotsAreWrittenErasedAndZeroised : Obligations.KeySlotsAreWrittenErasedAndZeroised := by
  unfold Obligations.KeySlotsAreWrittenErasedAndZeroised
  intro dt port sess n m r i s
  obtain ⟨u, hu⟩ : ∃ u, Heard dt (port, sess) s u := ⟨_, heard _ _ _⟩
  refine ⟨fun h => ⟨fun ho => ?write, fun ho hv => ?erase⟩, fun x alive hx revoking unheld idle => ?zeroise,
    fun alive due => ?checkpoint⟩
  case write =>
    refine ⟨u, u.writeSlot i.value, hu.eq, hu.exec_control h ho (u.control_keySlotWrite _ _ · _) (writes_of_accepts h ho) rfl,
      fun hn => State.writeSlot_of_no_slot hn, ?_⟩
    rw [← hu.cry]
    exact u.writeSlot_fails_or_loads _
  case erase =>
    have slot : u.slot? i.value = s.slot? i.value := by rw [State.slot?, hu.cry, ← State.slot?]
    have row {st : Nat} {x : State} (hw : u.eraseSlot i.value = (st, x)) :
        exec (.keySlotErase dt port sess m) s = .next (x.written (port, sess) m i st) :=
      hu.exec_control h ho (fun _ => (u.control_keySlotErase _ _ _ _).trans (congrArg some hw)) (writes_of_accepts h ho) rfl
    rw [← hu.eq, ← slot]
    exact ⟨fun empty => row (State.eraseSlot_of_empty hv empty),
      fun x hx => ⟨_, row (State.eraseSlot_of_slot hv hx), lookup?_assoc_self _ _ _⟩⟩
  case zeroise =>
    have told := (((s.tick dt).zeroised n).bump Obj.KEY_ERASES).raise_told 0x0060 6 0 (toBe 2 n) none
    obtain ⟨-, -, -, -, -, -, -, -, -, -, -, -, -, -, hcry, -⟩ := told.frame
    obtain ⟨hslot, hkdf⟩ := (s.tick dt).zeroised_effect n
    refine ⟨_, exec_keyZeroise alive hx revoking unheld idle, ?_, ?_, (told.ctr _ (by decide)).trans ?_⟩
    · rw [State.slot?, hcry]
      exact hslot
    · rw [hcry]
      exact hkdf
    · exact State.ctr_bump_self ((s.tick dt).zeroised n) Obj.KEY_ERASES
  case checkpoint =>
    refine ⟨_, exec_saCheckpoint alive due, rfl, fun p hp => ?_⟩
    obtain ⟨p', -, rfl⟩ := List.mem_map.mp hp
    exact ⟨rfl, rfl⟩

end Sys2Proof.Machine
end

section
/-!
PROOFS. Requests for a mode (R431 to R441).
-/

namespace Sys2Proof.Machine

/-! ### The mode changes -/

theorem State.aplic_told (s : State) (src : Nat) : Told s (s.aplic src) := .of_part rfl rfl rfl

/-- The counter and the values that a change of mode sets. -/
def State.modeShown (s : State) (m : Mode) (reason : Nat) : State :=
  let s1 : State := { s with
    mode := { s.mode with mode := m }
    tm := if m == .handover then { s.tm with ipfix := [], ipfixOn := false } else s.tm }
  (((s1.latch Obj.MODE_CURRENT m.num).latch Obj.MODE_SINCE s.now).latch Obj.MODE_REASON reason).bump Obj.MODE_CHANGES

theorem State.setMode_told {s : State} {m : Mode} (h : s.mode.mode ≠ m) (reason : Nat) :
    Told (s.modeShown m reason) (s.setMode m reason) := by
  rw [State.setMode, if_neg (by simpa using h)]
  exact (State.raise_told _ _ _ _ _ _).trans (State.aplic_told _ _)

theorem State.setMode_same {s : State} {m : Mode} (h : s.mode.mode = m) (reason : Nat) : s.setMode m reason = s :=
  if_pos (beq_iff_eq.mpr h)

/-- Objects that show the mode. -/
def showsMode (o : Nat) : Bool := o == Obj.MODE_CURRENT || o == Obj.MODE_SINCE || o == Obj.MODE_REASON

/-- What a change of mode leaves. -/
theorem State.setMode_frame (s : State) (m : Mode) (reason : Nat) : (s.setMode m reason).mode = { s.mode with mode := m } ∧
    (s.setMode m reason).clock = s.clock ∧ (s.setMode m reason).now = s.now ∧ (s.setMode m reason).pwr = s.pwr ∧
    (s.setMode m reason).img = s.img ∧ (s.setMode m reason).ep = s.ep ∧ (s.setMode m reason).pkts = s.pkts ∧
    ∀ o, latchedAside o = false → showsMode o = false → (s.setMode m reason).cfg o = s.cfg o := by
  by_cases h : s.mode.mode = m
  · rw [State.setMode_same h]
    refine ⟨?_, rfl, rfl, rfl, rfl, rfl, rfl, fun _ _ _ => rfl⟩
    rw [← h]
  · have told := State.setMode_told h reason
    obtain ⟨hnow, hclock, -, -, hep, -, -, -, hpkts, -, hmode, -, -, hpwr, -, -, himg, -⟩ := told.frame
    refine ⟨hmode, hclock, hnow, hpwr, himg, hep, hpkts, fun o aside shows => ?_⟩
    simp only [showsMode, Bool.or_eq_false_iff, beq_eq_false_iff_ne] at shows
    obtain ⟨⟨h1, h2⟩, h3⟩ := shows
    rw [told.cfg0 aside, State.modeShown, State.cfg_bump, State.cfg_latch_ne _ _ _ _ h3,
      State.cfg_latch_ne _ _ _ _ h2, State.cfg_latch_ne _ _ _ _ h1]
    rfl

/-- The state with what the end of an activation changes. -/
def State.activationPut (s : State) (val : Store) (act : Option Activ) (free : Nat) : State :=
  { s with dict := { s.dict with val := val }, img := { s.img with act := act }, free := free }

theorem State.endActivation_part (s : State) (state status : Nat) :
    ∃ val, s.endActivation state status = s.activationPut val none s.free := ⟨_, rfl⟩

theorem State.endFree_part (s : State) (state : Nat) : ∃ val free, s.endFree state = s.activationPut val none free := by
  obtain ⟨val, h⟩ := (s.fresh 8).2.endActivation_part state ((s.fresh 8).1 % 11)
  exact ⟨val, _, h⟩

theorem State.cancelHandover_part (s : State) : ∃ val act free, s.cancelHandover = s.activationPut val act free := by
  unfold State.cancelHandover
  split
  · split
    · obtain ⟨val, free, h⟩ := s.endFree_part 6
      exact ⟨val, none, free, h⟩
    · exact ⟨s.dict.val, s.img.act, s.free, rfl⟩
  · exact ⟨s.dict.val, s.img.act, s.free, rfl⟩

/-! ### Entering DRAIN and DORMANT -/

theorem State.enterDrain_effect (s : State) : s.enterDrain.mode.mode = .drain ∧ s.enterDrain.pwr.drainAt = s.clock ∧
    s.enterDrain.pwr.drainForced = false := by
  unfold State.enterDrain
  obtain ⟨hmode, hclock, -⟩ := s.wakeUp.setMode_frame .drain 1
  obtain ⟨_, _, _, hcancel⟩ := (s.wakeUp.setMode .drain 1).cancelHandover_part
  rw [hcancel]
  extract_lets s1 st s2
  have h2 : s2.mode = s1.mode ∧ s2.clock = s1.clock := by
    unfold s2
    split <;> exact ⟨rfl, rfl⟩
  obtain ⟨h2mode, h2clock⟩ := h2
  obtain ⟨-, wake, -⟩ := s.stir_frame
  exact ⟨congrArg (·.mode) (h2mode.trans hmode), h2clock.trans (hclock.trans wake), rfl⟩

theorem State.netFall_mode (s : State) (n lst : Nat) : (s.netFall n lst).mode = s.mode := by
  unfold State.netFall
  split
  · obtain ⟨-, -, -, -, -, -, hmode, -⟩ :=
      (((s.latch (Obj.NET_LINK_STATE + n) lst).bump (Obj.NET_LINK_DOWNS + n)).discardPort_thinned n).frame
    exact hmode
  · rfl

theorem State.linkTo_mode (s : State) (l st : Nat) : (s.linkTo l st).mode = s.mode := by
  unfold State.linkTo
  split
  · rfl
  · split
    · obtain ⟨-, -, -, -, -, -, hmode, -⟩ := (((s.latchLink l st).bump (Obj.WV_LINK_DOWNS + l)).discardPort_thinned (16 + l)).frame
      exact hmode
    · split <;> rfl

theorem State.setLock_mode (s : State) (st : Nat) : (s.setLock st).mode = s.mode := by
  rcases s.setLock_told st with told | ⟨same, -⟩
  · obtain ⟨-, -, -, -, -, -, -, -, -, -, hmode, -⟩ := told.frame
    exact hmode
  · rw [same]

theorem State.chooseTime_mode (s : State) (was : Option Nat) : (s.chooseTime was).mode = s.mode := by
  unfold State.chooseTime
  extract_lets lost
  split
  · rfl
  · split
    · exact s.endSlew.setLock_mode 3
    · split <;> rfl

theorem State.linkDown_mode (s : State) (l : Nat) : (s.linkDown l).mode = s.mode :=
  (State.chooseTime_mode _ _).trans (State.linkTo_mode _ l 0)

theorem State.enterDormant_effect (s : State) (step : Nat) : (s.enterDormant step).mode.mode = .dormant ∧
    (s.enterDormant step).pwr.aim = step ∧ (s.enterDormant step).pwr.entering = true := by
  unfold State.enterDormant
  extract_lets s1 s2 s3 d lock s4
  have h1 : s1.mode = { s.mode with mode := .dormant } := by
    obtain ⟨hmode, -⟩ := s.setMode_frame .dormant 1
    obtain ⟨_, _, _, hcancel⟩ := ((s.setMode .dormant 1).latch Obj.MODE_DRAIN_DONE 0).cancelHandover_part
    exact (congrArg State.mode hcancel).trans hmode
  have h2 : s2.mode = s1.mode := List.foldlRecOn (motive := fun a : State => a.mode = s1.mode) _ _ rfl
    fun a ha n _ => (a.netFall_mode n _).trans ha
  have h3 : s3.mode = s2.mode := by
    refine List.foldlRecOn (motive := fun a : State => a.mode = s2.mode) _ _ rfl fun a ha l _ => ?_
    split
    · exact ha
    · exact (a.linkDown_mode l).trans ha
  have h4 : s4.mode = s3.mode := by
    unfold s4
    split
    · exact s3.setLock_mode 3
    · rfl
  have h : s4.mode.mode = .dormant := by rw [h4, h3, h2, h1]
  clear_value s4
  exact ⟨h, rfl, rfl⟩

/-! ### The requests -/

theorem State.control_modeRequest (s : State) (k : Nat × Nat) (r : ObjRow) (e v : Nat) :
    s.control k r Obj.MODE_REQUEST e v = some (s.writeModeRequest v) := rfl

/-- A drain has finished. -/
def State.drainDone (s : State) : Bool := s.mode.mode == .drain && s.cfg Obj.MODE_DRAIN_DONE == 1

theorem State.drainDone_iff (s : State) : s.drainDone = true ↔ s.mode.mode = .drain ∧ s.cfg Obj.MODE_DRAIN_DONE = 1 := by
  simp [State.drainDone]

theorem reset_pkts : State.reset.pkts = [] := rfl

theorem reset_mem : State.reset.core.mem = [] := rfl

theorem State.wipe_pkts (s : State) : s.wipe.pkts = [] := by simp [State.wipe, reset_pkts]

theorem State.wipe_mem (s : State) : s.wipe.core.mem = [] := by simp [State.wipe, reset_mem]

section
variable (s : State)

theorem State.request_drain : s.writeModeRequest 1 =
    if s.mode.mode == .service || s.mode.mode == .degraded then (0, s.enterDrain) else (1, s) := rfl

theorem State.request_vigil : s.writeModeRequest 2 = if s.drainDone then (0, s.chipReset 1) else (1, s) := rfl

theorem State.request_dormant {step : Nat} (h : step = 3 ∨ step = 4) : s.writeModeRequest step =
    if s.drainDone && s.hostsAsleep then (0, s.enterDormant step) else (1, s) := by
  rcases h with rfl | rfl <;> rfl

/-- An exit from DORMANT is under way, by the earlier reason where there is one. -/
def State.exiting : State := if s.pwr.exit.isSome then s else { s with pwr := { s.pwr with exit := some 1 } }

theorem State.request_service : s.writeModeRequest 5 =
    if s.mode.mode == .dormant && !s.pwr.entering && s.mode.step == 3 then (0, s.exiting) else (1, s) := rfl

theorem State.exiting_exit : s.exiting.pwr.exit = some (s.pwr.exit.getD 1) := by
  unfold State.exiting
  split
  next h =>
    obtain ⟨n, hn⟩ := Option.isSome_iff_exists.mp h
    rw [hn]
    rfl
  next h =>
    rw [Option.not_isSome_iff_eq_none.mp h]
    rfl

theorem State.chipReset_effect (reason : Nat) : (s.chipReset reason).pwr.rails = .boot ∧
    (s.chipReset reason).pwr.reason = reason ∧ (s.chipReset reason).pkts = [] ∧ (s.chipReset reason).core.mem = [] := by
  have hpkts := s.wipe_pkts
  have hmem := s.wipe_mem
  rw [State.chipReset]
  generalize s.wipe = t at hpkts hmem
  exact ⟨rfl, rfl, hpkts, hmem⟩

end

theorem State.hostsAsleep_of_heard {dt : Nat} {k : Nat × Nat} {s u : State} (hu : Heard dt k s u) :
    u.hostsAsleep = s.hostsAsleep := by
  have state (l : Nat) : u.linkState l = s.linkState l := hu.cfg _
  simp only [State.hostsAsleep, state, hu.hs]

/-- Settles O38: the branches of `writeModeRequest`. -/
theorem modesChangeOnRequest : Obligations.ModesChangeOnRequest := by
  unfold Obligations.ModesChangeOnRequest
  intro dt port sess m r i s h ho
  obtain ⟨u, hu⟩ : ∃ u, Heard dt (port, sess) s u := ⟨_, heard _ _ _⟩
  have row {c : Instr} {p : Nat → Bool} {st : Nat} {x : State}
      (hc : exec c s = ompCmd dt s (writes m Obj.MODE_REQUEST p) (port, sess) m) (hp : p i.value = true)
      (hw : u.writeModeRequest i.value = (st, x)) : exec c s = .next (x.written (port, sess) m i st) :=
    hu.exec_control h ho (fun _ => (u.control_modeRequest _ _ _ _).trans (congrArg some hw)) (writes_valued_of_accepts h ho hp) hc
  have mode : u.mode = s.mode := hu.mode
  have done : u.drainDone = s.drainDone := by rw [State.drainDone, mode, hu.cfg, ← State.drainDone]
  have asleep := State.hostsAsleep_of_heard hu
  refine ⟨u, hu.eq, fun hv => ⟨fun from_ => ?drain, fun h1 h2 => ?noDrain⟩, fun hv => ⟨fun h1 h2 => ?vigil, fun not => ?noVigil⟩,
    fun step c hc => ⟨fun h1 h2 h3 => ?dormant, fun not => ?noDormant⟩, fun hv => ⟨fun h1 h2 h3 => ?exit, fun not => ?noExit⟩⟩
  case drain =>
    obtain ⟨hmode, hat, hforced⟩ := u.enterDrain_effect
    refine ⟨_, row (c := .drainRequest dt port sess m) rfl (by simp [hv]) ?_, hmode, hat.trans hu.clock, hforced⟩
    rw [hv, State.request_drain, if_pos (by simpa [mode] using from_)]
  case noDrain =>
    refine row (c := .drainRequest dt port sess m) rfl (by simp [hv]) ?_
    rw [hv, State.request_drain, if_neg (by simp [mode, h1, h2])]
  case vigil =>
    obtain ⟨hrails, hreason, hpkts, hmem⟩ := u.chipReset_effect 1
    refine ⟨_, row (c := .vigilRequest dt port sess m) rfl (by simp [hv]) ?_, hrails, hreason, hpkts, hmem, ?_⟩
    · rw [hv, State.request_vigil, if_pos (done.trans ((State.drainDone_iff s).mpr ⟨h1, h2⟩))]
    · obtain ⟨-, -, hfuse⟩ := u.chipReset_keep 1
      exact hfuse.trans hu.fuse
  case noVigil =>
    refine row (c := .vigilRequest dt port sess m) rfl (by simp [hv]) ?_
    rw [hv, State.request_vigil, if_neg]
    rw [done, State.drainDone_iff]
    exact fun ⟨h1, h2⟩ => not.elim (· h1) (· h2)
  case dormant =>
    have hd : (u.drainDone && u.hostsAsleep) = true := by
      rw [done, asleep, (State.drainDone_iff s).mpr ⟨h1, h2⟩, h3]
      rfl
    obtain ⟨hmode, haim, hentering⟩ := u.enterDormant_effect step
    rcases hc with ⟨hv, rfl, rfl⟩ | ⟨hv, rfl, rfl⟩
    · refine ⟨_, row rfl (by simp [hv]) ?_, hmode, haim, hentering⟩
      rw [hv, u.request_dormant (.inl rfl), if_pos hd]
    · refine ⟨_, row rfl (by simp [hv]) ?_, hmode, haim, hentering⟩
      rw [hv, u.request_dormant (.inr rfl), if_pos hd]
  case noDormant =>
    have hd : ¬(u.drainDone && u.hostsAsleep) = true := by
      rw [done, asleep, Bool.and_eq_true, State.drainDone_iff]
      rintro ⟨⟨h1, h2⟩, h3⟩
      rcases not with not | not | not
      · exact not h1
      · exact not h2
      · exact Bool.noConfusion (h3.symm.trans not)
    rcases hc with ⟨hv, rfl, rfl⟩ | ⟨hv, rfl, rfl⟩
    · refine row rfl (by simp [hv]) ?_
      rw [hv, u.request_dormant (.inl rfl), if_neg hd]
    · refine row rfl (by simp [hv]) ?_
      rw [hv, u.request_dormant (.inr rfl), if_neg hd]
  case exit =>
    refine ⟨_, row (c := .serviceRequest dt port sess m) rfl (by simp [hv]) ?_, u.exiting_exit.trans (by rw [hu.pwr])⟩
    rw [hv, State.request_service, if_pos (by simp [mode, hu.pwr, h1, h2, h3])]
  case noExit =>
    refine row (c := .serviceRequest dt port sess m) rfl (by simp [hv]) ?_
    rw [hv, State.request_service, if_neg]
    simp only [mode, hu.pwr, Bool.and_eq_true, beq_iff_eq, Bool.not_eq_true']
    rintro ⟨⟨h1, h3⟩, h2⟩
    rcases not with not | not | not
    · exact not h1
    · exact not h2
    · exact Bool.noConfusion (h3.symm.trans not)

end Sys2Proof.Machine
end

section
/-!
PROOFS. Activations of images, their cancelling, and the fuses (R453, R459 to R463).
-/

namespace Sys2Proof.Machine

theorem State.control_imgActivate (s : State) (k : Nat × Nat) (r : ObjRow) (e v : Nat) :
    s.control k r Obj.IMG_ACTIVATE e v = some (s.writeActivate v) := rfl

theorem State.control_imgActivateCancel (s : State) (k : Nat × Nat) (r : ObjRow) (e v : Nat) :
    s.control k r Obj.IMG_ACTIVATE_CANCEL e v = some (s.writeActivateCancel v) := rfl

theorem State.control_imgSvnRaise (s : State) (k : Nat × Nat) (r : ObjRow) (e v : Nat) :
    s.control k r Obj.IMG_SVN_RAISE e v = some (s.writeSvnRaise v) := rfl

theorem State.control_imgSignerRevoke (s : State) (k : Nat × Nat) (r : ObjRow) (e v : Nat) :
    s.control k r Obj.IMG_SIGNER_REVOKE e v = some (s.writeSignerRevoke v) := rfl

/-! ### Activations -/

section
variable {s : State} {form : Nat}

/-- One that is pending already, or a hand-over in course. -/
theorem State.writeActivate_busy (h1 : 1 ≤ form) (h3 : form ≤ 3) (busy : s.img.act ≠ none ∨ s.mode.mode = .handover) :
    s.writeActivate form = (1, s) := by
  have form' : (form == 0 || decide (3 < form)) = false := by
    rw [Bool.or_eq_false_iff, beq_eq_false_iff_ne, decide_eq_false_iff_not]
    omega
  have busy' : (s.img.act.isSome || s.mode.mode == .handover) = true := by
    rw [Bool.or_eq_true, Option.isSome_iff_ne_none, beq_iff_eq]
    exact busy
  simp only [State.writeActivate, form', busy', Bool.false_eq_true, if_false, if_true]

theorem State.writeActivate_rejected (h1 : 1 ≤ form) (h3 : form ≤ 3) (none_ : s.img.act = none) (mode : s.mode.mode ≠ .handover)
    (bad : s.bankCode s.targetBank ≠ 0) :
    s.writeActivate form = (2, s.latch Obj.IMG_REJECT_CODE (s.bankCode s.targetBank)) := by
  have form' : (form == 0 || decide (3 < form)) = false := by
    rw [Bool.or_eq_false_iff, beq_eq_false_iff_ne, decide_eq_false_iff_not]
    omega
  have mode' : (s.mode.mode == .handover) = false := beq_eq_false_iff_ne.mpr mode
  simp [State.writeActivate, form', none_, mode', bad]

theorem State.writeActivate_pending (h1 : 1 ≤ form) (h3 : form ≤ 3) (none_ : s.img.act = none) (mode : s.mode.mode ≠ .handover)
    (good : s.bankCode s.targetBank = 0)
    (fits : form = 3 ∨ s.runBank ≠ none ∧ s.mode.mode = .service ∧ (form = 1 → s.ep.member = none) ∧
      (s.fwSlot (2 * s.targetBank)).major = s.cfg Obj.IMG_SETTINGS_MAJOR)
    (lead : form = 1 ∨ s.activateAtBad = false) (awake : form = 3 → s.mode.mode ≠ .dormant) :
    s.writeActivate form = (0, s.activate form) := by
  have mode' : (s.mode.mode == .handover) = false := beq_eq_false_iff_ne.mpr mode
  obtain rfl | rfl | rfl : form = 1 ∨ form = 2 ∨ form = 3 := by omega
  · obtain ⟨bank, service, member, major⟩ := fits.resolve_left (by decide)
    simp [State.writeActivate, none_, good, bank, service, member rfl, major]
  · obtain ⟨bank, service, -, major⟩ := fits.resolve_left (by decide)
    have lead' := lead.resolve_left (by decide)
    simp [State.writeActivate, none_, good, bank, service, major, lead']
  · have lead' := lead.resolve_left (by decide)
    have awake' : (s.mode.mode == .dormant) = false := beq_eq_false_iff_ne.mpr (awake rfl)
    simp [State.writeActivate, none_, mode', good, lead', awake']

theorem State.activate_effect (s : State) (form : Nat) :
    (s.activate form).img.act = some ⟨form, s.cfg Obj.IMG_ACTIVATE_AT, s.targetBank, form == 3, false⟩ ∧
    (s.activate form).cfg Obj.IMG_ACTIVATE_STATUS = 5 ∧
    (s.activate form).cfg Obj.IMG_ACTIVATE_STATE = if form = 3 then 2 else 1 := by
  refine ⟨rfl, State.cfg_latch_self _ _ _, ?_⟩
  rw [State.activate, State.cfg_latch_ne _ _ _ _ (by decide), State.cfg_latch_self]
  by_cases h : form = 3 <;> simp [h]

theorem State.endFree_effect (s : State) (state : Nat) : (s.endFree state).img.act = none ∧
    (s.endFree state).cfg Obj.IMG_ACTIVATE_STATE = state := by
  refine ⟨rfl, ?_⟩
  rw [State.endFree, State.endActivation, State.cfg_latch_ne _ _ _ _ (by decide), State.cfg_latch_self]

end

/-! ### Fuses -/

section
variable {s : State}

theorem State.writeSignerRevoke_used {k : Nat} (used : s.signerUsed k = true) : s.writeSignerRevoke k = (1, s) := if_pos used

theorem State.writeSignerRevoke_last {k : Nat} (unused : s.signerUsed k = false) (last : s.fuse.revoked ||| 2 ^ k = 15) :
    s.writeSignerRevoke k = (2, s) := by simp [State.writeSignerRevoke, unused, last]

theorem State.writeSignerRevoke_revokes {k : Nat} (unused : s.signerUsed k = false) (hk : k ≤ 3)
    (left : s.fuse.revoked ||| 2 ^ k ≠ 15) : s.writeSignerRevoke k =
      (0, { s with fuse := { s.fuse with revoked := s.fuse.revoked ||| 2 ^ k } }) := by
  simp [State.writeSignerRevoke, unused, Nat.not_lt.mpr hk, left]

theorem State.writeSvnRaise_busy {v : Nat} (h : s.mode.mode ≠ .service ∨ s.runBank = none) : s.writeSvnRaise v = (1, s) := by
  by_cases service : s.mode.mode = .service
  · have none_ := h.resolve_left (fun other => other service)
    simp [State.writeSvnRaise, service, none_]
  · have service' : (s.mode.mode != .service) = true := bne_iff_ne.mpr service
    exact if_pos service'

end

section
variable {dt : Nat} {k : Nat × Nat} {s u : State}

theorem Heard.runBank (hu : Heard dt k s u) : u.runBank = s.runBank := by simp only [State.runBank, hu.cfg]

theorem Heard.fwSlot (hu : Heard dt k s u) (n : Nat) : u.fwSlot n = s.fwSlot n := by simp only [State.fwSlot, hu.img]

theorem Heard.signerUsed (hu : Heard dt k s u) (n : Nat) : u.signerUsed n = s.signerUsed n := by
  simp only [State.signerUsed, hu.runBank, hu.fwSlot]

end

/-- Settles O39: the branches of `writeActivate`, `writeActivateCancel`, `writeSvnRaise` and `writeSignerRevoke`. -/
theorem imageActivationsAndFuses : Obligations.ImageActivationsAndFuses := by
  unfold Obligations.ImageActivationsAndFuses
  refine ⟨fun dt port sess m r i s h => ?images, fun dt port sess m r i s h => ?fuses⟩
  all_goals
    obtain ⟨u, hu⟩ : ∃ u, Heard dt (port, sess) s u := ⟨_, heard _ _ _⟩
  case images =>
    refine ⟨u, hu.eq, fun c ho hc => ?activate, fun ho hv => ⟨fun a ha waits => ?cancelled, fun none_ => ?nothing⟩⟩
    case activate =>
      have form : 1 ≤ i.value ∧ i.value ≤ 3 := by omega
      obtain ⟨h1, h3⟩ := form
      have row {st : Nat} {x : State} (hw : u.writeActivate i.value = (st, x)) : exec c s = .next (x.written (port, sess) m i st) := by
        have ctl (e : Nat) : u.control (port, sess) r Obj.IMG_ACTIVATE e i.value = some (st, x) :=
          (u.control_imgActivate _ _ _ _).trans (congrArg some hw)
        rcases hc with ⟨hv, rfl⟩ | ⟨hv, rfl⟩ | ⟨hv, rfl⟩
        all_goals exact hu.exec_control h ho ctl (writes_valued_of_accepts h ho (by simp [hv])) rfl
      refine ⟨fun busy => row (State.writeActivate_busy h1 h3 (by rw [hu.img, hu.mode]; exact busy)), fun none_ mode => ?_⟩
      rw [← hu.img] at none_
      rw [← hu.mode] at mode
      refine ⟨fun bad => row (State.writeActivate_rejected h1 h3 none_ mode bad), fun good fits lead awake => ?_⟩
      rw [← hu.mode, ← hu.ep, ← hu.cfg] at fits
      rw [← hu.mode] at awake
      rw [← hu.cfg]
      exact ⟨_, row (State.writeActivate_pending h1 h3 none_ mode good fits lead awake), u.activate_effect _⟩
    all_goals
      have row {st : Nat} {x : State} (hw : u.writeActivateCancel i.value = (st, x)) :
          exec (.imgActivateCancel dt port sess m) s = .next (x.written (port, sess) m i st) :=
        hu.exec_control h ho (fun _ => (u.control_imgActivateCancel _ _ _ _).trans (congrArg some hw)) (writes_of_accepts h ho) rfl
    case cancelled =>
      refine ⟨_, row ?_, u.endFree_effect 6⟩
      simp [State.writeActivateCancel, hv, hu.img, ha, waits]
    case nothing =>
      refine row ?_
      rcases none_ with none_ | ⟨a, ha, started⟩
      · simp [State.writeActivateCancel, hv, hu.img, none_]
      · simp [State.writeActivateCancel, hv, hu.img, ha, started]
  case fuses =>
    refine ⟨u, hu.eq, fun b ho service bank => ?raise, fun ho busy => ?noRaise, fun ho => ?revoke⟩
    case revoke =>
      have row {st : Nat} {x : State} (hw : u.writeSignerRevoke i.value = (st, x)) :
          exec (.imgSignerRevoke dt port sess m) s = .next (x.written (port, sess) m i st) :=
        hu.exec_control h ho (fun _ => (u.control_imgSignerRevoke _ _ _ _).trans (congrArg some hw)) (writes_of_accepts h ho) rfl
      rw [← hu.signerUsed, ← hu.fuse]
      exact ⟨fun used => row (State.writeSignerRevoke_used used),
        fun unused hk left => ⟨_, row (State.writeSignerRevoke_revokes unused hk left), rfl⟩,
        fun unused last => row (State.writeSignerRevoke_last unused last)⟩
    all_goals
      have row {st : Nat} {x : State} (hw : u.writeSvnRaise i.value = (st, x)) :
          exec (.imgSvnRaise dt port sess m) s = .next (x.written (port, sess) m i st) :=
        hu.exec_control h ho (fun _ => (u.control_imgSvnRaise _ _ _ _).trans (congrArg some hw)) (writes_of_accepts h ho) rfl
    case raise =>
      rw [← hu.mode] at service
      rw [← hu.runBank] at bank
      rw [← hu.fuse]
      refine ⟨fun hv => ⟨{ u with fuse := { u.fuse with svnVigil := Nat.max u.fuse.svnVigil (u.fwSlot (2 * b)).svn } },
        row ?_, by rw [← hu.fwSlot]⟩, fun hv => ⟨{ u with fuse := { u.fuse with
          svnService := Nat.max u.fuse.svnService (u.fwSlot (2 * b + 1)).svn } }, row ?_, by rw [← hu.fwSlot]⟩⟩
      all_goals simp [State.writeSvnRaise, service, bank, hv]
    case noRaise => exact row (State.writeSvnRaise_busy (by rw [hu.mode, hu.runBank]; exact busy))

end Sys2Proof.Machine
end

section
/-!
PROOFS. Region tests, injected faults, resets of functions and releases of ports, by the manager (R315, R346, R347, R471, R484).
-/

namespace Sys2Proof.Machine

theorem State.control_fltRegionTest (s : State) (k : Nat × Nat) (r : ObjRow) (e v : Nat) :
    s.control k r Obj.FLT_REGION_TEST e v = some (s.writeRegionTest v) := rfl

theorem State.control_diagInject (s : State) (k : Nat × Nat) (r : ObjRow) (e v : Nat) :
    s.control k r Obj.DIAG_INJECT e v = some (s.writeInject v) := rfl

theorem State.control_fnResetCmd (s : State) (k : Nat × Nat) (r : ObjRow) (e v : Nat) :
    s.control k r Obj.FN_RESET_CMD e v = some (0, s.writeReset v) := rfl

theorem State.control_hstPortRelease (s : State) (k : Nat × Nat) (r : ObjRow) (e v : Nat) {p : Nat} (hp : p < 2) :
    s.control k r (Obj.HST_PORT_RELEASE + p) e v = some (s.release p v) := by
  match p, hp with
  | 0, _ => rfl
  | 1, _ => rfl

/-! ### Region tests -/

section
variable {s : State}

theorem State.writeRegionTest_busy {v : Nat} (h : s.mode.mode ≠ .degraded) : s.writeRegionTest v = (1, s) :=
  if_pos (bne_iff_ne.mpr h)

theorem State.writeRegionTest_starts {v : Nat} (h : s.mode.mode = .degraded) (hv : v = 1 ∨ v = 2)
    (fenced : s.mode.fenced = some (v - 1)) (h2 : s.cfg Obj.FLT_REGION_TEST_STATE ≠ 2)
    (h3 : s.cfg Obj.FLT_REGION_TEST_STATE ≠ 3) : s.writeRegionTest v = (0, s.startTest) := by
  rcases hv with rfl | rfl <;> simp [State.writeRegionTest, h, fenced, h2, h3]

theorem State.startTest_effect (s : State) : s.startTest.cfg Obj.FLT_REGION_TEST_STATE = 2 ∧
    s.startTest.flt.retestFrom = none := ⟨State.cfg_latch_self _ _ _, rfl⟩

/-! ### Injected faults -/

/-- What an injected value is taken as. -/
def injectedError (v : Nat) : ErrInfo :=
  { ErrInfo.mk' 0 (djRegion v) (djBlock v) (djInst v) 0x0A 0 with injected := true }

theorem State.ownOk_diagInject (s : State) (e v : Nat) : s.ownOk Obj.DIAG_INJECT e v = djOk v := rfl

theorem djOk_of_valueStatus {r : ObjRow} {e v : Nat} (h : s.valueStatus r Obj.DIAG_INJECT e v = 0) : djOk v = true := by
  rw [State.valueStatus, State.ownOk_diagInject] at h
  cases good : djOk v with
  | true => rfl
  | false => simp [good] at h

theorem State.inject_of_kind (s : State) {v kind : Nat} (h : djKind v = kind) :
    (kind = 1 → s.inject v = (s.bump Obj.DIAG_INJECTIONS).cellCorrected (injectedError v)) ∧
    (kind = 2 → s.inject v = (s.bump Obj.DIAG_INJECTIONS).cellUncorrected .cell (injectedError v)) ∧
    (kind = 3 → s.inject v = (s.bump Obj.DIAG_INJECTIONS).blockReset (injectedError v) false) ∧
    (kind = 4 → s.inject v = match placeRegion (djRegion v) with
      | some r => (s.bump Obj.DIAG_INJECTIONS).regionFault r (injectedError v)
      | none => (s.bump Obj.DIAG_INJECTIONS).fatal (injectedError v)) := by
  refine ⟨?_, ?_, ?_, ?_⟩
  all_goals
    rintro rfl
    simp only [State.inject, h]
    rfl

/-! ### Resets of functions -/

theorem State.writeReset_of_no_function {v : Nat} (h : s.fnExists (fld v 0 14) = false) : s.writeReset v = s := by
  simp [State.writeReset, h]

theorem State.writeReset_squashes {v : Nat} (h : s.fnExists (fld v 0 14) = true) (idle : (s.fn (fld v 0 14)).reset = 0)
    (kind : fld v 14 2 = 1) : s.writeReset v = s.squash (fld v 0 14) := by
  simp [State.writeReset, h, idle, kind]

theorem State.writeReset_drains {v : Nat} (h : s.fnExists (fld v 0 14) = true) (idle : (s.fn (fld v 0 14)).reset = 0)
    (kind : fld v 14 2 = 2) : s.writeReset v = s.drainReset (fld v 0 14) := by
  simp [State.writeReset, h, idle, kind]

theorem State.fn_setResetState (s : State) (f v : Nat) : ((s.setResetState f v).fn f).reset = v := by
  have h : (s.setResetState f v).fn f = { s.fn f with reset := v } := State.fn_setFn_self s f { s.fn f with reset := v }
  rw [h]

theorem State.squash_reset (s : State) (f : Nat) : ((s.squash f).fn f).reset = 1 ∨ ((s.squash f).fn f).reset = 3 := by
  unfold State.squash
  extract_lets s0 s0' s1 s2 s3 s4 s5
  rw [State.fn_setResetState]
  split
  · exact .inr rfl
  · exact .inl rfl

theorem State.drainReset_effect (s : State) (f : Nat) : ((s.drainReset f).fn f).reset = 2 ∧
    ((s.drainReset f).fn f).resetAt = s.clock ∧ (s.drainReset f).pkts = s.pkts := by
  unfold State.drainReset
  extract_lets t
  rw [State.fn_setFn_self]
  exact ⟨s.fn_setResetState f 2, rfl, rfl⟩

/-! ### Releases of ports -/

theorem State.release_of_running {p v : Nat} (hv : v = 1 ∨ v = 2) (run : s.frozen p = false) : s.release p v = (0, s) := by
  rcases hv with rfl | rfl <;> simp [State.release, run]

theorem State.release_resumes {p : Nat} (h : s.frozen p = true) : s.release p 1 = (0, s.unfreeze p) := by
  simp [State.release, h]

theorem State.release_resets {p : Nat} (h : s.frozen p = true) : s.release p 2 = (0, (s.squashPort p).unfreeze p) := by
  simp [State.release, h]

end

section
variable {dt : Nat} {k : Nat × Nat} {s u : State}

theorem Heard.fnExists (hu : Heard dt k s u) (f : Nat) : u.fnExists f = s.fnExists f := by
  rw [hu.eq, State.touch_changes_mgmt_only]
  rfl

theorem Heard.fn (hu : Heard dt k s u) (f : Nat) : u.fn f = s.fn f := by simp only [State.fn, hu.hs]

theorem Heard.frozen (hu : Heard dt k s u) (p : Nat) : u.frozen p = s.frozen p := by simp only [State.frozen, hu.cfg]

end

/-- Settles O40: the branches of `writeRegionTest`, `writeInject`, `writeReset` and `release`. -/
theorem injectionsTestsAndResetsByTheManager : Obligations.InjectionsTestsAndResetsByTheManager := by
  unfold Obligations.InjectionsTestsAndResetsByTheManager
  refine ⟨fun dt port sess m r i s h => ?faults, fun dt port sess p m r i s => ⟨fun h => ?resets, fun hp takes frozen => ?page⟩⟩
  case faults =>
    obtain ⟨u, hu⟩ : ∃ u, Heard dt (port, sess) s u := ⟨_, heard _ _ _⟩
    refine ⟨u, hu.eq, fun ho => ?test, fun c ho hc => ?inject⟩
    case test =>
      have row {st : Nat} {x : State} (hw : u.writeRegionTest i.value = (st, x)) :
          exec (.fltRegionTest dt port sess m) s = .next (x.written (port, sess) m i st) :=
        hu.exec_control h ho (fun _ => (u.control_fltRegionTest _ _ _ _).trans (congrArg some hw)) (writes_of_accepts h ho) rfl
      rw [← hu.mode, ← hu.cfg]
      exact ⟨fun other => row (State.writeRegionTest_busy other),
        fun degraded hv fenced h2 h3 => ⟨_, row (State.writeRegionTest_starts degraded hv fenced h2 h3), u.startTest_effect⟩⟩
    case inject =>
      have row {st : Nat} {x : State} (hw : u.writeInject i.value = (st, x)) : exec c s = .next (x.written (port, sess) m i st) := by
        have ctl (e : Nat) : u.control (port, sess) r Obj.DIAG_INJECT e i.value = some (st, x) :=
          (u.control_diagInject _ _ _ _).trans (congrArg some hw)
        rcases hc with ⟨hv, rfl⟩ | ⟨hv, rfl⟩ | ⟨hv, rfl⟩ | ⟨hv, rfl⟩
        all_goals exact hu.exec_control h ho ctl (writes_valued_of_accepts h ho (by simp [hv])) rfl
      have ok : djOk i.value = true := by
        have value := (State.accepted_of_accepts h).value
        rw [ho] at value
        exact djOk_of_valueStatus value
      rw [← hu.cfg]
      refine ⟨fun off => row (if_pos (beq_iff_eq.mpr off)), fun on => ⟨u.inject i.value, injectedError i.value, row ?_, rfl, ?_⟩⟩
      · rw [State.writeInject, if_neg (by simpa using on), if_neg (by simp [ok])]
      · obtain ⟨h1, h2, h3, h4⟩ := u.inject_of_kind (v := i.value) rfl
        refine ⟨h1, h2, h3, fun h => ⟨fun hr => ?_, fun hr => ?_, fun hr2 hr3 => ?_⟩⟩
        · simp [h4 h, placeRegion, hr, injectedError]
        · simp [h4 h, placeRegion, hr, injectedError]
        · simp [h4 h, placeRegion, hr2, hr3, injectedError]
  case resets =>
    obtain ⟨u, hu⟩ : ∃ u, Heard dt (port, sess) s u := ⟨_, heard _ _ _⟩
    refine ⟨u, hu.eq, fun ho none_ => ?noFn, fun ho some_ idle => ?fn, fun hp ho => ?ports⟩
    case noFn =>
      rw [← hu.fnExists] at none_
      have ctl (e : Nat) : u.control (port, sess) r Obj.FN_RESET_CMD e i.value = some (0, u) := by
        rw [State.control_fnResetCmd, State.writeReset_of_no_function none_]
      exact ⟨fun kind => hu.exec_control h ho ctl (writes_valued_of_accepts h ho (by simp [kind])) rfl,
        fun kind => hu.exec_control h ho ctl (writes_valued_of_accepts h ho (by simp [kind])) rfl⟩
    case fn =>
      rw [← hu.fnExists] at some_
      rw [← hu.fn] at idle
      have ctl {x : State} (hw : u.writeReset i.value = x) (e : Nat) :
          u.control (port, sess) r Obj.FN_RESET_CMD e i.value = some (0, x) := by
        rw [State.control_fnResetCmd, hw]
      obtain ⟨hreset, hat, hpkts⟩ := u.drainReset_effect (fld i.value 0 14)
      exact ⟨fun kind => ⟨_, hu.exec_control h ho (ctl (State.writeReset_squashes some_ idle kind))
          (writes_valued_of_accepts h ho (by simp [kind])) rfl, u.squash_reset _⟩,
        fun kind => ⟨_, hu.exec_control h ho (ctl (State.writeReset_drains some_ idle kind))
          (writes_valued_of_accepts h ho (by simp [kind])) rfl, hreset, hat.trans hu.clock, hpkts.trans hu.pkts⟩⟩
    case ports =>
      have ctl {x : State} {st : Nat} (hw : u.release p i.value = (st, x)) (e : Nat) :
          u.control (port, sess) r (Obj.HST_PORT_RELEASE + p) e i.value = some (st, x) := by
        rw [State.control_hstPortRelease _ _ _ _ _ hp, hw]
      have want {q : Nat → Bool} (hq : q i.value = true) : (p < 2 && writes m (Obj.HST_PORT_RELEASE + p) q) = true := by
        rw [decide_eq_true hp, writes_valued_of_accepts h ho hq]
        rfl
      rw [← hu.frozen]
      refine ⟨fun run => ⟨fun hv => ?_, fun hv => ?_⟩, fun froze => ⟨fun hv => ?_, fun hv => ?_⟩⟩
      · exact hu.exec_control h ho (ctl (State.release_of_running (.inl hv) run)) (want (by simp [hv])) rfl
      · exact hu.exec_control h ho (ctl (State.release_of_running (.inr hv) run)) (want (by simp [hv])) rfl
      · exact hu.exec_control h ho (ctl (by rw [hv]; exact State.release_resumes froze)) (want (by simp [hv])) rfl
      · exact hu.exec_control h ho (ctl (by rw [hv]; exact State.release_resets froze)) (want (by simp [hv])) rfl
  case page =>
    have plain : Obj.HST_PORT_FROZEN + p ≠ Obj.MODE_POWER_STEP := by unfold Obj.HST_PORT_FROZEN Obj.MODE_POWER_STEP; omega
    have frozen' : (s.after dt).frozen p = true := by
      rw [State.frozen, State.after_cfg _ _ plain]
      exact frozen
    have page (v : Nat) : pageCmd dt (8192 * p) s (fun t => if p < 2 then (t.release p v).2 else t) =
        .next ((s.after dt).release p v).2 := by
      refine (work_then rfl).trans (congrArg Host.Outcome.next ?_)
      change (s.after dt).pageWrite _ _ = _
      rw [State.pageWrite, takes]
      exact if_pos hp
    refine ⟨(page 1).trans ?_, (page 2).trans ?_⟩
    · rw [State.release_resumes frozen']
    · rw [State.release_resets frozen']

end Sys2Proof.Machine
end

section
/-!
PROOFS. What a squash of functions changes (R346, R385): beside what hosts and managers see, packets, storage commands,
sessions, staged commits of sessions that close, keys held, and the state of resets.
-/

namespace Sys2Proof.Machine

/-- Objects that a squash sets: those latched aside, the status of a firmware write given up, and the states of resets. -/
def setBySquash (o : Nat) : Bool := latchedAside o || o == Obj.IMG_FW_WRITE_STATUS || within o Obj.FN_RESET_STATE 3

/-- The state `s` with what a squash changes taken from `u`. -/
def State.squashPut (s u : State) : State :=
  { s with
    dict := { s.dict with val := u.dict.val, ctr := u.dict.ctr }
    mgmt := u.mgmt
    ep := { s.ep with member := u.ep.member }
    pkts := u.pkts
    hs := { s.hs with
      fn := u.hs.fn, qp := u.hs.qp, reqs := u.hs.reqs, xl := u.hs.xl, pri := u.hs.pri, late := u.hs.late,
      logFilter := u.hs.logFilter, works := u.hs.works, scans := u.hs.scans, runs := u.hs.runs }
    core := { s.core with mem := u.core.mem, imsic := u.core.imsic, aplic := u.core.aplic }
    flt := { s.flt with
      log := u.flt.log, cells := u.flt.cells, cellRec := u.flt.cellRec, unwritten := u.flt.unwritten }
    cry := { s.cry with held := u.cry.held }
    stg := u.stg
    img := { s.img with writes := u.img.writes }
    free := u.free
    out := u.out }

/-- Only that part differs, and of the dictionary's values only those objects; no packet is new or changed. -/
structure Squashed (s t : State) : Prop where
  part : t = s.squashPut t
  cfg : ∀ o e, setBySquash o = false → e < 2 ^ 32 → t.cfg o e = s.cfg o e
  pkts : t.pkts.Sublist s.pkts
  links : LinksKeep s t

theorem Squashed.refl (s : State) : Squashed s s := ⟨rfl, fun _ _ _ _ => rfl, .refl _, .refl s⟩

theorem Squashed.trans {s t u : State} (h : Squashed s t) (g : Squashed t u) : Squashed s u := by
  refine ⟨?_, fun o e ho he => (g.cfg o e ho he).trans (h.cfg o e ho he), g.pkts.trans h.pkts, h.links.trans g.links⟩
  calc u = t.squashPut u := g.part
    _ = (s.squashPut t).squashPut u := congrArg (·.squashPut u) h.part
    _ = s.squashPut u := rfl

theorem Squashed.foldl {α : Type} {f : State → α → State} (l : List α) (s : State) (h : ∀ a x, Squashed a (f a x)) :
    Squashed s (l.foldl f s) := by
  induction l generalizing s with
  | nil => exact .refl s
  | cons x l ih => exact (h s x).trans (ih _)

theorem Squashed.of_part {s t : State} (h : t = s.squashPut t) (hv : t.dict.val = s.dict.val) (hp : t.pkts = s.pkts) :
    Squashed s t := ⟨h, fun o e _ _ => by unfold State.cfg; rw [hv], hp ▸ .refl _, .of_val hv⟩

theorem latchedAside_of_kept {o : Nat} (h : setBySquash o = false) : latchedAside o = false := by
  simp only [setBySquash, Bool.or_eq_false_iff] at h
  exact h.1.1

theorem HostOnly.squashed {s t : State} (h : HostOnly s t) : Squashed s t := by
  refine ⟨?_, fun o e ho he => h.cfg o e (latchedAside_of_kept ho) he, ?_, h.links⟩
  · rw [h.part]
    rfl
  · obtain ⟨-, -, -, -, -, -, -, -, hpkts, -⟩ := h.frame
    exact hpkts ▸ .refl _

/-- A link's function, ports and times stay. -/
theorem Squashed.frame {s t : State} (h : Squashed s t) : t.now = s.now ∧ t.clock = s.clock ∧ t.tbl = s.tbl ∧
    t.mode = s.mode ∧ t.pwr = s.pwr ∧ t.wv = s.wv ∧ t.fuse = s.fuse ∧ t.hs.perst = s.hs.perst ∧ t.hs.upAt = s.hs.upAt ∧
    t.hs.inv = s.hs.inv ∧ t.flt.fences = s.flt.fences ∧ t.ep.current = s.ep.current := by
  rw [h.part]
  exact ⟨rfl, rfl, rfl, rfl, rfl, rfl, rfl, rfl, rfl, rfl, rfl, rfl⟩

theorem Squashed.cfg0 {s t : State} (h : Squashed s t) {o : Nat} (ho : setBySquash o = false) : t.cfg o = s.cfg o :=
  h.cfg o 0 ho (by decide)

/-! ### Storage commands (R381, R385) -/

theorem State.setStg_squashed (s : State) (x : Stg) (held : List KeyHold) :
    Squashed s { s with stg := x, cry := { s.cry with held := held } } := .of_part rfl rfl rfl

theorem State.hostWrite_squashed (s : State) (f : Nat) (w : HWrite) : Squashed s (s.hostWrite f w) :=
  (s.hostWrite_hostOnly f w).squashed

theorem State.cqPut_squashed (s : State) (f n entry : Nat) : Squashed s (s.cqPut f n entry) := by
  unfold State.cqPut
  split
  next c x _ _ =>
    split
    · exact .of_part rfl rfl rfl
    · extract_lets tail a y s1 s2
      have h1 : Squashed s s1 := .of_part rfl rfl rfl
      have h2 : Squashed s s2 := (h1.trans (s1.setQp_hostOnly f n y.1).squashed).trans (State.hostWrite_squashed _ _ _)
      split
      · exact h2.trans (s2.hostWrite_squashed _ _)
      · exact h2
  next => exact .refl s

theorem State.stgError_squashed (s : State) (c : StgCmd) : Squashed s (s.stgError c) := by
  unfold State.stgError
  split
  · unfold State.nvmeAnswer
    split
    · exact s.cqPut_squashed _ _ _
    · exact .refl s
  · unfold State.virtioAnswer
    extract_lets a s1
    have h1 : Squashed s s1 := by
      unfold s1
      split
      · exact s.hostWrite_squashed _ _
      · exact .refl s
    exact h1.trans (s1.virtioUse_hostOnly _ _ _).squashed

theorem State.svcEntry_squashed (s : State) (svc : Nat) (entry : Bytes) : Squashed s (s.svcEntry svc entry) := by
  unfold State.svcEntry
  split
  · exact (s.complete_hostOnly _ _ _ _).squashed
  · exact .refl s

theorem State.stgFree_squashed (s : State) (ctx : Nat) : Squashed s (s.stgFree ctx) := .of_part rfl rfl rfl

theorem State.stgCancel_squashed (s : State) (ctx : Nat) (c : StgCmd) : Squashed s (s.stgCancel ctx c) := by
  unfold State.stgCancel
  extract_lets s1 v
  have h1 : Squashed s s1 := s.stgFree_squashed ctx
  split
  · exact h1
  · exact (h1.trans (s1.fresh_hostOnly 32).squashed).trans (State.svcEntry_squashed _ _ _)

theorem State.xferStop_squashed (s : State) (ring tag cookie : Nat) : Squashed s (s.xferStop ring tag cookie) := by
  unfold State.xferStop
  extract_lets _ _ s1
  have h1 : Squashed s s1 := s.setStg_squashed _ _
  split
  · exact (h1.trans (s1.setQp_hostOnly _ _ _).squashed).trans (State.complete_hostOnly _ _ _ _ _).squashed
  · exact h1

theorem State.returnPosts_squashed (s : State) (svc : Nat) : Squashed s (s.returnPosts svc) := by
  unfold State.returnPosts
  extract_lets _ s1
  have h1 : Squashed s s1 := .of_part rfl rfl rfl
  exact h1.trans (.foldl _ s1 fun a p => a.svcEntry_squashed _ _)

theorem State.stgSquash_squashed (s : State) (f : Nat) : Squashed s (s.stgSquash f) := by
  unfold State.stgSquash
  split
  · unfold State.stgSquashCore
    extract_lets mine _ s1
    have h1 : Squashed s s1 := .of_part rfl rfl rfl
    exact h1.trans (.foldl _ s1 fun a c => ((a.stgFree_squashed c.1).trans
      (State.bump_hostOnly _ _).squashed).trans (State.stgError_squashed _ _))
  · unfold State.stgSquashHost
    split
    · exact .refl s
    · extract_lets mine s0 s1
      have h0 : Squashed s s0 := .foldl _ s fun a x => a.xferStop_squashed _ _ _
      have h1 : Squashed s s1 := h0.trans (.foldl _ s0 fun a c => a.stgCancel_squashed _ _)
      split
      · exact h1.trans (s1.returnPosts_squashed _)
      · exact h1

/-! ### The mailbox's session (R389, R392) -/

theorem Told.squashed {s t : State} (h : Told s t) : Squashed s t := h.hostOnly.squashed

theorem State.setMgmt_squashed (s : State) (x : Mgmt) : Squashed s { s with mgmt := x } := .of_part rfl rfl rfl

theorem State.setStage_squashed (s : State) (k : Nat × Nat) (st : Staging) : Squashed s (s.setStage k st) := by
  unfold State.setStage
  split
  · exact s.setMgmt_squashed _
  · exact .refl s

theorem State.discardStage_squashed (s : State) (k : Nat × Nat) (reason : Nat) : Squashed s (s.discardStage k reason) := by
  unfold State.discardStage
  extract_lets st s1
  have h1 : Squashed s s1 := (s.setStage_squashed k _).trans (State.bump_hostOnly _ _).squashed
  split
  · exact .refl s
  · split
    · exact h1
    · exact h1.trans (s1.raise_told _ _ _ _ _).squashed

theorem State.latchFw_squashed (s : State) (v : Nat) : Squashed s (s.latch Obj.IMG_FW_WRITE_STATUS v) := by
  refine ⟨rfl, fun o e ho he => State.cfg_setCfg_ne _ _ _ _ _ _ fun heq => ?_, .refl _, s.latch_linksKeep v fun l hl => ?_⟩
  rotate_left
  · unfold Obj.IMG_FW_WRITE_STATUS Obj.HST_LINK_STATE
    omega
  have same : o = Obj.IMG_FW_WRITE_STATUS := by
    unfold okey at heq
    omega
  rw [same] at ho
  exact Bool.noConfusion ho

theorem State.fwAbandon_squashed (s : State) (n : Nat) : Squashed s (s.fwAbandon n) := by
  unfold State.fwAbandon State.fwStatus
  extract_lets r
  have h1 : Squashed s r.2 := (s.fresh_hostOnly 8).squashed
  have drop (t : State) : Squashed t (t.fwDrop n) := .of_part rfl rfl rfl
  split
  · exact (h1.trans (r.2.latchFw_squashed _)).trans (drop _)
  · exact h1.trans (drop _)

theorem State.dropChans_squashed (s : State) (k : Nat × Nat) (p : Chan → Bool) : Squashed s (s.dropChans k p) := by
  unfold State.dropChans
  split
  · exact .refl s
  next x _ =>
    extract_lets s1
    have h1 : Squashed s s1 := by
      refine .foldl _ s fun a c => ?_
      unfold State.abandonChan
      split
      · split
        · exact a.fwAbandon_squashed _
        · exact .refl a
      · exact .refl a
    exact h1.trans (s1.setMgmt_squashed _)

theorem State.grantSem_squashed (s : State) (k : Nat × Nat) : Squashed s (s.grantSem k) := by
  unfold State.grantSem
  extract_lets s1
  have h1 : Squashed s s1 := (s.setStage_squashed k _).trans (State.bump_hostOnly _ _).squashed
  exact (h1.trans (s1.setMgmt_squashed _)).trans (State.raise_told _ _ _ _ _ _).squashed

theorem State.grantNext_squashed (s : State) : Squashed s s.grantNext := by
  unfold State.grantNext
  split
  · exact (s.setMgmt_squashed _).trans (State.grantSem_squashed _ _)
  · exact .refl s

theorem State.freeSem_squashed (s : State) (lapse : Bool) : Squashed s (s.freeSem lapse) := by
  cases h : s.mgmt.holder with
  | none =>
    have same : s.freeSem lapse = s := by simp only [State.freeSem, h]
    rw [same]
    exact .refl s
  | some k =>
    rw [State.freeSem_of_held h]
    have h1 : Squashed s (s.unheld k lapse) :=
      ((s.discardStage_squashed k _).trans (State.dropChans_squashed _ k _)).trans (State.setMgmt_squashed _ _)
    refine Squashed.trans ?_ (State.grantNext_squashed _)
    split
    · exact (h1.trans (State.bump_hostOnly _ _).squashed).trans (State.raise_told _ _ _ _ _ _).squashed
    · exact h1

theorem State.closeSess_squashed (s : State) (k : Nat × Nat) : Squashed s (s.closeSess k) := by
  unfold State.closeSess
  extract_lets _ s1 s2 s3
  have h1 : Squashed s s1 := s.setMgmt_squashed _
  have h2 : Squashed s s2 := by
    unfold s2
    split
    · exact h1.trans (s1.freeSem_squashed _)
    · exact h1
  have orphan (t : State) : Squashed t (t.orphan k) := .of_part rfl rfl rfl
  have h3 : Squashed s s3 := (h2.trans (s2.dropChans_squashed k _)).trans (orphan _)
  exact h3.trans (s3.setMgmt_squashed _)

theorem State.mailboxReset_squashed (s : State) : Squashed s s.mailboxReset := by
  unfold State.mailboxReset
  split
  · exact .refl s
  · extract_lets t
    exact (s.closeSess_squashed _).trans (t.setMgmt_squashed _)

/-! ### The squash -/

theorem State.discardRx_squashed (s : State) (test : Pkt → Bool) (ctr : Pkt → Nat) : Squashed s (s.discardRx test ctr) := by
  refine .foldl _ s fun a p => ?_
  exact ⟨rfl, fun _ _ _ _ => rfl, List.filter_sublist, .of_val rfl⟩

theorem fnSub_lt (f : Nat) : fnSub f < 3 := by
  have := fidPort_lt_two f
  unfold fnSub
  split <;> omega

theorem fnIdx_lt (f : Nat) : fnIdx f < 2 ^ 32 := by
  have num : fidNum f < 2 ^ 12 := fld_lt_two_pow f 0 12
  unfold fnIdx
  split
  next core =>
    simp only [coreFid, Bool.and_eq_true, decide_eq_true_eq] at core
    omega
  next => split <;> omega

theorem State.setResetState_squashed (s : State) (f v : Nat) : Squashed s (s.setResetState f v) := by
  have hf := fnIdx_lt f
  have sub := fnSub_lt f
  refine ⟨rfl, fun o e ho he => State.cfg_setCfg_ne _ _ _ _ _ _ fun heq => ?_, .refl _,
    fun l hl => .inl (State.cfg_setCfg_ne _ _ _ _ _ _ ?_)⟩
  rotate_left
  · unfold okey Obj.FN_RESET_STATE Obj.HST_LINK_STATE
    omega
  have same : o = Obj.FN_RESET_STATE + fnSub f := by
    unfold okey at heq
    omega
  have inside : within o Obj.FN_RESET_STATE 3 = true := by
    have := fnSub_lt f
    rw [same, within_iff]
    omega
  simp [setBySquash, inside] at ho

theorem State.squash_squashed (s : State) (f : Nat) : Squashed s (s.squash f) := by
  unfold State.squash
  extract_lets s0 _ s0' _ s1 _ s2 s3 s4 s5
  have h0 : Squashed s s0 := s.stgSquash_squashed f
  have h1 : Squashed s0 s1 := .of_part rfl rfl rfl
  have h2 : Squashed s1 s2 := .of_part rfl rfl rfl
  have h3 : Squashed s2 s3 := .of_part rfl rfl rfl
  have h4 : Squashed s3 s4 := s3.discardRx_squashed _ _
  have h5 : Squashed s4 s5 := by
    unfold s5
    split
    · exact s4.mailboxReset_squashed
    · exact .refl s4
  exact ((((h0.trans h1).trans h2).trans h3).trans h4).trans (h5.trans (s5.setResetState_squashed f _))

theorem State.hardSquash_squashed (s : State) (f : Nat) : Squashed s (s.hardSquash f) :=
  (s.squash_squashed f).trans (State.setFn_hostOnly _ _ _).squashed

end Sys2Proof.Machine
end

section
/-!
PROOFS. Host links and PERST (R286 to R292, R304 to R307, R424, R441).
-/

namespace Sys2Proof.Machine

/-! ### Objects of links -/

theorem State.stir_cfg (s : State) {o : Nat} (h : o ≠ Obj.MODE_POWER_STEP) : s.stir.cfg o = s.cfg o := by
  unfold State.stir
  extract_lets _ t
  split
  · unfold State.setStep
    rw [State.cfg_bump, State.cfg_latch_ne _ _ _ _ h]
    rfl
  · rfl

/-- A squash of a link's functions. -/
theorem State.squashLink_squashed (s : State) (l : Nat) : Squashed s (s.squashLink l) :=
  .foldl _ s fun a f => a.hardSquash_squashed f

theorem portFrozen_plain {p : Nat} (hp : p < 2) : setBySquash (Obj.HST_PORT_FROZEN + p) = false := by
  revert p
  decide

section
variable (s : State) (l : Nat)

theorem State.hostDown_linkState : (s.hostDown l).linkState l = 0 := by
  unfold State.hostDown State.linkState
  rw [State.cfg_latch_ne _ _ _ _ (by unfold Obj.HST_LINK_STATE Obj.HST_LINK_WIDTH; omega),
    State.cfg_latch_ne _ _ _ _ (by unfold Obj.HST_LINK_STATE Obj.HST_LINK_SPEED; omega), State.cfg_latch_self]

theorem State.hostDown_cfg {o : Nat} (h1 : o ≠ Obj.HST_LINK_STATE + l) (h2 : o ≠ Obj.HST_LINK_SPEED + l)
    (h3 : o ≠ Obj.HST_LINK_WIDTH + l) : (s.hostDown l).cfg o = s.cfg o := by
  unfold State.hostDown
  rw [State.cfg_latch_ne _ _ _ _ h3, State.cfg_latch_ne _ _ _ _ h2, State.cfg_latch_ne _ _ _ _ h1]
  rfl

end

/-! ### PERST -/

/-- Links that were up are counted as gone down. -/
def State.countDown (s : State) (l : Nat) : State := if s.linkUp l then s.bump (Obj.HST_LINK_DOWNS + l) else s

theorem State.countDown_frame (s : State) (l : Nat) : (s.countDown l).hs = s.hs := by
  unfold State.countDown
  split <;> rfl

theorem State.perstOn_effect (s : State) {port : Nat} (hp : port < 2) : port ∈ (s.perstOn port).hs.perst ∧
    (s.perstOn port).linkState (2 * port) = 0 ∧ (s.perstOn port).linkState (2 * port + 1) = 0 ∧
    (s.perstOn port).cfg (Obj.HST_PORT_FROZEN + port) = 0 := by
  unfold State.perstOn
  extract_lets _ s1 up s2 s3
  have h2 : s2.hs = s1.hs := ((s1.countDown (2 * port)).countDown_frame (2 * port + 1)).trans (s1.countDown_frame (2 * port))
  have h3 : Squashed s2 s3 := (s2.squashLink_squashed (2 * port)).trans (State.squashLink_squashed _ (2 * port + 1))
  clear_value s2 s3
  obtain ⟨-, -, -, -, -, -, -, hperst, -⟩ := h3.frame
  refine ⟨?_, ?_, State.hostDown_linkState _ _, ?_⟩
  · change port ∈ s3.hs.perst
    rw [hperst, h2]
    exact List.mem_cons_self
  · rw [State.linkState, State.hostDown_cfg _ _ (by omega) (by unfold Obj.HST_LINK_STATE Obj.HST_LINK_SPEED; omega)
      (by unfold Obj.HST_LINK_STATE Obj.HST_LINK_WIDTH; omega)]
    exact State.hostDown_linkState _ _
  · rw [State.hostDown_cfg _ _ (by unfold Obj.HST_LINK_STATE Obj.HST_PORT_FROZEN; omega)
        (by unfold Obj.HST_LINK_SPEED Obj.HST_PORT_FROZEN; omega) (by unfold Obj.HST_LINK_WIDTH Obj.HST_PORT_FROZEN; omega),
      State.hostDown_cfg _ _ (by unfold Obj.HST_LINK_STATE Obj.HST_PORT_FROZEN; omega)
        (by unfold Obj.HST_LINK_SPEED Obj.HST_PORT_FROZEN; omega) (by unfold Obj.HST_LINK_WIDTH Obj.HST_PORT_FROZEN; omega),
      State.cfg_latch_self]

/-- QUIESCE values that take effect change the objects that they are of. -/
theorem State.applyQui_frame (s : State) (p : Nat → Bool) : (s.applyQui p).hs = s.hs ∧ (s.applyQui p).clock = s.clock ∧
    (s.applyQui p).mode = s.mode ∧ ∀ o, p o = false → (s.applyQui p).cfg o = s.cfg o := by
  unfold State.applyQui
  extract_lets now _ s1
  refine List.foldlRecOn (motive := fun a : State => a.hs = s.hs ∧ a.clock = s.clock ∧ a.mode = s.mode ∧
    ∀ o, p o = false → a.cfg o = s.cfg o) _ _ ⟨rfl, rfl, rfl, fun _ _ => rfl⟩ fun a ha x hx => ?_
  obtain ⟨hhs, hclock, hmode, hcfg⟩ := ha
  refine ⟨hhs, hclock, hmode, fun o ho => (State.cfg_setCfg_ne _ _ _ _ _ _ fun heq => ?_).trans (hcfg o ho)⟩
  have same : o = x.1 / 2 ^ 32 := by
    unfold okey at heq
    omega
  have due : p (x.1 / 2 ^ 32) = true := (List.mem_filter.mp hx).2
  rw [← same, ho] at due
  exact Bool.noConfusion due

theorem State.trainLink_frame (s : State) (l : Nat) : (s.trainLink l).hs = s.hs ∧ (s.trainLink l).mode = s.mode ∧
    ∀ o, o ≠ Obj.HST_LINK_STATE + l → (s.trainLink l).cfg o = s.cfg o := by
  unfold State.trainLink
  split
  · exact ⟨rfl, rfl, fun _ _ => rfl⟩
  · exact ⟨rfl, rfl, fun o ho => State.cfg_latch_ne _ _ _ _ ho⟩

theorem State.trainPort_frame (s : State) (port : Nat) : (s.trainPort port).hs = s.hs ∧ (s.trainPort port).mode = s.mode ∧
    (∀ o, o ≠ Obj.HST_LINK_STATE + 2 * port → o ≠ Obj.HST_LINK_STATE + (2 * port + 1) → (s.trainPort port).cfg o = s.cfg o) ∧
    (s.linkUp (2 * port) = false → (s.trainPort port).linkState (2 * port) = 1) := by
  unfold State.trainPort
  extract_lets s1
  obtain ⟨hhs, hmode, hcfg⟩ := s.trainLink_frame (2 * port)
  have trains (down : s.linkUp (2 * port) = false) : s1.linkState (2 * port) = 1 := by
    unfold s1 State.trainLink
    rw [down]
    exact State.cfg_latch_self _ _ _
  split
  · obtain ⟨hhs', hmode', hcfg'⟩ := s1.trainLink_frame (2 * port + 1)
    exact ⟨hhs'.trans hhs, hmode'.trans hmode, fun o h1 h2 => (hcfg' o h2).trans (hcfg o h1),
      fun down => (hcfg' _ (by omega)).trans (trains down)⟩
  · exact ⟨hhs, hmode, fun o h1 _ => hcfg o h1, trains⟩

theorem portQuiesce_linkState {port l : Nat} (hp : port < 2) (hl : l < 4) :
    portQuiesce port (Obj.HST_LINK_STATE + l) = false := by
  have all : ∀ p < 2, ∀ n < 4, portQuiesce p (Obj.HST_LINK_STATE + n) = false := by decide
  exact all port hp l hl

theorem portQuiesce_wakeSrc {port : Nat} (hp : port < 2) : portQuiesce port Obj.PWR_WAKE_SRC = false := by
  revert port
  decide

/-- PERST is off: the port's configuration space gets ready, and its first link trains where it was down. -/
theorem State.perstOff_effect (s : State) {port : Nat} (hp : port < 2) : port ∉ (s.perstOff port).hs.perst ∧
    (s.perstOff port).mode = s.mode ∧ (s.perstOff port).cfg Obj.PWR_WAKE_SRC = s.cfg Obj.PWR_WAKE_SRC ∧
    (s.linkUp (2 * port) = false → (s.perstOff port).linkState (2 * port) = 1) ∧
    ∃ n, n ≤ 100000000 ∧ lookup? (s.perstOff port).hs.upAt port = some (s.clock + n) := by
  unfold State.perstOff
  extract_lets _ s1
  obtain ⟨hhs, hclock, hmode, hcfg⟩ := s1.applyQui_frame (portQuiesce port)
  generalize s1.applyQui (portQuiesce port) = s2 at hhs hclock hmode hcfg
  obtain ⟨hhs', hmode', hcfg', htrain⟩ := (s2.readySoon port 100000000).trainPort_frame port
  have wake : Obj.PWR_WAKE_SRC ≠ Obj.HST_LINK_STATE + 2 * port ∧ Obj.PWR_WAKE_SRC ≠ Obj.HST_LINK_STATE + (2 * port + 1) := by
    unfold Obj.PWR_WAKE_SRC Obj.HST_LINK_STATE
    omega
  refine ⟨?_, hmode'.trans hmode, (hcfg' _ wake.1 wake.2).trans (hcfg _ (portQuiesce_wakeSrc hp)), fun down => htrain ?_,
    Nat.min (s2.fresh 27).1 100000000, Nat.min_le_right _ _, ?_⟩
  · rw [hhs']
    change port ∉ s2.hs.perst
    rw [hhs]
    simp [s1]
  · have same : (s2.readySoon port 100000000).linkState (2 * port) = s.linkState (2 * port) :=
      hcfg _ (portQuiesce_linkState hp (by omega))
    rw [State.linkUp, same]
    exact down
  · rw [hhs']
    exact (lookup?_assoc_self _ _ _).trans (congrArg (fun c => some (c + Nat.min (s2.fresh 27).1 100000000)) hclock)

/-! ### The commands -/

section
variable {s : State} {dt port l : Nat}

theorem exec_perstAssert (hp : port < 2) (off : port ∉ s.hs.perst) :
    exec (.perstAssert dt port) s = .next ((s.after dt).perstOn port) := by
  refine show execPerstAssert .. = .next _ from work_then ?_
  have off' : (s.tick dt).hs.perst.contains port = false := by
    rw [← Bool.not_eq_true, List.contains_iff_mem]
    exact off
  rw [decide_eq_true hp, off']
  rfl

/-- PERST goes off: what the row does, by the state of the device. -/
def State.perstGone (s : State) (port : Nat) : State :=
  if s.alive then ((s.perstOff port).latch (Obj.HST_LINK_STATE + 2 * port) 0).latch (Obj.HST_LINK_STATE + 2 * port + 1) 0
  else { s with hs := { s.hs with perst := s.hs.perst.filter fun p => p != port } }

theorem exec_perstDeassert (hp : port < 2) (on : port ∈ s.hs.perst) : exec (.perstDeassert dt port) s =
    .next (if (s.tick dt).alive && (s.tick dt).mode.mode != .dormant then ((s.tick dt).perstOff port).stir
      else if ((s.tick dt).perstGone port).mode.mode == .dormant &&
          bit (((s.tick dt).perstGone port).cfg Obj.PWR_WAKE_SRC) port then ((s.tick dt).perstGone port).wake
        else (s.tick dt).perstGone port) := by
  refine show execPerstDeassert .. = .next _ from cmd_then ?_
  have on' : (s.tick dt).hs.perst.contains port = true := List.contains_iff_mem.mpr on
  rw [decide_eq_true hp, on']
  rfl

/-- A link that falls: its functions are squashed, and it is down. -/
def State.fallen (s : State) (l : Nat) : State := ((s.bump (Obj.HST_LINK_DOWNS + l)).squashLink l).hostDown l

theorem State.fallen_frozen (s : State) {l : Nat} (hl : l < 4) : (s.fallen l).frozen (l / 2) = s.frozen (l / 2) := by
  have hp : l / 2 < 2 := by omega
  have h := ((s.bump (Obj.HST_LINK_DOWNS + l)).squashLink_squashed l).cfg0 (portFrozen_plain hp)
  rw [State.frozen, State.fallen, State.hostDown_cfg _ _ (by unfold Obj.HST_LINK_STATE Obj.HST_PORT_FROZEN; omega)
    (by unfold Obj.HST_LINK_SPEED Obj.HST_PORT_FROZEN; omega) (by unfold Obj.HST_LINK_WIDTH Obj.HST_PORT_FROZEN; omega), h]
  rfl

theorem linkEvent_cond (hl : l < 4) (alive : s.alive = true) (up : s.linkUp l = true) :
    (decide (l < 4) && (s.tick dt).alive && (s.tick dt).linkUp l) = true := by
  have alive' : (s.tick dt).alive = true := alive
  have up' : (s.tick dt).linkUp l = true := up
  rw [decide_eq_true hl, alive', up']
  rfl

theorem exec_hotReset (hl : l < 4) (alive : s.alive = true) (up : s.linkUp l = true) : exec (.hotReset dt l) s =
    .next ((if ((s.after dt).fallen l).frozen (l / 2) then ((s.after dt).fallen l).unfreeze (l / 2)
      else (s.after dt).fallen l).latch (Obj.HST_LINK_STATE + l) 1) :=
  show execHotReset .. = .next _ from work_then (linkEvent_cond hl alive up)

theorem exec_hostLinkDown (hl : l < 4) (alive : s.alive = true) (up : s.linkUp l = true) : exec (.hostLinkDown dt l) s =
    .next (if ((s.after dt).fallen l).frozen (l / 2) then ((s.after dt).fallen l).unfreeze (l / 2)
      else (s.after dt).fallen l) :=
  show execHostLinkDown .. = .next _ from work_then (linkEvent_cond hl alive up)

theorem exec_hostL2Entry (hl : l < 4) (alive : s.alive = true) (up : s.linkUp l = true) : exec (.hostL2Entry dt l) s =
    .next ((s.tick dt).latch (Obj.HST_LINK_STATE + l) 7) :=
  show execHostL2Entry .. = .next _ from cmd_then (linkEvent_cond hl alive up)

/-- A link that has trained: state, speed, lanes and FLIT mode. -/
def State.trainedTo (s : State) (l speed width : Nat) (flit : Bool) : State :=
  let t1 := ((s.latch (Obj.HST_LINK_STATE + l) 2).latch (Obj.HST_LINK_SPEED + l) speed).latch (Obj.HST_LINK_WIDTH + l) width
  let fl := t1.hs.flit.filter fun x => x != l
  { t1 with hs := { t1.hs with flit := if flit || 6 ≤ speed then l :: fl else fl, width := assoc t1.hs.width l width } }

theorem exec_hostLinkUp {speed width : Nat} {flit : Bool} (hl : l < 4) (runs : s.alive = true ∨ s.pwr.rails = .boot)
    (off : l / 2 ∉ s.hs.perst) (down : s.linkUp l = false) (h1 : 1 ≤ speed) (hmax : speed ≤ s.cfg (Obj.HST_SPEED_MAX + l / 2))
    (hw : width ∈ [1, 2, 4, 8, 16]) (hb : if s.cfg (Obj.HST_BIFURCATE + l / 2) = 1 then width ≤ 8 else l % 2 = 0) :
    exec (.hostLinkUp dt l speed width flit) s =
      .next ((State.resumeLink ((s.after dt).trainedTo l speed width flit) l).pump l) := by
  refine show execHostLinkUp .. = .next _ from work_then ?_
  have runs' : ((s.tick dt).alive || (s.tick dt).pwr.rails == .boot) = true := by
    rw [Bool.or_eq_true, beq_iff_eq]
    exact runs
  have off' : (s.tick dt).hs.perst.contains (l / 2) = false := by
    rw [← Bool.not_eq_true, List.contains_iff_mem]
    exact off
  have down' : (s.tick dt).linkUp l = false := down
  have hmax' : speed ≤ (s.tick dt).cfg (Obj.HST_SPEED_MAX + l / 2) := hmax
  have hw' : [1, 2, 4, 8, 16].contains width = true := List.contains_iff_mem.mpr hw
  have hb' : (if ((s.tick dt).cfg (Obj.HST_BIFURCATE + l / 2) == 1) = true then decide (width ≤ 8) else l % 2 == 0) = true := by
    have same : (s.tick dt).cfg (Obj.HST_BIFURCATE + l / 2) = s.cfg (Obj.HST_BIFURCATE + l / 2) := rfl
    rw [same]
    by_cases hc : s.cfg (Obj.HST_BIFURCATE + l / 2) = 1
    · rw [if_pos hc] at hb
      rw [if_pos (beq_iff_eq.mpr hc), decide_eq_true hb]
    · rw [if_neg hc] at hb
      rw [if_neg (by simpa using hc)]
      exact beq_iff_eq.mpr hb
  rw [decide_eq_true hl, runs', off', down', decide_eq_true h1, decide_eq_true hmax', hw', hb']
  rfl

theorem State.trainedTo_frame (s : State) (l speed width : Nat) (flit : Bool) :
    (s.trainedTo l speed width flit).hs.reqs = s.hs.reqs ∧ (s.trainedTo l speed width flit).pkts = s.pkts := ⟨rfl, rfl⟩

theorem State.trainedTo_effect (s : State) (l speed width : Nat) (flit : Bool) :
    (s.trainedTo l speed width flit).linkState l = 2 ∧ (s.trainedTo l speed width flit).cfg (Obj.HST_LINK_SPEED + l) = speed ∧
    (s.trainedTo l speed width flit).cfg (Obj.HST_LINK_WIDTH + l) = width ∧ (s.trainedTo l speed width flit).trained l = width ∧
    (l ∈ (s.trainedTo l speed width flit).hs.flit ↔ flit = true ∨ 6 ≤ speed) := by
  let t1 := ((s.latch (Obj.HST_LINK_STATE + l) 2).latch (Obj.HST_LINK_SPEED + l) speed).latch (Obj.HST_LINK_WIDTH + l) width
  have state : t1.cfg (Obj.HST_LINK_STATE + l) = 2 := by
    rw [State.cfg_latch_ne _ _ _ _ (by unfold Obj.HST_LINK_STATE Obj.HST_LINK_WIDTH; omega),
      State.cfg_latch_ne _ _ _ _ (by unfold Obj.HST_LINK_STATE Obj.HST_LINK_SPEED; omega), State.cfg_latch_self]
  have spd : t1.cfg (Obj.HST_LINK_SPEED + l) = speed := by
    rw [State.cfg_latch_ne _ _ _ _ (by unfold Obj.HST_LINK_SPEED Obj.HST_LINK_WIDTH; omega), State.cfg_latch_self]
  refine ⟨state, spd, State.cfg_latch_self _ _ _, lookupD_assoc_self _ _ _ _, ?_⟩
  change (l ∈ if flit || decide (6 ≤ speed) then l :: t1.hs.flit.filter (fun x => x != l)
    else t1.hs.flit.filter fun x => x != l) ↔ _
  have cond : (flit || decide (6 ≤ speed)) = true ↔ flit = true ∨ 6 ≤ speed := by simp
  rw [← cond]
  split
  next h => simp [h]
  next h => simp [h]

theorem exec_l1Entry {sub idle : Nat} (hl : l < 4) (alive : s.alive = true) (state : s.linkState l = 2 ∨ s.linkState l = 3)
    (may : s.l1May l sub = true) (aspm : ∃ x ∈ s.hs.fn, coreFid x.1 = false ∧ s.linkOf x.1 = l ∧ x.2.aspmL1 = true)
    (long : s.cfg (Obj.HST_L1_IDLE_US + l / 2) * 1000 ≤ idle) (noReq : ∀ r ∈ s.hs.reqs, r.link ≠ l)
    (noWrite : ∀ x ∈ s.hs.fn, coreFid x.1 = false → s.linkOf x.1 = l → x.2.wq = [])
    (noPkt : ∀ p ∈ s.pkts, p.loc = .staged → coreFid p.dest = false → s.linkOf p.dest ≠ l) :
    exec (.l1Entry dt l sub idle) s =
      .next (((s.tick dt).latch (Obj.HST_LINK_STATE + l) (4 + sub)).bump (Obj.HST_L1_ENTRIES + l)) := by
  refine show execL1Entry .. = .next _ from cmd_then ?_
  have link (f : Nat) : (s.tick dt).linkOf f = s.linkOf f := rfl
  have state' : ((s.tick dt).linkState l == 2 || (s.tick dt).linkState l == 3) = true := by
    rw [Bool.or_eq_true, beq_iff_eq, beq_iff_eq]
    exact state
  have alive' : (s.tick dt).alive = true := alive
  have may' : (s.tick dt).l1May l sub = true := may
  have long' : (s.tick dt).cfg (Obj.HST_L1_IDLE_US + l / 2) * 1000 ≤ idle := long
  have aspm' : ((s.tick dt).hs.fn.any fun x => !coreFid x.1 && (s.tick dt).linkOf x.1 == l && x.2.aspmL1) = true := by
    obtain ⟨x, hx, host, on, enabled⟩ := aspm
    exact List.any_eq_true.mpr ⟨x, hx, by simp [link, host, on, enabled]⟩
  have noReq' : ((s.tick dt).hs.reqs.any fun r => r.link == l) = false := by
    rw [List.any_eq_false]
    exact fun r hr => by simpa using noReq r hr
  have noWrite' : ((s.tick dt).hs.fn.any fun x => !coreFid x.1 && (s.tick dt).linkOf x.1 == l && !x.2.wq.isEmpty) = false := by
    rw [List.any_eq_false]
    intro x hx h
    simp only [Bool.and_eq_true, Bool.not_eq_true', beq_iff_eq] at h
    obtain ⟨⟨host, on⟩, some_⟩ := h
    rw [noWrite x hx host on] at some_
    exact Bool.noConfusion some_
  have noPkt' : ((s.tick dt).pkts.any fun p => p.loc == .staged && !coreFid p.dest && (s.tick dt).linkOf p.dest == l) = false := by
    rw [List.any_eq_false]
    intro p hp h
    simp only [Bool.and_eq_true, Bool.not_eq_true', beq_iff_eq] at h
    obtain ⟨⟨staged, host⟩, on⟩ := h
    exact noPkt p hp staged host on
  rw [decide_eq_true hl, alive', state', may', aspm', decide_eq_true long', noReq', noWrite', noPkt']
  rfl

/-- The link takes another width, of those that it trained to or below. -/
def State.widthTo (s : State) (l width : Nat) : State :=
  (s.latch (Obj.HST_LINK_WIDTH + l) width).latch (Obj.HST_LINK_STATE + l) (if width < s.trained l then 3 else 2)

theorem exec_l0pWidthChange {width sent waiting : Nat} (hl : l < 4) (alive : s.alive = true)
    (state : s.linkState l = 2 ∨ s.linkState l = 3) (fast : 64 ≤ speedGts (s.cfg (Obj.HST_LINK_SPEED + l)))
    (flit : l ∈ s.hs.flit) (l0p : l ∈ s.hs.l0p) (on : s.cfg (Obj.HST_L0P_EN + l / 2) = 1) (hw : width ∈ [2, 4, 8, 16])
    (fits : (if width < s.cfg (Obj.HST_LINK_WIDTH + l) then
        decide (width ≤ 8) && decide (sent * 8 * 10 < width * speedGts (s.cfg (Obj.HST_LINK_SPEED + l)) * 20000 * 4)
      else decide (s.cfg (Obj.HST_LINK_WIDTH + l) < width) && decide (width ≤ s.trained l) && s.linkState l == 3 &&
        decide (16384 < waiting)) = true) :
    exec (.l0pWidthChange dt l width sent waiting) s = .next ((s.tick dt).widthTo l width) := by
  refine show execL0pWidthChange .. = .next _ from cmd_then ?_
  have state' : ((s.tick dt).linkState l == 2 || (s.tick dt).linkState l == 3) = true := by
    rw [Bool.or_eq_true, beq_iff_eq, beq_iff_eq]
    exact state
  have alive' : (s.tick dt).alive = true := alive
  have fast' : 64 ≤ speedGts ((s.tick dt).cfg (Obj.HST_LINK_SPEED + l)) := fast
  have flit' : (s.tick dt).hs.flit.contains l = true := List.contains_iff_mem.mpr flit
  have l0p' : (s.tick dt).hs.l0p.contains l = true := List.contains_iff_mem.mpr l0p
  have on' : ((s.tick dt).cfg (Obj.HST_L0P_EN + l / 2) == 1) = true := beq_iff_eq.mpr on
  have hw' : [2, 4, 8, 16].contains width = true := List.contains_iff_mem.mpr hw
  simp only [decide_eq_true hl, alive', state', decide_eq_true fast', flit', l0p', on', hw', Bool.and_self, Bool.true_and]
  exact fits

end

/-- Settles O41: the effect of each row on the state of its link. -/
theorem hostLinksChangeState : Obligations.HostLinksChangeState := by
  unfold Obligations.HostLinksChangeState
  intro dt port l s
  refine ⟨fun hp off => ⟨_, exec_perstAssert hp off, (s.after dt).perstOn_effect hp⟩, fun hp on => ⟨fun alive awake down =>
    ?trains, fun alive asleep noWake => ?dormant, fun dead awake => ?dead⟩, fun hl alive up => ?falls,
    fun speed width flit hl runs off down h1 hmax hw hb => ?trained, fun sub idle hl alive state may aspm long noReq noWrite
      noPkt => exec_l1Entry hl alive state may aspm long noReq noWrite noPkt,
    fun width sent waiting hl alive state fast flit l0p on => ⟨fun hw narrower slow => ?narrows, fun hw wider most three full =>
      ?widens⟩⟩
  case trains =>
    have cond : ((s.tick dt).alive && (s.tick dt).mode.mode != .dormant) = true := by
      rw [Bool.and_eq_true, bne_iff_ne]
      exact ⟨alive, awake⟩
    obtain ⟨hperst, -, -, htrains, n, hn, hup⟩ := (s.tick dt).perstOff_effect hp
    have run := exec_perstDeassert (dt := dt) hp on
    rw [if_pos cond] at run
    have hhs : ((s.tick dt).perstOff port).stir.hs = ((s.tick dt).perstOff port).hs := by simp
    refine ⟨_, n, run, ?_, ?_, hn, ?_⟩
    · rw [hhs]
      exact hperst
    · rw [State.linkState, State.stir_cfg _ (by unfold Obj.HST_LINK_STATE Obj.MODE_POWER_STEP; omega)]
      exact htrains down
    · rw [hhs]
      exact hup
  case dormant =>
    have cond : ¬((s.tick dt).alive && (s.tick dt).mode.mode != .dormant) = true := by
      rw [Bool.and_eq_true, bne_iff_ne]
      exact fun h => h.2 asleep
    obtain ⟨hperst, hmode, hwake, -⟩ := (s.tick dt).perstOff_effect hp
    have gone : (s.tick dt).perstGone port = (((s.tick dt).perstOff port).latch (Obj.HST_LINK_STATE + 2 * port) 0).latch
        (Obj.HST_LINK_STATE + 2 * port + 1) 0 := if_pos alive
    have src : ((s.tick dt).perstGone port).cfg Obj.PWR_WAKE_SRC = s.cfg Obj.PWR_WAKE_SRC := by
      rw [gone, State.cfg_latch_ne _ _ _ _ (by unfold Obj.PWR_WAKE_SRC Obj.HST_LINK_STATE; omega),
        State.cfg_latch_ne _ _ _ _ (by unfold Obj.PWR_WAKE_SRC Obj.HST_LINK_STATE; omega), hwake]
      rfl
    have run := exec_perstDeassert (dt := dt) hp on
    rw [if_neg cond, if_neg (by rw [src, noWake]; simp), gone] at run
    generalize (s.tick dt).perstOff port = t at run hperst hmode
    refine ⟨_, run, hperst, ?_, State.cfg_latch_self _ _ _, hmode⟩
    rw [State.linkState, State.cfg_latch_ne _ _ _ _ (by omega), State.cfg_latch_self]
  case dead =>
    have cond : ¬((s.tick dt).alive && (s.tick dt).mode.mode != .dormant) = true := by
      rw [Bool.and_eq_true]
      exact fun h => Bool.noConfusion (dead.symm.trans h.1)
    have gone : (s.tick dt).perstGone port =
        { s.tick dt with hs := { s.hs with perst := s.hs.perst.filter fun p => p != port } } :=
      if_neg (by
        change ¬s.alive = true
        rw [dead]
        exact Bool.false_ne_true)
    have mode : ((s.tick dt).perstGone port).mode.mode = s.mode.mode := by rw [gone]; rfl
    have run := exec_perstDeassert (dt := dt) hp on
    rw [if_neg cond, if_neg (by rw [mode]; simp [awake])] at run
    exact run.trans (congrArg Host.Outcome.next gone)
  case falls =>
    have plain : Obj.HST_PORT_FROZEN + l / 2 ≠ Obj.MODE_POWER_STEP := by unfold Obj.HST_PORT_FROZEN Obj.MODE_POWER_STEP; omega
    have same : (s.after dt).frozen (l / 2) = s.frozen (l / 2) := by rw [State.frozen, State.after_cfg _ _ plain, ← State.frozen]
    have frozen := ((s.after dt).fallen_frozen hl).trans same
    have run := exec_hostLinkDown (dt := dt) hl alive up
    have down : ((s.after dt).fallen l).linkState l = 0 := State.hostDown_linkState _ _
    have hot := exec_hotReset (dt := dt) hl alive up
    generalize (if ((s.after dt).fallen l).frozen (l / 2) then ((s.after dt).fallen l).unfreeze (l / 2)
      else (s.after dt).fallen l) = t at hot
    refine ⟨⟨_, hot, State.cfg_latch_self t _ _⟩, fun runs => ⟨_, run, ?_⟩, fun froze =>
      ⟨(s.after dt).fallen l, ?_, down⟩, _, exec_hostL2Entry hl alive up, State.cfg_latch_self _ _ _, rfl, rfl⟩
    · rw [if_neg (by rw [frozen, runs]; exact Bool.false_ne_true)]
      exact down
    · rw [run, if_pos (frozen.trans froze)]
  case trained =>
    obtain ⟨hstate, hspeed, hwidth, htrained, hflit⟩ := (s.after dt).trainedTo_effect l speed width flit
    obtain ⟨hreqs, hpkts⟩ := (s.after dt).trainedTo_frame l speed width flit
    refine ⟨_, exec_hostLinkUp hl runs off down h1 hmax hw hb, hstate, hspeed, hwidth, htrained, hflit, hreqs.trans ?_,
      hpkts.trans ?_⟩
    · simp [State.after, State.tick]
    · simp [State.after, State.tick]
  case narrows =>
    refine exec_l0pWidthChange hl alive state fast flit l0p on (by rcases hw with h | h | h <;> simp [h]) ?_
    have most : width ≤ 8 := by omega
    have rate : sent * 8 * 10 < width * speedGts (s.cfg (Obj.HST_LINK_SPEED + l)) * 20000 * 4 := by
      generalize width * speedGts (s.cfg (Obj.HST_LINK_SPEED + l)) = capacity at slow ⊢
      omega
    rw [if_pos narrower, decide_eq_true most, decide_eq_true rate]
    rfl
  case widens =>
    refine exec_l0pWidthChange hl alive state fast flit l0p on hw ?_
    rw [if_neg (by omega), decide_eq_true wider, decide_eq_true most, three, decide_eq_true full]
    rfl

end Sys2Proof.Machine
end

section
/-!
PROOFS. Invalidations of translations and responses to page requests (R299 to R301).
-/

namespace Sys2Proof.Machine

/-! ### Invalidations -/

/-- Requests that an invalidation waits for. -/
def State.underPages (s : State) (f page n : Nat) : List (Nat × Nat) :=
  (s.hs.reqs.filter fun r => r.fid == f && r.kind != 2 && page ≤ r.addr / 4096 && r.addr / 4096 < page + n).map
    fun r => (r.link, r.tag)

theorem State.mem_underPages {s : State} {f page n : Nat} {r : Req} (hr : r ∈ s.hs.reqs) (hf : r.fid = f) (hk : r.kind ≠ 2)
    (h1 : page ≤ r.addr / 4096) (h2 : r.addr / 4096 < page + n) : (r.link, r.tag) ∈ s.underPages f page n := by
  refine List.mem_map.mpr ⟨r, List.mem_filter.mpr ⟨hr, ?_⟩, rfl⟩
  simp only [hf, beq_self_eq_true, bne_iff_ne.mpr hk, decide_eq_true h1, decide_eq_true h2, Bool.and_self]

/-- The translations named are gone, and the invalidation waits. -/
def State.invalidating (s : State) (f : Nat) (pasid : Option Nat) (page n : Nat) (v : Inval) : State :=
  { s with hs := { s.hs with xl := s.hs.xl.filter (fun x => !x.named f pasid page n), inv := s.hs.inv ++ [v] } }

section
variable {s : State} {dt f id page : Nat}

theorem exec_atsInvalidation {pasid : Option Nat} {n : Nat} (alive : s.alive = true) (used : fidUsed f = true)
    (host : coreFid f = false) (up : s.linkUp (s.linkOf f) = true) : exec (.atsInvalidation dt f id pasid page n) s =
      .next ((s.after dt).invalidating f pasid page n
        { id := id, fid := f, waits := (s.after dt).underPages f page n }) := by
  refine show execAtsInvalidation .. = .next _ from work_then ?_
  have alive' : (s.tick dt).alive = true := alive
  have up' : (s.tick dt).linkUp ((s.tick dt).linkOf f) = true := up
  rw [alive', used, host, up']
  rfl

/-- An invalidation that has ended, counted and answered. -/
def State.invalidated (s : State) (f id : Nat) : State :=
  (({ s with hs := { s.hs with inv := s.hs.inv.filter fun v => !(v.fid == f && v.id == id) } }.bump
    (Obj.HST_ATS_INVALIDATIONS + fidPort f)).wakeLink (s.linkOf f)).emit (.invDone f id)

theorem exec_atsInvalidationDone (alive : s.alive = true) (ended : ∃ v ∈ s.hs.inv, v.fid = f ∧ v.id = id ∧ v.waits = []) :
    exec (.atsInvalidationDone dt f id) s = .next ((s.tick dt).invalidated f id) := by
  refine show execAtsInvalidationDone .. = .next _ from cmd_then ?_
  obtain ⟨v, hv, hf, hid, hw⟩ := ended
  refine Bool.and_eq_true_iff.mpr ⟨alive, List.any_eq_true.mpr ⟨v, hv, ?_⟩⟩
  simp [hf, hid, hw]

theorem State.wakeLink_frame (s : State) (l : Nat) : (s.wakeLink l).hs = s.hs ∧ (s.wakeLink l).out = s.out ∧
    (s.wakeLink l).clock = s.clock ∧ (∀ o, (s.wakeLink l).ctr o = s.ctr o) ∧ (s.wakeLink l).pkts = s.pkts := by
  unfold State.wakeLink
  split <;> exact ⟨rfl, rfl, rfl, fun _ => rfl, rfl⟩

theorem State.invalidated_effect (s : State) (f id : Nat) : (s.invalidated f id).out = s.out ++ [(s.clock, .invDone f id)] ∧
    (s.invalidated f id).hs.inv = s.hs.inv.filter (fun v => !(v.fid == f && v.id == id)) ∧
    (s.invalidated f id).ctr (Obj.HST_ATS_INVALIDATIONS + fidPort f) =
      Nat.min u64Max (s.ctr (Obj.HST_ATS_INVALIDATIONS + fidPort f) + 1) := by
  unfold State.invalidated
  generalize hu : ({ s with hs := { s.hs with inv := s.hs.inv.filter fun v => !(v.fid == f && v.id == id) } } : State) = u
  have h : u.out = s.out ∧ u.clock = s.clock ∧ u.hs.inv = s.hs.inv.filter (fun v => !(v.fid == f && v.id == id)) ∧
      ∀ o, u.ctr o = s.ctr o := by
    rw [← hu]
    exact ⟨rfl, rfl, rfl, fun _ => rfl⟩
  obtain ⟨hout, hclock, hinv, hctr⟩ := h
  obtain ⟨whs, wout, wclock, wctr, -⟩ := (u.bump (Obj.HST_ATS_INVALIDATIONS + fidPort f)).wakeLink_frame (s.linkOf f)
  refine ⟨?_, ?_, ?_⟩
  · change _ ++ [(_, _)] = _
    rw [wout, wclock]
    change u.out ++ [(u.clock, Output.invDone f id)] = _
    rw [hout, hclock]
  · exact (congrArg (·.inv) whs).trans hinv
  · exact (wctr _).trans ((State.ctr_bump_self _ _).trans (by rw [hctr]))

/-! ### Page requests -/

theorem State.endPage_effect (s : State) (p : PageReq) : (s.endPage p).hs.pri = s.hs.pri.filter (fun x => x != p) ∧
    (s.endPage p).hs.xl = s.hs.xl.filter (fun x => !(x.fid == p.fid && x.page == p.page)) ∧
    ∀ x, s.qp? p.fid p.q = some x → (s.endPage p).qp? p.fid p.q = some { x with page := none } := by
  unfold State.endPage
  extract_lets _ s1
  split
  next x hx =>
    refine ⟨rfl, rfl, fun y hy => ?_⟩
    have same : s1.qp? p.fid p.q = some y := hy
    cases hx.symm.trans same
    exact State.qp?_setQp_self _ _ _ _
  next none_ =>
    refine ⟨rfl, rfl, fun y hy => ?_⟩
    have same : s1.qp? p.fid p.q = some y := hy
    exact absurd (none_.symm.trans same) nofun

/-- What a response of a code leaves of a page request, before the link goes on. -/
def State.pageAnswered (s : State) (p : PageReq) (f code : Nat) : State :=
  let t1 := s.endPage p
  let t2 := if code == 0 then t1 else t1.pageFails p
  if code == 15 then t2.setFn f { t2.fn f with priStopped := true } else t2

theorem exec_pageRequestResponse {p : PageReq} (alive : s.alive = true)
    (hp : (s.hs.pri.find? fun p => p.fid == f && p.page == page) = some p) (code : Nat) :
    exec (.pageRequestResponse dt f page code) s =
      .next (((s.after dt).pageAnswered p f code).serveLink (((s.after dt).pageAnswered p f code).linkOf f)) := by
  have hp' : ((s.after dt).hs.pri.find? fun p => p.fid == f && p.page == page) = some p := by rw [State.after_hs]; exact hp
  refine (show execPageRequestResponse .. = .next _ from work_then ?_).trans (congrArg Host.Outcome.next ?_)
  · exact Bool.and_eq_true_iff.mpr ⟨alive, List.any_eq_true.mpr ⟨p, List.mem_of_find?_eq_some hp,
      List.find?_some (p := fun p : PageReq => p.fid == f && p.page == page) hp⟩⟩
  · change (match ((s.after dt).hs.pri.find? fun p => p.fid == f && p.page == page) with | none => _ | some p => _) = _
    rw [hp']
    rfl

theorem exec_priTimeout {p : PageReq} (alive : s.alive = true)
    (hp : (s.hs.pri.find? fun p => p.fid == f && p.page == page) = some p)
    (due : p.at_ + s.cfg (Obj.HST_PRI_TIMEOUT_MS + fidPort f) * 1000000 ≤ s.clock + dt) (u : State)
    (hu : u = (((s.tick dt).endPage p).pageFails p).bump (Obj.HST_PRI_TIMEOUTS + fidPort f)) :
    exec (.priTimeout dt f page) s = .next (u.serveLink (u.linkOf f)) := by
  have hp' : ((s.tick dt).hs.pri.find? fun p => p.fid == f && p.page == page) = some p := hp
  have due' : p.at_ + (s.tick dt).cfg (Obj.HST_PRI_TIMEOUT_MS + fidPort f) * 1000000 ≤ (s.tick dt).clock := due
  refine (show execPriTimeout .. = .next _ from cmd_then ?_).trans (congrArg Host.Outcome.next ?_)
  · refine Bool.and_eq_true_iff.mpr ⟨alive, List.any_eq_true.mpr ⟨p, List.mem_of_find?_eq_some hp, ?_⟩⟩
    exact Bool.and_eq_true_iff.mpr ⟨List.find?_some (p := fun p : PageReq => p.fid == f && p.page == page) hp, decide_eq_true due'⟩
  · simp only [hp', hu]

end

/-- Settles O43: `underPages`, `invalidated`, and `pageAnswered` for each code. -/
theorem translationsAreInvalidatedAndPagesAnswered : Obligations.TranslationsAreInvalidatedAndPagesAnswered := by
  unfold Obligations.TranslationsAreInvalidatedAndPagesAnswered
  intro dt f id page s alive
  refine ⟨fun pasid n used host up => ?invalidate, fun ended => ?done, fun p hp => ?answer, fun p hp due =>
    ⟨_, rfl, exec_priTimeout alive hp due _ rfl⟩⟩
  case invalidate =>
    refine ⟨_, { id := id, fid := f, waits := (s.after dt).underPages f page n }, exec_atsInvalidation alive used host up, ?_,
      rfl, rfl, fun r hr hf hk h1 h2 => ?_, ?_, ?_⟩
    · exact congrArg (fun h : HostSide => h.inv ++ [_]) (s.after_hs dt)
    · exact State.mem_underPages (by rw [State.after_hs]; exact hr) hf hk h1 h2
    · exact congrArg (fun h : HostSide => h.xl.filter fun x => !x.named f pasid page n) (s.after_hs dt)
    · exact s.after_pkts dt
  case done => exact ⟨_, exec_atsInvalidationDone alive ended, (s.tick dt).invalidated_effect f id⟩
  case answer =>
    have found : (p.fid == f && p.page == page) = true := List.find?_some (p := fun p : PageReq => p.fid == f && p.page == page) hp
    obtain ⟨rfl, rfl⟩ : p.fid = f ∧ p.page = page := by simpa using found
    obtain ⟨hpri, hxl, hqp⟩ := (s.after dt).endPage_effect p
    rw [State.after_hs] at hpri hxl
    refine ⟨⟨_, exec_pageRequestResponse alive hp 0, hpri, hxl, fun x hx => hqp x ?_⟩, _, rfl,
      exec_pageRequestResponse alive hp 1, _, exec_pageRequestResponse alive hp 15, ?_, rfl, rfl⟩
    · rw [State.qp?, State.after_hs]
      exact hx
    · exact congrArg (·.priStopped) (State.fn_setFn_self _ _ _)

end Sys2Proof.Machine
end

section
/-!
PROOFS. Resets and starts: what survives a loss of power, and what the VIGIL firmware finds; the pins that show it.
-/

namespace Sys2Proof.Machine

/-! ### What a loss of everything leaves (Table 14-6) -/

/-- Only the log and the free values differ: which young records are lost is free. -/
theorem State.loseRecords_part (s : State) : ∃ log free,
    s.loseRecords = { s with flt := { s.flt with log := log }, free := free } := by
  unfold State.loseRecords
  refine List.foldlRecOn (motive := fun a : State => ∃ log free,
    a = { s with flt := { s.flt with log := log }, free := free }) _ _ ⟨_, _, rfl⟩ fun a ha x _ => ?_
  obtain ⟨log, free, rfl⟩ := ha
  exact iteInduction (motive := fun u : State => ∃ log free, u = { s with flt := { s.flt with log := log }, free := free })
    (fun _ => ⟨_, _, rfl⟩) fun _ => ⟨_, _, rfl⟩

/-- The part of the power record that outlives a reset. -/
def Power.kept (p : Power) : Power :=
  { Power.reset with
    rails := p.rails, resetN := p.resetN, vin := p.vin, tripped := p.tripped, ovLatch := p.ovLatch,
    tripToLog := p.tripToLog, supplyToLog := p.supplyToLog, lockedAtEntry := p.lockedAtEntry }

section
variable (s : State)

theorem State.wipe_power : s.wipe.pwr = s.pwr.kept ∧ s.wipe.pkg = s.pkg ∧ s.wipe.now = s.now ∧
    s.wipe.flt.faultN = s.flt.faultN := by
  obtain ⟨log, free, h⟩ := s.loseRecords_part
  rw [State.wipe, h]
  exact ⟨rfl, rfl, rfl, rfl⟩

theorem State.wipe_stores : s.wipe.store.held = s.store.held ∧ s.wipe.dict.flash = s.dict.flash ∧
    s.wipe.cry.kek = s.cry.kek ∧ s.wipe.cry.slots = s.cry.slots ∧ s.wipe.fuse = s.fuse := by
  obtain ⟨log, free, h⟩ := s.loseRecords_part
  rw [State.wipe, h]
  exact ⟨rfl, rfl, rfl, rfl, rfl⟩

theorem State.wipe_empties : s.wipe.tbl = [] ∧ s.wipe.mgmt.sessions = [] ∧ s.wipe.hs.qp = [] ∧ s.wipe.mode = ModeSt.reset := by
  obtain ⟨log, free, h⟩ := s.loseRecords_part
  rw [State.wipe, h]
  exact ⟨rfl, rfl, rfl, rfl⟩

/-- A fatal error asserts FAULT_N and resets the chip. -/
theorem State.fatal_effect (e : ErrInfo) : (s.fatal e).flt.faultN = true ∧ (s.fatal e).pwr.rails = .boot ∧
    (s.fatal e).pwr.reason = 5 := by
  unfold State.fatal
  extract_lets s1 sending s2
  obtain ⟨hrails, hreason, -⟩ := State.chipReset_effect { s2 with flt := { s2.flt with faultN := true } } 5
  obtain ⟨-, -, -, hfault⟩ := State.wipe_power { s2 with flt := { s2.flt with faultN := true } }
  exact ⟨hfault, hrails, hreason⟩

theorem State.railsOff_effect : s.railsOff.pwr = { s.pwr.kept with rails := .off } ∧ s.railsOff.pkts = [] ∧
    s.railsOff.dict.flash = s.dict.flash ∧ s.railsOff.fuse = s.fuse := by
  obtain ⟨hpwr, -⟩ := s.wipe_power
  obtain ⟨-, hflash, -, -, hfuse⟩ := s.wipe_stores
  have hpkts := s.wipe_pkts
  unfold State.railsOff
  generalize s.wipe = t at *
  exact ⟨congrArg (fun p : Power => { p with rails := .off }) hpwr, hpkts, hflash, hfuse⟩

end

/-! ### What the VIGIL firmware keeps of the start -/

/-- The power record and FAULT_N stay. -/
structure SameStart (s t : State) : Prop where
  pwr : t.pwr = s.pwr
  faultN : t.flt.faultN = s.flt.faultN

theorem SameStart.refl (s : State) : SameStart s s := ⟨rfl, rfl⟩

theorem SameStart.trans {s t u : State} (h : SameStart s t) (g : SameStart t u) : SameStart s u :=
  ⟨g.pwr.trans h.pwr, g.faultN.trans h.faultN⟩

theorem SameStart.foldl {α : Type} {f : State → α → State} (l : List α) (s : State) (h : ∀ a x, SameStart a (f a x)) :
    SameStart s (l.foldl f s) :=
  List.foldlRecOn (motive := fun a => SameStart s a) l f (.refl s) fun a ha x _ => ha.trans (h a x)

theorem Told.sameStart {s t : State} (h : Told s t) : SameStart s t := by
  obtain ⟨-, -, -, -, -, -, -, -, -, -, -, -, -, hpwr, -⟩ := h.frame
  obtain ⟨-, -, -, -, -, -, -, -, hfault⟩ := h.frame_faults
  exact ⟨hpwr, hfault⟩

theorem Thinned.sameStart {s t : State} (h : Thinned s t) : SameStart s t := by
  obtain ⟨_, _, _, _, rfl, -⟩ := h
  exact ⟨rfl, rfl⟩

section
variable (s : State)

theorem State.latchStored_sameStart (o v : Nat) : SameStart s (s.latchStored o v) := ⟨rfl, rfl⟩
theorem State.bumpStored_sameStart (o : Nat) : SameStart s (s.bumpStored o) := ⟨rfl, rfl⟩
theorem State.loadSettings_sameStart : SameStart s s.loadSettings := ⟨rfl, rfl⟩
theorem State.dropCorrupt_sameStart (bad : List Nat) : SameStart s (s.dropCorrupt bad) := ⟨rfl, rfl⟩
theorem State.imgReject_sameStart (code obj : Nat) : SameStart s (s.imgReject code obj) := ⟨rfl, rfl⟩
theorem State.logErr_sameStart (e : ErrInfo) : SameStart s (s.logErr e) := (s.logErr_told e).sameStart

theorem State.readStore_sameStart (copies : Nat) : SameStart s (s.readStore copies) := by
  unfold State.readStore
  split
  · exact .refl s
  · extract_lets _ s1
    have h1 : SameStart s s1 := ⟨rfl, rfl⟩
    exact h1.trans (s1.latchStored_sameStart _ _)
  · exact ⟨rfl, rfl⟩

theorem State.takeStraps_sameStart (samples : List Nat) : SameStart s (s.takeStraps samples) := by
  unfold State.takeStraps
  extract_lets u v s1
  have h1 : SameStart s s1 := ⟨rfl, rfl⟩
  split
  · exact h1
  · exact h1.trans (s1.logErr_sameStart _)

theorem State.fallback_sameStart (code bank : Nat) : SameStart s (s.fallback code bank) := by
  have counted : SameStart s ((s.imgReject code (fwObj bank)).bumpStored Obj.IMG_FALLBACKS) := ⟨rfl, rfl⟩
  exact counted.trans (State.logErr_sameStart _ _)

theorem State.chooseVigil_sameStart (bad : List (Nat × Nat)) : SameStart s (s.chooseVigil bad).2 := by
  unfold State.chooseVigil
  extract_lets a c s1 d
  split
  · exact .refl s
  · have h1 : SameStart s s1 := s.fallback_sameStart c a
    split
    · exact h1
    · exact (h1.trans (s1.imgReject_sameStart _ _)).trans (State.logErr_sameStart _ _)

theorem State.compareMajor_sameStart (x : FwSlot) : SameStart s (s.compareMajor x) := by
  unfold State.compareMajor
  extract_lets old oldMinor kept n _ _ s1 s2
  split
  · split
    · exact .refl s
    · exact s.latchStored_sameStart _ _
  · have h1 : SameStart s s1 := ⟨rfl, rfl⟩
    have h2 : SameStart s s2 := ((h1.trans (s1.latchStored_sameStart _ _)).trans (State.latchStored_sameStart _ _ _)).trans
      (State.latchStored_sameStart _ _ _)
    exact (h2.trans (s2.raise_told _ _ _ _ _).sameStart).trans (State.logErr_sameStart _ _)

theorem State.netFall_sameStart (n lst : Nat) : SameStart s (s.netFall n lst) := by
  unfold State.netFall
  split
  · have latched : SameStart s ((s.latch (Obj.NET_LINK_STATE + n) lst).bump (Obj.NET_LINK_DOWNS + n)) := ⟨rfl, rfl⟩
    exact latched.trans (State.discardPort_thinned _ n).sameStart
  · exact ⟨rfl, rfl⟩

theorem State.netRetrain_sameStart : SameStart s s.netRetrain := .foldl _ s fun a n => a.netFall_sameStart n _

theorem State.applyQui_sameStart (p : Nat → Bool) : SameStart s (s.applyQui p) := by
  unfold State.applyQui
  extract_lets now _ s1
  have h1 : SameStart s s1 := ⟨rfl, rfl⟩
  exact h1.trans (.foldl now s1 fun _ _ => ⟨rfl, rfl⟩)

theorem State.trainLink_sameStart (l : Nat) : SameStart s (s.trainLink l) := by
  unfold State.trainLink
  split
  · exact .refl s
  · exact ⟨rfl, rfl⟩

theorem State.trainPort_sameStart (port : Nat) : SameStart s (s.trainPort port) := by
  unfold State.trainPort
  extract_lets s1
  have h1 : SameStart s s1 := s.trainLink_sameStart _
  split
  · exact h1.trans (s1.trainLink_sameStart _)
  · exact h1

theorem State.readySoon_sameStart (port limit : Nat) : SameStart s (s.readySoon port limit) := ⟨rfl, rfl⟩

theorem State.hostRetrain_sameStart : SameStart s s.hostRetrain := by
  exact .foldl _ s fun a p => ((a.applyQui_sameStart (portQuiesce p)).trans (State.readySoon_sameStart _ p _)).trans
    (State.trainPort_sameStart _ p)

theorem pairsFor_sameStart (a : State × Nat) (p : Nat × Nat) : SameStart a.1 (pairsFor a p).1 := by
  unfold pairsFor
  split
  · exact .refl a.1
  · exact ⟨rfl, rfl⟩

theorem State.takePairs_sameStart : SameStart s s.takePairs := by
  unfold State.takePairs
  extract_lets counts
  exact List.foldlRecOn (motive := fun a : State × Nat => SameStart s a.1) counts pairsFor (.refl s)
    fun a ha p _ => ha.trans (pairsFor_sameStart a p)

theorem State.setLock_sameStart (st : Nat) : SameStart s (s.setLock st) := by
  rcases s.setLock_told st with told | ⟨same, -⟩
  · have latched : SameStart s (s.latch Obj.TIME_LOCK_STATE st) := ⟨rfl, rfl⟩
    exact latched.trans told.sameStart
  · rw [same]
    exact .refl s

theorem State.startTime_sameStart : SameStart s s.startTime := by
  unfold State.startTime
  extract_lets s1
  have h1 : SameStart s s1 := ⟨rfl, rfl⟩
  repeat' split
  · exact ⟨rfl, rfl⟩
  · exact ⟨rfl, rfl⟩
  · exact h1
  · exact h1.trans (s1.setLock_sameStart 1)

/-- Every rail is on and FAULT_N is released once the past is recorded. -/
theorem State.logPast_effect : s.logPast.pwr.rails = s.pwr.rails ∧ s.logPast.flt.faultN = false := by
  unfold State.logPast
  extract_lets s1 _ s2 s3
  have h1 : SameStart s s1 := by
    unfold s1
    split
    · exact s.logErr_sameStart _
    · exact .refl s
  have h2 : SameStart s1 s2 := by
    unfold s2
    split
    · exact .refl s1
    · exact s1.logErr_sameStart _
  have h3 : SameStart s2 s3 := by
    unfold s3
    split
    · exact s2.bumpStored_sameStart _
    · exact .refl s2
  have all := congrArg Power.rails ((h1.trans h2).trans h3).pwr
  exact ⟨all, rfl⟩

theorem State.enterVigil_effect : SameStart s s.enterVigil ∧ s.enterVigil.mode = ModeSt.reset ∧
    s.enterVigil.cfg Obj.MODE_CURRENT = 0 := by
  unfold State.enterVigil
  extract_lets r old s1 s2 s3
  have h1 : SameStart s s1 := by
    unfold s1
    split <;> exact ⟨rfl, rfl⟩
  have h3 : SameStart s1 s3 := ⟨rfl, rfl⟩
  have shown : s3.cfg Obj.MODE_CURRENT = 0 := by
    unfold s3
    rw [State.cfg_bump, State.cfg_latch_ne _ _ _ _ (by decide), State.cfg_latch_ne _ _ _ _ (by decide), State.cfg_latch_self]
  have told : Told s3 ((s3.raise 0x0010 1 0 (toBe 1 old ++ toBe 1 0 ++ toBe 1 s.pwr.reason)).aplic 2) :=
    (s3.raise_told _ _ _ _ _).trans (State.aplic_told _ _)
  obtain ⟨-, -, -, -, -, -, -, -, -, -, hmode, -⟩ := told.frame
  exact ⟨(h1.trans h3).trans told.sameStart, hmode, (told.cfg0 (by decide)).trans shown⟩

end

theorem State.vigilStart_emits (s : State) (samples : List Nat) (bad : List (Nat × Nat)) (copies : Nat) (corrupt : List Nat) :
    ∃ t : State, s.vigilStart samples bad copies corrupt = t.emit (.stage 1) ∧ t.pwr.rails = .run ∧ t.flt.faultN = false ∧
      t.mode = ModeSt.reset ∧ t.cfg Obj.MODE_CURRENT = 0 := by
  unfold State.vigilStart
  extract_lets _ s0 s1 s2 r s3 s4 s5
  have h1 : SameStart s0 s1 := (((s0.dropCorrupt_sameStart corrupt).trans (State.readStore_sameStart _ _)).trans
    (State.loadSettings_sameStart _)).trans (State.bumpStored_sameStart _ _)
  have h2 : SameStart s1 s2 := s1.takeStraps_sameStart _
  have hr : SameStart s2 r.2 := by
    refine SameStart.trans ?_ (State.chooseVigil_sameStart _ _)
    split
    · exact .refl s2
    · exact s2.logErr_sameStart _
  have h3 : SameStart r.2 s3 := by
    unfold s3
    split
    · exact (r.2.compareMajor_sameStart _).trans (State.loadSettings_sameStart _)
    · exact .refl r.2
  have rails3 : s3.pwr.rails = .run := congrArg Power.rails (((h1.trans h2).trans hr).trans h3).pwr
  obtain ⟨rails4, fault4⟩ := (s3.latch Obj.IMG_RUNNING r.1).logPast_effect
  have h5 : SameStart s4 s5 := ⟨rfl, rfl⟩
  have h6 : SameStart s5 s5.netRetrain.hostRetrain.takePairs.startTime :=
    (((s5.netRetrain_sameStart).trans (State.hostRetrain_sameStart _)).trans (State.takePairs_sameStart _)).trans
      (State.startTime_sameStart _)
  obtain ⟨hsame, hmode, hcur⟩ := s5.netRetrain.hostRetrain.takePairs.startTime.enterVigil_effect
  have all := (h5.trans h6).trans hsame
  exact ⟨_, rfl, (congrArg Power.rails all.pwr).trans (rails4.trans rails3), all.faultN.trans fault4, hmode, hcur⟩

theorem State.vigilStart_effect (s : State) (samples : List Nat) (bad : List (Nat × Nat)) (copies : Nat) (corrupt : List Nat) :
    ∃ t : State, s.vigilStart samples bad copies corrupt = t.emit (.stage 1) ∧ t.pwr.rails = .run ∧ t.flt.faultN = false ∧
      t.mode = ModeSt.reset ∧ t.cfg Obj.MODE_CURRENT = 0 ∧ t.clock = s.clock := by
  obtain ⟨t, ht, hrails, hfault, hmode, hcur⟩ := s.vigilStart_emits samples bad copies corrupt
  obtain ⟨clock, -⟩ := s.vigilStart_keep samples bad copies corrupt
  rw [ht] at clock
  exact ⟨t, ht, hrails, hfault, hmode, hcur, clock⟩

/-! ### The commands -/

section
variable {s : State} {dt : Nat}

theorem exec_clockLoss_chip {which : Nat} (alive : s.alive = true) (cycle : s.mgmt.cycle = []) (h : which < 2) :
    exec (.clockLoss dt which) s = .next ((s.tick dt).fatal (ErrInfo.mk' 3 0 0x45 which 0x0D 7)) := by
  have alive' : (s.tick dt).alive = true := alive
  refine Eq.trans (show execClockLoss .. = .next _ from faultCmd_then ?_ cycle) ?_
  · simp [alive', show which < 4 by omega]
  · rw [if_pos h]

theorem exec_vigilFirmwareStart (boot : s.pwr.rails = .boot) (fed : s.pkg.vflashOff = none) (samples : List Nat)
    (bad : List (Nat × Nat)) (copies : Nat) (corrupt : List Nat) :
    exec (.vigilFirmwareStart dt samples bad copies corrupt) s =
      .next ((s.tick dt).vigilStart samples bad copies corrupt) := by
  have boot' : (s.tick dt).pwr.rails = .boot := boot
  have fed' : (s.tick dt).pkg.vflashOff = none := fed
  refine show execVigilFirmwareStart .. = .next _ from cmd_then ?_
  simp only [boot', fed', Option.isNone_none, Bool.and_true, beq_self_eq_true]

/-- A trip after the rails went off. -/
def State.trip (s : State) : State :=
  { s.railsOff with pwr := { s.railsOff.pwr with tripped := true, tripToLog := true } }

theorem exec_thermtrip (on : s.pwr.rails ≠ .off) :
    exec (.thermtrip dt) s = .next ((s.tick dt).bumpStored Obj.THERM_TRIPS).trip := by
  refine show execThermtrip .. = .next _ from cmd_then ?_
  simpa [State.powered, State.tick] using on

/-- The state in which a cold start begins its boot. -/
def State.coldState (s : State) : State :=
  let t := s.wipe
  { t with
    now := 0
    pwr := { t.pwr with resetN := true, vin := true, tripped := false, ovLatch := false, lockedAtEntry := false } }

theorem exec_coldStart {rose removed dipped hot : Bool} (straps : List Nat)
    (h : s.mayStart rose removed dipped hot = true) :
    exec (.coldStart dt straps rose removed dipped hot) s = .next ((s.tick dt).coldState.toBoot 0 none straps) :=
  show execColdStart .. = .next _ from cmd_then h

theorem exec_coldStart_not {rose removed dipped hot : Bool} (straps : List Nat)
    (h : s.mayStart rose removed dipped hot = false) :
    exec (.coldStart dt straps rose removed dipped hot) s = .next (s.tick dt) :=
  show execColdStart .. = .next _ from cmd_else h

theorem exec_outputOverload {which : Nat} (hw : which < 2) (powered : s.outputsPowered = true)
    (on : s.outputOff which = none) : exec (.outputOverload dt which) s =
      .next ((((s.tick dt).fwSettle 0).setOutput which (some (s.clock + dt))).logErr (ErrInfo.mk' 3 0 0x47 which 0x0E 8)) := by
  have powered' : (s.tick dt).outputsPowered = true := powered
  have on' : (s.tick dt).outputOff which = none := on
  refine show execOutputOverload .. = .next _ from cmd_then ?_
  simp only [decide_eq_true hw, powered', on', Option.isNone_none, Bool.and_self]

theorem exec_outputRetry {which a : Nat} (hw : which < 2) (powered : s.outputsPowered = true)
    (off : s.outputOff which = some a) (due : a + 100000000 ≤ s.clock + dt) :
    exec (.outputRetry dt which) s = .next (((s.tick dt).fwSettle 0).setOutput which none) := by
  have powered' : (s.tick dt).outputsPowered = true := powered
  have off' : (s.tick dt).outputOff which = some a := off
  have due' : a + 100000000 ≤ (s.tick dt).clock := due
  refine show execOutputRetry .. = .next _ from cmd_then ?_
  simp only [decide_eq_true hw, powered', off', decide_eq_true due', Bool.and_self]

end

theorem State.outputOff_setOutput (s : State) {which : Nat} (v : Option Nat) : (s.setOutput which v).outputOff which = v ∧
    (s.setOutput which v).pwr = s.pwr := by
  unfold State.setOutput State.outputOff
  split <;> exact ⟨rfl, rfl⟩

theorem State.coldState_effect (s : State) : s.coldState.now = 0 ∧ s.coldState.pwr =
    { s.pwr.kept with resetN := true, vin := true, tripped := false, ovLatch := false, lockedAtEntry := false } := by
  obtain ⟨hpwr, -⟩ := s.wipe_power
  unfold State.coldState
  generalize s.wipe = t at hpwr
  exact ⟨rfl, congrArg (fun p : Power =>
    { p with resetN := true, vin := true, tripped := false, ovLatch := false, lockedAtEntry := false }) hpwr⟩

/-- Settles O60: the pins follow the fault latch, the trip and the supplies. -/
theorem outputPinsFollowFaultsAndSupplies : Obligations.OutputPinsFollowFaultsAndSupplies := by
  unfold Obligations.OutputPinsFollowFaultsAndSupplies
  intro dt s
  refine ⟨fun alive cycle which hw => ?fault, fun samples copies boot fed => ?vigil, fun on => ?trip,
    fun straps dipped off jtag ov tripped => ?cold, fun powered on => ⟨fun en => ?low, ?undriven⟩⟩
  case fault =>
    obtain ⟨hfault, -⟩ := (s.tick dt).fatal_effect (ErrInfo.mk' 3 0 0x45 which 0x0D 7)
    refine ⟨_, exec_clockLoss_chip alive cycle hw, ?_⟩
    rw [State.faultPin, hfault, Bool.true_or]
  case vigil =>
    obtain ⟨t, ht, -, hfault, hmode, -⟩ := (s.tick dt).vigilStart_effect samples [] copies []
    refine ⟨_, exec_vigilFirmwareStart boot fed samples [] copies [], ?_⟩
    rw [ht]
    change (t.flt.faultN || (t.mode.fenced.isSome && _)) = false
    rw [hfault, hmode]
    rfl
  case trip =>
    obtain ⟨hpwr, -⟩ := ((s.tick dt).bumpStored Obj.THERM_TRIPS).railsOff_effect
    refine ⟨_, exec_thermtrip on, rfl, ?_⟩
    have off : ((s.tick dt).bumpStored Obj.THERM_TRIPS).trip.pwr.rails = .off := congrArg Power.rails hpwr
    rw [State.ppsOut, State.outputsPowered, off]
    rfl
  case cold =>
    obtain ⟨-, hpwr⟩ := (s.tick dt).coldState_effect
    refine ⟨⟨_, exec_coldStart straps ?_, congrArg Power.tripped hpwr, rfl⟩, exec_coldStart_not straps ?_⟩
    · simp [State.mayStart, off, jtag, ov]
    · simp [State.mayStart, tripped]
  case low => simp [State.ppsOut, powered, on, en]
  case undriven =>
    refine ⟨_, exec_outputOverload (by decide) powered on, ?_⟩
    obtain ⟨-, -, -, -, -, -, -, -, -, -, -, -, -, -, -, -, -, -, hpkg⟩ :=
      ((((s.tick dt).fwSettle 0).setOutput 0 (some (s.clock + dt))).logErr_told (ErrInfo.mk' 3 0 0x47 0 0x0E 8)).frame
    rw [State.ppsOut, hpkg]
    simp [State.setOutput]

/-! ### JTAG and the supply outputs (R495, R502) -/

/-- The state in which a test instruction holds the chip. -/
def State.testHeld (s : State) : State :=
  let t := s.wipe
  { t with
    pwr := { t.pwr with rails := if s.pwr.rails == .off then Rails.off else Rails.held }
    pkg := { t.pkg with jtag := true } }

theorem State.testHeld_effect (s : State) : s.testHeld.pkg.jtag = true ∧ s.testHeld.alive = false ∧ s.testHeld.pkts = [] ∧
    s.testHeld.fuse = s.fuse := by
  obtain ⟨-, -, hfuse⟩ := s.wipe_keep
  have hpkts := s.wipe_pkts
  refine ⟨rfl, ?_, hpkts, hfuse⟩
  change ((if s.pwr.rails == .off then Rails.off else Rails.held) == .run) = false
  split <;> rfl

/-- Test-Logic-Reset lets the chip go. -/
def State.testFree (s : State) : State := { s with pkg := { s.pkg with jtag := false } }

/-- A cold start by Test-Logic-Reset. -/
def State.testStart (s : State) : State :=
  let t := s.testFree.wipe
  ({ t with now := 0, pwr := { t.pwr with lockedAtEntry := false } } : State).toBoot 0 none []

section
variable {s : State} {dt : Nat}

theorem exec_jtagInstruction (i : TapInst) : exec (.jtagInstruction dt i) s =
    .next (if tapQuiet i = true then (s.tick dt).testFree else (s.tick dt).testHeld) :=
  show execJtagInstruction .. = .next _ from cmd_then rfl

theorem exec_testLogicReset (h : s.pkg.jtag = true) : exec (.testLogicReset dt) s =
    .next (if ((s.tick dt).testFree.mayStart false false false false && (s.tick dt).testFree.pwr.vin) = true
      then (s.tick dt).testStart else (s.tick dt).testFree) :=
  show execTestLogicReset .. = .next _ from cmd_then h

end

/-- Settles O59: each pin's command sets its own fields. -/
theorem packagePinsAct : Obligations.PackagePinsAct := by
  unfold Obligations.PackagePinsAct
  intro dt s
  refine ⟨fun i quiet => ?quiet, fun i test => ?test, fun held low => ?low, fun held high rails trip ov vin => ?start,
    fun which hw powered => ⟨fun on => ?overload, fun a off due => ?retry⟩⟩
  case quiet =>
    rw [exec_jtagInstruction, if_pos quiet]
    rfl
  case test =>
    refine ⟨_, ?_, (s.tick dt).testHeld_effect⟩
    rw [exec_jtagInstruction, if_neg (by simp [test])]
  case low =>
    refine ⟨(s.tick dt).testFree, ?_, rfl, rfl⟩
    rw [exec_testLogicReset held, if_neg (by simp [State.mayStart, State.testFree, low])]
  case start =>
    have free : (s.tick dt).testFree.pwr = s.pwr := rfl
    have jtag : (s.tick dt).testFree.pkg.jtag = false := rfl
    obtain ⟨-, hpkg, -⟩ := (s.tick dt).testFree.wipe_power
    refine ⟨(s.tick dt).testStart, ?_, congrArg Package.jtag hpkg, rfl, rfl⟩
    rw [exec_testLogicReset held, if_pos (by simp [State.mayStart, free, jtag, high, rails, trip, ov, vin])]
  case overload =>
    refine ⟨_, exec_outputOverload hw powered on, ?_⟩
    have told := (((s.tick dt).fwSettle 0).setOutput which (some (s.clock + dt))).logErr_told (ErrInfo.mk' 3 0 0x47 which 0x0E 8)
    obtain ⟨-, -, -, -, -, -, -, -, -, -, -, -, -, -, -, -, -, -, hpkg⟩ := told.frame
    obtain ⟨hset, -⟩ := ((s.tick dt).fwSettle 0).outputOff_setOutput (which := which) (some (s.clock + dt))
    rw [State.outputOff, hpkg, ← State.outputOff, hset]
  case retry =>
    obtain ⟨hset, hpwr⟩ := ((s.tick dt).fwSettle 0).outputOff_setOutput (which := which) none
    exact ⟨_, exec_outputRetry hw powered off due, hset, hpwr⟩

end Sys2Proof.Machine
end

section
/-!
PROOFS. Requests and accesses of the cores (R36 to R38, R420, R468); sessions and the mailbox of the management ports (R388 to
R391).
-/

namespace Sys2Proof.Machine

/-! ### The mailbox of the cores -/

section
variable {s : State} {dt op v : Nat}

theorem csmFor_of_op (h : csmOp v = op) : csmFor op v = true := by
  simp [csmFor, h]

theorem csm_ask (alive : s.alive = true) (h : csmOp v = op) : csm op dt (some v) s = .next ((s.tick dt).csmWrite v) := by
  have alive' : (s.tick dt).alive = true := alive
  unfold csm
  refine cmd_then ?_
  rw [alive', csmFor_of_op h]
  rfl

theorem csm_answer (alive : s.alive = true) (h : csmOp v = op) (asked : s.mgmt.csmReq = some v) :
    csm op dt none s = .next ((s.tick dt).csmAnswer v) := by
  have alive' : (s.tick dt).alive = true := alive
  have asked' : (s.tick dt).mgmt.csmReq = some v := asked
  unfold csm
  refine (cmd_then ?_).trans ?_
  · rw [alive', asked', Option.any_some, csmFor_of_op h]
    rfl
  · simp only [asked']

theorem State.csmWrite_of_free (v : Nat) (h : s.mgmt.csmReq = none) :
    s.csmWrite v = { s with mgmt := { s.mgmt with csmReq := some v } } := by
  rw [State.csmWrite, h]
  rfl

theorem State.csmWrite_of_busy (v : Nat) (h : s.mgmt.csmReq ≠ none) : s.csmWrite v = s.bump Obj.MGMT_CSM_OVERLAP :=
  if_pos (Option.isSome_iff_ne_none.mpr h)

end

/-! ### Memory accesses -/

section
variable {s : State} {h a : Nat} (dt n : Nat)

theorem State.coreAt_app (hin : s.inApp a n = true) : s.coreAt a n = .app (a - appBase) := if_pos hin

theorem State.accesses (alive : s.alive = true) (run : s.core.harts[h]? = some .running) :
    ((s.tick dt).alive && (s.tick dt).core.harts[h]? == some .running) = true := by
  have alive' : (s.tick dt).alive = true := alive
  have run' : (s.tick dt).core.harts[h]? = some .running := run
  rw [alive', run']
  rfl

theorem exec_load_app (alive : s.alive = true) (run : s.core.harts[h]? = some .running) (hin : s.inApp a n = true) :
    exec (.coreMemoryAccess dt h a n none) s = .next (if s.poisoned (a - appBase) n then (s.tick dt).emit (.coreFault h)
      else (s.tick dt).emit (.coreData h (memRead s.core.mem (a - appBase) n))) := by
  have at_ : (s.tick dt).coreAt a n = .app (a - appBase) := State.coreAt_app n hin
  refine Eq.trans (show execCoreMemoryAccess dt h a n none s = .next _ from cmd_then (s.accesses dt alive run)) ?_
  simp only [at_]
  rfl

theorem exec_load_reserved (alive : s.alive = true) (run : s.core.harts[h]? = some .running)
    (out : s.coreAt a n = .reserved) :
    exec (.coreMemoryAccess dt h a n none) s = .next ((s.tick dt).emit (.coreFault h)) := by
  have at_ : (s.tick dt).coreAt a n = .reserved := out
  refine Eq.trans (show execCoreMemoryAccess dt h a n none s = .next _ from cmd_then (s.accesses dt alive run)) ?_
  simp only [at_]

theorem exec_store_app {d : Bytes} (alive : s.alive = true) (run : s.core.harts[h]? = some .running)
    (hin : s.inApp a d.length = true) : exec (.coreMemoryAccess dt h a n (some d)) s =
      .next { s.tick dt with core := { s.core with mem := memWrite s.core.mem (a - appBase) d } } := by
  have at_ : (s.tick dt).coreAt a d.length = .app (a - appBase) := State.coreAt_app _ hin
  refine Eq.trans (show execCoreMemoryAccess dt h a n (some d) s = .next _ from cmd_then (s.accesses dt alive run)) ?_
  simp only [at_]
  rfl

theorem exec_store_reserved {d : Bytes} (alive : s.alive = true) (run : s.core.harts[h]? = some .running)
    (out : s.coreAt a d.length = .reserved) :
    exec (.coreMemoryAccess dt h a n (some d)) s = .next ((s.tick dt).emit (.coreFault h)) := by
  have at_ : (s.tick dt).coreAt a d.length = .reserved := out
  refine Eq.trans (show execCoreMemoryAccess dt h a n (some d) s = .next _ from cmd_then (s.accesses dt alive run)) ?_
  simp only [at_]

end

/-- Settles O51: requests by the state of CSM_REQ, accesses by what lies at the address. -/
theorem coresAskAndAccessMemory : Obligations.CoresAskAndAccessMemory := by
  unfold Obligations.CoresAskAndAccessMemory
  intro dt s alive
  refine ⟨fun op v c hc hop => ?ask, fun op v c hc hop asked => ?answer, fun h a run =>
    ⟨fun n hin clean => ?load, fun n hin bad => ?poison, fun n d hin => ?store, fun n d => ⟨fun out => ?noLoad, fun out => ?noStore⟩⟩⟩
  case ask =>
    have run : exec c s = .next ((s.tick dt).csmWrite v) := by
      rcases hc with ⟨rfl, rfl⟩ | ⟨rfl, rfl⟩ | ⟨rfl, rfl⟩ <;> exact csm_ask alive hop
    exact ⟨fun free => run.trans (congrArg Host.Outcome.next ((s.tick dt).csmWrite_of_free v free)),
      fun busy => run.trans (congrArg Host.Outcome.next ((s.tick dt).csmWrite_of_busy v busy))⟩
  case answer =>
    have run : exec c s = .next ((s.tick dt).csmAnswer v) := by
      rcases hc with ⟨rfl, rfl⟩ | ⟨rfl, rfl⟩ | ⟨rfl, rfl⟩ <;> exact csm_answer alive hop asked
    refine ⟨_, run, rfl, rfl, ?_⟩
    change (if (csmOp v == 1 && !csmBad v) = true then _ else _) = _
    rw [hop]
    simp only [Bool.and_eq_true, beq_iff_eq, Bool.not_eq_true']
    rfl
  case load => rw [exec_load_app dt n alive run hin, if_neg (by simp [clean])]
  case poison => rw [exec_load_app dt n alive run hin, if_pos bad]
  case store => exact ⟨_, exec_store_app dt n alive run hin, rfl⟩
  case noLoad => exact exec_load_reserved dt n alive run out
  case noStore => exact exec_store_reserved dt n alive run out

/-! ### Sessions -/

section
variable (s : State)

theorem State.orphan_mgmt (k : Nat × Nat) : (s.orphan k).mgmt = s.mgmt := rfl

theorem State.closeSess_sessions (k : Nat × Nat) : (s.closeSess k).sess? k = none := by
  unfold State.closeSess State.sess?
  rw [List.find?_eq_none]
  intro x hx
  simpa using (List.mem_filter.mp hx).2

/-- The semaphore and its queue once a session has left. -/
theorem State.closeSess_holder (k : Nat × Nat) :
    (s.closeSess k).mgmt.holder ≠ some k ∧ k ∉ (s.closeSess k).mgmt.waiting := by
  unfold State.closeSess
  extract_lets _ s1 s2 s3 _
  have gone : k ∉ s1.mgmt.waiting := fun h => by simpa using (List.mem_filter.mp h).2
  have h2 : s2.mgmt.holder ≠ some k ∧ k ∉ s2.mgmt.waiting := by
    unfold s2
    split
    next held =>
      obtain ⟨hholder, hwaiting, -⟩ := State.freeSem_effect (beq_iff_eq.mp held) false
      rw [hholder, hwaiting]
      exact ⟨fun h => gone (List.mem_of_head? h), fun h => gone (List.mem_of_mem_tail h)⟩
    next other => exact ⟨fun h => other (beq_iff_eq.mpr h), gone⟩
  obtain ⟨_, _, _, _, hdrop⟩ := s2.dropChans_part k fun _ => true
  have h3 : s3.mgmt.holder = s2.mgmt.holder ∧ s3.mgmt.waiting = s2.mgmt.waiting := by
    unfold s3
    rw [State.orphan_mgmt, hdrop]
    exact ⟨rfl, rfl⟩
  exact ⟨fun h => h2.1 (h3.1.symm.trans h), fun h => h2.2 (h3.2 ▸ h)⟩

end

/-! ### The mailbox to the host -/

section
variable (s : State)

theorem State.holdInt_mgmt (f vec : Nat) (pasid : Option Nat) : (s.holdInt f vec pasid).mgmt = s.mgmt := by
  unfold State.holdInt
  extract_lets x
  split <;> rfl

theorem State.wakeLink_mgmt (l : Nat) : (s.wakeLink l).mgmt = s.mgmt := by
  unfold State.wakeLink
  split <;> rfl

theorem State.deliverInt_mgmt (f vec : Nat) (pasid : Option Nat) : (s.deliverInt f vec pasid).mgmt = s.mgmt := by
  unfold State.deliverInt
  extract_lets x e s1 s2 m
  have h1 : s1.mgmt = s.mgmt := by
    unfold s1
    split <;> rfl
  have h2 : s2.mgmt = s.mgmt := by
    unfold s2
    split
    · exact s.wakeLink_mgmt _
    · rfl
  repeat' split
  · rfl
  · exact s.holdInt_mgmt _ _ _
  · rfl
  · exact (s1.holdInt_mgmt _ _ _).trans h1
  · exact (s2.holdInt_mgmt _ _ _).trans h2
  · rfl
  · rfl
  · exact s.holdInt_mgmt _ _ _
  · exact s.wakeLink_mgmt _

theorem State.nextMail_mgmt :
    s.nextMail.mgmt = { s.mgmt with d2h := s.mgmt.d2h.tail, d2hReady := !s.mgmt.d2h.tail.isEmpty } := by
  unfold State.nextMail
  rw [List.drop_one]
  extract_lets rest _ t
  split
  · rfl
  · exact t.deliverInt_mgmt _ _ _

end

/-! ### The commands -/

section
variable {s : State} {dt port n : Nat}

theorem State.noMail (h : port = 0 ∨ s.mailbox = false) : (port == 1 && s.mailbox) = false := by
  rcases h with rfl | h
  · rfl
  · rw [h, Bool.and_false]

theorem State.portHears (alive : s.alive = true) (hp : port < 2) (h : port = 0 ∨ s.mailbox = false) :
    ((s.tick dt).alive && decide (port < 2) && (!(port == 1 && (s.tick dt).mailbox) || (s.tick dt).mgmt.h2dBusy)) = true := by
  have alive' : (s.tick dt).alive = true := alive
  have mail : (port == 1 && (s.tick dt).mailbox) = false := State.noMail h
  rw [alive', decide_eq_true hp, mail]
  rfl

theorem exec_mgmtFrameReceive (alive : s.alive = true) (hp : port < 2) (h : port = 0 ∨ s.mailbox = false) (f : MgmtFrame) :
    exec (.mgmtFrameReceive dt port f) s = .next (if (decide (f.ask < 4) && s.frameOk port f && s.ownAddr port f) = true
      then (s.tick dt).emit (.mgmtAnswer port f.ask f.addr) else (s.tick dt).bump (Obj.MGMT_RX_DISCARD + port)) := by
  refine Eq.trans (show execMgmtFrameReceive .. = .next _ from cmd_then (State.portHears alive hp h)) ?_
  have mail : (port == 1 && (s.tick dt).mailbox) = false := State.noMail h
  rw [if_neg (by simp [mail])]
  rfl

/-- The session that a hello opens under its own number. -/
def helloSession (h : Hello) (port clock : Nat) : Session :=
  { port := port, num := h.num, last := clock, mask := 0, evSeq := 0, kept := [], stage := Staging.none_, chans := [],
    peer := h.peer, local_ := h.at_, cert := h.cert }

/-- The outcome of a hello on a port that is no mailbox. -/
def State.greet (s : State) (port : Nat) (h : Hello) : State :=
  match s.freeSess port with
  | [] => s.bump (Obj.MGMT_DTLS_FAIL + port)
  | n :: rest =>
    if s.helloOk h then s.openSess port (if (n :: rest).contains h.num then h.num else n) h
    else s.bump (Obj.MGMT_DTLS_FAIL + port)

theorem State.greet_of_free {h : Hello} (free : h.num ∈ s.freeSess port) (ok : s.helloOk h = true) :
    s.greet port h = s.openSess port h.num h := by
  unfold State.greet
  split
  next none_ =>
    rw [none_] at free
    exact absurd free List.not_mem_nil
  next n rest some_ =>
    rw [some_] at free
    rw [if_pos ok, if_pos (List.contains_iff_mem.mpr free)]

theorem State.greet_of_bad {h : Hello} (bad : s.freeSess port = [] ∨ s.helloOk h = false) :
    s.greet port h = s.bump (Obj.MGMT_DTLS_FAIL + port) := by
  unfold State.greet
  split
  · rfl
  next some_ =>
    rcases bad with none_ | bad
    · rw [some_] at none_
      exact absurd none_ (List.cons_ne_nil _ _)
    · rw [if_neg (by simp [bad])]

theorem exec_clientHello (alive : s.alive = true) (hp : port < 2) (nm : port = 0 ∨ s.mailbox = false) (h : Hello) :
    exec (.clientHello dt port h) s = .next (if s.hasAddr port h.at_ = true then (s.tick dt).greet port h
      else (s.tick dt).bump (Obj.MGMT_RX_DISCARD + port)) := by
  refine Eq.trans (show execClientHello .. = .next _ from cmd_then (State.portHears alive hp nm)) ?_
  have mail : (port == 1 && (s.tick dt).mailbox) = false := State.noMail nm
  have same : (s.tick dt).hasAddr port h.at_ = s.hasAddr port h.at_ := rfl
  simp only [mail, Bool.false_eq_true, if_false, Bool.not_false, Bool.true_and, same]
  cases s.hasAddr port h.at_ <;> rfl

theorem State.mailbox_after (mail : s.mailbox = true) : (s.after dt).mailbox = true := by
  rw [State.mailbox, State.after_cfg _ _ (by decide), ← State.mailbox, mail]

theorem exec_page0 {c : Instr} {act : State → State} (takes : (s.after dt).reach 0 = .takes)
    (hc : exec c s = pageCmd dt 0 s act) : exec c s = .next (act (s.after dt)) := by
  refine hc.trans ((work_then rfl).trans ?_)
  change Host.Outcome.next ((s.after dt).pageWrite 0 act) = _
  rw [State.pageWrite, takes]

end

/-- Settles O50: each command on its port. -/
theorem managementPortsOpenAndCloseSessions : Obligations.ManagementPortsOpenAndCloseSessions := by
  unfold Obligations.ManagementPortsOpenAndCloseSessions
  intro dt port n s alive
  refine ⟨fun f hp nm => ⟨fun ask ok own => ?answered, fun bad => ?counted⟩,
    fun h hp nm => ⟨fun addr free ok => ?opens, fun addr bad => ?fails, fun addr => ?discarded⟩,
    fun hears => ?close, fun stale => ?idle, fun mail takes => ⟨fun v idle lo hi => ?length, fun v bad => ?overlap, fun v hv ready => ?ack⟩⟩
  case answered =>
    rw [exec_mgmtFrameReceive alive hp nm, if_pos (by simp [ask, ok, own])]
  case counted =>
    rw [exec_mgmtFrameReceive alive hp nm, if_neg]
    simp only [Bool.and_eq_true, decide_eq_true_eq]
    rintro ⟨⟨ask, ok⟩, own⟩
    rcases bad with h | h | h
    · omega
    · rw [ok] at h
      exact Bool.noConfusion h
    · rw [own] at h
      exact Bool.noConfusion h
  case opens =>
    have free' : h.num ∈ (s.tick dt).freeSess port := free
    have ok' : (s.tick dt).helloOk h = true := ok
    refine ⟨(s.tick dt).openSess port h.num h, helloSession h port (s.clock + dt), ?_, rfl, rfl, rfl, rfl, rfl, rfl, rfl, rfl, rfl⟩
    rw [exec_clientHello alive hp nm, if_pos addr, State.greet_of_free free' ok']
  case fails =>
    have bad' : (s.tick dt).freeSess port = [] ∨ (s.tick dt).helloOk h = false := bad
    rw [exec_clientHello alive hp nm, if_pos addr, State.greet_of_bad bad']
  case discarded =>
    rw [exec_clientHello alive hp nm, if_neg (by simp [addr])]
  case close =>
    have run : exec (.sessionClose dt port n) s = .next (((s.tick dt).touch (port, n)).closeSess (port, n)) :=
      show execSessionClose .. = .next _ from cmd_then hears
    obtain ⟨hholder, hwaiting⟩ := ((s.tick dt).touch (port, n)).closeSess_holder (port, n)
    exact ⟨_, run, State.closeSess_sessions _ _, hholder, hwaiting⟩
  case idle =>
    have alive' : (s.tick dt).alive = true := alive
    refine ⟨_, show execSessionIdleTimeout .. = .next _ from cmd_then ?_, State.closeSess_sessions _ _⟩
    rw [alive', stale]
    rfl
  case length =>
    refine ⟨{ s.after dt with mgmt := { (s.after dt).mgmt with h2dBusy := true } }, ?_, by simp, by simp⟩
    refine (exec_page0 (c := .mbxH2dLen dt v) takes rfl).trans ?_
    have mail' : (s.after dt).mailbox = true := State.mailbox_after mail
    simp only [mail', State.after_mgmt, idle, Bool.not_true, Bool.false_eq_true, if_false, Bool.false_or]
    rw [if_neg]
    simp only [Bool.or_eq_true, beq_iff_eq, decide_eq_true_eq]
    omega
  case overlap =>
    refine (exec_page0 (c := .mbxH2dLen dt v) takes rfl).trans ?_
    have mail' : (s.after dt).mailbox = true := State.mailbox_after mail
    simp only [mail', State.after_mgmt, Bool.not_true, Bool.false_eq_true, if_false]
    rw [if_pos]
    simpa only [Bool.or_eq_true, beq_iff_eq, decide_eq_true_eq, or_assoc] using bad
  case ack =>
    refine ⟨(s.after dt).nextMail, ?_, ?_, ?_⟩
    · refine (exec_page0 (c := .mbxD2hAck dt v) takes rfl).trans ?_
      have mail' : (s.after dt).mailbox = true := State.mailbox_after mail
      simp only [mail', State.after_mgmt, hv, ready, Bool.and_self, if_true]
    · rw [State.nextMail_mgmt, State.after_mgmt]
    · rw [State.nextMail_mgmt, State.after_mgmt]

end Sys2Proof.Machine
end

section
/-!
PROOFS. The ends of DRAIN and DORMANT (R433 to R441); power steps, sensors and supplies (R436 to R445).
-/

namespace Sys2Proof.Machine

/-! ### Steps and modes -/

section
variable (s : State)

theorem State.setStep_frame (n : Nat) : (s.setStep n).pwr = s.pwr ∧ (s.setStep n).pkts = s.pkts ∧
    (s.setStep n).clock = s.clock ∧ (s.setStep n).mode = { s.mode with step := n } ∧
    (s.setStep n).cfg Obj.MODE_POWER_STEP = n ∧
    (s.setStep n).ctr (Obj.PWR_STEP_ENTRIES + n) = Nat.min u64Max (s.ctr (Obj.PWR_STEP_ENTRIES + n) + 1) := by
  refine ⟨rfl, rfl, rfl, rfl, ?_, ?_⟩
  · rw [State.setStep, State.cfg_bump]
    exact State.cfg_latch_self _ _ _
  · rw [State.setStep, State.ctr_bump_self]
    rfl

theorem State.retestFromNow_frame : s.retestFromNow.mode = s.mode ∧ s.retestFromNow.pwr = s.pwr ∧
    s.retestFromNow.clock = s.clock := by
  unfold State.retestFromNow
  split <;> exact ⟨rfl, rfl, rfl⟩

theorem State.toIsland_effect : s.toIsland.pwr.rails = .island ∧ s.toIsland.mode.step = 4 ∧ s.toIsland.core.mem = [] := by
  have mem := s.wipe_mem
  unfold State.toIsland
  generalize s.wipe = t at mem
  exact ⟨rfl, rfl, mem⟩

/-! ### Wake sources -/

theorem State.wake_entering (h : s.pwr.entering = true) :
    s.wake = { s with pwr := { s.pwr with wakePending := true } } := if_pos h

theorem State.wake_running (h : s.pwr.entering = false) (run : s.pwr.rails = .run) :
    s.wake.pwr.exit = some (s.pwr.exit.getD 8) := by
  unfold State.wake
  rw [if_neg (by simp [h]), if_neg (by simp [run])]
  cases hx : s.pwr.exit with
  | none => rfl
  | some r => exact hx

theorem State.wake_island (h : s.pwr.entering = false) (off : s.pwr.rails = .island) : s.wake.pwr.rails = .boot ∧
    s.wake.pwr.reason = 8 := by
  unfold State.wake
  rw [if_neg (by simp [h]), if_pos (by simp [off])]
  extract_lets r
  obtain ⟨hrails, hreason, -⟩ := State.chipReset_effect { r.2 with now := s.now - r.1 % 40 } 8
  exact ⟨hrails, hreason⟩

end

/-! ### The commands -/

/-- The forced drain, once the functions that hold work have been squashed. -/
def State.forceDrain (s : State) : State :=
  let t := (s.busyFns.foldl State.squash s).bumpN Obj.MODE_DRAIN_FORCED s.busyFns.length
  { t with pwr := { t.pwr with drainForced := true } }

/-- The entry to DORMANT has ended in the step aimed at. -/
def State.entered (s : State) : State :=
  ({ s with pwr := { s.pwr with entering := false, wakePending := false } } : State).setStep s.pwr.aim

/-- What the end of an exit shows to hosts: woken ports and links that train. -/
def State.awaken (s : State) : State :=
  let t := [0, 1].foldl (fun (a : State) p =>
    if a.linkState (2 * p) == 7 || a.linkState (2 * p + 1) == 7 then a.emit (.wake p) else a) s
  (List.range 4).foldl (fun (a : State) l =>
    if a.linkState l == 0 && !a.hs.perst.contains (l / 2) && (l % 2 == 0 || a.cfg (Obj.HST_BIFURCATE + l / 2) == 1)
    then a.latch (Obj.HST_LINK_STATE + l) 1 else a) t

theorem State.awaken_frame (s : State) : s.awaken.mode = s.mode ∧ s.awaken.pwr = s.pwr := by
  unfold State.awaken
  extract_lets t
  have ht : t.mode = s.mode ∧ t.pwr = s.pwr :=
    List.foldlRecOn (motive := fun a : State => a.mode = s.mode ∧ a.pwr = s.pwr) _ _ ⟨rfl, rfl⟩ fun a ha p _ => by
      split <;> exact ha
  exact List.foldlRecOn (motive := fun a : State => a.mode = s.mode ∧ a.pwr = s.pwr) _ _ ht fun a ha l _ => by
    split <;> exact ha

/-- The state in which an exit from DORMANT ends, before hosts see it. -/
def State.exited (s : State) : State :=
  let t : State := { s with pwr := { s.pwr with exit := none, busyAt := s.clock } }
  ((t.setStep 0).setMode t.serviceMode (if s.mode.fenced.isSome then 8 else s.pwr.exit.getD 1)).retestFromNow

theorem State.exited_frame (s : State) : s.exited.mode = { s.mode with mode := s.serviceMode, step := 0 } ∧
    s.exited.pwr.exit = none := by
  unfold State.exited
  extract_lets _ t
  obtain ⟨hpwr, -, -, hmode, -⟩ := t.setStep_frame 0
  obtain ⟨hmode', -, -, hpwr', -⟩ :=
    (t.setStep 0).setMode_frame t.serviceMode (if s.mode.fenced.isSome then 8 else s.pwr.exit.getD 1)
  obtain ⟨hmode'', hpwr'', -⟩ := ((t.setStep 0).setMode t.serviceMode
    (if s.mode.fenced.isSome then 8 else s.pwr.exit.getD 1)).retestFromNow_frame
  refine ⟨?_, ?_⟩
  · rw [hmode'', hmode', hmode]
    rfl
  · rw [hpwr'', hpwr', hpwr]

section
variable {s : State} {dt : Nat}

theorem exec_drainDone (alive : s.alive = true) (mode : s.mode.mode = .drain) (undone : s.cfg Obj.MODE_DRAIN_DONE = 0)
    (ended : (s.tick dt).drainOver = true) : exec (.drainDone dt) s = .next ((s.tick dt).latch Obj.MODE_DRAIN_DONE 1) := by
  have alive' : (s.tick dt).alive = true := alive
  have mode' : (s.tick dt).mode.mode = .drain := mode
  have undone' : (s.tick dt).cfg Obj.MODE_DRAIN_DONE = 0 := undone
  refine show execDrainDone .. = .next _ from cmd_then ?_
  rw [alive', mode', undone', ended]
  rfl

theorem exec_modeDrainLimit (alive : s.alive = true) (mode : s.mode.mode = .drain) (undone : s.cfg Obj.MODE_DRAIN_DONE = 0)
    (unforced : s.pwr.drainForced = false) (due : s.pwr.drainAt + s.pwr.drainLimit * 1000000 ≤ s.clock + dt) :
    exec (.modeDrainLimit dt) s = .next (s.tick dt).forceDrain := by
  have alive' : (s.tick dt).alive = true := alive
  have mode' : (s.tick dt).mode.mode = .drain := mode
  have undone' : (s.tick dt).cfg Obj.MODE_DRAIN_DONE = 0 := undone
  have unforced' : (s.tick dt).pwr.drainForced = false := unforced
  have due' : (s.tick dt).pwr.drainAt + (s.tick dt).pwr.drainLimit * 1000000 ≤ (s.tick dt).clock := due
  refine show execModeDrainLimit .. = .next _ from cmd_then ?_
  rw [alive', mode', undone', unforced', decide_eq_true due']
  rfl

theorem exec_dormantEntryComplete (alive : s.alive = true) (mode : s.mode.mode = .dormant) (entering : s.pwr.entering = true)
    (quiet : s.pwr.wakePending = false) : exec (.dormantEntryComplete dt) s =
      .next (if s.pwr.aim == 4 then (s.tick dt).entered.toIsland else (s.tick dt).entered) := by
  have alive' : (s.tick dt).alive = true := alive
  have mode' : (s.tick dt).mode.mode = .dormant := mode
  have entering' : (s.tick dt).pwr.entering = true := entering
  have quiet' : (s.tick dt).pwr.wakePending = false := quiet
  refine Eq.trans (show execDormantEntryComplete .. = .next _ from cmd_then ?_) ?_
  · rw [alive', mode', entering']
    rfl
  · rw [quiet']
    rfl

theorem exec_dormantExitComplete {r : Nat} (alive : s.alive = true) (mode : s.mode.mode = .dormant)
    (exits : s.pwr.exit = some r) : exec (.dormantExitComplete dt) s = .next (s.tick dt).exited.awaken := by
  have alive' : (s.tick dt).alive = true := alive
  have mode' : (s.tick dt).mode.mode = .dormant := mode
  have exits' : (s.tick dt).pwr.exit = some r := exits
  refine show execDormantExitComplete .. = .next _ from cmd_then ?_
  rw [alive', mode', exits']
  rfl

end

/-- Settles O53: the ends of DRAIN and DORMANT, and the cases of a wake source. -/
theorem drainAndDormantEnd : Obligations.DrainAndDormantEnd := by
  unfold Obligations.DrainAndDormantEnd
  intro dt g s
  refine ⟨fun alive mode undone => ⟨exec_drainDone alive mode undone, fun unforced due => ?limit⟩,
    fun alive mode => ⟨fun entering quiet aim => ?three, fun entering quiet aim => ?four, fun r exits => ?exit⟩,
    fun mode => ⟨fun src set due => ?timer, fun src gpio => ?edge⟩, fun entering => ?held, fun entering run => ?begins,
    fun entering off => ?restarts⟩
  case limit => exact ⟨_, exec_modeDrainLimit alive mode undone unforced due, rfl⟩
  case three =>
    obtain ⟨hpwr, -, -, hmode, -⟩ := State.setStep_frame
      { s.tick dt with pwr := { s.pwr with entering := false, wakePending := false } } s.pwr.aim
    obtain ⟨-, -, hfuse⟩ := State.setStep_keep
      { s.tick dt with pwr := { s.pwr with entering := false, wakePending := false } } s.pwr.aim
    refine ⟨(s.tick dt).entered, ?_, congrArg Power.entering hpwr, (congrArg ModeSt.step hmode).trans aim,
      (congrArg ModeSt.mode hmode).trans mode, hfuse⟩
    rw [exec_dormantEntryComplete alive mode entering quiet, if_neg (by simp [aim])]
  case four =>
    refine ⟨(s.tick dt).entered.toIsland, ?_, (s.tick dt).entered.toIsland_effect⟩
    rw [exec_dormantEntryComplete alive mode entering quiet, if_pos (by simp [aim])]
  case exit =>
    obtain ⟨hmode, hexit⟩ := (s.tick dt).exited_frame
    obtain ⟨hmode', hpwr'⟩ := (s.tick dt).exited.awaken_frame
    refine ⟨_, exec_dormantExitComplete alive mode exits, ?_, ?_, ?_⟩
    · rw [hpwr', hexit]
    · rw [hmode', hmode]
    · rw [hmode', hmode]
      rfl
  case timer =>
    have mode' : (s.tick dt).mode.mode = .dormant := mode
    have src' : bit ((s.tick dt).cfg Obj.PWR_WAKE_SRC) 3 = true := src
    have set' : (s.tick dt).cfg Obj.PWR_WAKE_AT ≠ 0 := set
    have due' : (s.tick dt).cfg Obj.PWR_WAKE_AT ≤ (s.tick dt).now := due
    refine show execWakeTimer .. = .next _ from cmd_then ?_
    rw [mode', src', bne_iff_ne.mpr set', decide_eq_true due']
    rfl
  case edge =>
    have mode' : (s.tick dt).mode.mode = .dormant := mode
    have src' : bit ((s.tick dt).cfg Obj.PWR_WAKE_SRC) 2 = true := src
    have gpio' : (s.tick dt).cfg Obj.PWR_WAKE_GPIO = g := gpio
    refine show execGpioWakeEdge .. = .next _ from cmd_then ?_
    rw [mode', src', beq_iff_eq.mpr gpio']
    rfl
  case held => rw [(s.tick dt).wake_entering entering]
  case begins => exact (s.tick dt).wake_running entering run
  case restarts => exact (s.tick dt).wake_island entering off

/-! ### Thermal readings -/

section
variable (s : State)

/-- The readings of a state and its packets stay. -/
def SameReadings (s t : State) : Prop := t.pwr.sensors = s.pwr.sensors ∧ t.pkts = s.pkts

theorem Told.sameReadings {s t : State} (h : Told s t) : SameReadings s t := by
  obtain ⟨-, -, -, -, -, -, -, -, hpkts, -, -, -, -, hpwr, -⟩ := h.frame
  exact ⟨congrArg Power.sensors hpwr, hpkts⟩

theorem SameReadings.trans {s t u : State} (h : SameReadings s t) (g : SameReadings t u) : SameReadings s u :=
  ⟨g.1.trans h.1, g.2.trans h.2⟩

theorem State.setLevel_sameReadings (n : Nat) : SameReadings s (s.setLevel n) := by
  unfold State.setLevel
  split
  · exact ⟨rfl, rfl⟩
  · have latched : SameReadings s ((s.latch Obj.THERM_LEVEL n).bump Obj.THERM_LEVEL_CHANGES) := ⟨rfl, rfl⟩
    exact (latched.trans (State.raise_told _ _ _ _ _ _).sameReadings).trans (State.aplic_told _ _).sameReadings

theorem State.heat_sameReadings (tj : Int) (floor : Nat) : SameReadings s (s.heat tj floor) := by
  unfold State.heat
  extract_lets cur want cool since fall next _ s1
  have h1 : SameReadings s s1 := ⟨rfl, rfl⟩
  exact h1.trans (s1.setLevel_sameReadings _)

theorem State.exclude_pkts (bad : List Nat) : (s.exclude bad).pkts = s.pkts := by
  unfold State.exclude
  extract_lets new _ s1
  refine List.foldlRecOn (motive := fun a : State => a.pkts = s.pkts) new _ rfl fun a ha i _ => ?_
  obtain ⟨-, -, -, -, -, -, -, -, hpkts, -⟩ :=
    ((a.bump Obj.THERM_SENSOR_FAULTS).logErr_told { ErrInfo.mk' 1 0 0x48 i 0x0F 8 with detail := i }).frame
  exact hpkts.trans ha

/-- The state with the readings of the sensors. -/
def State.readings (r : List Int) : State :=
  { s.exclude ((List.range 48).filter (badSensor r)) with
    pwr := { (s.exclude ((List.range 48).filter (badSensor r))).pwr with sensors := r } }

theorem State.sensors_sameReadings (r : List Int) : SameReadings (s.readings r) (s.sensors r) := by
  unfold State.sensors
  extract_lets bad good _ _ s1 floor
  clear_value good floor
  cases good with
  | nil => exact s1.heat_sameReadings _ _
  | cons x t =>
    have heated := State.heat_sameReadings (({ s1 with pwr := { s1.pwr with
      tj := t.foldl max x, peak := some (max (t.foldl max x) (s1.pwr.peak.getD (t.foldl max x))) } } : State).latch
      Obj.THERM_TJ_MC (i32 (t.foldl max x))) (t.foldl max x) floor
    exact SameReadings.trans ⟨rfl, rfl⟩ heated

theorem State.sensors_effect (r : List Int) : (s.sensors r).pwr.sensors = r ∧ (s.sensors r).pkts = s.pkts := by
  obtain ⟨hsensors, hpkts⟩ := s.sensors_sameReadings r
  exact ⟨hsensors, hpkts.trans (s.exclude_pkts _)⟩

/-- The measured values of the supply, before the level follows the current. -/
def State.measured (mv ma mw : Nat) : State :=
  let t : State := { s with pwr := { s.pwr with supplyAt := some s.clock } }
  (((t.latch Obj.SUPPLY_VIN_MV mv).latch Obj.SUPPLY_IIN_MA ma).latch Obj.SUPPLY_POWER_MW mw).ctrMax Obj.SUPPLY_POWER_PEAK_MW mw

theorem State.cfg_ctrMax (o v p e : Nat) : (s.ctrMax o v).cfg p e = s.cfg p e := rfl

theorem State.ctr_ctrMax_self (o v : Nat) : (s.ctrMax o v).ctr o = Nat.max (s.ctr o) v := by
  unfold State.ctrMax
  exact Store.get_put_self _ _ _ _

theorem State.measured_effect (mv ma mw : Nat) : (s.measured mv ma mw).cfg Obj.SUPPLY_VIN_MV = mv ∧
    (s.measured mv ma mw).cfg Obj.SUPPLY_IIN_MA = ma ∧ (s.measured mv ma mw).cfg Obj.SUPPLY_POWER_MW = mw ∧
    (s.measured mv ma mw).ctr Obj.SUPPLY_POWER_PEAK_MW = Nat.max (s.ctr Obj.SUPPLY_POWER_PEAK_MW) mw ∧
    (s.measured mv ma mw).pwr = { s.pwr with supplyAt := some s.clock } := by
  unfold State.measured
  extract_lets _ t
  refine ⟨?_, ?_, ?_, ?_, rfl⟩
  · rw [State.cfg_ctrMax, State.cfg_latch_ne _ _ _ _ (by decide), State.cfg_latch_ne _ _ _ _ (by decide), State.cfg_latch_self]
  · rw [State.cfg_ctrMax, State.cfg_latch_ne _ _ _ _ (by decide), State.cfg_latch_self]
  · rw [State.cfg_ctrMax, State.cfg_latch_self]
  · rw [State.ctr_ctrMax_self]
    rfl

end

/-! ### The commands of power and supplies -/

section
variable {s : State} {dt : Nat}

theorem State.powered_tick (on : s.pwr.rails ≠ .off) : (s.tick dt).powered = true := by
  simpa [State.powered, State.tick] using on

theorem exec_idleEntry (alive : s.alive = true) (mode : s.mode.mode = .service) (step : s.mode.step = 0)
    (auto : 1 ≤ s.cfg Obj.PWR_AUTO_MAX) (quiet : (s.tick dt).quiet = true)
    (due : s.pwr.busyAt + s.cfg Obj.PWR_IDLE_US * 1000 ≤ s.clock + dt) : exec (.idleEntry dt true) s =
      .next (({ s.tick dt with pwr := { s.pwr with idleAt := s.clock + dt } } : State).setStep 1) := by
  have alive' : (s.tick dt).alive = true := alive
  have mode' : (s.tick dt).mode.mode = .service := mode
  have step' : (s.tick dt).mode.step = 0 := step
  have auto' : 1 ≤ (s.tick dt).cfg Obj.PWR_AUTO_MAX := auto
  have due' : (s.tick dt).pwr.busyAt + (s.tick dt).cfg Obj.PWR_IDLE_US * 1000 ≤ (s.tick dt).clock := due
  refine show execIdleEntry .. = .next _ from cmd_then ?_
  rw [alive', mode', step', decide_eq_true auto', quiet, decide_eq_true due']
  rfl

theorem exec_quietEntry (alive : s.alive = true) (mode : s.mode.mode = .service) (step : s.mode.step = 1)
    (free : s.step2Blockers = 0) (due : s.pwr.idleAt + s.cfg Obj.PWR_QUIET_US * 1000 ≤ s.clock + dt) :
    exec (.quietEntry dt) s = .next ((s.tick dt).setStep 2) := by
  have alive' : (s.tick dt).alive = true := alive
  have mode' : (s.tick dt).mode.mode = .service := mode
  have step' : (s.tick dt).mode.step = 1 := step
  have free' : (s.tick dt).step2Blockers = 0 := free
  have due' : (s.tick dt).pwr.idleAt + (s.tick dt).cfg Obj.PWR_QUIET_US * 1000 ≤ (s.tick dt).clock := due
  refine show execQuietEntry .. = .next _ from cmd_then ?_
  rw [alive', mode', step', free', decide_eq_true due']
  rfl

theorem exec_lpiWake {n : Nat} (alive : s.alive = true) (hn : n < 16) (step : s.mode.step = 2) (up : s.portUp n = true)
    (lpi : s.usesLpi n = true) : exec (.lpiWake dt n) s = .next (s.after dt) := by
  have alive' : (s.tick dt).alive = true := alive
  have step' : (s.tick dt).mode.step = 2 := step
  have up' : (s.tick dt).portUp n = true := up
  have lpi' : (s.tick dt).usesLpi n = true := lpi
  refine show execLpiWake .. = .next _ from cmd_then ?_
  rw [alive', decide_eq_true hn, step', up', lpi']
  rfl

theorem State.stir_wakes {s : State} (h : s.mode.step = 2) : s.stir.mode.step = 0 ∧ s.stir.cfg Obj.MODE_POWER_STEP = 0 ∧
    s.stir.pwr.busyAt = s.clock := by
  unfold State.stir
  extract_lets _ t
  have step : t.mode.step = 2 := h
  rw [if_pos (by simp [step])]
  obtain ⟨hpwr, -, -, hmode, hcfg, -⟩ := t.setStep_frame 0
  exact ⟨congrArg ModeSt.step hmode, hcfg, congrArg Power.busyAt hpwr⟩

theorem exec_hartTimerEvent {n c : Nat} (alive : s.alive = true) (h : lookup? s.core.mtimecmp n = some c)
    (due : c ≤ (s.tick dt).now) : exec (.hartTimerEvent dt n) s = .next (s.after dt) := by
  have alive' : (s.tick dt).alive = true := alive
  have h' : lookup? (s.tick dt).core.mtimecmp n = some c := h
  refine show execHartTimerEvent .. = .next _ from cmd_then ?_
  rw [alive', h']
  exact decide_eq_true due

theorem State.periodic_iff (last : Option Nat) (period : Nat) :
    s.periodic last period = true ↔ ∀ a, last = some a → a + period ≤ s.clock := by
  cases last <;> simp [State.periodic]

end

/-- Settles O54: steps, readings and supplies. -/
theorem powerStepsSensorsAndSupplies : Obligations.PowerStepsSensorsAndSupplies := by
  unfold Obligations.PowerStepsSensorsAndSupplies
  refine ⟨fun dt n s alive => ⟨fun mode step auto quiet due => ?idle, fun mode step free due => ?quiet,
    fun hn step up lpi => ?lpi, fun c => exec_hartTimerEvent alive⟩,
    fun dt s => ⟨fun alive r len => ⟨fun a ha early => ?noRead, fun due => ?read⟩,
      fun alive mv ma mw => ⟨fun a ha early => ?noMeasure, fun due => ?measure⟩, fun on => ⟨?trip, ?tooLow, ?tooHigh⟩⟩⟩
  case idle =>
    obtain ⟨hpwr, -, -, hmode, hcfg, hctr⟩ := State.setStep_frame
      { s.tick dt with pwr := { s.pwr with idleAt := s.clock + dt } } 1
    exact ⟨_, exec_idleEntry alive mode step auto quiet due, congrArg ModeSt.step hmode, hcfg, congrArg Power.idleAt hpwr, hctr⟩
  case quiet =>
    obtain ⟨-, hpkts, -, hmode, hcfg, -⟩ := (s.tick dt).setStep_frame 2
    exact ⟨_, exec_quietEntry alive mode step free due, congrArg ModeSt.step hmode, hcfg, hpkts⟩
  case lpi => exact ⟨_, exec_lpiWake alive hn step up lpi, State.stir_wakes (s := s.tick dt) step⟩
  case noRead =>
    refine show execSensorRead .. = .next _ from cmd_else ?_
    have late : (s.tick dt).periodic (s.tick dt).pwr.sensorAt (if (s.tick dt).mode.mode == .dormant then 10000000 else 100000) =
        false := by
      rw [← Bool.not_eq_true, State.periodic_iff]
      intro h
      have := h a ha
      have same : (s.tick dt).mode = s.mode := rfl
      have clock : (s.tick dt).clock = s.clock + dt := rfl
      simp only [beq_iff_eq, same, clock] at this
      omega
    rw [late, Bool.and_false]
  case read =>
    have alive' : (s.tick dt).alive = true := alive
    have now_ : (s.tick dt).periodic (s.tick dt).pwr.sensorAt (if (s.tick dt).mode.mode == .dormant then 10000000 else 100000) =
        true := by
      rw [State.periodic_iff]
      intro a ha
      have := due a ha
      simp only [beq_iff_eq]
      exact this
    refine ⟨_, show execSensorRead .. = .next _ from cmd_then ?_, rfl, State.sensors_effect _ r⟩
    rw [alive', now_, len]
    rfl
  case noMeasure =>
    refine show execSupplyMeasure .. = .next _ from cmd_else ?_
    have late : (s.tick dt).periodic (s.tick dt).pwr.supplyAt 1000000 = false := by
      rw [← Bool.not_eq_true, State.periodic_iff]
      intro h
      have h' : a + 1000000 ≤ s.clock + dt := h a ha
      omega
    rw [late, Bool.and_false]
  case measure =>
    have alive' : (s.tick dt).alive = true := alive
    have now_ : (s.tick dt).periodic (s.tick dt).pwr.supplyAt 1000000 = true := (State.periodic_iff _ _).mpr due
    obtain ⟨hmv, hma, hmw, hpeak, hpwr⟩ := (s.tick dt).measured_effect mv ma mw
    refine ⟨(s.tick dt).measured mv ma mw, show execSupplyMeasure .. = .next _ from cmd_then ?_, hmv, hma, hmw, hpeak, hpwr⟩
    rw [alive', now_]
    rfl
  case trip =>
    obtain ⟨hpwr, hpkts, hflash, hfuse⟩ := ((s.tick dt).bumpStored Obj.THERM_TRIPS).railsOff_effect
    exact ⟨_, exec_thermtrip on, congrArg Power.rails hpwr, rfl, hpkts, hflash, hfuse⟩
  case tooLow =>
    obtain ⟨hpwr, -, hflash, -⟩ := ((s.tick dt).bumpStored Obj.SUPPLY_UV_EVENTS).railsOff_effect
    exact ⟨_, show execUndervoltage .. = .next _ from cmd_then (State.powered_tick on), congrArg Power.rails hpwr, rfl, hflash⟩
  case tooHigh =>
    obtain ⟨hpwr, -, hflash, -⟩ := ((s.tick dt).bumpStored Obj.SUPPLY_OV_EVENTS).railsOff_effect
    exact ⟨_, show execOvervoltage .. = .next _ from cmd_then (State.powered_tick on), congrArg Power.rails hpwr, rfl, rfl, hflash⟩

end Sys2Proof.Machine
end

section
/-!
PROOFS. Faults of regions, their fences and tests (R469 to R471).
-/

namespace Sys2Proof.Machine

/-! ### Isolation -/

section
variable (s : State) (r : Nat)

/-- No packet lies in region r. -/
def State.emptyOf (s : State) (r : Nat) : Prop := ∀ p ∈ s.pkts, p.inRegion r = false

theorem State.losePackets_emptyOf : (s.losePackets r).emptyOf r ∧ (s.losePackets r).mode = s.mode := by
  refine ⟨fun p hp => ?_, rfl⟩
  have kept : p ∈ s.pkts.filter fun p => !p.inRegion r := hp
  simpa using (List.mem_filter.mp kept).2

/-- Packets on their way to a queue stay where they are: in their own region. -/
theorem inRegion_rebound {p : Pkt} (h : p.loc = .atTm ∨ p.loc = .bridge) (q : Nat) :
    Pkt.inRegion { p with eqid := q, loc := if q / 65536 == p.region then .atTm else p.loc } r = p.inRegion r := by
  have same (l : Loc) (hl : l = .atTm ∨ l = .bridge) : Pkt.inRegion { p with eqid := q, loc := l } r = (p.region == r) := by
    rcases hl with rfl | rfl <;> rfl
  have before : p.inRegion r = (p.region == r) := by
    rcases h with h | h <;> rw [Pkt.inRegion, h]
  rw [before]
  split
  · exact same _ (.inl rfl)
  · exact same _ h

theorem State.failover_emptyOf (h : s.emptyOf r) : s.failover.emptyOf r := by
  intro p hp
  obtain ⟨x, hx, rfl⟩ := List.mem_map.mp hp
  split
  next loc =>
    rw [inRegion_rebound r (by simpa using loc)]
    exact h x hx
  next => exact h x hx

theorem State.loseAppMem_frame : s.loseAppMem.mode = s.mode ∧ s.loseAppMem.pkts.Sublist s.pkts := by
  have squashed : Squashed s (s.coreFns.foldl State.squash s) := .foldl _ s fun a f => a.squash_squashed f
  obtain ⟨-, -, -, hmode, -⟩ := squashed.frame
  exact ⟨hmode, squashed.pkts⟩

theorem State.isolate_effect : (s.isolate r).mode = { s.mode with fenced := some r } ∧ (s.isolate r).emptyOf r := by
  unfold State.isolate
  extract_lets _ s1 s2 _ _ s3 s4
  obtain ⟨empty2, mode2⟩ := (s1.bumpStored Obj.FLT_REGION_FENCES).losePackets_emptyOf r
  have empty4 : s4.emptyOf r := s3.failover_emptyOf r empty2
  have mode4 : s4.mode = { s.mode with fenced := some r } := mode2
  split
  · obtain ⟨hmode, hpkts⟩ := s4.loseAppMem_frame
    exact ⟨hmode.trans mode4, fun p hp => empty4 p (hpkts.subset hp)⟩
  · exact ⟨mode4, empty4⟩

theorem State.planRetest_frame : (s.planRetest r).mode = s.mode ∧ (s.planRetest r).pkts = s.pkts := ⟨rfl, rfl⟩

theorem State.cancelHandover_frame : s.cancelHandover.mode = s.mode ∧ s.cancelHandover.pkts = s.pkts := by
  obtain ⟨_, _, _, h⟩ := s.cancelHandover_part
  rw [h]
  exact ⟨rfl, rfl⟩

/-- The mode after a fence: DEGRADED where it was SERVICE. -/
def State.degrade (s : State) : State :=
  if s.mode.mode == .service then (s.stir.setMode .degraded 3).cancelHandover else s

theorem State.degrade_effect : s.degrade.mode.fenced = s.mode.fenced ∧ s.degrade.pkts = s.pkts ∧
    (s.mode.mode = .service → s.degrade.mode.mode = .degraded) := by
  unfold State.degrade
  split
  · obtain ⟨hmode, -, -, -, -, -, hpkts, -⟩ := s.stir.setMode_frame .degraded 3
    obtain ⟨hmode', hpkts'⟩ := (s.stir.setMode .degraded 3).cancelHandover_frame
    rw [hmode', hpkts', hmode, hpkts]
    exact ⟨by simp, by simp, fun _ => rfl⟩
  next h => exact ⟨rfl, rfl, fun service => absurd (beq_iff_eq.mpr service) h⟩

theorem State.fenceRegion_effect (e : ErrInfo) : (s.fenceRegion r e).mode.fenced = some r ∧
    (s.mode.mode = .service → (s.fenceRegion r e).mode.mode = .degraded) ∧ (s.fenceRegion r e).emptyOf r := by
  unfold State.fenceRegion
  extract_lets s1 s2
  obtain ⟨-, -, -, -, -, -, -, -, -, -, mode0, -⟩ := (s.logErr_told { e with level := 2, action := 6, region := 2 + r }).frame
  obtain ⟨mode1, empty1⟩ := (s.logErr { e with level := 2, action := 6, region := 2 + r }).isolate_effect r
  obtain ⟨fenced, hpkts, service⟩ := s1.degrade_effect
  obtain ⟨mode2, pkts2⟩ := s1.degrade.planRetest_frame r
  have told := (s2.raise_told 0x0011 1 0 (toBe 1 (r + 1)) none).trans (State.aplic_told _ 3)
  obtain ⟨-, -, -, -, -, -, -, -, pkts3, -, mode3, -⟩ := told.frame
  have pkts : ((s2.raise 0x0011 1 0 (toBe 1 (r + 1))).aplic 3).pkts = s1.pkts := pkts3.trans (pkts2.trans hpkts)
  have mode : ((s2.raise 0x0011 1 0 (toBe 1 (r + 1))).aplic 3).mode = s1.degrade.mode := mode3.trans mode2
  refine ⟨?_, fun h => ?_, fun p hp => empty1 p (pkts ▸ hp)⟩
  · rw [mode, fenced]
    exact congrArg ModeSt.fenced mode1
  · rw [mode]
    refine service ?_
    have kept : s1.mode.mode = s.mode.mode := by
      rw [show s1.mode = _ from mode1, mode0]
    rw [kept, h]

theorem State.regionFault_first {s : State} (h : s.mode.fenced = none) (e : ErrInfo) : s.regionFault r e = s.fenceRegion r e := by
  rw [State.regionFault, h]

theorem State.regionFault_second {s : State} {f : Nat} (h : s.mode.fenced = some f) (hf : f ≠ r) (e : ErrInfo) :
    s.regionFault r e = s.fatal { e with escalated := true, region := 2 + r } := by
  rw [State.regionFault, h]
  exact if_neg (by simp [hf])

/-! ### The region returns -/

theorem State.returnRegion_effect (h : s.mode.mode = .degraded) : (s.returnRegion r).mode.fenced = none ∧
    (s.returnRegion r).mode.mode = .service := by
  unfold State.returnRegion
  extract_lets ok _ _ _ _ s1 s2 s3 s4
  have mode3 : s3.mode = { s.mode with fenced := none } := rfl
  clear_value s3
  have mode4 : s4.mode = { s.mode with fenced := none, mode := .service } := by
    unfold s4
    rw [if_pos (by simp [mode3, h])]
    obtain ⟨hmode, -⟩ := s3.setMode_frame .service 4
    rw [hmode, mode3]
  obtain ⟨-, -, -, -, -, -, -, -, -, -, hmode, -⟩ :=
    ((s4.raise_told 0x0012 1 0 (toBe 1 (r + 1)) none).trans (State.aplic_told _ 3)).frame
  rw [hmode, mode4]
  exact ⟨rfl, rfl⟩

end

/-! ### The commands -/

section
variable {s : State} {dt k : Nat}

theorem exec_hbmTrainingLoss (alive : s.alive = true) (hk : k < 2) (trained : s.pwr.hbmDone = true)
    (cycle : s.mgmt.cycle = []) : exec (.hbmTrainingLoss dt k) s =
      .next ((s.tick dt).stackFault k (ErrInfo.mk' 2 (2 + k) 0x17 k 0x0C 6)) := by
  have alive' : (s.tick dt).alive = true := alive
  have trained' : (s.tick dt).pwr.hbmDone = true := trained
  refine show execHbmTrainingLoss .. = .next _ from faultCmd_then ?_ cycle
  rw [alive', trained', decide_eq_true hk]
  rfl

theorem exec_internalRailFault (alive : s.alive = true) (hk : k < 2) (cycle : s.mgmt.cycle = []) (clock : Bool) :
    exec (.internalRailFault dt k clock) s = .next ((s.tick dt).regionFault k
      (if clock then ErrInfo.mk' 2 (2 + k) 0x45 0 0x0D 6 else ErrInfo.mk' 2 (2 + k) 0x47 0 0x0E 6)) := by
  have alive' : (s.tick dt).alive = true := alive
  refine show execInternalRailFault .. = .next _ from faultCmd_then ?_ cycle
  rw [alive', decide_eq_true hk]
  rfl

theorem State.retestDue_of {r a : Nat} (fenced : s.mode.fenced = some r) (mode : s.mode.mode = .degraded)
    (state : s.cfg Obj.FLT_REGION_TEST_STATE = 1) (from_ : s.flt.retestFrom = some a)
    (due : a + s.cfg Obj.FLT_REGION_RETEST_S * 1000000000 ≤ s.clock) : s.retestDue = true := by
  simp only [State.retestDue, fenced, mode, state, from_, Option.isSome_some, beq_self_eq_true, Bool.true_or, Bool.true_and,
    decide_eq_true due]

theorem exec_regionRetest (alive : s.alive = true) (due : (s.tick dt).retestDue = true) :
    exec (.regionRetest dt) s = .next (s.tick dt).startTest := by
  have alive' : (s.tick dt).alive = true := alive
  refine show execRegionRetest .. = .next _ from cmd_then ?_
  rw [alive', due]
  rfl

/-- The end of a test, or of the copy-back, of region r. -/
def State.testEnds (s : State) (r : Nat) (pass : Bool) : State :=
  if !pass then (s.latch Obj.FLT_REGION_TEST_STATE 4).logErr (ErrInfo.mk' 2 (2 + r) 0xFF 0 0x15 8)
  else if s.cfg Obj.FLT_REGION_TEST_STATE == 2 then s.latch Obj.FLT_REGION_TEST_STATE 3
  else s.returnRegion r

theorem exec_regionTestComplete {r : Nat} (alive : s.alive = true) (fenced : s.mode.fenced = some r)
    (runs : s.cfg Obj.FLT_REGION_TEST_STATE = 2 ∨ s.cfg Obj.FLT_REGION_TEST_STATE = 3) (pass : Bool) :
    exec (.regionTestComplete dt pass) s = .next ((s.tick dt).testEnds r pass) := by
  have alive' : (s.tick dt).alive = true := alive
  have fenced' : (s.tick dt).mode.fenced = some r := fenced
  have runs' : (s.tick dt).cfg Obj.FLT_REGION_TEST_STATE = 2 ∨ (s.tick dt).cfg Obj.FLT_REGION_TEST_STATE = 3 := runs
  refine Eq.trans (show execRegionTestComplete .. = .next _ from cmd_then ?_) ?_
  · rw [alive', fenced']
    simpa using runs'
  · simp only [fenced']
    rfl

end

/-- Settles O58: region faults by the fence that stands, tests by their state. -/
theorem regionsAreFencedTestedAndReturned : Obligations.RegionsAreFencedTestedAndReturned := by
  unfold Obligations.RegionsAreFencedTestedAndReturned
  intro dt k s alive
  have rail (clock : Bool) {c : Instr} (hc : c = .internalRailFault dt k clock) (hk : k < 2) (cycle : s.mgmt.cycle = []) :
      ∃ e, exec c s = .next ((s.tick dt).regionFault k e) := ⟨_, hc ▸ exec_internalRailFault alive hk cycle clock⟩
  have rails {c : Instr} (hc : c ∈ [Instr.internalRailFault dt k true, .internalRailFault dt k false]) (hk : k < 2)
      (cycle : s.mgmt.cycle = []) : ∃ e, exec c s = .next ((s.tick dt).regionFault k e) := by
    rcases (List.mem_cons.mp hc).imp_right List.mem_singleton.mp with hc | hc
    · exact rail true hc hk cycle
    · exact rail false hc hk cycle
  refine ⟨fun hk trained cycle => ⟨fun bad => ?known, fun good => ?stack⟩,
    fun hk cycle => ⟨⟨exec_internalRailFault alive hk cycle true, exec_internalRailFault alive hk cycle false⟩,
      fun free c hc => ?fences, fun other c hc => ?resets⟩,
    fun r a fenced mode state from_ due => ?retest, fun r fenced => ⟨fun runs => ?fails, fun runs => ?copies, fun runs mode => ?returns⟩⟩
  case known =>
    rw [exec_hbmTrainingLoss alive hk trained cycle, State.stackFault]
    exact congrArg Host.Outcome.next (if_pos bad)
  case stack =>
    refine ⟨{ s.tick dt with flt := { s.flt with stackBad := s.flt.stackBad ++ [k] } }, rfl, ?_⟩
    rw [exec_hbmTrainingLoss alive hk trained cycle, State.stackFault]
    exact congrArg Host.Outcome.next (if_neg fun bad => Bool.noConfusion (good.symm.trans bad))
  case fences =>
    obtain ⟨e, run⟩ := rails hc hk cycle
    rw [State.regionFault_first k (s := s.tick dt) free] at run
    exact ⟨_, run, (s.tick dt).fenceRegion_effect k e⟩
  case resets =>
    obtain ⟨e, run⟩ := rails hc hk cycle
    rw [State.regionFault_second k (s := s.tick dt) other (by omega)] at run
    obtain ⟨-, hrails, hreason⟩ := (s.tick dt).fatal_effect { e with escalated := true, region := 2 + k }
    exact ⟨_, run, hrails, hreason⟩
  case retest =>
    obtain ⟨hstate, hfrom⟩ := (s.tick dt).startTest_effect
    exact ⟨_, exec_regionRetest alive (State.retestDue_of (s := s.tick dt) fenced mode state from_ due), hstate, hfrom, rfl⟩
  case fails =>
    have told := ((s.tick dt).latch Obj.FLT_REGION_TEST_STATE 4).logErr_told (ErrInfo.mk' 2 (2 + r) 0xFF 0 0x15 8)
    obtain ⟨-, -, -, -, -, -, -, -, -, -, hmode, -⟩ := told.frame
    exact ⟨_, exec_regionTestComplete alive fenced runs false, (told.cfg0 (by decide)).trans (State.cfg_latch_self _ _ _), hmode⟩
  case copies =>
    have runs' : (s.tick dt).cfg Obj.FLT_REGION_TEST_STATE = 2 := runs
    rw [exec_regionTestComplete alive fenced (.inl runs) true, State.testEnds, if_neg (by decide), if_pos (by simp [runs'])]
  case returns =>
    have runs' : (s.tick dt).cfg Obj.FLT_REGION_TEST_STATE = 3 := runs
    refine ⟨_, exec_regionTestComplete alive fenced (.inr runs) true, ?_⟩
    rw [State.testEnds, if_neg (by decide), if_neg (by simp [runs'])]
    exact (s.tick dt).returnRegion_effect r mode

end Sys2Proof.Machine
end

section
/-!
PROOFS. Firmware writes, the stores, control pairs and pending activations (R40, R455 to R463).
-/

namespace Sys2Proof.Machine

/-! ### What events and discarded staging areas leave -/

/-- Deferred requests, availability, images, mode and fuses stay. -/
structure Undisturbed (s t : State) : Prop where
  deferred : t.mgmt.deferred = s.mgmt.deferred
  unavail : t.mgmt.unavail = s.mgmt.unavail
  img : t.img = s.img
  mode : t.mode = s.mode
  fuse : t.fuse = s.fuse

theorem Undisturbed.refl (s : State) : Undisturbed s s := ⟨rfl, rfl, rfl, rfl, rfl⟩

theorem Undisturbed.trans {s t u : State} (h : Undisturbed s t) (g : Undisturbed t u) : Undisturbed s u :=
  ⟨g.deferred.trans h.deferred, g.unavail.trans h.unavail, g.img.trans h.img, g.mode.trans h.mode, g.fuse.trans h.fuse⟩

theorem Undisturbed.foldl {α : Type} {f : State → α → State} (l : List α) (s : State) (h : ∀ a x, Undisturbed a (f a x)) :
    Undisturbed s (l.foldl f s) :=
  List.foldlRecOn (motive := fun a => Undisturbed s a) l f (.refl s) fun a ha x _ => ha.trans (h a x)

theorem Told.undisturbed {s t : State} (h : Told s t) : Undisturbed s t := by
  rw [h.part]
  exact ⟨rfl, rfl, rfl, rfl, rfl⟩

section
variable (s : State)

theorem State.setStage_undisturbed (k : Nat × Nat) (st : Staging) : Undisturbed s (s.setStage k st) := by
  unfold State.setStage
  split
  · exact ⟨rfl, rfl, rfl, rfl, rfl⟩
  · exact .refl s

theorem State.discardStage_undisturbed (k : Nat × Nat) (reason : Nat) : Undisturbed s (s.discardStage k reason) := by
  unfold State.discardStage
  extract_lets st s1
  have h1 : Undisturbed s s1 := (s.setStage_undisturbed k Staging.none_).trans ⟨rfl, rfl, rfl, rfl, rfl⟩
  repeat' split
  · exact .refl s
  · exact h1
  · exact h1.trans (s1.raise_told _ _ _ _ _).undisturbed

theorem State.deliverEvent_told (cls : Nat) (only : Option (Nat × Nat)) (body : Bytes) : Told s (s.deliverEvent cls only body) :=
  .foldl _ s fun a x => a.sendEventTo_told x body

theorem State.sendHeld_undisturbed : Undisturbed s s.sendHeld := by
  unfold State.sendHeld
  extract_lets l _ t
  have h : Undisturbed s t := ⟨rfl, rfl, rfl, rfl, rfl⟩
  exact h.trans (.foldl l t fun a x => (a.deliverEvent_told _ _ _).undisturbed)

/-- No request waits. -/
def State.undeferred : State := { s with mgmt := { s.mgmt with deferred := [] } }

theorem State.undeferred_frame : s.undeferred.mgmt.unavail = s.mgmt.unavail ∧ s.undeferred.img = s.img ∧
    s.undeferred.mode = s.mode ∧ s.undeferred.fuse = s.fuse ∧ ∀ o, s.undeferred.cfg o = s.cfg o :=
  ⟨rfl, rfl, rfl, rfl, fun _ => rfl⟩

/-- Where no request waits, none runs. -/
theorem State.runDeferred_nil (h : s.mgmt.deferred = []) : s.runDeferred = s.undeferred := by
  rw [State.runDeferred, h]
  rfl

end

/-! ### Firmware writes -/

section
variable (s : State) (k : Nat)

theorem State.fwStatus_img (st : Nat) : (s.fwStatus k st).img = s.img := by
  unfold State.fwStatus
  split <;> rfl

theorem State.fwStatus_cfg (st : Nat) {o : Nat} (h : o ≠ Obj.IMG_FW_WRITE_STATUS) : (s.fwStatus k st).cfg o = s.cfg o := by
  unfold State.fwStatus
  split
  · exact State.cfg_latch_ne _ _ _ _ h
  · rfl

theorem State.fwDrop_slots : (s.fwDrop k).img.slots = s.img.slots := rfl

theorem State.fwDrop_cfg (o : Nat) : (s.fwDrop k).cfg o = s.cfg o := rfl

theorem State.fwFinish_passes {c : Bytes} (h : s.checkBody c = 0) :
    lookup? (s.fwFinish k c).img.slots k = some (fwRecord c) ∧ ∀ w ∈ (s.fwFinish k c).img.writes, w.slot ≠ k := by
  unfold State.fwFinish
  extract_lets code t
  rw [if_pos (beq_iff_eq.mpr h)]
  exact ⟨lookup?_assoc_self _ _ _, fun w hw => by simpa using (List.mem_filter.mp hw).2⟩

theorem State.fwFinish_fails {c : Bytes} (h : s.checkBody c ≠ 0) : (s.fwFinish k c).img.slots = s.img.slots ∧
    (s.fwFinish k c).cfg Obj.IMG_REJECT_CODE = s.checkBody c := by
  unfold State.fwFinish
  extract_lets code
  rw [if_neg (by simpa using h)]
  refine ⟨?_, ?_⟩
  · rw [State.fwDrop_slots, State.fwStatus_img]
    rfl
  rw [State.fwDrop_cfg, State.fwStatus_cfg _ _ _ (by decide), State.imgReject, State.cfg_bump, State.cfg_latch_ne _ _ _ _ (by decide),
    State.cfg_latch_self]

end

/-! ### The commands of stores and pairs -/

/-- The end of a take-over, before the requests that waited run. -/
def State.takenOver (s : State) : State :=
  let t1 := s.endUnavail.sendHeld
  let t2 := t1.mgmt.sessions.foldl (fun (a : State) x => a.discardStage (x.port, x.num) 3) t1
  let t3 := t2.raise 0x0021 2 0 []
  { t3 with img := { t3.img with takeover := false } }

theorem State.takenOver_effect (s : State) : s.takenOver.mgmt.unavail = none ∧ s.takenOver.img.takeover = false ∧
    s.takenOver.fuse = s.fuse ∧ s.takenOver.mgmt.deferred = s.mgmt.deferred := by
  unfold State.takenOver
  extract_lets t1 t2 t3
  have h1 : Undisturbed s.endUnavail t1 := s.endUnavail.sendHeld_undisturbed
  have h2 : Undisturbed t1 t2 := .foldl _ t1 fun a x => a.discardStage_undisturbed _ 3
  have h3 : Undisturbed t2 t3 := (t2.raise_told _ _ _ _ _).undisturbed
  have h := (h1.trans h2).trans h3
  exact ⟨h.unavail, rfl, h.fuse, h.deferred⟩

section
variable {s : State} {dt k : Nat}

theorem exec_fwWriteComplete {c : Bytes} (alive : s.alive = true) (closed : s.fwClosed k = some c)
    (fed : s.pkg.vflashOff = none) : exec (.fwWriteComplete dt k) s = .next ((s.tick dt).fwFinish k c) := by
  have alive' : (s.tick dt).alive = true := alive
  have closed' : (s.tick dt).fwClosed k = some c := closed
  have fed' : (s.tick dt).pkg.vflashOff = none := fed
  refine Eq.trans (show execFwWriteComplete .. = .next _ from cmd_then ?_) ?_
  · rw [alive', closed', fed']
    rfl
  · simp only [closed']

/-- The settings store with one waiting value written, and the older copy now the newer one. -/
def State.written1 (s : State) (key v : Nat) : State :=
  { s with dict := { s.dict with
      flashOld := s.dict.flash, flash := Store.put s.dict.flash key (objDefault (keyObj key) (keyElem key)) v, toFlash := [] } }

theorem exec_settingsStoreWrite {key v : Nat} (alive : s.alive = true) (waits : s.dict.toFlash = [(key, v)])
    (fed : s.pkg.vflashOff = none) : exec (.settingsStoreWrite dt) s = .next ((s.tick dt).written1 key v) := by
  have alive' : (s.tick dt).alive = true := alive
  have waits' : (s.tick dt).dict.toFlash = [(key, v)] := waits
  have fed' : (s.tick dt).pkg.vflashOff = none := fed
  refine Eq.trans (show execSettingsStoreWrite .. = .next _ from cmd_then ?_) ?_
  · rw [alive', waits', fed']
    rfl
  · simp only [waits']
    rfl

theorem exec_imageStoreWrite {x : BulkVal × Nat} {rest : List (BulkVal × Nat)} (alive : s.alive = true) (coming : s.store.coming = x :: rest)
    (fed : s.pkg.vflashOff = none) : exec (.imageStoreWrite dt) s =
      .next { s.tick dt with store := { held := putImage s.store.held x.1, coming := rest } } := by
  have alive' : (s.tick dt).alive = true := alive
  have coming' : (s.tick dt).store.coming = x :: rest := coming
  have fed' : (s.tick dt).pkg.vflashOff = none := fed
  refine Eq.trans (show execImageStoreWrite .. = .next _ from cmd_then ?_) ?_
  · rw [alive', coming', fed']
    rfl
  · simp only [coming']
    rfl

theorem exec_standbyReloadComplete (alive : s.alive = true) (runs : s.pwr.svcRunning = true) (single : s.img.standby = false)
    (calm : s.img.takeover = false) (idle : s.img.act = none) : exec (.standbyReloadComplete dt) s =
      .next { s.tick dt with img := { s.img with standby := true } } := by
  have alive' : (s.tick dt).alive = true := alive
  have runs' : (s.tick dt).pwr.svcRunning = true := runs
  have img' : (s.tick dt).img = s.img := rfl
  refine show execStandbyReloadComplete .. = .next _ from cmd_then ?_
  rw [alive', runs', img', single, calm, idle]
  rfl

theorem exec_takeoverComplete (alive : s.alive = true) (takes : s.img.takeover = true) :
    exec (.takeoverComplete dt) s = .next (s.tick dt).takenOver.runDeferred := by
  have alive' : (s.tick dt).alive = true := alive
  have takes' : (s.tick dt).img.takeover = true := takes
  refine show execTakeoverComplete .. = .next _ from cmd_then ?_
  rw [alive', takes']
  rfl

end

/-- Settles O55: each end of a write by its own rule. -/
theorem storesAndPairsAreWritten : Obligations.StoresAndPairsAreWritten := by
  unfold Obligations.StoresAndPairsAreWritten
  intro dt k s alive
  refine ⟨fun c closed fed => ⟨fun h => ?passes, fun h => ?fails⟩, fun key v waits fed => ?settings,
    fun x rest coming fed => exec_imageStoreWrite alive coming fed, exec_standbyReloadComplete alive, fun takes idle => ?over_⟩
  case passes =>
    obtain ⟨hslot, hwrites⟩ := (s.tick dt).fwFinish_passes k (c := c) h
    exact ⟨_, exec_fwWriteComplete alive closed fed, hslot, hwrites⟩
  case fails =>
    obtain ⟨hslots, hcode⟩ := (s.tick dt).fwFinish_fails k (c := c) h
    exact ⟨_, exec_fwWriteComplete alive closed fed, hslots, hcode⟩
  case settings => exact ⟨_, exec_settingsStoreWrite alive waits fed, rfl, rfl, rfl, fun _ _ => rfl⟩
  case over_ =>
    obtain ⟨havail, htake, hfuse, hdefer⟩ := (s.tick dt).takenOver_effect
    refine ⟨_, exec_takeoverComplete alive takes, ?_⟩
    rw [State.runDeferred_nil _ (hdefer.trans idle)]
    exact ⟨havail, htake, hfuse⟩

/-! ### Activations -/

section
variable (s : State)

theorem State.endActivation_effect (state status : Nat) : (s.endActivation state status).img.act = none ∧
    (s.endActivation state status).cfg Obj.IMG_ACTIVATE_STATE = state ∧
    (s.endActivation state status).cfg Obj.IMG_ACTIVATE_STATUS = status ∧
    ∀ o, o ≠ Obj.IMG_ACTIVATE_STATE → o ≠ Obj.IMG_ACTIVATE_STATUS → (s.endActivation state status).cfg o = s.cfg o := by
  unfold State.endActivation
  refine ⟨rfl, ?_, State.cfg_latch_self _ _ _, fun o h1 h2 => ?_⟩
  · rw [State.cfg_latch_ne _ _ _ _ (by decide), State.cfg_latch_self]
  · rw [State.cfg_latch_ne _ _ _ _ h2, State.cfg_latch_ne _ _ _ _ h1]
    rfl

theorem State.handover?_of {s : State} {a : Activ} (act : s.img.act = some a) (form : a.form ≤ 2) (wait : a.started = false) :
    s.handover? = some a := by
  rw [State.handover?, act, Option.filter_some_pos]
  simp [form, wait]

theorem State.switching_of {s : State} {a : Activ} (act : s.img.act = some a) (go : a.started = true) : s.switching = some a := by
  rw [State.switching, act, Option.filter_some_pos go]

theorem State.restartDue_of {s : State} {a : Activ} (act : s.img.act = some a) (form : a.form = 3) (due : a.t ≤ s.now)
    (h1 : s.mode.mode ≠ .handover) (h2 : s.mode.mode ≠ .dormant) : s.restartDue = some a := by
  rw [State.restartDue, act, Option.filter_some_pos]
  simp [form, due, h1, h2]

/-- The activation's start, and the dictionary unavailable after d ns. -/
def State.begun (d : Nat) : State :=
  { s with
    img := { s.img with act := s.img.act.map fun a => { a with started := true } }
    mgmt := { s.mgmt with unavail := some (s.clock + d) } }

theorem State.begun_frame (d : Nat) : (s.begun d).mode = s.mode ∧ (s.begun d).mgmt.unavail = some (s.clock + d) ∧
    (s.begun d).img.act = s.img.act.map (fun a => { a with started := true }) ∧ ∀ o, (s.begun d).cfg o = s.cfg o :=
  ⟨rfl, rfl, rfl, fun _ => rfl⟩

/-- The start of a hand-over: HANDOVER, and the dictionary unavailable after d ns. -/
def State.switchBegins (d : Nat) : State := ((s.stir.setMode .handover 6).latch Obj.IMG_ACTIVATE_STATE 3).begun d

theorem State.switchBegins_effect {a : Activ} (act : s.img.act = some a) (d : Nat) :
    (s.switchBegins d).mode.mode = .handover ∧ (s.switchBegins d).img.act = some { a with started := true } ∧
    (s.switchBegins d).cfg Obj.IMG_ACTIVATE_STATE = 3 ∧ (s.switchBegins d).mgmt.unavail = some (s.clock + d) := by
  unfold State.switchBegins
  obtain ⟨hmode, hclock, -, -, himg, -⟩ := s.stir.setMode_frame .handover 6
  have img : (s.stir.setMode .handover 6).img.act = some a := by
    rw [himg]
    simpa using act
  have clock : (s.stir.setMode .handover 6).clock = s.clock := by
    rw [hclock]
    simp
  generalize s.stir.setMode .handover 6 = t at *
  obtain ⟨mode', avail', act', cfg'⟩ := (t.latch Obj.IMG_ACTIVATE_STATE 3).begun_frame d
  have frame : (t.latch Obj.IMG_ACTIVATE_STATE 3).img = t.img ∧ (t.latch Obj.IMG_ACTIVATE_STATE 3).clock = t.clock ∧
      (t.latch Obj.IMG_ACTIVATE_STATE 3).mode = t.mode := by simp
  obtain ⟨img1, clock1, mode1⟩ := frame
  rw [mode', avail', act', cfg', State.cfg_latch_self, img1, clock1, mode1, img, clock, hmode]
  exact ⟨rfl, rfl, rfl, rfl⟩

/-- No pair stands by. -/
def State.alone : State := { s with img := { s.img with standby := false } }

theorem State.alone_frame : s.alone.mgmt = s.mgmt ∧ s.alone.img.act = s.img.act ∧ s.alone.mode = s.mode ∧
    s.alone.fuse = s.fuse ∧ ∀ o, s.alone.cfg o = s.cfg o := ⟨rfl, rfl, rfl, rfl, fun _ => rfl⟩

theorem State.endActivation_frame (state status : Nat) : (s.endActivation state status).mgmt = s.mgmt ∧
    (s.endActivation state status).mode = s.mode ∧ (s.endActivation state status).fuse = s.fuse := ⟨rfl, rfl, rfl⟩

theorem State.endUnavail_frame : s.endUnavail.mgmt.unavail = none ∧ s.endUnavail.mgmt.deferred = s.mgmt.deferred ∧
    s.endUnavail.fuse = s.fuse ∧ s.endUnavail.serviceMode = s.serviceMode := ⟨rfl, rfl, rfl, rfl⟩

/-- A hand-over that has ended, before the requests that waited run. -/
def State.handedOver (s : State) (a : Activ) : State :=
  let t0 := s.endUnavail
  let t := t0.sendHeld.setMode t0.serviceMode 7
  let t1 := (t.latch Obj.IMG_RUNNING a.target).latchStored Obj.IMG_BOOT_BANK a.target
  let t2 := (t1.raise 0x0071 7 0 (toBe 1 2 ++ List.replicate 3 0 ++ toBe 4 (t1.fwSlot (2 * a.target + 1)).version)).bump
    Obj.IMG_HANDOVERS
  (t2.endActivation 4 0).alone

theorem State.finishHandover_runs (a : Activ) : s.finishHandover a = (s.handedOver a).runDeferred := rfl

theorem State.cfg_latchStored_ne (o v : Nat) {p : Nat} (h : p ≠ o) : (s.latchStored o v).cfg p = s.cfg p :=
  s.cfg_latch_ne _ _ _ h

theorem State.setMode_undisturbed (m : Mode) (reason : Nat) : (s.setMode m reason).mgmt.deferred = s.mgmt.deferred ∧
    (s.setMode m reason).mgmt.unavail = s.mgmt.unavail ∧ (s.setMode m reason).fuse = s.fuse := by
  by_cases h : s.mode.mode = m
  · rw [State.setMode_same h]
    exact ⟨rfl, rfl, rfl⟩
  · have told := (State.setMode_told h reason).undisturbed
    exact ⟨told.deferred, told.unavail, told.fuse⟩

theorem State.handedOver_effect (a : Activ) : (s.handedOver a).mode.mode = s.serviceMode ∧ (s.handedOver a).img.act = none ∧
    (s.handedOver a).cfg Obj.IMG_RUNNING = a.target ∧ (s.handedOver a).cfg Obj.IMG_ACTIVATE_STATE = 4 ∧
    (s.handedOver a).cfg Obj.IMG_ACTIVATE_STATUS = 0 ∧ (s.handedOver a).mgmt.unavail = none ∧
    (s.handedOver a).img.standby = false ∧ (s.handedOver a).fuse = s.fuse ∧
    (s.handedOver a).mgmt.deferred = s.mgmt.deferred := by
  unfold State.handedOver
  extract_lets t0 t t1 t2
  have h0 : Undisturbed t0 t0.sendHeld := t0.sendHeld_undisturbed
  obtain ⟨hmode, -⟩ := t0.sendHeld.setMode_frame t0.serviceMode 7
  obtain ⟨hdefer, havail, hfuse⟩ := t0.sendHeld.setMode_undisturbed t0.serviceMode 7
  have told := t1.raise_told 0x0071 7 0 (toBe 1 2 ++ List.replicate 3 0 ++ toBe 4 (t1.fwSlot (2 * a.target + 1)).version) none
  have h2 : Undisturbed t t2 := ⟨told.undisturbed.deferred, told.undisturbed.unavail, told.undisturbed.img,
    told.undisturbed.mode, told.undisturbed.fuse⟩
  obtain ⟨hact, hstate, hstatus, hcfg⟩ := t2.endActivation_effect 4 0
  have running : t1.cfg Obj.IMG_RUNNING = a.target := by
    unfold t1
    rw [State.cfg_latchStored_ne _ _ _ (by decide), State.cfg_latch_self]
  obtain ⟨mgmt3, mode3, fuse3⟩ := t2.endActivation_frame 4 0
  obtain ⟨mgmt4, act4, mode4, fuse4, cfg4⟩ := (t2.endActivation 4 0).alone_frame
  obtain ⟨avail0, defer0, fuse0, service0⟩ := s.endUnavail_frame
  refine ⟨?_, act4.trans hact, ?_, (cfg4 _).trans hstate, (cfg4 _).trans hstatus, ?_, rfl, ?_, ?_⟩
  · rw [mode4, mode3, h2.mode]
    exact (congrArg ModeSt.mode hmode).trans service0
  · rw [cfg4, hcfg _ (by decide) (by decide)]
    exact (told.cfg0 (by decide)).trans running
  · rw [mgmt4, mgmt3]
    exact h2.unavail.trans (havail.trans (h0.unavail.trans avail0))
  · rw [fuse4, fuse3]
    exact h2.fuse.trans (hfuse.trans (h0.fuse.trans fuse0))
  · rw [mgmt4, mgmt3]
    exact h2.deferred.trans (hdefer.trans (h0.deferred.trans defer0))

end

section
variable {s : State} {dt : Nat} {a : Activ}

/-- The outcome of a preparation. -/
def State.prepared (s : State) (a : Activ) (code : Nat) : State :=
  if code == 0 then ({ s with img := { s.img with act := some { a with ready := true } } } : State).latch Obj.IMG_ACTIVATE_STATE 2
  else if code ≤ 11 then (s.imgReject code (fwObj a.target)).endFree 5
  else s.endFree 5

theorem exec_handoverPrepared (alive : s.alive = true) (act : s.img.act = some a) (form : a.form ≤ 2)
    (wait : a.started = false) (raw : a.ready = false) (code : Nat) :
    exec (.handoverPrepared dt code) s = .next ((s.tick dt).prepared a code) := by
  have alive' : (s.tick dt).alive = true := alive
  have pend : (s.tick dt).handover? = some a := State.handover?_of (s := s.tick dt) act form wait
  refine Eq.trans (show execHandoverPrepared .. = .next _ from cmd_then ?_) ?_
  · simp only [alive', pend, raw, Bool.not_false, Bool.and_self]
  · simp only [pend]
    rfl

theorem exec_handoverStart (alive : s.alive = true) (act : s.img.act = some a) (form : a.form ≤ 2) (wait : a.started = false)
    (ready : a.ready = true) (mode : s.mode.mode = .service) (done_ : s.commitsDone = true)
    (due : a.form = 1 ∨ a.t ≤ (s.tick dt).now ∧ (s.tick dt).now ≤ a.t + 2000000000) :
    exec (.handoverStart dt) s = .next (((s.tick dt).fresh 23).2.switchBegins (((s.tick dt).fresh 23).1 % 5000001)) := by
  have alive' : (s.tick dt).alive = true := alive
  have pend : (s.tick dt).handover? = some a := State.handover?_of (s := s.tick dt) act form wait
  have mode' : (s.tick dt).mode.mode = .service := mode
  have done' : (s.tick dt).commitsDone = true := done_
  refine show execHandoverStart .. = .next _ from cmd_then ?_
  rw [alive', Bool.true_and, State.startDue]
  simp only [pend, ready, mode', done', beq_self_eq_true, Bool.true_and, Bool.or_eq_true, beq_iff_eq, Bool.and_eq_true,
    decide_eq_true_eq]
  exact due

theorem exec_handoverComplete (alive : s.alive = true) (act : s.img.act = some a) (go : a.started = true) :
    exec (.handoverComplete dt) s = .next ((s.tick dt).finishHandover a) := by
  have alive' : (s.tick dt).alive = true := alive
  have sw : (s.tick dt).switching = some a := State.switching_of (s := s.tick dt) act go
  refine Eq.trans (show execHandoverComplete .. = .next _ from cmd_then ?_) ?_
  · rw [alive', sw]
    rfl
  · simp only [sw]

theorem exec_handoverDeferralExpiry (alive : s.alive = true) (act : s.img.act = some a) (form : a.form = 2)
    (wait : a.started = false) (late : a.t + 2000000000 < (s.tick dt).now) :
    exec (.handoverDeferralExpiry dt) s = .next ((s.tick dt).endActivation 5 9) := by
  have alive' : (s.tick dt).alive = true := alive
  have pend : (s.tick dt).handover? = some a := State.handover?_of (s := s.tick dt) act (by omega) wait
  refine show execHandoverDeferralExpiry .. = .next _ from cmd_then ?_
  simp only [alive', pend, form, beq_self_eq_true, Bool.true_and, decide_eq_true late]

theorem exec_restartInstant (alive : s.alive = true) (act : s.img.act = some a) (form : a.form = 3)
    (due : a.t ≤ (s.tick dt).now) (h1 : s.mode.mode ≠ .handover) (h2 : s.mode.mode ≠ .dormant) :
    exec (.restartInstant dt) s = .next (((s.tick dt).latchStored Obj.IMG_BOOT_BANK a.target).chipReset 0) := by
  have alive' : (s.tick dt).alive = true := alive
  have restart : (s.tick dt).restartDue = some a := State.restartDue_of (s := s.tick dt) act form due h1 h2
  refine Eq.trans (show execRestartInstant .. = .next _ from cmd_then ?_) ?_
  · rw [alive', restart]
    rfl
  · simp only [restart]

end

theorem State.prepared_rejects (s : State) (a : Activ) {code : Nat} (h1 : 1 ≤ code) (h2 : code ≤ 11) :
    (s.prepared a code).img.act = none ∧ (s.prepared a code).cfg Obj.IMG_ACTIVATE_STATE = 5 ∧
      (s.prepared a code).cfg Obj.IMG_REJECT_CODE = code := by
  rw [State.prepared, if_neg (by simp; omega), if_pos h2, State.endFree]
  obtain ⟨hact, hstate, -, hcfg⟩ := ((s.imgReject code (fwObj a.target)).fresh 8).2.endActivation_effect 5
    (((s.imgReject code (fwObj a.target)).fresh 8).1 % 11)
  refine ⟨hact, hstate, (hcfg _ (by decide) (by decide)).trans ?_⟩
  change (s.imgReject code (fwObj a.target)).cfg Obj.IMG_REJECT_CODE = code
  rw [State.imgReject, State.cfg_bump, State.cfg_latch_ne _ _ _ _ (by decide), State.cfg_latch_self]

/-- Settles O56: an activation from its preparation to its end. -/
theorem handoversRunToTheirEnd : Obligations.HandoversRunToTheirEnd := by
  unfold Obligations.HandoversRunToTheirEnd
  intro dt a s alive act
  refine ⟨fun form wait raw => ⟨?ready, fun code h1 h2 => ?rejects⟩, fun form wait ready mode done_ due => ?starts,
    fun go mode idle => ?ends, fun form wait late => ?expires, fun form due h1 h2 => exec_restartInstant alive act form due h1 h2⟩
  case ready => exact ⟨_, exec_handoverPrepared alive act form wait raw 0, rfl, State.cfg_latch_self _ _ _⟩
  case rejects => exact ⟨_, exec_handoverPrepared alive act form wait raw code, (s.tick dt).prepared_rejects a h1 h2⟩
  case starts =>
    obtain ⟨hmode, hact, hstate, havail⟩ := ((s.tick dt).fresh 23).2.switchBegins_effect act (((s.tick dt).fresh 23).1 % 5000001)
    exact ⟨_, ((s.tick dt).fresh 23).1 % 5000001, exec_handoverStart alive act form wait ready mode done_ due, hmode, hact, hstate,
      havail, Nat.le_of_lt_succ (Nat.mod_lt _ (by decide))⟩
  case ends =>
    obtain ⟨hmode, hact, hrun, hstate, hstatus, havail, hstandby, hfuse, hdefer⟩ := (s.tick dt).handedOver_effect a
    refine ⟨_, exec_handoverComplete alive act go, ?_⟩
    rw [State.finishHandover_runs, State.runDeferred_nil _ (hdefer.trans idle)]
    obtain ⟨avail, img, mode, fuse, cfg⟩ := ((s.tick dt).handedOver a).undeferred_frame
    rw [avail, img, mode, fuse, cfg, cfg, cfg]
    exact ⟨hmode, hact, hrun, hstate, hstatus, havail, hstandby, hfuse⟩
  case expires =>
    obtain ⟨hact, hstate, hstatus, -⟩ := (s.tick dt).endActivation_effect 5 9
    exact ⟨_, exec_handoverDeferralExpiry alive act form wait late, hact, hstate, hstatus⟩

end Sys2Proof.Machine
end

section
/-!
PROOFS. From power to the first epoch (R422 to R430, R447).
-/

namespace Sys2Proof.Machine

/-! ### The starts -/

section
variable (s : State)

/-- What is left after RESET_N. -/
def State.resetHeld : State :=
  { s.wipe with pwr := { s.wipe.pwr with resetN := false, rails := if s.pwr.rails == .off then Rails.off else Rails.held } }

theorem State.resetHeld_effect : s.resetHeld.pwr.resetN = false ∧ s.resetHeld.alive = false ∧ s.resetHeld.pkts = [] ∧
    s.resetHeld.fuse = s.fuse ∧ s.resetHeld.store.held = s.store.held := by
  obtain ⟨hheld, -, -, -, hfuse⟩ := s.wipe_stores
  have hpkts := s.wipe_pkts
  have dead : s.resetHeld.alive = false := by
    change ((if s.pwr.rails == .off then Rails.off else Rails.held) == .run) = false
    split <;> rfl
  refine ⟨rfl, dead, ?_⟩
  unfold State.resetHeld
  generalize s.wipe = t at *
  exact ⟨hpkts, hfuse, hheld⟩

theorem State.coldState_wiped : s.coldState.pkts = [] ∧ s.coldState.tbl = [] ∧ s.coldState.core.mem = [] ∧
    s.coldState.mgmt.sessions = [] ∧ s.coldState.fuse = s.fuse ∧ s.coldState.cry.kek = s.cry.kek ∧
    s.coldState.cry.slots = s.cry.slots := by
  obtain ⟨-, -, hkek, hslots, hfuse⟩ := s.wipe_stores
  obtain ⟨htbl, hsess, -, -⟩ := s.wipe_empties
  have hpkts := s.wipe_pkts
  have hmem := s.wipe_mem
  unfold State.coldState
  generalize s.wipe = t at *
  exact ⟨hpkts, htbl, hmem, hsess, hfuse, hkek, hslots⟩

/-! ### Memory and the SERVICE image -/

theorem State.startMemory_effect (ok : List Bool) : (s.startMemory ok).pwr.hbmDone = true ∧ (s.startMemory ok).pwr.stackOk = ok ∧
    (ok.all id = true → (s.startMemory ok).core.memUp = true) := by
  refine ⟨rfl, rfl, fun h => ?_⟩
  change (!_ || ok.all id) = true
  rw [h, Bool.or_true]

end

section
variable {s : State} {dt : Nat}

theorem exec_resetNAssert (high : s.pwr.resetN = true) : exec (.resetNAssert dt) s = .next (s.tick dt).resetHeld :=
  show execResetNAssert .. = .next _ from cmd_then high

/-- The outcome of training and tests of the stacks. -/
def State.stacksTested (s : State) : Bool → Bool → State
  | true, true => s.startMemory [true, true]
  | false, true => (s.startMemory [false, true]).startLame 0
  | true, false => (s.startMemory [true, false]).startLame 1
  | false, false => (s.logErr { hbmFault 0 with action := 8 }).logErr { hbmFault 1 with action := 8 }

theorem exec_hbmTrainingComplete (alive : s.alive = true) (mode : s.mode.mode = .vigil) (new : s.pwr.hbmDone = false)
    (ok0 ok1 : Bool) : exec (.hbmTrainingComplete dt ok0 ok1) s = .next ((s.tick dt).stacksTested ok0 ok1) := by
  have alive' : (s.tick dt).alive = true := alive
  have mode' : (s.tick dt).mode.mode = .vigil := mode
  have new' : (s.tick dt).pwr.hbmDone = false := new
  refine Eq.trans (show execHbmTrainingComplete .. = .next _ from cmd_then ?_) ?_
  · rw [alive', mode', new']
    rfl
  · cases ok0 <;> cases ok1 <;> rfl

theorem exec_serviceImageRunning {b : Nat} (alive : s.alive = true) (mode : s.mode.mode = .vigil)
    (trained : s.pwr.hbmDone = true) (new : s.pwr.svcRunning = false) (bank : s.runBank = some b)
    (fed : s.pkg.vflashOff = none) (ok : (s.tick dt).serviceCode [] b b = 0) :
    exec (.serviceImageRunning dt []) s = .next (s.tick dt).serviceRuns := by
  have alive' : (s.tick dt).alive = true := alive
  have mode' : (s.tick dt).mode.mode = .vigil := mode
  have pwr' : (s.tick dt).pwr = s.pwr := rfl
  have bank' : (s.tick dt).runBank = some b := bank
  have fed' : (s.tick dt).pkg.vflashOff = none := fed
  refine Eq.trans (show execServiceImageRunning .. = .next _ from cmd_then ?_) ?_
  · rw [alive', mode', pwr', trained, new, bank', fed']
    rfl
  · simp only [bank', State.loadService, ok]
    rfl

theorem exec_epochOneCommit (alive : s.alive = true) (mode : s.mode.mode = .vigil) (runs : s.pwr.svcRunning = true)
    (none_ : s.ep.live = []) (free : s.ep.applying = []) : exec (.epochOneCommit dt) s = .next (s.tick dt).commitOne := by
  have alive' : (s.tick dt).alive = true := alive
  have mode' : (s.tick dt).mode.mode = .vigil := mode
  have runs' : (s.tick dt).pwr.svcRunning = true := runs
  have ep' : (s.tick dt).ep = s.ep := rfl
  refine show execEpochOneCommit .. = .next _ from cmd_then ?_
  rw [alive', mode', runs', ep', none_, free]
  rfl

/-- Epoch 1, sealed. -/
def sealedOne (v : Ver) : Sealed := { ver := v, stage := Staging.none_, sess := (0, 0) }

theorem State.commitOne_passes (images : s.badImage = none)
    (checked : s.checkVer (Ver.with_ Ver.empty s.ep.openNum s.epochOne) (Ver.with_ Ver.empty s.ep.openNum s.epochOne).held = none) :
    s.commitOne.ep = { s.ep with
      openNum := (s.ep.openNum + 1) % 2 ^ 32
      applying := s.ep.applying ++ [(sealedOne (Ver.with_ Ver.empty s.ep.openNum s.epochOne), s.clock + 2000)] } := by
  unfold State.commitOne
  simp only [images, checked]
  rfl

/-! ### The rescue NIC -/

/-- What the rescue NIC does with a frame whose MAC checks have passed or not. -/
def State.rescueRx (s : State) (f : Bytes) (fcsOk : Bool) (given : HostRead) : State :=
  if f.length + 4 < 64 then s.bump (Obj.NET_RX_RUNT + s.rescuePort)
  else if !fcsOk then s.bump (Obj.NET_RX_FCS_ERR + s.rescuePort)
  else if beNat (slice f 12 2) == 0x8808 then s.macControl s.rescuePort f
  else if 9600 < f.length || !s.rescueTakes f then s
  else
    let p := newPkt .data .staged f true s.clock 0 s.rescuePort s.now
    (s.addPkt p).deliver 0 { p with id := s.nextPkt } given

theorem exec_rescueFrameReceive (alive : s.alive = true) (mode : s.mode.mode = .vigil)
    (up : s.cfg (Obj.NET_LINK_STATE + s.rescuePort) = 4) (f : Bytes) (fcsOk : Bool) (given : HostRead) :
    exec (.rescueFrameReceive dt f fcsOk given) s = .next ((s.after dt).rescueRx f fcsOk given) := by
  have alive' : (s.tick dt).alive = true := alive
  have mode' : (s.tick dt).mode.mode = .vigil := mode
  have up' : (s.tick dt).cfg (Obj.NET_LINK_STATE + (s.tick dt).rescuePort) = 4 := up
  refine show execRescueFrameReceive .. = .next _ from work_then ?_
  rw [alive', mode', up']
  rfl

theorem State.after_rescuePort : (s.after dt).rescuePort = s.rescuePort := s.after_cfg dt (by decide)

theorem State.after_rescueTakes (f : Bytes) : (s.after dt).rescueTakes f = s.rescueTakes f := by
  rw [State.rescueTakes, s.after_cfg dt (by decide), ← State.rescueTakes]

end

/-- Settles O52: each start from its own state, and the tests of a rescue frame in their order. -/
theorem startUpRunsInItsSteps : Obligations.StartUpRunsInItsSteps := by
  unfold Obligations.StartUpRunsInItsSteps
  intro dt s
  refine ⟨fun straps rose removed dipped hot rails high jtag trip ov => ?cold, fun high => ?resetN,
    fun samples bad copies corrupt boot fed => ?vigil, fun alive mode => ⟨fun new => ⟨?both, ?first, ?second, ?neither⟩,
      fun b trained new bank fed ok => ?service, fun v runs none_ free images hv checked => ?epoch, fun f given up =>
      ⟨fun fcsOk short => ?runt, fun long => ?fcs, fun long plain => ⟨fun fits takes => ?delivered, fun not => ?discarded⟩⟩⟩⟩
  case cold =>
    obtain ⟨hnow, hpwr⟩ := (s.tick dt).coldState_effect
    obtain ⟨hpkts, htbl, hmem, hsess, hfuse, hkek, hslots⟩ := (s.tick dt).coldState_wiped
    refine ⟨_, exec_coldStart straps ?_, rfl, rfl, ?_, rfl, hnow, hpkts, htbl, hmem, hsess, hfuse, hkek, hslots⟩
    · rcases rails with rails | rails <;> rcases high with high | high <;>
        simp [State.mayStart, rails, high, jtag, trip, ov]
    · exact congrArg Power.resetN hpwr
  case resetN =>
    exact ⟨_, exec_resetNAssert high, (s.tick dt).resetHeld_effect⟩
  case vigil =>
    obtain ⟨t, ht, hrails, -, hmode, hcur, hclock⟩ := (s.tick dt).vigilStart_effect samples bad copies corrupt
    refine ⟨_, t.out, exec_vigilFirmwareStart boot fed samples bad copies corrupt, ?_⟩
    rw [ht]
    refine ⟨hmode, ?_, hcur, ?_⟩
    · change (t.pwr.rails == .run) = true
      rw [hrails]
      rfl
    · change t.out ++ [(t.clock, _)] = _
      rw [hclock]
      rfl
  case both =>
    obtain ⟨hdone, hok, hmem⟩ := (s.tick dt).startMemory_effect [true, true]
    exact ⟨_, exec_hbmTrainingComplete alive mode new true true, hdone, hok, hmem rfl⟩
  case first => exact ⟨(s.tick dt).startMemory [false, true], exec_hbmTrainingComplete alive mode new false true, rfl⟩
  case second => exact ⟨(s.tick dt).startMemory [true, false], exec_hbmTrainingComplete alive mode new true false, rfl⟩
  case neither =>
    refine ⟨_, exec_hbmTrainingComplete alive mode new false false, ?_⟩
    have told := ((s.tick dt).logErr_told { hbmFault 0 with action := 8 }).trans (State.logErr_told _ { hbmFault 1 with action := 8 })
    exact (congrArg Power.hbmDone told.sameStart.pwr).trans new
  case service =>
    exact ⟨_, exec_serviceImageRunning alive mode trained new bank fed ok, rfl, rfl⟩
  case epoch =>
    subst hv
    have ep := State.commitOne_passes (s := s.tick dt) images checked
    have free' : (s.tick dt).ep.applying = [] := free
    refine ⟨_, sealedOne (Ver.with_ Ver.empty s.ep.openNum (s.tick dt).epochOne), exec_epochOneCommit alive mode runs none_ free, ?_,
      rfl, ?_⟩
    · rw [ep, free']
      rfl
    · rw [ep]
      rfl
  case runt =>
    rw [exec_rescueFrameReceive alive mode up, State.rescueRx, if_pos (by omega), State.after_rescuePort]
  case fcs =>
    rw [exec_rescueFrameReceive alive mode up, State.rescueRx, if_neg (by omega), if_pos (by decide), State.after_rescuePort]
  case delivered =>
    have takes' : (s.after dt).rescueTakes f = true := (State.after_rescueTakes f).trans takes
    let p := newPkt .data .staged f true (s.after dt).clock 0 (s.after dt).rescuePort (s.after dt).now
    refine ⟨(s.after dt).addPkt p, { p with id := (s.after dt).nextPkt }, ?_, rfl, ?_, ?_⟩
    · rw [exec_rescueFrameReceive alive mode up, State.rescueRx, if_neg (by omega), if_neg (by decide),
        if_neg (by simpa using plain), if_neg (by simp [takes']; omega)]
    · change (s.after dt).pkts ++ _ = _
      rw [State.after_pkts]
    · change (s.after dt).nextPkt = _
      simp [State.after, State.tick]
  case discarded =>
    rw [exec_rescueFrameReceive alive mode up, State.rescueRx, if_neg, if_neg (by decide), if_neg (by simpa using plain), if_pos]
    · rcases not with h | h
      · simp [h]
      · simp [State.after_rescueTakes, h]
    · omega

end Sys2Proof.Machine
end

section
/-!
PROOFS. Faults of cells, blocks, clocks and control pairs (R463 to R468, R472, R477).
-/

namespace Sys2Proof.Machine

/-! ### Blocks -/

/-- A block's reset is counted, remembered and recorded. -/
def State.blockCounted (s : State) (e : ErrInfo) (recent : List Nat) : State :=
  (({ s with flt := { s.flt with resets := assoc s.flt.resets e.place (recent ++ [s.clock]) } } : State).bump
    Obj.FLT_BLOCK_RESETS).logErr { e with level := 1, action := 4 }

section
variable (s : State) (e : ErrInfo)

theorem State.blockCounted_effect (recent : List Nat) : (s.blockCounted e recent).pkts = s.pkts ∧
    (s.blockCounted e recent).ctr Obj.FLT_BLOCK_RESETS = Nat.min u64Max (s.ctr Obj.FLT_BLOCK_RESETS + 1) := by
  unfold State.blockCounted
  generalize hu : ({ s with flt := { s.flt with resets := assoc s.flt.resets e.place (recent ++ [s.clock]) } } : State) = u
  have told := (u.bump Obj.FLT_BLOCK_RESETS).logErr_told { e with level := 1, action := 4 }
  obtain ⟨-, -, -, -, -, -, -, -, hpkts, -⟩ := told.frame
  refine ⟨hpkts.trans (hu ▸ rfl), ?_⟩
  rw [told.ctr _ (by decide), State.ctr_bump_self]
  subst hu
  rfl

theorem State.blockReset_slow : ∃ recent, s.blockReset e true = (s.blockCounted e recent).escalate e :=
  ⟨(lookupD s.flt.resets e.place []).filter fun t => s.clock < t + 1000000000, if_pos (Bool.or_true _)⟩

theorem lookupD_of_absent {α : Type} {l : List (Nat × α)} {k : Nat} (d : α) (h : ∀ x ∈ l, x.1 ≠ k) : lookupD l k d = d := by
  induction l with
  | nil => rfl
  | cons x l ih =>
    rw [lookupD, if_neg (by simpa using h x List.mem_cons_self)]
    exact ih fun y hy => h y (List.mem_cons_of_mem _ hy)

theorem State.blockReset_first {s : State} {e : ErrInfo} (h : ∀ x ∈ s.flt.resets, x.1 ≠ e.place) :
    s.blockReset e false = (s.blockCounted e []).resetEffect e.region e.block := by
  unfold State.blockReset
  rw [lookupD_of_absent [] h]
  rfl

end

/-! ### Clocks -/

/-- A link of a port that has lost its clock. -/
def State.unclocked (s : State) (port l : Nat) : State :=
  if s.linkUp l then (if (s.fallen l).frozen port then (s.fallen l).unfreeze port else s.fallen l) else s

section
variable {s : State} {port l : Nat}

theorem State.unclocked_of_down (h : s.linkUp l = false) : s.unclocked port l = s := if_neg (by simp [h])

theorem State.unclocked_of_up (h : s.linkUp l = true) (runs : (s.fallen l).frozen port = false) :
    s.unclocked port l = s.fallen l := by
  rw [State.unclocked, if_pos h, if_neg (by simp [runs])]

/-- The fall of a link leaves the other ones up or down. -/
theorem State.fallen_linkUp {k : Nat} (hk : k < 4) (h : k ≠ l) (hl : l < 4) : (s.fallen l).linkUp k = s.linkUp k := by
  have kept : (s.fallen l).linkState k = ((s.bump (Obj.HST_LINK_DOWNS + l)).squashLink l).linkState k :=
    State.hostDown_cfg _ _ (by omega) (by unfold Obj.HST_LINK_STATE Obj.HST_LINK_SPEED; omega)
      (by unfold Obj.HST_LINK_STATE Obj.HST_LINK_WIDTH; omega)
  rw [State.linkUp, kept, ← State.linkUp, ((s.bump (Obj.HST_LINK_DOWNS + l)).squashLink_squashed l).links.linkUp hk]
  rfl

end

/-! ### The commands -/

section
variable {s : State} {dt : Nat}

theorem exec_eccError (alive : s.alive = true) (cycle : s.mgmt.cycle = []) (at_ : EccAt) (region block inst addr : Nat)
    (ok : Bool) : exec (.eccError dt at_ region block inst addr ok) s = .next (if ok
      then (s.tick dt).cellCorrected (errAt region block inst addr)
      else (s.tick dt).cellUncorrected at_ (errAt region block inst addr)) :=
  show execEccError .. = .next _ from faultCmd_then alive cycle

theorem exec_parityError (alive : s.alive = true) (cycle : s.mgmt.cycle = []) (region block inst addr : Nat) {n : Nat}
    (h1 : 1 ≤ n) (h3 : n ≤ 3) {ok : Bool} (h : ok = true ∨ n = 3) : exec (.parityError dt region block inst addr n ok) s =
      .next (if ok
        then ((s.tick dt).bumpN Obj.FLT_CELL_RETRIES n).logRate
          { errAt region block inst addr with detail := n, cls := 3, action := 1 }
        else ((s.tick dt).bumpN Obj.FLT_CELL_RETRIES n).blockReset
          { errAt region block inst addr with detail := n, cls := 4, escalated := true } false) := by
  have alive' : (s.tick dt).alive = true := alive
  refine show execParityError .. = .next _ from faultCmd_then ?_ cycle
  rw [alive', decide_eq_true h1, decide_eq_true h3]
  simpa using h

theorem exec_blockStall (alive : s.alive = true) (cycle : s.mgmt.cycle = []) (region block inst : Nat) {self : Bool}
    (h : self = true ∨ watched block = true) (slow : Bool) : exec (.blockStall dt region block inst self slow) s =
      .next ((s.tick dt).blockReset (ErrInfo.mk' 1 region block inst (if self then 0x0B else 0x0A) 4) slow) := by
  have alive' : (s.tick dt).alive = true := alive
  refine show execBlockStall .. = .next _ from faultCmd_then ?_ cycle
  rw [alive']
  simpa using h

theorem exec_clockLoss_port {port : Nat} (alive : s.alive = true) (cycle : s.mgmt.cycle = []) (hp : port < 2) :
    exec (.clockLoss dt (2 + port)) s = .next (((s.tick dt).unclocked port (2 * port)).unclocked port (2 * port + 1)) := by
  have alive' : (s.tick dt).alive = true := alive
  refine Eq.trans (show execClockLoss .. = .next _ from faultCmd_then ?_ cycle) ?_
  · rw [alive', decide_eq_true (show 2 + port < 4 by omega)]
    rfl
  · rw [if_neg (by omega), Nat.add_sub_cancel_left]
    rfl

theorem exec_pairFault (alive : s.alive = true) (cycle : s.mgmt.cycle = []) {active : Bool} {c : Instr}
    (hc : c ∈ [Instr.lockstepMismatch dt active, .watchdogMiss dt active]) :
    ∃ cls, exec c s = .next ((s.tick dt).pairFault active cls) := by
  rcases (List.mem_cons.mp hc).imp_right List.mem_singleton.mp with rfl | rfl
  · exact ⟨8, show execLockstepMismatch .. = .next _ from faultCmd_then alive cycle⟩
  · exact ⟨9, show execWatchdogMiss .. = .next _ from faultCmd_then alive cycle⟩

/-- The end of the window of one cell. -/
def State.windowEnds (s : State) (place addr n : Nat) : State :=
  let t : State := { s with flt := { s.flt with cells := [] } }
  if n = 0 then t
  else t.logRate { errAt (place / 65536) (place / 256 % 256) (place % 256) addr with cls := 1, action := 0, count := n }

theorem exec_cellLogWindow {place addr : Nat} {c : Nat × Nat × Nat × Nat} (alive : s.alive = true) (cells : s.flt.cells = [c])
    (hp : c.1 = place) (ha : c.2.1 = addr) (due : c.2.2.1 + 1000000000 ≤ s.clock + dt) :
    exec (.cellLogWindow dt place addr) s = .next ((s.tick dt).windowEnds place addr c.2.2.2) := by
  have alive' : (s.tick dt).alive = true := alive
  have cells' : (s.tick dt).flt.cells = [c] := cells
  have due' : c.2.2.1 + 1000000000 ≤ (s.tick dt).clock := due
  have ended : (c.1 == place && c.2.1 == addr && decide (c.2.2.1 + 1000000000 ≤ (s.tick dt).clock)) = true := by
    rw [decide_eq_true due', hp, ha, beq_self_eq_true, beq_self_eq_true]
    rfl
  refine Eq.trans (show execCellLogWindow .. = .next _ from cmd_then ?_) ?_
  · rw [alive', cells', List.any_cons, ended]
    rfl
  · simp only [cells', List.filter_cons, List.filter_nil, ended, if_true, Bool.not_true, Bool.false_eq_true, if_false, sumBy,
      List.foldl_cons, List.foldl_nil, Nat.zero_add, beq_iff_eq]
    rfl

/-- A held-out block has been tested. -/
def State.retested (s : State) (place : Nat) (pass : Bool) : State :=
  let rest := s.flt.held.filter fun h => h.1 != place
  if pass then
    let t : State := { s with flt := { s.flt with held := rest } }
    if place / 65536 == 5 && t.cfg Obj.CORE_RUN == 1 then t.holdHart (place % 256) .waitIpi else t
  else { s with flt := { s.flt with held := rest ++ [(place, some s.clock)] } }

theorem exec_holdOutRetest {place a : Nat} (alive : s.alive = true) (held : s.flt.held = [(place, some a)])
    (due : a + 1000000000 ≤ s.clock + dt) (pass : Bool) :
    exec (.holdOutRetest dt place pass) s = .next ((s.tick dt).retested place pass) := by
  have alive' : (s.tick dt).alive = true := alive
  have held' : (s.tick dt).flt.held = [(place, some a)] := held
  have due' : a + 1000000000 ≤ (s.tick dt).clock := due
  refine show execHoldOutRetest .. = .next _ from cmd_then ?_
  simp only [alive', held', List.any_cons, List.any_nil, beq_self_eq_true, decide_eq_true due', Bool.and_self, Bool.true_or]

end

section
variable {s : State} {cls : Nat}

/-- The active pair's take-over begins. -/
def State.takesOver (s : State) : State :=
  { s with img := { s.img with takeover := true, standby := false }, mgmt := { s.mgmt with unavail := some s.clock } }

/-- The standby pair is out. -/
def State.standbyOut (s : State) : State :=
  { s with img := { s.img with standby := false, mismatches := Nat.min u64Max (s.img.mismatches + 1) } }

theorem State.pairFault_takeOver (h : s.canTakeOver = true) :
    s.pairFault true cls = s.takesOver.logErr (ErrInfo.mk' 1 6 0x40 0 cls 4) := by
  rw [State.pairFault, if_neg (by decide), if_pos h]
  rfl

theorem State.pairFault_fatal (h : s.canTakeOver = false) : s.pairFault true cls = s.fatal (ErrInfo.mk' 3 6 0x40 0 cls 7) := by
  rw [State.pairFault, if_neg (by decide), if_neg (by simp [h])]

theorem State.pairFault_standby :
    s.pairFault false cls = (s.standbyOut.logErr (ErrInfo.mk' 1 6 0x40 1 cls 4)).failPrepare := rfl

end

theorem State.cellUncorrected_both (s : State) (k bank : Nat) (e : ErrInfo) : s.cellUncorrected (.device k bank true) e =
    (s.bump Obj.FLT_CELL_UNCORRECTED).fatal { e with cls := 6, escalated := true } := by
  rw [State.cellUncorrected]
  exact if_pos (Bool.true_or _)

theorem State.cellUncorrected_mirrored {s : State} {k : Nat} (bank : Nat) (e : ErrInfo)
    (h : s.flt.stackBad.contains (1 - k) = false) : s.cellUncorrected (.device k bank false) e =
      ((s.bump Obj.FLT_CELL_UNCORRECTED).mirrorFix e).badRead k bank e := by
  rw [State.cellUncorrected]
  exact if_neg (by rw [h]; decide)

/-- The first part of O57: cells, blocks and clocks. -/
theorem State.cellsAndBlocks (dt region block inst addr : Nat) (s : State) (alive : s.alive = true)
    (cycle : s.mgmt.cycle = []) (self : Bool) (h : self = true ∨ watched block = true) :
    ((∀ x ∈ s.flt.resets, x.1 ≠ (errAt region block inst addr).place) → ∃ u : State,
        exec (.blockStall dt region block inst self false) s = .next (u.resetEffect region block) ∧
        u.ctr Obj.FLT_BLOCK_RESETS = Nat.min u64Max (s.ctr Obj.FLT_BLOCK_RESETS + 1) ∧ u.pkts = s.pkts) ∧
      ∃ (u : State) (e : ErrInfo), exec (.blockStall dt region block inst self true) s = .next (u.escalate e) ∧
        e.region = region ∧ e.block = block ∧ e.inst = inst ∧
        u.ctr Obj.FLT_BLOCK_RESETS = Nat.min u64Max (s.ctr Obj.FLT_BLOCK_RESETS + 1) := by
  refine ⟨fun new => ?_, ?_⟩
  · obtain ⟨hpkts, hctr⟩ := (s.tick dt).blockCounted_effect (ErrInfo.mk' 1 region block inst (if self then 0x0B else 0x0A) 4) []
    refine ⟨_, (exec_blockStall alive cycle region block inst h false).trans ?_, hctr, hpkts⟩
    exact congrArg Host.Outcome.next (State.blockReset_first
      (e := ErrInfo.mk' 1 region block inst (if self then 0x0B else 0x0A) 4) (s := s.tick dt) new)
  · obtain ⟨recent, hreset⟩ := (s.tick dt).blockReset_slow (ErrInfo.mk' 1 region block inst (if self then 0x0B else 0x0A) 4)
    obtain ⟨-, hctr⟩ := (s.tick dt).blockCounted_effect (ErrInfo.mk' 1 region block inst (if self then 0x0B else 0x0A) 4) recent
    exact ⟨_, _, (exec_blockStall alive cycle region block inst h true).trans (congrArg Host.Outcome.next hreset), rfl, rfl, rfl,
      hctr⟩

/-- Settles O57: each fault by its place. -/
theorem cellBlockAndPairFaultsAreHandled : Obligations.CellBlockAndPairFaultsAreHandled := by
  unfold Obligations.CellBlockAndPairFaultsAreHandled
  refine ⟨fun dt region block inst addr s alive cycle => ⟨fun at_ => ?corrected, ?uncorrected, fun n h1 h3 => ?retried, ?unretried,
      fun self h => s.cellsAndBlocks dt region block inst addr alive cycle self h, fun place c cells hp ha due => ?window,
      fun which hw => ?clock, fun port hp down => ⟨fun off => ?unplugged, fun up runs => ?falls⟩⟩,
    fun dt place s alive => ⟨fun cycle c hc => ⟨fun can => ?takeOver, fun cannot => ?reset⟩, fun cycle c hc => ?standby,
      fun a held due => ⟨fun other => ?back, ?again⟩⟩⟩
  case corrected =>
    refine ⟨(s.tick dt).bump Obj.FLT_CELL_CORRECTED, State.ctr_bump_self _ _, rfl, rfl, ?_⟩
    exact exec_eccError alive cycle at_ region block inst addr true
  case uncorrected =>
    have row (at_ : EccAt) := exec_eccError (dt := dt) alive cycle at_ region block inst addr false
    refine ⟨(s.tick dt).bump Obj.FLT_CELL_UNCORRECTED, State.ctr_bump_self _ _, rfl, row .cell, fun off => row (.dirty off),
      fun k bank => ⟨?_, fun good => ?_⟩⟩
    · obtain ⟨-, hrails, hreason⟩ := ((s.tick dt).bump Obj.FLT_CELL_UNCORRECTED).fatal_effect
        { errAt region block inst addr with cls := 6, escalated := true }
      exact ⟨_, (row (.device k bank true)).trans (congrArg Host.Outcome.next (State.cellUncorrected_both _ k bank _)), hrails, hreason⟩
    · exact (row (.device k bank false)).trans
        (congrArg Host.Outcome.next (State.cellUncorrected_mirrored (s := s.tick dt) bank _ good))
  case retried => exact exec_parityError alive cycle region block inst addr h1 h3 (.inl rfl)
  case unretried => exact exec_parityError alive cycle region block inst addr (by decide) (by decide) (.inr rfl)
  case window =>
    exact ⟨{ s.tick dt with flt := { s.flt with cells := [] } }, rfl, exec_cellLogWindow alive cells hp ha due⟩
  case clock =>
    obtain ⟨hfault, hrails, hreason⟩ := (s.tick dt).fatal_effect (ErrInfo.mk' 3 0 0x45 which 0x0D 7)
    obtain ⟨-, -, hfuse⟩ := (s.tick dt).fatal_keep (ErrInfo.mk' 3 0 0x45 which 0x0D 7)
    exact ⟨_, exec_clockLoss_chip alive cycle hw, hrails, hreason, hfault, hfuse⟩
  case unplugged =>
    have off' : (s.tick dt).linkUp (2 * port) = false := off
    have down' : (s.tick dt).linkUp (2 * port + 1) = false := down
    rw [exec_clockLoss_port alive cycle hp, State.unclocked_of_down off', State.unclocked_of_down down']
  case falls =>
    have up' : (s.tick dt).linkUp (2 * port) = true := up
    have half : 2 * port / 2 = port := by omega
    have runs' : ((s.tick dt).fallen (2 * port)).frozen port = false := by
      have same := (s.tick dt).fallen_frozen (l := 2 * port) (by omega)
      rw [half] at same
      exact same.trans runs
    have down' : ((s.tick dt).fallen (2 * port)).linkUp (2 * port + 1) = false :=
      (State.fallen_linkUp (by omega) (by omega) (by omega)).trans down
    refine ⟨(s.tick dt).fallen (2 * port), ?_, State.hostDown_linkState _ _⟩
    rw [exec_clockLoss_port alive cycle hp, State.unclocked_of_up up' runs', State.unclocked_of_down down']
  case takeOver =>
    obtain ⟨cls, run⟩ := exec_pairFault (dt := dt) alive cycle hc
    have can' : (s.tick dt).canTakeOver = true := can
    rw [State.pairFault_takeOver can'] at run
    have told := (s.tick dt).takesOver.logErr_told (ErrInfo.mk' 1 6 0x40 0 cls 4)
    obtain ⟨-, -, -, -, -, -, -, -, hpkts, -⟩ := told.frame
    obtain ⟨hqp, -⟩ := told.frame_host
    have calm := told.undisturbed
    exact ⟨_, run, congrArg Images.takeover calm.img, congrArg Images.standby calm.img, calm.unavail, hpkts, hqp⟩
  case reset =>
    obtain ⟨cls, run⟩ := exec_pairFault (dt := dt) alive cycle hc
    have cannot' : (s.tick dt).canTakeOver = false := cannot
    rw [State.pairFault_fatal cannot'] at run
    obtain ⟨-, hrails, hreason⟩ := (s.tick dt).fatal_effect (ErrInfo.mk' 3 6 0x40 0 cls 7)
    exact ⟨_, run, hrails, hreason⟩
  case standby =>
    obtain ⟨cls, run⟩ := exec_pairFault (dt := dt) alive cycle hc
    rw [State.pairFault_standby] at run
    have told := (s.tick dt).standbyOut.logErr_told (ErrInfo.mk' 1 6 0x40 1 cls 4)
    obtain ⟨-, -, -, -, -, -, -, -, hpkts, -⟩ := told.frame
    have calm := told.undisturbed
    exact ⟨_, run, congrArg Images.standby calm.img, congrArg Images.mismatches calm.img, hpkts⟩
  case back =>
    refine ⟨_, exec_holdOutRetest alive held due true, ?_⟩
    have held' : (s.tick dt).flt.held = [(place, some a)] := held
    rw [State.retested, if_pos rfl, held', if_neg (by simp [other])]
    exact ⟨by simp, rfl⟩
  case again =>
    refine ⟨_, exec_holdOutRetest alive held due false, ?_⟩
    have held' : (s.tick dt).flt.held = [(place, some a)] := held
    rw [State.retested, if_neg (by decide), held']
    simp

end Sys2Proof.Machine
end

section
/-!
PROOFS. What hosts can reach does not depend on activity: functions, links and routing after `stir` are those of before.
-/

namespace Sys2Proof.Machine

/-- The host side is the same, and every object of hosts and functions. -/
structure SameHosts (s t : State) : Prop where
  hs : t.hs = s.hs
  host : ∀ o e, 0x300000 ≤ o → t.cfg o e = s.cfg o e
  clock : t.clock = s.clock
  rails : t.pwr.rails = s.pwr.rails
  core : t.core = s.core
  mode : t.mode.mode = s.mode.mode

section
variable {s t : State}

theorem SameHosts.linkState (h : SameHosts s t) (l : Nat) : t.linkState l = s.linkState l :=
  h.host _ _ (by unfold Obj.HST_LINK_STATE; omega)

theorem SameHosts.linkUp (h : SameHosts s t) (l : Nat) : t.linkUp l = s.linkUp l := by
  rw [State.linkUp, h.linkState, State.linkUp]

theorem SameHosts.frozen (h : SameHosts s t) (p : Nat) : t.frozen p = s.frozen p := by
  rw [State.frozen, h.host _ _ (by unfold Obj.HST_PORT_FROZEN; omega), State.frozen]

theorem SameHosts.fn (h : SameHosts s t) (f : Nat) : t.fn f = s.fn f := by rw [State.fn, h.hs, State.fn]

theorem SameHosts.pfc (h : SameHosts s t) (p n : Nat) : t.pfc p n = s.pfc p n :=
  h.host _ _ (by unfold Obj.FN_PF_CONFIG; omega)

theorem SameHosts.fnCfg (h : SameHosts s t) {o : Nat} (ho : 0x300000 ≤ o) (f : Nat) : t.fnCfg o f = s.fnCfg o f :=
  h.host _ _ (by omega)

theorem SameHosts.pfc_eq (h : SameHosts s t) : t.pfc = s.pfc := funext fun p => funext (h.pfc p)

theorem SameHosts.vfBase (h : SameHosts s t) (p n : Nat) : t.vfBase p n = s.vfBase p n := by
  rw [State.vfBase, h.pfc_eq, ← State.vfBase]

theorem SameHosts.vfOwner (h : SameHosts s t) (p v : Nat) : t.vfOwner p v = s.vfOwner p v := by
  have base : t.vfBase = s.vfBase := funext fun p => funext (h.vfBase p)
  rw [State.vfOwner, base, h.pfc_eq, ← State.vfOwner]

theorem SameHosts.pfOf (h : SameHosts s t) (f : Nat) : t.pfOf f = s.pfOf f := by simp only [State.pfOf, h.vfOwner]

theorem SameHosts.linkOf (h : SameHosts s t) (f : Nat) : t.linkOf f = s.linkOf f := by
  have bifurcate : t.cfg (Obj.HST_BIFURCATE + fidPort f) = s.cfg (Obj.HST_BIFURCATE + fidPort f) :=
    h.host _ _ (by unfold Obj.HST_BIFURCATE; omega)
  simp only [State.linkOf, h.pfOf, bifurcate]

theorem SameHosts.fnExists (h : SameHosts s t) (f : Nat) : t.fnExists f = s.fnExists f := by
  have enable : t.fnCfg Obj.FN_ENABLE f = s.fnCfg Obj.FN_ENABLE f := h.fnCfg (by decide) f
  simp only [State.fnExists, enable, h.vfOwner, h.fn, h.pfc]

theorem SameHosts.cfgReady (h : SameHosts s t) (p : Nat) : t.cfgReady p = s.cfgReady p := by
  simp only [State.cfgReady, h.rails, h.hs, h.clock]

theorem SameHosts.pfFn (h : SameHosts s t) : t.pfFn = s.pfFn := by
  funext p n
  rw [State.pfFn, h.host _ _ (by unfold Obj.HST_BIFURCATE; omega), ← State.pfFn]

theorem SameHosts.firstVf (h : SameHosts s t) : t.firstVf = s.firstVf := by
  have base : t.vfBase = s.vfBase := funext fun p => funext (h.vfBase p)
  have link : t.vfBaseLink = s.vfBaseLink := by
    funext p n
    rw [State.vfBaseLink, base, h.host _ _ (by unfold Obj.HST_BIFURCATE; omega), ← State.vfBaseLink]
  funext p n
  rw [State.firstVf, link, h.pfFn, ← State.firstVf]

theorem SameHosts.routeId (h : SameHosts s t) (f : Nat) : t.routeId f = s.routeId f := by
  simp only [State.routeId, h.vfOwner, h.pfFn, h.firstVf]

theorem SameHosts.reached (h : SameHosts s t) (f : Nat) : t.reached f = s.reached f := by
  rw [State.reached, h.routeId, h.linkOf, h.hs, ← State.reached]

theorem SameHosts.cfgReach (h : SameHosts s t) (f : Nat) : t.cfgReach f = s.cfgReach f := by
  simp only [State.cfgReach, h.linkUp, h.linkOf, h.cfgReady, h.fnExists, h.reached, h.fn]

end

theorem State.stir_sameHosts (s : State) : SameHosts s s.stir := by
  obtain ⟨-, hclock, -, -, -, -, -, -, -, -, -, -, -, hmode, -, -, -, hhs, hcore, -⟩ := s.stir_frame
  refine ⟨hhs, fun o e ho => ?_, hclock, ?_, hcore, hmode⟩
  · unfold State.stir
    extract_lets _ t
    split
    · unfold State.setStep
      rw [State.cfg_bump]
      refine State.cfg_setCfg_ne _ _ _ _ _ _ ?_
      unfold okey Obj.MODE_POWER_STEP
      omega
    · rfl
  · unfold State.stir
    extract_lets _ t
    split <;> rfl

theorem State.after_sameHosts (s : State) (dt : Nat) : SameHosts (s.tick dt) (s.after dt) := (s.tick dt).stir_sameHosts

end Sys2Proof.Machine
end

section
/-!
PROOFS. Controls and resets of a function (R316, R317, R323, R343 to R348).
-/

namespace Sys2Proof.Machine

/-! ### A squash leaves no write of its function waiting -/

/-- The writes that wait in every function stay. -/
def KeepsWrites (s t : State) : Prop := ∀ f, (t.fn f).wq = (s.fn f).wq

theorem KeepsWrites.trans {s t u : State} (h : KeepsWrites s t) (g : KeepsWrites t u) : KeepsWrites s u :=
  fun f => (g f).trans (h f)

theorem KeepsWrites.of_fn {s t : State} (h : t.hs.fn = s.hs.fn) : KeepsWrites s t := fun f => by
  rw [State.fn, h, ← State.fn]

theorem Told.keepsWrites {s t : State} (h : Told s t) : KeepsWrites s t := h.wq

section
variable (s : State)

theorem State.setStage_keepsWrites (k : Nat × Nat) (st : Staging) : KeepsWrites s (s.setStage k st) := by
  unfold State.setStage
  split <;> exact .of_fn rfl

theorem State.discardStage_keepsWrites (k : Nat × Nat) (reason : Nat) : KeepsWrites s (s.discardStage k reason) := by
  unfold State.discardStage
  extract_lets st s1
  have h1 : KeepsWrites s s1 := (s.setStage_keepsWrites k Staging.none_).trans (.of_fn rfl)
  repeat' split
  · exact .of_fn rfl
  · exact h1
  · exact h1.trans (s1.raise_told _ _ _ _ _).keepsWrites

theorem State.dropChans_keepsWrites (k : Nat × Nat) (p : Chan → Bool) : KeepsWrites s (s.dropChans k p) := by
  obtain ⟨_, _, _, _, h⟩ := s.dropChans_part k p
  rw [h]
  exact .of_fn rfl

theorem State.grantSem_keepsWrites (k : Nat × Nat) : KeepsWrites s (s.grantSem k) := by
  have granted : KeepsWrites s ((s.setStage k Staging.none_).bump Obj.MGMT_SEM_GRANTS) :=
    (s.setStage_keepsWrites k _).trans (.of_fn rfl)
  exact granted.trans (State.raise_told _ _ _ _ _ _).keepsWrites

theorem State.grantNext_keepsWrites : KeepsWrites s s.grantNext := by
  unfold State.grantNext
  split
  · exact State.grantSem_keepsWrites _ _
  · exact .of_fn rfl

theorem State.freeSem_keepsWrites : KeepsWrites s (s.freeSem false) := by
  unfold State.freeSem
  split
  · exact .of_fn rfl
  · extract_lets s1 s2 _ s3 s4
    have h1 : KeepsWrites s s1 := s.discardStage_keepsWrites _ _
    have h2 : KeepsWrites s1 s2 := s1.dropChans_keepsWrites _ _
    exact (h1.trans h2).trans (State.grantNext_keepsWrites s3)

theorem State.closeSess_keepsWrites (k : Nat × Nat) : KeepsWrites s (s.closeSess k) := by
  unfold State.closeSess
  extract_lets _ s1 s2 s3
  have h2 : KeepsWrites s1 s2 := by
    unfold s2
    split
    · exact s1.freeSem_keepsWrites
    · exact .of_fn rfl
  have h3 : KeepsWrites s2 s3 := (s2.dropChans_keepsWrites k _).trans (.of_fn rfl)
  exact h2.trans h3

theorem State.mailboxReset_keepsWrites : KeepsWrites s s.mailboxReset := by
  unfold State.mailboxReset
  split
  · exact .of_fn rfl
  · exact s.closeSess_keepsWrites (1, 1)

theorem State.discardRx_fn (test : Pkt → Bool) (ctr : Pkt → Nat) : (s.discardRx test ctr).hs = s.hs :=
  List.foldlRecOn (motive := fun a : State => a.hs = s.hs) _ _ rfl fun _ h _ _ => h

theorem State.setResetState_keepsWrites (f v : Nat) : KeepsWrites s (s.setResetState f v) := by
  intro g
  change ((s.setFn f { s.fn f with reset := v }).fn g).wq = _
  by_cases h : g = f
  · rw [h, State.fn_setFn_self]
  · rw [State.fn_setFn_ne _ _ _ _ h]

theorem State.squash_wq (f : Nat) : ((s.squash f).fn f).wq = [] := by
  unfold State.squash
  extract_lets s0 _ s0' _ s1 _ s2 s3 s4 s5
  have h1 : (s1.fn f).wq = [] := by
    unfold s1
    rw [State.fn_setFn_self]
  have h34 : s4.hs = s3.hs := s3.discardRx_fn _ _
  have h4 : KeepsWrites s1 s4 := .of_fn ((congrArg HostSide.fn h34).trans rfl)
  have h5 : KeepsWrites s4 s5 := by
    unfold s5
    split
    · exact s4.mailboxReset_keepsWrites
    · exact .of_fn rfl
  exact (((h4.trans h5).trans (s5.setResetState_keepsWrites f _)) f).trans h1

theorem State.hardSquash_effect (f : Nat) : (((s.hardSquash f).fn f).reset = 1 ∨ ((s.hardSquash f).fn f).reset = 3) ∧
    ((s.hardSquash f).fn f).bme = false ∧ ((s.hardSquash f).fn f).wq = [] := by
  unfold State.hardSquash
  extract_lets t
  rw [State.fn_setFn_self]
  exact ⟨s.squash_reset f, rfl, s.squash_wq f⟩

/-! ### Requests and the initial state -/

/-- What BME_CLEAR does. -/
def State.masterOff (f : Nat) : State := (s.setFn f { s.fn f with bme := false }).killReqs fun r => r.fid == f

theorem State.masterOff_effect (f : Nat) : ((s.masterOff f).fn f).bme = false ∧
    (∀ r ∈ (s.masterOff f).hs.reqs, r.fid = f → r.dead = true) ∧ (s.masterOff f).out = s.out := by
  refine ⟨?_, fun r hr hf => ?_, rfl⟩
  · change ((s.setFn f { s.fn f with bme := false }).fn f).bme = false
    rw [State.fn_setFn_self]
  · obtain ⟨x, -, rfl⟩ := List.mem_map.mp hr
    by_cases hx : (x.fid == f) = true
    · rw [if_pos hx]
    · rw [if_neg hx] at hf
      exact absurd (beq_iff_eq.mpr hf) hx

/-- What BME_SET does before what waited goes on. -/
def State.masterOn (f : Nat) : State := (s.setFn f { s.fn f with bme := true }).restartWorks fun g => g == f

theorem State.masterOn_effect (f : Nat) : ((s.masterOn f).fn f).bme = true ∧ (s.masterOn f).pkts = s.pkts ∧
    (s.masterOn f).hs.reqs = s.hs.reqs := by
  refine ⟨?_, rfl, rfl⟩
  change ((s.setFn f { s.fn f with bme := true }).fn f).bme = true
  rw [State.fn_setFn_self]

/-- A function's power state. -/
def State.setD3 (f : Nat) (d3 : Bool) : State :=
  s.setFn f { s.fn f with d3 := d3, pmeStatus := (s.fn f).pmeStatus && d3 }

theorem State.setD3_effect (f : Nat) (d3 : Bool) : ((s.setD3 f d3).fn f).d3 = d3 ∧
    ((s.setD3 f d3).fn f).pmeStatus = ((s.fn f).pmeStatus && d3) ∧ (s.setD3 f d3).hs.reqs = s.hs.reqs := by
  unfold State.setD3
  rw [State.fn_setFn_self]
  exact ⟨rfl, rfl, rfl⟩

/-- VF Enable and NumVFs of a PF. -/
def State.setVfs (f : Nat) (en : Bool) (n : Nat) : State := s.setFn f { s.fn f with vfEn := en, numVfs := n }

/-- VFs of a PF that cease to exist. -/
def State.vfsGone (t : State) (f : Nat) : List Nat :=
  ((s.hs.fn.filter fun x => !coreFid x.1 && fidVf x.1 && fidPort x.1 == fidPort f && s.fnExists x.1).map fun x => x.1).filter
    fun g => !t.fnExists g

theorem State.mem_vfsGone {s t : State} {f g : Nat} (h : g ∈ s.vfsGone t f) :
    fidVf g = true ∧ s.fnExists g = true ∧ t.fnExists g = false := by
  obtain ⟨hg, gone⟩ := List.mem_filter.mp h
  obtain ⟨x, hx, rfl⟩ := List.mem_map.mp hg
  have := (List.mem_filter.mp hx).2
  simp only [Bool.and_eq_true] at this
  obtain ⟨⟨⟨-, vf⟩, -⟩, exists_⟩ := this
  exact ⟨vf, exists_, by simpa using gone⟩

theorem State.nvmeClear_hs (f : Nat) : (s.nvmeClear f).hs = s.hs := by
  unfold State.nvmeClear
  extract_lets keep _ s1 x
  split <;> rfl

theorem State.initFn_effect (f : Nat) : (s.initFn f).cfg (Obj.FN_RESET_STATE + fnSub f) (fnIdx f) = 0 ∧
    (∀ q ∈ (s.initFn f).hs.qp, q.1 / 65536 ≠ f) ∧ ∀ x ∈ (s.initFn f).hs.xl, x.fid ≠ f := by
  unfold State.initFn
  extract_lets x _ s1 s2 _ s3 s4
  have h2 : s2.hs = s1.hs := s1.nvmeClear_hs f
  have h4 : s4.hs.qp = s1.hs.qp ∧ s4.hs.xl = s1.hs.xl := by
    have h3 : s3.hs = s1.hs := h2
    unfold s4
    split
    · exact ⟨(congrArg HostSide.qp h3 : s3.hs.qp = _), (congrArg HostSide.xl h3 : s3.hs.xl = _)⟩
    · exact ⟨congrArg HostSide.qp h3, congrArg HostSide.xl h3⟩
  refine ⟨State.cfg_setCfg_self _ _ _ _, fun q hq => ?_, fun y hy => ?_⟩
  · have hq' : q ∈ s1.hs.qp := h4.1 ▸ hq
    simpa using (List.mem_filter.mp hq').2
  · have hy' : y ∈ s1.hs.xl := h4.2 ▸ hy
    simpa using (List.mem_filter.mp hy').2

end

/-! ### The link of a function stays while its writes and requests go out -/

/-- The objects that no squash sets keep their values. -/
def SameObjects (s t : State) : Prop := ∀ o e, setBySquash o = false → e < 2 ^ 32 → t.cfg o e = s.cfg o e

theorem SameObjects.refl (s : State) : SameObjects s s := fun _ _ _ _ => rfl

theorem SameObjects.trans {s t u : State} (h : SameObjects s t) (g : SameObjects t u) : SameObjects s u :=
  fun o e ho he => (g o e ho he).trans (h o e ho he)

theorem SameObjects.of_val {s t : State} (h : t.dict.val = s.dict.val) : SameObjects s t := fun o e _ _ => by
  rw [State.cfg, h, ← State.cfg]

theorem HostOnly.sameObjects {s t : State} (h : HostOnly s t) : SameObjects s t :=
  fun o e ho => h.cfg o e (latchedAside_of_kept ho)

theorem Squashed.sameObjects {s t : State} (h : Squashed s t) : SameObjects s t := h.cfg

/-- Which objects say where a function's link is: the bifurcation and the configurations of PFs (R287, R323). -/
theorem keptBySquash {o : Nat} (h : o = Obj.HST_BIFURCATE ∨ o = Obj.HST_BIFURCATE + 1 ∨ o = Obj.FN_PF_CONFIG ∨
    o = Obj.FN_PF_CONFIG + 1) : setBySquash o = false := by
  rcases h with rfl | rfl | rfl | rfl <;> rfl

theorem fidPort_zero_or_one (f : Nat) : fidPort f = 0 ∨ fidPort f = 1 := by
  have := fidPort_lt_two f
  omega

section
variable {s t : State}

theorem SameObjects.pfc (h : SameObjects s t) (f : Nat) {n : Nat} (hn : n < 2 ^ 32) :
    t.pfc (fidPort f) n = s.pfc (fidPort f) n := by
  refine h _ _ (keptBySquash ?_) hn
  rcases fidPort_zero_or_one f with p | p <;> simp [p]

theorem foldl_congr_mem {α β : Type} {f g : α → β → α} : ∀ {l : List β} (a : α), (∀ a, ∀ x ∈ l, f a x = g a x) →
    l.foldl f a = l.foldl g a
  | [], _, _ => rfl
  | x :: l, a, h => by
    rw [List.foldl_cons, List.foldl_cons, h a x (by simp), foldl_congr_mem _ fun b y hy => h b y (by simp [hy])]

theorem SameObjects.vfBase (h : SameObjects s t) (f : Nat) {n : Nat} (hn : n < 8) :
    t.vfBase (fidPort f) n = s.vfBase (fidPort f) n := by
  refine foldl_congr_mem _ fun a m hm => ?_
  dsimp only
  rw [h.pfc f (Nat.lt_trans (List.mem_range.mp hm) (Nat.lt_trans hn (by decide)))]

theorem findSome?_congr {α β : Type} {f g : α → Option β} : ∀ {l : List α}, (∀ x ∈ l, f x = g x) →
    l.findSome? f = l.findSome? g
  | [], _ => rfl
  | x :: l, h => by
    rw [List.findSome?_cons, List.findSome?_cons, h x (by simp), findSome?_congr fun y hy => h y (by simp [hy])]

theorem SameObjects.vfOwner (h : SameObjects s t) (f v : Nat) : t.vfOwner (fidPort f) v = s.vfOwner (fidPort f) v := by
  refine findSome?_congr fun n hn => ?_
  have hn := List.mem_range.mp hn
  rw [h.pfc f (Nat.lt_trans hn (by decide)), h.vfBase f hn]

theorem SameObjects.linkOf (h : SameObjects s t) (f : Nat) : t.linkOf f = s.linkOf f := by
  have bifurcate : t.cfg (Obj.HST_BIFURCATE + fidPort f) = s.cfg (Obj.HST_BIFURCATE + fidPort f) :=
    h _ _ (keptBySquash (by rcases fidPort_zero_or_one f with p | p <;> simp [p])) (by omega)
  have pf : t.pfOf f = s.pfOf f := by rw [State.pfOf, h.vfOwner, ← State.pfOf]
  rw [State.linkOf, pf, bifurcate, ← State.linkOf]

end

section
variable (s : State)

theorem flushLoop_hostOnly (f : Nat) (ws : List HWrite) : HostOnly s (flushLoop f ws s) := by
  induction ws generalizing s with
  | nil => exact .of_part rfl rfl
  | cons w ws ih =>
    have tried := s.tryWrite_hostOnly f w
    unfold flushLoop
    split
    next s1 heq =>
      rw [heq] at tried
      exact tried.trans (ih s1)
    next s1 log heq =>
      rw [heq] at tried
      exact tried.trans (s1.holdWrites_hostOnly f _ log)

theorem State.flushFn_hostOnly (f : Nat) : HostOnly s (s.flushFn f) := by
  unfold State.flushFn
  split
  · exact .refl s
  · exact (s.setFn_hostOnly f _).trans (flushLoop_hostOnly _ f _)

theorem State.flushTargets_hostOnly (f : Nat) : HostOnly s (s.flushTargets f) := .foldl _ _ State.flushFn_hostOnly

theorem State.resumeFn_hostOnly (f : Nat) : HostOnly s (s.resumeFn f) := by
  unfold State.resumeFn
  extract_lets s1 x s2
  have h2 : HostOnly s s2 := (s.flushFn_hostOnly f).trans (s1.setFn_hostOnly f _)
  have sent := HostOnly.foldl x.pend s2 fun a v => a.hostWrite_hostOnly f (.int v.1 v.2)
  exact (h2.trans sent).trans (State.flushTargets_hostOnly _ f)

theorem State.flushPba_hostOnly (f : Nat) : HostOnly s (s.flushPba f) := by
  unfold State.flushPba
  extract_lets x go s1
  exact (s.setFn_hostOnly f _).trans (.foldl go s1 fun a v => a.deliverInt_hostOnly f v.1 v.2)

theorem State.masterOff_same (f : Nat) : SameObjects s (s.masterOff f) := .of_val rfl
theorem State.masterOn_same (f : Nat) : SameObjects s (s.masterOn f) := .of_val rfl
theorem State.setD3_same (f : Nat) (d3 : Bool) : SameObjects s (s.setD3 f d3) := .of_val rfl
theorem State.setVfs_same (f : Nat) (en : Bool) (n : Nat) : SameObjects s (s.setVfs f en n) := .of_val rfl
theorem State.unmask_same (f : Nat) (x : Fn) : SameObjects s ((s.setFn f x).flushPba f) :=
  (s.setFn_hostOnly f x).sameObjects.trans (State.flushPba_hostOnly _ f).sameObjects

theorem State.issueWork_sameObjects {t : State} {w : Work} (h : s.issueWork w = some t) : SameObjects s t := by
  unfold State.issueWork at h
  split at h
  · cases h
  next i rest =>
    extract_lets pc l pasid x translated at h
    split at h
    · split at h
      · cases h
      · exact (State.askXl_hostOnly h).sameObjects
    · split at h
      · cases h
      · split at h
        · cases h
        · cases h
          exact SameObjects.trans (.of_val rfl) (State.sendReq_hostOnly _ _ _ (s.linkOf_lt_four _)).sameObjects

theorem State.issueFn_sameObjects {t : State} {f : Nat} (h : s.issueFn f = some t) : SameObjects s t := by
  unfold State.issueFn at h
  split at h
  · cases h
  · obtain ⟨w, -, hw⟩ := List.exists_of_findSome?_eq_some h
    exact s.issueWork_sameObjects hw

theorem State.issueTurn_sameObjects {t : State} {l : Nat} (h : s.issueTurn l = some t) : SameObjects s t := by
  unfold State.issueTurn at h
  obtain ⟨f, -, hf⟩ := List.exists_of_findSome?_eq_some h
  obtain ⟨s1, issued, rfl⟩ := Option.map_eq_some_iff.mp hf
  exact (s.issueFn_sameObjects issued).trans (.of_val rfl)

theorem pumpLoop_sameObjects (l n : Nat) : SameObjects s (pumpLoop l n s) := by
  induction n generalizing s with
  | zero => exact .refl s
  | succ n ih =>
    unfold pumpLoop
    split
    next s1 turn => exact (s.issueTurn_sameObjects turn).trans (ih s1)
    · exact .refl s

theorem State.pump_sameObjects (l : Nat) : SameObjects s (s.pump l) := pumpLoop_sameObjects s l _

theorem State.resumePump_sameObjects (f l : Nat) : SameObjects s ((s.resumeFn f).pump l) :=
  (s.resumeFn_hostOnly f).sameObjects.trans (State.pump_sameObjects _ l)

end

/-! ### The commands -/

section
variable {s : State} {dt f : Nat} {c : Instr} {cond : State → Bool} {act : State → State}

theorem State.cfgAsk_takes {t : State} {tlp : HostTlp} (reach : t.cfgReach f = .takes) : t.cfgAsk f tlp act = act t := by
  rw [State.cfgAsk, reach]

theorem State.cfgAsk_retry {t : State} {tlp : HostTlp} (reach : t.cfgReach f = .retry) :
    t.cfgAsk f tlp act = t.reply (t.linkOf f) 2 { tlp with kind := 0 } [] := by
  rw [State.cfgAsk, reach]

theorem exec_cfg (hc : exec c s = cfgCmd dt f s cond act) (reach : (s.after dt).cfgReach f = .takes)
    (h : cond (s.tick dt) = true) (same : SameObjects (s.after dt) (act (s.after dt))) : exec c s =
      .next ((act (s.after dt)).reply ((act (s.after dt)).linkOf f) 0 ⟨0, false, false⟩ []) := by
  rw [same.linkOf f]
  refine hc.trans ?_
  unfold cfgCmd
  exact (work_then (by rw [h, Bool.or_true])).trans (congrArg Host.Outcome.next (State.cfgAsk_takes reach))

theorem exec_cfg_retry (hc : exec c s = cfgCmd dt f s cond act) (reach : (s.after dt).cfgReach f = .retry) :
    exec c s = .next ((s.after dt).reply (s.linkOf f) 2 ⟨0, false, false⟩ []) := by
  have before : (s.tick dt).cfgReach f = .retry := ((s.after_sameHosts dt).cfgReach f).symm.trans reach
  have link : (s.after dt).linkOf f = s.linkOf f := (s.after_sameHosts dt).linkOf f
  rw [← link]
  refine hc.trans ?_
  unfold cfgCmd
  exact (work_then (by rw [before]; rfl)).trans (congrArg Host.Outcome.next (State.cfgAsk_retry reach))

theorem exec_bmeClear : exec (.bmeClear dt f) s = cfgCmd dt f s (fun t => (t.fn f).bme) fun t => t.masterOff f := rfl

theorem exec_bmeSet : exec (.bmeSet dt f) s = cfgCmd dt f s (fun t => !(t.fn f).bme) fun t =>
    ((t.masterOn f).resumeFn f).pump ((t.masterOn f).linkOf f) := rfl

theorem exec_flr : exec (.flr dt f) s = cfgCmd dt f s (fun _ => true) fun t => t.hardSquash f := rfl

theorem exec_d3Enter : exec (.dStateChange dt f true) s =
    cfgCmd dt f s (fun t => !fidVf f && (t.fn f).d3 != true) fun t => t.setD3 f true := rfl

theorem exec_d3Leave : exec (.dStateChange dt f false) s =
    cfgCmd dt f s (fun t => !fidVf f && (t.fn f).d3 != false) fun t =>
      ((t.setD3 f false).resumeFn f).pump ((t.setD3 f false).linkOf f) := rfl

theorem exec_msixUnmask_all : exec (.msixUnmask dt f none) s = cfgCmd dt f s (fun _ => true) fun t =>
    (t.setFn f { t.fn f with msixMask := false }).flushPba f := rfl

theorem exec_vfEnable (en : Bool) (n : Nat) : exec (.vfEnable dt f en n) s =
    cfgCmd dt f s (fun t => !fidVf f && n ≤ pfcTotalVfs (t.pfc (fidPort f) (fidNum f))) fun t =>
      (t.vfsGone (t.setVfs f en n) f).foldl State.hardSquash (t.setVfs f en n) := rfl

theorem exec_page (hc : exec c s = pageCmd dt f s act) (reach : (s.after dt).reach f = .takes) :
    exec c s = .next (act (s.after dt)) := by
  refine hc.trans ((work_then rfl).trans ?_)
  change Host.Outcome.next ((s.after dt).pageWrite f act) = _
  rw [State.pageWrite, reach]

theorem State.after_out : (s.after dt).out = s.out := by
  obtain ⟨-, -, -, -, -, -, -, -, -, -, -, -, -, -, -, -, -, -, -, -, -, -, -, -, -, hout⟩ := (s.tick dt).stir_frame
  exact hout

theorem State.after_fn (f : Nat) : (s.after dt).fn f = s.fn f := (s.after_sameHosts dt).fn f

theorem exec_drainLimit (alive : s.alive = true) (drains : (s.fn f).reset = 2)
    (due : (s.fn f).resetAt + s.cfg Obj.FN_DRAIN_LIMIT_MS * 1000000 ≤ s.clock + dt) : exec (.drainLimit dt f) s =
      .next (((s.tick dt).bumpN (Obj.FN_DRAIN_SQUASHED + fnSub f) ((s.tick dt).undone f)).squash f) := by
  have alive' : (s.tick dt).alive = true := alive
  have drains' : ((s.tick dt).fn f).reset = 2 := drains
  have due' : ((s.tick dt).fn f).resetAt + (s.tick dt).cfg Obj.FN_DRAIN_LIMIT_MS * 1000000 ≤ (s.tick dt).clock := due
  refine show execDrainLimit .. = .next _ from cmd_then ?_
  rw [alive', drains', decide_eq_true due']
  rfl

theorem exec_functionResetComplete (alive : s.alive = true) (there : coreFid f = false ∨ s.coreLost = false)
    (resets : (s.fn f).reset = 1 ∨ (s.fn f).reset = 3) : exec (.functionResetComplete dt f) s =
      .next (if s.tagsOut f then (s.after dt).setResetState f 3 else (s.after dt).initFn f) := by
  have alive' : (s.tick dt).alive = true := alive
  have resets' : ((s.tick dt).fn f).reset = 1 ∨ ((s.tick dt).fn f).reset = 3 := resets
  have lost : (coreFid f && (s.tick dt).coreLost) = false := by
    rcases there with h | h
    · rw [h]
      rfl
    · have h' : (s.tick dt).coreLost = false := h
      rw [h', Bool.and_false]
  have notDrains : (((s.tick dt).stir.fn f).reset == 2) = false := by
    have same : (s.tick dt).stir.fn f = s.fn f := s.after_fn f
    rw [same]
    rcases resets with h | h <;> rw [h] <;> rfl
  have tags : (s.tick dt).stir.tagsOut f = s.tagsOut f := by
    have same : (s.tick dt).stir.hs = s.hs := (s.after_sameHosts dt).hs
    rw [State.tagsOut, same, ← State.tagsOut]
  refine Eq.trans (show execFunctionResetComplete .. = .next _ from work_then ?_) ?_
  · rw [alive', lost]
    rcases resets' with h | h <;> rw [h] <;> rfl
  · simp only [notDrains, Bool.false_eq_true, if_false, tags]
    rfl

end

/-- Settles O44: configuration writes, entries and resets of a function. -/
theorem functionControlsTakeEffect : Obligations.FunctionControlsTakeEffect := by
  unfold Obligations.FunctionControlsTakeEffect
  refine ⟨fun dt f s => ⟨fun reach => ⟨fun on => ?bmeClear, fun off => ?bmeSet, ?flr, fun pf d0 => ?d3, fun pf d3 => ?d0, ?unmask,
      fun en n pf room => ?vfs⟩, fun reach c hc => ?retry, fun reach => ⟨fun v => ?vector, fun core => ⟨?self, fun v hv => ?other,
      fun e v he none_ => ?entry⟩⟩⟩,
    fun dt f s alive => ⟨fun drains due => ?limit, fun there resets => ⟨fun tags => ?waits, fun free => ?done_⟩⟩⟩
  case bmeClear =>
    obtain ⟨hbme, hdead, hout⟩ := (s.after dt).masterOff_effect f
    exact ⟨_, exec_cfg exec_bmeClear reach on (State.masterOff_same _ f), hbme, hdead, hout.trans State.after_out⟩
  case bmeSet =>
    obtain ⟨hbme, hpkts, hreqs⟩ := (s.after dt).masterOn_effect f
    have off' : ((s.tick dt).fn f).bme = false := off
    have run := exec_cfg exec_bmeSet reach (by rw [off']; rfl)
      ((State.masterOn_same _ f).trans (State.resumePump_sameObjects _ f _))
    exact ⟨(s.after dt).masterOn f, _, rfl, run, hbme, hpkts.trans (by simp), hreqs.trans (by simp)⟩
  case flr => exact ⟨_, exec_cfg exec_flr reach rfl (State.hardSquash_squashed _ f).sameObjects,
    (s.after dt).hardSquash_effect f⟩
  case d3 =>
    obtain ⟨hd3, hpme, hreqs⟩ := (s.after dt).setD3_effect f true
    have d0' : ((s.tick dt).fn f).d3 = false := d0
    have run := exec_cfg exec_d3Enter reach (by rw [pf, d0']; rfl) (State.setD3_same _ f true)
    exact ⟨_, run, hd3, hpme.trans (by rw [State.after_fn, Bool.and_true]), hreqs.trans (by simp)⟩
  case d0 =>
    obtain ⟨hd3, hpme, -⟩ := (s.after dt).setD3_effect f false
    have d3' : ((s.tick dt).fn f).d3 = true := d3
    have run := exec_cfg exec_d3Leave reach (by rw [pf, d3']; rfl)
      ((State.setD3_same _ f false).trans (State.resumePump_sameObjects _ f _))
    exact ⟨(s.after dt).setD3 f false, _, rfl, run, hd3, hpme.trans (Bool.and_false _)⟩
  case unmask =>
    have run := exec_cfg exec_msixUnmask_all reach rfl (State.unmask_same _ f _)
    refine ⟨(s.after dt).setFn f { (s.after dt).fn f with msixMask := false }, _, rfl, run, ?_, ?_⟩
    · rw [State.fn_setFn_self]
    · rw [State.fn_setFn_self, State.after_fn]
  case vfs =>
    have hu : ((s.after dt).setVfs f en n).fn f = { (s.after dt).fn f with vfEn := en, numVfs := n } := State.fn_setFn_self _ _ _
    have room' : n ≤ pfcTotalVfs ((s.tick dt).pfc (fidPort f) (fidNum f)) := room
    have run := exec_cfg (exec_vfEnable en n) reach (by rw [pf, decide_eq_true room']; rfl)
      ((State.setVfs_same _ f en n).trans (Squashed.foldl _ _ State.hardSquash_squashed).sameObjects)
    refine ⟨(s.after dt).setVfs f en n, _, (s.after dt).vfsGone ((s.after dt).setVfs f en n) f, rfl, run, by rw [hu],
      by rw [hu], fun g hg => ?_⟩
    obtain ⟨vf, was, gone⟩ := State.mem_vfsGone hg
    exact ⟨vf, ((s.after_sameHosts dt).fnExists g).symm.trans was, gone⟩
  case retry =>
    simp only [List.mem_cons, List.not_mem_nil, or_false] at hc
    rcases hc with rfl | rfl | rfl | rfl | rfl | rfl
    · exact exec_cfg_retry exec_bmeClear reach
    · exact exec_cfg_retry exec_bmeSet reach
    · exact exec_cfg_retry exec_flr reach
    · exact exec_cfg_retry exec_d3Enter reach
    · exact exec_cfg_retry exec_d3Leave reach
    · exact exec_cfg_retry exec_msixUnmask_all reach
  case vector =>
    refine ⟨_, exec_page (c := .msixUnmask dt f (some v)) rfl reach, ?_, ?_⟩
    · rw [State.fn_setFn_self, Fn.msixEntry, lookupD_assoc_self]
      exact bit_setFld_same _ _ false
    · rw [State.fn_setFn_self, State.after_fn]
  case self =>
    have run := exec_page (c := .fnSelfReset dt f 1) rfl reach
    rw [if_pos (by simp [core])] at run
    exact ⟨_, run, (s.after dt).squash_reset f, (s.after dt).squash_wq f⟩
  case other =>
    have run := exec_page (c := .fnSelfReset dt f v) rfl reach
    rw [if_neg (by simp [hv])] at run
    exact run
  case entry =>
    have he' : e < (s.after dt).fnCfg Obj.FN_VECTORS f := by
      rw [(s.after_sameHosts dt).fnCfg (by decide)]
      exact he
    have run := exec_page (c := .coreIntEntryWrite dt f e v) rfl reach
    rw [if_pos (by simp [core, he'])] at run
    have pend : ((s.after dt).fn f).pend = [] := by
      rw [State.after_fn]
      exact none_
    rw [State.writeCoreInt, pend] at run
    refine ⟨_, run, ?_, ?_⟩
    · rw [if_neg (by simp), State.fn_setFn_self]
      exact lookup?_assoc_self _ _ _
    · exact (s.after_sameHosts dt).core
  case limit =>
    exact ⟨_, exec_drainLimit alive drains due, State.squash_reset _ f⟩
  case waits =>
    refine ⟨(s.after dt).setResetState f 3, ?_, ?_, ?_⟩
    · rw [exec_functionResetComplete alive there resets, if_pos tags]
    · rw [State.fn_setResetState]
    · change (s.after dt).hs.qp = _
      simp
  case done_ =>
    refine ⟨(s.after dt).initFn f, ?_, (s.after dt).initFn_effect f⟩
    rw [exec_functionResetComplete alive there resets, if_neg (by simp [free])]

end Sys2Proof.Machine
end

section
/-!
PROOFS. Queue pairs and doorbells (R330, R331, R333, R347, R377).
-/

namespace Sys2Proof.Machine

theorem SameHosts.qpCount {s t : State} (h : SameHosts s t) (f : Nat) : t.qpCount f = s.qpCount f := by
  rw [State.qpCount, h.mode, h.fnCfg (by decide), ← State.qpCount]

theorem SameHosts.persona {s t : State} (h : SameHosts s t) (f : Nat) : t.persona f = s.persona f := by
  rw [State.persona, h.pfOf, h.pfc, h.pfc, ← State.persona]

theorem SameHosts.qp? {s t : State} (h : SameHosts s t) (f q : Nat) : t.qp? f q = s.qp? f q := by
  rw [State.qp?, h.hs, ← State.qp?]

section
variable (s : State) (dt : Nat)

theorem State.after_qpCount (f : Nat) : (s.after dt).qpCount f = s.qpCount f := (s.after_sameHosts dt).qpCount f
theorem State.after_persona (f : Nat) : (s.after dt).persona f = s.persona f := (s.after_sameHosts dt).persona f
theorem State.after_vectors (f : Nat) : (s.after dt).fnCfg Obj.FN_VECTORS f = s.fnCfg Obj.FN_VECTORS f :=
  (s.after_sameHosts dt).fnCfg (by decide) f
theorem State.after_mode : (s.after dt).mode.mode = s.mode.mode := (s.after_sameHosts dt).mode

end

/-! ### The queue pair command register (R330, R331) -/

section
variable {s : State} {f : Nat}

/-- The command register answers, and no pair changes. -/
def State.qpcAnswer (s : State) (f status : Nat) : State := s.setFn f { s.fn f with qpcStatus := status }

theorem State.qpcAnswer_effect (s : State) (f status : Nat) : ((s.qpcAnswer f status).fn f).qpcStatus = status ∧
    (s.qpcAnswer f status).hs.qp = s.hs.qp := by
  unfold State.qpcAnswer
  rw [State.fn_setFn_self]
  exact ⟨rfl, rfl⟩

theorem State.qpcRun_busy {code : Nat} (busy : (s.fn f).qpcStatus = 5) :
    s.qpcRun f code = s.bump (Obj.FN_CMD_OVERLAP + fnSub f) := by
  unfold State.qpcRun
  exact if_pos (by simp [busy])

theorem State.qpcRun_create (free : (s.fn f).qpcStatus ≠ 5) {st : Nat}
    (hst : s.createStatus f (s.fn f).qpcSel (s.fn f).qpcCtrl (s.fn f).qpcSq (s.fn f).qpcCq (s.fn f).qpcHead
      (s.fn f).qpcAux = st) : s.qpcRun f 1 = if st = 0 then
      ((s.qpcAnswer f 0).setQp f (s.fn f).qpcSel (Qp.fresh (s.fn f).qpcCtrl (s.fn f).qpcSq (s.fn f).qpcCq (s.fn f).qpcHead
        (s.fn f).qpcAux)).flushTargets f else s.qpcAnswer f st := by
  unfold State.qpcRun
  rw [if_neg (by simp [free])]
  simp only [hst, beq_iff_eq]
  split
  next h => rw [h, State.qpcAnswer]
  · rfl

theorem State.qpcRun_modify {x : Qp} (free : (s.fn f).qpcStatus ≠ 5) (hx : s.qp? f (s.fn f).qpcSel = some x)
    (ctrl : modifiable (s.fn f).qpcCtrl = modifiable x.ctrl) (sq : (s.fn f).qpcSq = x.sqBase) (cq : (s.fn f).qpcCq = x.cqBase)
    (head : (s.fn f).qpcHead = x.headAddr) (aux : (s.fn f).qpcAux = x.aux)
    (vec : fld (s.fn f).qpcCtrl 16 12 < s.fnCfg Obj.FN_VECTORS f) :
    s.qpcRun f 2 = (s.qpcAnswer f 0).setQp f (s.fn f).qpcSel { x with ctrl := (s.fn f).qpcCtrl } := by
  unfold State.qpcRun
  rw [if_neg (by simp [free])]
  simp only [hx]
  rw [if_pos (by simp [ctrl, sq, cq, head, aux, vec])]
  rfl

theorem State.qpcRun_modify_other {x : Qp} (free : (s.fn f).qpcStatus ≠ 5) (hx : s.qp? f (s.fn f).qpcSel = some x)
    (differs : (s.fn f).qpcSq ≠ x.sqBase ∨ (s.fn f).qpcCq ≠ x.cqBase ∨ (s.fn f).qpcHead ≠ x.headAddr ∨ (s.fn f).qpcAux ≠ x.aux) :
    s.qpcRun f 2 = s.qpcAnswer f 2 := by
  unfold State.qpcRun
  rw [if_neg (by simp [free])]
  simp only [hx]
  rw [if_neg]
  · rfl
  · simp only [Bool.and_eq_true, beq_iff_eq]
    omega

theorem State.qpcRun_modify_none (free : (s.fn f).qpcStatus ≠ 5) (hx : s.qp? f (s.fn f).qpcSel = none) :
    s.qpcRun f 2 = s.qpcAnswer f 2 := by
  unfold State.qpcRun
  rw [if_neg (by simp [free])]
  simp only [hx]
  rfl

/-- What a query shows of a pair. -/
def Fn.shows (x : Fn) (y : Qp) : Fn :=
  { x with
    qpcStatus := 0, qpcCtrl := y.ctrl, qpcSq := y.sqBase, qpcCq := y.cqBase, qpcHead := y.headAddr, qpcAux := y.aux,
    qpcSqIndex := y.prod + y.cons * 2 ^ 32, qpcCqIndex := y.cq + y.ccons * 2 ^ 32 }

theorem State.qpcRun_query {x : Qp} (free : (s.fn f).qpcStatus ≠ 5) (hx : s.qp? f (s.fn f).qpcSel = some x) :
    s.qpcRun f 3 = s.setFn f ((s.fn f).shows x) := by
  unfold State.qpcRun
  rw [if_neg (by simp [free])]
  simp only [hx]
  rfl

theorem State.qpcRun_query_none (free : (s.fn f).qpcStatus ≠ 5) (hx : s.qp? f (s.fn f).qpcSel = none) :
    s.qpcRun f 3 = s.qpcAnswer f 2 := by
  unfold State.qpcRun
  rw [if_neg (by simp [free])]
  simp only [hx]
  rfl

end

/-! ### Doorbells (R333, R377) -/

/-- A doorbell that the function takes. -/
def State.rung (s : State) (f q v : Nat) (cq : Bool) : State :=
  if s.qpCount f ≤ q then s.bumpFn Obj.HST_DOORBELL_BAD f
  else if s.persona f == 3 then s.nvDoorbell f q v cq
  else if cq then s.cqDoorbell f q v else s.sqDoorbell f q v

theorem exec_doorbell {s : State} {dt f q v : Nat} (reach : (s.after dt).reach f = .takes) :
    exec (.submissionDoorbell dt f q v) s = .next ((s.after dt).rung f q v false) ∧
    exec (.completionDoorbell dt f q v) s = .next ((s.after dt).rung f q v true) :=
  ⟨exec_page (act := fun t => t.rung f q v false) rfl reach, exec_page (act := fun t => t.rung f q v true) rfl reach⟩

section
variable {s : State} {f q v : Nat}

theorem State.rung_beyond {cq : Bool} (h : s.qpCount f ≤ q) : s.rung f q v cq = s.bump (Obj.HST_DOORBELL_BAD + fnSub f) :=
  if_pos h

theorem State.rung_pair {cq : Bool} (h : q < s.qpCount f) (net : s.persona f ≠ 3) :
    s.rung f q v cq = if cq then s.cqDoorbell f q v else s.sqDoorbell f q v := by
  rw [State.rung, if_neg (by omega), if_neg (by simp [net])]

theorem State.rung_nvme {cq : Bool} (h : q < s.qpCount f) (nvme : s.persona f = 3) :
    s.rung f q v cq = s.nvDoorbell f q v cq := by
  rw [State.rung, if_neg (by omega), if_pos (by simp [nvme])]

variable {x : Qp}

theorem State.sqDoorbell_takes (hx : s.qp? f q = some x) (open_ : s.mode.mode ≠ .drain ∨ x.kind = 2)
    (runs : (s.fn f).reset ≠ 2) (hv : v < 2 ^ 32) (kind : x.kind ≠ 5) (hprod : (v + 2 ^ 32 - x.prod) % 2 ^ 32 ≤ x.sqSize)
    (hcons : (v + 2 ^ 32 - x.cons) % 2 ^ 32 ≤ x.sqSize) : s.sqDoorbell f q v = s.setQp f q { x with prod := v } := by
  unfold State.sqDoorbell
  simp only [hx]
  rw [if_neg (by simpa [Decidable.imp_iff_not_or] using open_), if_neg (by simp [runs]),
    if_pos (by simp only [hv, bne_iff_ne.mpr kind, hprod, hcons, decide_true, Bool.and_self])]

theorem State.sqDoorbell_drain (hx : s.qp? f q = some x) (drain : s.mode.mode = .drain) (kind : x.kind ≠ 2) :
    s.sqDoorbell f q v = s.bump Obj.MODE_DRAIN_DOORBELLS := by
  unfold State.sqDoorbell
  simp only [hx]
  rw [if_pos (by simp [drain, kind])]

theorem State.sqDoorbell_bad (hx : s.qp? f q = some x) (open_ : s.mode.mode ≠ .drain) (runs : (s.fn f).reset ≠ 2)
    (hv : 2 ^ 32 ≤ v) : s.sqDoorbell f q v = s.bump (Obj.HST_DOORBELL_BAD + fnSub f) := by
  have big : decide (v < 2 ^ 32) = false := decide_eq_false (by omega)
  unfold State.sqDoorbell
  simp only [hx]
  rw [if_neg (by simp [open_]), if_neg (by simp [runs]), if_neg (by rw [big]; simp), State.bumpFn]

theorem State.cqDoorbell_takes (hx : s.qp? f q = some x) (runs : (s.fn f).reset ≠ 2) (hv : v < 2 ^ 32)
    (one : 1 ≤ (v + 2 ^ 32 - x.ccons) % 2 ^ 32)
    (ahead : (v + 2 ^ 32 - x.ccons) % 2 ^ 32 ≤ (x.cq + 2 ^ 32 - x.ccons) % 2 ^ 32) :
    s.cqDoorbell f q v = ((s.setQp f q { x with ccons := v }).unstage f q).flushTargets f := by
  unfold State.cqDoorbell
  simp only [hx]
  rw [if_neg (by simp [runs]), if_pos (by simp only [hv, one, ahead, decide_true, Bool.and_true])]

theorem State.cqDoorbell_bad (hx : s.qp? f q = some x) (runs : (s.fn f).reset ≠ 2) (hv : 2 ^ 32 ≤ v) :
    s.cqDoorbell f q v = s.bump (Obj.HST_DOORBELL_BAD + fnSub f) := by
  have big : decide (v < 2 ^ 32) = false := decide_eq_false (by omega)
  unfold State.cqDoorbell
  simp only [hx]
  rw [if_neg (by simp [runs]), if_neg (by rw [big]; simp), State.bumpFn]

theorem State.nvDoorbell_tail {c : NvSq} (hc : lookup? s.stg.sq (qpKey f q) = some c) (open_ : s.mode.mode ≠ .drain)
    (runs : (s.fn f).reset ≠ 2) : s.nvDoorbell f q v false =
      if v < c.size then s.setSq (qpKey f q) { c with tail := v } else s.bump (Obj.HST_DOORBELL_BAD + fnSub f) := by
  unfold State.nvDoorbell
  simp only [Bool.false_eq_true, if_false, hc]
  rw [if_neg (by simp [open_]), if_neg (by simp [runs]), State.bumpFn]

theorem State.nvDoorbell_head {c : NvCq} (hc : lookup? s.stg.cq (qpKey f q) = some c) : s.nvDoorbell f q v true =
    if v < c.size then cqFlush f q c.wait.length (s.setCq (qpKey f q) { c with head := v })
    else s.bump (Obj.HST_DOORBELL_BAD + fnSub f) := by
  unfold State.nvDoorbell
  simp only [if_true, hc, State.bumpFn]

end

theorem State.after_stg (s : State) (dt : Nat) : (s.after dt).stg = s.stg := by
  simp [State.after, State.tick]

/-- Settles O45: the command register and the doorbells. -/
theorem queuePairsAreMadeAndRung : Obligations.QueuePairsAreMadeAndRung := by
  unfold Obligations.QueuePairsAreMadeAndRung
  intro dt f q v s reach
  have create : exec (.qpcCreate dt f) s = .next ((s.after dt).qpcRun f 1) := exec_page (act := fun t => t.qpcRun f 1) rfl reach
  have modify : exec (.qpcModify dt f) s = .next ((s.after dt).qpcRun f 2) := exec_page (act := fun t => t.qpcRun f 2) rfl reach
  have query : exec (.qpcQuery dt f) s = .next ((s.after dt).qpcRun f 3) := exec_page (act := fun t => t.qpcRun f 3) rfl reach
  obtain ⟨ringSq, ringCq⟩ := exec_doorbell (q := q) (v := v) reach
  have pair (n : Nat) : (s.after dt).qp? f n = s.qp? f n := (s.after_sameHosts dt).qp? f n
  have qps : (s.after dt).hs.qp = s.hs.qp := congrArg HostSide.qp (s.after_sameHosts dt).hs
  have pkts : (s.after dt).pkts = s.pkts := by simp
  rw [create, modify, query, ringSq, ringCq, ← State.after_fn (s := s) (dt := dt) f, ← s.after_vectors dt f,
    ← s.after_qpCount dt f, ← s.after_persona dt f, ← s.after_mode dt, ← s.after_stg dt, ← pair, ← pair, ← qps, ← pkts]
  generalize s.after dt = t at *
  refine ⟨fun busy c hc => ?busy, fun free => ⟨⟨_, rfl, fun ok => ?create, fun bad => ?createBad⟩,
      fun x hx => ⟨fun ctrl sq cq head aux vec => ?modify, fun differs => ?modifyBad, ?query⟩, fun hx => ⟨?modifyNone, ?queryNone⟩⟩,
    fun beyond => ?beyond, fun x hq net hx => ⟨fun open_ runs hv kind hprod hcons => ?sq, fun drain kind => ?sqDrain,
      fun runs hv one ahead => ?cq, fun runs hv => ⟨fun open_ => ?sqBad, ?cqBad⟩⟩,
    fun hq nvme => ⟨fun c hc => ⟨fun open_ runs hv => ?tail, fun open_ runs hv => ?tailBad⟩,
      fun c hc => ⟨fun none_ hv => ?head, fun hv => ?headBad⟩⟩⟩
  case busy =>
    simp only [List.mem_cons, List.not_mem_nil, or_false] at hc
    rcases hc with rfl | rfl | rfl
    · rw [create, State.qpcRun_busy busy]
    · rw [modify, State.qpcRun_busy busy]
    · rw [query, State.qpcRun_busy busy]
  case create =>
    refine ⟨_, congrArg _ ((State.qpcRun_create free ok).trans (if_pos rfl)), ?_, State.qp?_setQp_self _ _ _ _⟩
    exact (t.qpcAnswer_effect f 0).1
  case createBad =>
    exact ⟨_, congrArg _ ((State.qpcRun_create free rfl).trans (if_neg bad)), t.qpcAnswer_effect f _⟩
  case modify =>
    refine ⟨_, congrArg _ (State.qpcRun_modify free hx ctrl sq cq head aux vec), ?_, State.qp?_setQp_self _ _ _ _⟩
    exact (t.qpcAnswer_effect f 0).1
  case modifyBad => exact ⟨_, congrArg _ (State.qpcRun_modify_other free hx differs), t.qpcAnswer_effect f 2⟩
  case query =>
    refine ⟨_, congrArg _ (State.qpcRun_query free hx), ?_⟩
    rw [State.fn_setFn_self]
    exact ⟨rfl, rfl, rfl, rfl, rfl, rfl, rfl, rfl, rfl⟩
  case modifyNone => exact ⟨_, congrArg _ (State.qpcRun_modify_none free hx), t.qpcAnswer_effect f 2⟩
  case queryNone => exact ⟨_, congrArg _ (State.qpcRun_query_none free hx), t.qpcAnswer_effect f 2⟩
  case beyond => exact ⟨congrArg _ (State.rung_beyond beyond), congrArg _ (State.rung_beyond beyond)⟩
  case sq => exact congrArg _ ((State.rung_pair hq net).trans (State.sqDoorbell_takes hx open_ runs hv kind hprod hcons))
  case sqDrain => exact congrArg _ ((State.rung_pair hq net).trans (State.sqDoorbell_drain hx drain kind))
  case cq =>
    exact ⟨t.setQp f q { x with ccons := v },
      congrArg _ ((State.rung_pair hq net).trans (State.cqDoorbell_takes hx runs hv one ahead)), State.qp?_setQp_self _ _ _ _, rfl⟩
  case sqBad => exact congrArg _ ((State.rung_pair hq net).trans (State.sqDoorbell_bad hx open_ runs hv))
  case cqBad => exact congrArg _ ((State.rung_pair hq net).trans (State.cqDoorbell_bad hx runs hv))
  case tail => rw [State.rung_nvme hq nvme, State.nvDoorbell_tail hc open_ runs, if_pos hv]
  case tailBad => rw [State.rung_nvme hq nvme, State.nvDoorbell_tail hc open_ runs, if_neg (by omega)]
  case head => rw [State.rung_nvme hq nvme, State.nvDoorbell_head hc, if_pos hv, none_, List.length_nil, cqFlush]
  case headBad => rw [State.rung_nvme hq nvme, State.nvDoorbell_head hc, if_neg (by omega)]

end Sys2Proof.Machine
end

section
/-!
PROOFS. Migration: logging, hold, save, restore and release of a target function (R349 to R355).
-/

namespace Sys2Proof.Machine

/-! ### What activity does not change of a migration -/

section
variable {s t : State}

theorem SameHosts.migCtl (h : SameHosts s t) (p : Nat) : t.migCtl p = s.migCtl p :=
  h.host _ _ (by unfold Obj.MIG_CTL_FID; omega)

theorem SameHosts.controls (h : SameHosts s t) (c : Nat) : t.controls c = s.controls c := by
  rw [State.controls, h.migCtl, h.migCtl, ← State.controls]

theorem SameHosts.migTarget (h : SameHosts s t) (c : Nat) : t.migTarget c = s.migTarget c := by
  simp only [State.migTarget, h.fn, h.fnExists, h.migCtl]

theorem SameHosts.qpsOf (h : SameHosts s t) (f : Nat) : t.qpsOf f = s.qpsOf f := by
  rw [State.qpsOf, h.hs, ← State.qpsOf]

theorem SameHosts.logRing? (h : SameHosts s t) (f : Nat) : t.logRing? f = s.logRing? f := by
  have ctl : t.cfg (Obj.MIG_CTL_FID + fidPort f) = s.cfg (Obj.MIG_CTL_FID + fidPort f) :=
    h.host _ _ (by unfold Obj.MIG_CTL_FID; omega)
  simp only [State.logRing?, ctl, h.qpsOf]

theorem SameHosts.imageOk (h : SameHosts s t) (f : Nat) (hdr : Bytes) (b : MigBody) : t.imageOk f hdr b = s.imageOk f hdr b := by
  simp only [State.imageOk, h.persona, h.qpCount, h.fnCfg (o := Obj.FN_VECTORS) (by decide)]

theorem SameHosts.heldIdle (h : SameHosts s t) (stg : t.stg = s.stg) (f : Nat) : t.heldIdle f = s.heldIdle f := by
  simp only [State.heldIdle, State.tagsOut, State.jobsRun, State.stgIdle, h.hs, stg]

end

/-! ### A read that a command makes at once (R296, R312, R313) -/

section
variable (s : State)

theorem State.fetchTlp_hs (f : Nat) (attr : Attr) (addr n : Nat) : (s.fetchTlp f attr addr n).hs = s.hs := by
  unfold State.fetchTlp
  extract_lets l
  split
  · rfl
  · refine List.foldlRecOn (motive := fun a : State => a.hs = s.hs) _ _ rfl fun a ha p _ => ?_
    split
    · exact (a.wakeLink_frame l).1.trans ha
    · exact ha

theorem State.aerPut_qp (f b : Nat) (advisory : Bool) : (s.aerPut f b advisory).hs.qp = s.hs.qp := by
  unfold State.aerPut
  extract_lets x masked h p s1 fatal level
  have h1 : s1.hs.qp = s.hs.qp := by
    unfold s1
    split <;> rfl
  split
  · unfold State.sendErr
    extract_lets l
    split
    · exact (congrArg HostSide.qp (s1.wakeLink_frame l).1).trans h1
    · exact h1
  · exact h1

theorem State.freeze_qp (port cause f : Nat) : (s.freeze port cause f).hs.qp = s.hs.qp := by
  unfold State.freeze
  split
  · rfl
  · extract_lets v s1 s2 s3
    have h2 : s2.hs = s1.hs := s1.discardRx_fn _ _
    calc _ = s3.hs.qp := (s3.raise_told _ _ _ _ _).frame_host.1
      _ = s2.hs.qp := rfl
      _ = s1.hs.qp := congrArg HostSide.qp h2

theorem State.countCto_qp (f : Nat) : (s.countCto f).hs.qp = s.hs.qp := by
  unfold State.countCto
  extract_lets port s1 times _ s2
  have h2 : s2.hs.qp = s.hs.qp := State.aerPut_qp (s.bump (Obj.HST_CPL_TIMEOUT + port)) f aerTimeout false
  split
  · exact (State.freeze_qp _ _ _ _).trans h2
  · exact h2

theorem State.readFails_qp (f : Nat) : ∀ w, (s.readFails f w).hs.qp = s.hs.qp
  | .poisoned => (State.freeze_qp _ _ _ _).trans (State.aerPut_qp _ _ _ _)
  | .error => rfl
  | .timeout => s.countCto_qp f

/-! ### What does not depend on the state of links -/

theorem State.vfOwner_lt {p v n k : Nat} (h : s.vfOwner p v = some (n, k)) : n < 8 := by
  obtain ⟨m, hm, heq⟩ := List.exists_of_findSome?_eq_some h
  dsimp only at heq
  split at heq
  · cases heq
    exact List.mem_range.mp hm
  · cases heq

theorem State.pfOf_lt (f : Nat) : s.pfOf f < 2 ^ 32 := by
  unfold State.pfOf
  split
  · cases h : s.vfOwner (fidPort f) (fidNum f) with
    | none => exact Nat.two_pow_pos 32
    | some x => exact Nat.lt_trans (s.vfOwner_lt h) (by decide)
  · exact Nat.lt_trans (fld_lt_two_pow f 0 12) (by decide)

end

section
variable {s t : State}

theorem SameObjects.persona (h : SameObjects s t) (f : Nat) : t.persona f = s.persona f := by
  have pf : t.pfOf f = s.pfOf f := by rw [State.pfOf, h.vfOwner, ← State.pfOf]
  have own : fidNum f < 2 ^ 32 := Nat.lt_trans (fld_lt_two_pow f 0 12) (by decide)
  rw [State.persona, pf, h.pfc f (s.pfOf_lt f), h.pfc f own, ← State.persona]

theorem fnSub_cases (f : Nat) : fnSub f = 0 ∨ fnSub f = 1 ∨ fnSub f = 2 := by
  have := fnSub_lt f
  omega

theorem SameObjects.qpCount (h : SameObjects s t) (mode : t.mode = s.mode) (f : Nat) : t.qpCount f = s.qpCount f := by
  have count : t.fnCfg Obj.FN_QP_COUNT f = s.fnCfg Obj.FN_QP_COUNT f :=
    h _ _ (by rcases fnSub_cases f with k | k | k <;> rw [k] <;> rfl) (fnIdx_lt f)
  rw [State.qpCount, mode, count, ← State.qpCount]

theorem SameObjects.vectors (h : SameObjects s t) (f : Nat) : t.fnCfg Obj.FN_VECTORS f = s.fnCfg Obj.FN_VECTORS f :=
  h _ _ (by rcases fnSub_cases f with k | k | k <;> rw [k] <;> rfl) (fnIdx_lt f)

theorem SameObjects.imageOk (h : SameObjects s t) (mode : t.mode = s.mode) (f : Nat) (hdr : Bytes) (b : MigBody) :
    t.imageOk f hdr b = s.imageOk f hdr b := by
  simp only [State.imageOk, h.persona, h.qpCount mode, h.vectors]

end

/-! ### Images (R354, R355) -/

theorem toLe_add (m n x : Nat) : toLe (m + n) x = toLe m x ++ toLe n (x / 256 ^ m) := by
  induction m generalizing x with
  | zero => simp [toLe]
  | succ m ih =>
    rw [Nat.succ_add, toLe, toLe, ih, Nat.div_div_eq_div_mul, ← Nat.pow_succ']
    rfl

theorem toLe_mod (n x k : Nat) : toLe n (x + k * 256 ^ n) = toLe n x := by
  induction n generalizing x k with
  | zero => rfl
  | succ n ih =>
    have low : (x + k * 256 ^ (n + 1)) % 256 = x % 256 := by
      rw [Nat.pow_succ, ← Nat.mul_assoc]
      omega
    have high : (x + k * 256 ^ (n + 1)) / 256 = x / 256 + k * 256 ^ n := by
      rw [Nat.pow_succ, ← Nat.mul_assoc]
      omega
    rw [toLe, toLe, low, high, ih]

/-- Two little-endian words of 4 bytes in one of 8. -/
theorem toLe_eight {a : Nat} (c : Nat) (h : a < 2 ^ 32) : toLe 8 (a + c * 2 ^ 32) = toLe 4 a ++ toLe 4 c := by
  have high : (a + c * 256 ^ 4) / 256 ^ 4 = c := by omega
  exact (toLe_add 4 4 _).trans (by rw [show (2 : Nat) ^ 32 = 256 ^ 4 from rfl, toLe_mod, high])

theorem length_padTo (n : Nat) (bs : Bytes) : (padTo n bs).length = n := by
  unfold padTo
  simp only [List.length_append, List.length_take, List.length_replicate]
  omega

/-- The bytes of a header before its CRC field. -/
def headerFront (persona vectors : Nat) (b : MigBody) : Bytes :=
  toLe 8 (1 + persona * 2 ^ 16 + imageLen b.span vectors b.stagedCount * 2 ^ 32)
    ++ toLe 8 (b.span + vectors * 2 ^ 17) ++ toLe 4 b.stagedCount

theorem length_headerFront (persona vectors : Nat) (b : MigBody) : (headerFront persona vectors b).length = 20 := by
  simp [headerFront]

theorem imageHeader_eq {persona vectors crc : Nat} {b : MigBody} (h : b.stagedCount < 2 ^ 32) :
    imageHeader persona vectors crc b = headerFront persona vectors b ++ toLe 4 crc ++ List.replicate 40 0 := by
  rw [imageHeader, headerFront, toLe_eight crc h]
  simp only [List.append_assoc]

theorem slice_after (front word rest : Bytes) : slice (front ++ word ++ rest) front.length word.length = word := by
  simp [slice]

theorem splice_after (front word new rest : Bytes) (h : new.length = word.length) :
    splice (front ++ word ++ rest) front.length new = front ++ new ++ rest := by
  simp [splice, h]

/-- The image of a function, with its CRC. -/
def image (persona vectors crc : Nat) (b : MigBody) : Bytes :=
  imageHeader persona vectors crc b ++ imageRest (imageLen b.span vectors b.stagedCount) b

theorem image_effect {persona vectors : Nat} {b : MigBody} (h : b.stagedCount < 2 ^ 32) {crc : Nat}
    (hcrc : crc = crc32c 0 (image persona vectors 0 b)) :
    (image persona vectors crc b).length = imageLen b.span vectors b.stagedCount ∧
    slice (image persona vectors crc b) 20 4 = toLe 4 (crc32c 0 (splice (image persona vectors crc b) 20 [0, 0, 0, 0])) := by
  have form (c : Nat) : image persona vectors c b = headerFront persona vectors b ++ toLe 4 c ++
      (List.replicate 40 0 ++ imageRest (imageLen b.span vectors b.stagedCount) b) := by
    rw [image, imageHeader_eq h, List.append_assoc]
  have front := length_headerFront persona vectors b
  have cut := slice_after (headerFront persona vectors b) (toLe 4 crc)
    (List.replicate 40 0 ++ imageRest (imageLen b.span vectors b.stagedCount) b)
  have zeroed := splice_after (headerFront persona vectors b) (toLe 4 crc) [0, 0, 0, 0]
    (List.replicate 40 0 ++ imageRest (imageLen b.span vectors b.stagedCount) b) (by simp)
  rw [front, length_toLe] at cut
  rw [front] at zeroed
  refine ⟨?_, ?_⟩
  · have long : 4096 ≤ imageLen b.span vectors b.stagedCount := by
      unfold imageLen
      omega
    have rest : (imageRest (imageLen b.span vectors b.stagedCount) b).length = imageLen b.span vectors b.stagedCount - 64 :=
      length_padTo _ _
    rw [form]
    simp only [List.length_append, front, length_toLe, List.length_replicate, rest]
    omega
  · rw [form crc, cut, zeroed, hcrc, form 0]
    rfl

/-! ### The commands -/

section
variable {s : State} {dt c f : Nat}

theorem exec_migration {i : Instr} {effect : State → Nat → State} (hi : exec i s = migCmd dt c s effect)
    (reach : (s.after dt).reach c = .takes) (controls : (s.after dt).controls c = true)
    (free : ((s.after dt).fn c).migStatus % 256 ≠ 5) (hf : (s.after dt).migTarget c = some f) :
    exec i s = .next (effect (s.after dt) f) := by
  refine (exec_page hi reach).trans (congrArg _ ?_)
  unfold State.migRun
  rw [if_neg (by simp [controls]), if_neg (by simp [free])]
  simp only [hf]

theorem exec_migration_none {i : Instr} {effect : State → Nat → State} (hi : exec i s = migCmd dt c s effect)
    (reach : (s.after dt).reach c = .takes) (controls : (s.after dt).controls c = true)
    (free : ((s.after dt).fn c).migStatus % 256 ≠ 5) (hf : (s.after dt).migTarget c = none) :
    exec i s = .next ((s.after dt).setMig c 3 0) := by
  refine (exec_page hi reach).trans (congrArg _ ?_)
  unfold State.migRun
  rw [if_neg (by simp [controls]), if_neg (by simp [free])]
  simp only [hf]

end

section
variable {s : State} {c f : Nat}

theorem State.setMig_status (s : State) (c status result : Nat) :
    ((s.setMig c status result).fn c).migStatus = status + result * 2 ^ 32 := by
  rw [State.setMig, State.fn_setFn_self]

theorem State.setMig_status_zero (s : State) (c status : Nat) : ((s.setMig c status 0).fn c).migStatus = status :=
  (s.setMig_status c status 0).trans (by omega)

theorem State.fn_setMig_ne (s : State) {c f : Nat} (h : c ≠ f) (status result : Nat) : (s.setMig c status result).fn f = s.fn f :=
  State.fn_setFn_ne _ _ _ _ (Ne.symm h)

theorem State.clearFilter_effect (s : State) (f : Nat) : ∀ e ∈ (s.clearFilter f).hs.logFilter, e.2.1 ≠ f := fun e he => by
  simpa using (List.mem_filter.mp he).2

/-- Logging of a function goes on or ends. -/
def State.setLogging (s : State) (f : Nat) (on large : Bool) : State :=
  (s.clearFilter f).setFn f { s.fn f with logOn := on, log2m := large }

theorem State.startLog_starts (ring : s.logRing? f ≠ none) (off : (s.fn f).logOn = false)
    (pasid : ∀ x ∈ s.qpsOf f, bit x.2.ctrl 55 = false) :
    s.startLog c f = (s.setLogging f true (bit (s.fn c).migArg0 0)).setMig c 0 0 := by
  have none_ : ((s.qpsOf f).any fun q => bit q.2.ctrl 55) = false := by
    rw [List.any_eq_false]
    intro x hx
    rw [pasid x hx]
    exact Bool.false_ne_true
  unfold State.startLog
  rw [if_neg (by simpa using ring), if_neg (by simp [off]), none_]
  rfl

theorem State.setLogging_effect (s : State) (f : Nat) (on large : Bool) : ((s.setLogging f on large).fn f).logOn = on ∧
    ((s.setLogging f on large).fn f).log2m = large ∧ ∀ e ∈ (s.setLogging f on large).hs.logFilter, e.2.1 ≠ f := by
  unfold State.setLogging
  rw [State.fn_setFn_self]
  exact ⟨rfl, rfl, s.clearFilter_effect f⟩

theorem State.hold_effect (s : State) (h : c ≠ f) : ((s.hold c f).fn f).held = true ∧
    ((s.hold c f).fn f).holding = some (c, s.clock) ∧ ((s.hold c f).fn c).migStatus = 5 := by
  unfold State.hold
  extract_lets s1 s2
  rw [State.fn_setMig_ne _ h, State.fn_setFn_self]
  exact ⟨rfl, rfl, State.setMig_status_zero _ _ _⟩

theorem State.restoreStg_hs (s : State) (f : Nat) (b : MigBody) : (s.restoreStg f b).hs = s.hs := by
  unfold State.restoreStg
  extract_lets s1 s2
  have h1 : s1.hs = s.hs := List.foldlRecOn (motive := fun a : State => a.hs = s.hs) _ _ rfl fun _ h _ _ => h
  have h2 : s2.hs = s1.hs := List.foldlRecOn (motive := fun a : State => a.hs = s1.hs) _ _ rfl fun _ h _ _ => h
  split
  · exact h2.trans h1
  · exact h2.trans h1

theorem State.setQps_fn (s : State) (f : Nat) (qps : List (Nat × Qp)) :
    (qps.foldl (fun a q => a.setQp f q.1 q.2) s).hs.fn = s.hs.fn :=
  List.foldlRecOn (motive := fun a : State => a.hs.fn = s.hs.fn) _ _ rfl fun _ h _ _ => h

/-- What a function holds of an image. -/
def Restored (t : State) (f : Nat) (b : MigBody) : Prop :=
  (t.fn f).msix = b.msix ∧ (t.fn f).pba = b.pba ∧ (t.fn f).pend = b.pend ∧ (t.fn f).steer = b.steer ∧ (t.fn f).page = b.page

theorem State.restoreImage_restores {hdr : Bytes} {b : MigBody} (h : c ≠ f) (ok : s.imageOk f hdr b = true) :
    ((s.restoreImage c f hdr b).fn c).migStatus = 0 ∧ Restored (s.restoreImage c f hdr b) f b ∧
    ((s.restoreImage c f hdr b).fn f).held = (s.fn f).held ∧
    ∀ q x, b.qps = [(q, x)] → (s.restoreImage c f hdr b).qp? f q = some x := by
  unfold State.restoreImage
  rw [if_neg (by simp [ok])]
  extract_lets s1
  have fns : s1.hs.fn = s.hs.fn := (congrArg HostSide.fn (State.restoreStg_hs _ f b)).trans (s.setQps_fn f b.qps)
  have qps : s1.hs.qp = (b.qps.foldl (fun a q => a.setQp f q.1 q.2) s).hs.qp := congrArg HostSide.qp (State.restoreStg_hs _ f b)
  have own : s1.fn f = s.fn f := by rw [State.fn, fns, ← State.fn]
  refine ⟨State.setMig_status_zero _ _ _, ?_, ?_, fun q x hq => ?_⟩
  · unfold Restored
    rw [State.fn_setMig_ne _ h, State.fn_setFn_self]
    exact ⟨rfl, rfl, rfl, rfl, rfl⟩
  · rw [State.fn_setMig_ne _ h, State.fn_setFn_self]
    exact (congrArg Fn.held own : (s1.fn f).held = (s.fn f).held)
  · change lookup? s1.hs.qp (qpKey f q) = some x
    rw [qps, hq]
    exact State.qp?_setQp_self s f q x

theorem State.restoreImage_refused {hdr : Bytes} {b : MigBody} (bad : s.imageOk f hdr b = false) :
    s.restoreImage c f hdr b = s.setMig c 2 0 := by
  unfold State.restoreImage
  exact if_pos (by simp [bad])

/-- How a restore reads its image. -/
def State.imageRead (s : State) (c : Nat) (hdr : Bytes) : State :=
  s.fetchTlp c { ro := false, ido := false, pasid := none, tph := none } (s.fn c).migArg0 (fld (leWord hdr 0) 32 32)

theorem State.restore_busy {hdr : Bytes} {b : MigBody} {fail : Option ReadFail} (runs : (s.fn f).held = false) :
    s.restore c f hdr b fail = s.setMig c 1 0 := by
  unfold State.restore
  extract_lets len
  exact if_pos (by simp [runs])

theorem State.restore_reads {hdr : Bytes} {b : MigBody} {fail : Option ReadFail} (held : (s.fn f).held = true)
    (bare : s.qpsOf f = []) (host : coreFid c = false) : s.restore c f hdr b fail = match fail with
      | some w => ((s.imageRead c hdr).readFails c w).setMig c 3 0
      | none => (s.imageRead c hdr).restoreImage c f hdr b := by
  unfold State.restore
  extract_lets len s1
  rw [if_neg (by simp [held, bare]), if_neg (by simp [host])]
  rfl

theorem State.imageRead_imageOk (s : State) (c f : Nat) (hdr : Bytes) (b : MigBody) :
    (s.imageRead c hdr).imageOk f hdr b = s.imageOk f hdr b := by
  have h : HostOnly s (s.imageRead c hdr) := s.fetchTlp_hostOnly c _ _ _
  obtain ⟨-, -, -, -, -, -, -, -, -, -, hmode, -⟩ := h.frame
  exact h.sameObjects.imageOk hmode f hdr b

theorem State.imageRead_hs (s : State) (c : Nat) (hdr : Bytes) : (s.imageRead c hdr).hs = s.hs := s.fetchTlp_hs c _ _ _

theorem State.save_held (held : (s.fn f).held = true) : s.save c f =
    if (s.fn c).migArg1 < imageLen (s.migBody f).span (s.fnCfg Obj.FN_VECTORS f) (s.migBody f).stagedCount then
      s.setMig c 2 (imageLen (s.migBody f).span (s.fnCfg Obj.FN_VECTORS f) (s.migBody f).stagedCount)
    else if coreFid c && !s.inApp (s.fn c).migArg0
        (imageLen (s.migBody f).span (s.fnCfg Obj.FN_VECTORS f) (s.migBody f).stagedCount) then s.setMig c 3 0
    else (s.jobWrite c { ro := false, ido := false, pasid := none, tph := none } (s.fn c).migArg0
      (image (s.persona f) (s.fnCfg Obj.FN_VECTORS f)
        (crc32c 0 (image (s.persona f) (s.fnCfg Obj.FN_VECTORS f) 0 (s.migBody f))) (s.migBody f))).setMig c 0 0 := by
  unfold State.save
  extract_lets b v len rest crc a
  rw [if_neg (by simp [held])]
  rfl

/-- The end of a hold. -/
def State.holdOver (s : State) (c f status : Nat) : State := (s.setFn f { s.fn f with holding := none }).setMig c status 0

theorem State.holdOver_effect (s : State) (h : c ≠ f) (status : Nat) : ((s.holdOver c f status).fn f).holding = none ∧
    ((s.holdOver c f status).fn f).held = (s.fn f).held ∧ ((s.holdOver c f status).fn c).migStatus = status := by
  unfold State.holdOver
  rw [State.fn_setMig_ne _ h, State.fn_setFn_self]
  exact ⟨rfl, rfl, State.setMig_status_zero _ _ _⟩

theorem exec_holdComplete {dt at_ : Nat} (alive : s.alive = true) (holding : (s.fn f).holding = some (c, at_))
    (due : s.heldIdle f = true ∨ at_ + s.cfg Obj.MIG_HOLD_LIMIT_MS * 1000000 ≤ s.clock + dt) :
    exec (.holdComplete dt f) s = .next ((s.after dt).holdOver c f (if s.heldIdle f then 0 else 1)) := by
  have alive' : (s.tick dt).alive = true := alive
  have holding' : ((s.tick dt).fn f).holding = some (c, at_) := holding
  have due' : (s.tick dt).heldIdle f = true ∨ at_ + (s.tick dt).cfg Obj.MIG_HOLD_LIMIT_MS * 1000000 ≤ (s.tick dt).clock := due
  have same : ((s.tick dt).stir.fn f).holding = some (c, at_) :=
    congrArg Fn.holding ((s.after_sameHosts dt).fn f) |>.trans holding'
  have idle : (s.tick dt).stir.heldIdle f = s.heldIdle f := (s.after_sameHosts dt).heldIdle (s.after_stg dt) f
  refine Eq.trans (show execHoldComplete .. = .next _ from work_then ?_) ?_
  · simp only [alive', holding', Bool.true_and, Bool.or_eq_true, decide_eq_true_eq]
    exact due'
  · simp only [same, idle]
    rfl

end

/-- Settles O47: the migration commands, on the images and the states of their targets. -/
theorem migrationCommandsRun : Obligations.MigrationCommandsRun := by
  unfold Obligations.MigrationCommandsRun
  intro dt c f s
  refine ⟨fun reach controls free none_ => ?noTarget, fun reach controls free hf ne => ?target,
    fun at_ alive holding ne => ⟨fun idle => ?idle, fun busy due => ?limit⟩⟩
  case idle =>
    have run := exec_holdComplete (dt := dt) alive holding (.inl idle)
    rw [if_pos idle] at run
    obtain ⟨hholding, hheld, hstatus⟩ := (s.after dt).holdOver_effect ne 0
    exact ⟨_, run, hholding, hheld.trans (by rw [State.after_fn]), hstatus⟩
  case limit =>
    have run := exec_holdComplete (dt := dt) alive holding (.inr due)
    rw [if_neg (by simp [busy])] at run
    obtain ⟨hholding, -, hstatus⟩ := (s.after dt).holdOver_effect ne 1
    exact ⟨_, run, hholding, hstatus⟩
  case noTarget =>
    have same := s.after_sameHosts dt
    rw [← State.after_fn (s := s) (dt := dt) c] at free
    have controls' : (s.after dt).controls c = true := (same.controls c).trans controls
    have none' : (s.after dt).migTarget c = none := (same.migTarget c).trans none_
    intro i hi
    simp only [List.mem_cons, List.not_mem_nil, or_false] at hi
    rcases hi with rfl | rfl | rfl | rfl | rfl | rfl
    · exact exec_migration_none (effect := fun t f => t.startLog c f) rfl reach controls' free none'
    · exact exec_migration_none (effect := fun t f => t.syncLog c f) rfl reach controls' free none'
    · exact exec_migration_none (effect := fun t f => t.stopLog c f) rfl reach controls' free none'
    · exact exec_migration_none (effect := fun t f => t.hold c f) rfl reach controls' free none'
    · exact exec_migration_none (effect := fun t f => t.save c f) rfl reach controls' free none'
    · exact exec_migration_none (effect := fun t f => t.releaseFn c f) rfl reach controls' free none'
  case target =>
    have same := s.after_sameHosts dt
    have controls' : (s.after dt).controls c = true := (same.controls c).trans controls
    have hf' : (s.after dt).migTarget c = some f := (same.migTarget c).trans hf
    rw [← State.after_fn (s := s) (dt := dt) c] at free
    have run {i : Instr} {effect : State → Nat → State} (hi : exec i s = migCmd dt c s effect) :
        exec i s = .next (effect (s.after dt) f) := exec_migration hi reach controls' free hf'
    have startLog := run (i := .startLog dt c) (effect := fun t f => t.startLog c f) rfl
    have syncLog := run (i := .sync dt c) (effect := fun t f => t.syncLog c f) rfl
    have stopLog := run (i := .stopLog dt c) (effect := fun t f => t.stopLog c f) rfl
    have hold := run (i := .hold dt c) (effect := fun t f => t.hold c f) rfl
    have save := run (i := .save dt c) (effect := fun t f => t.save c f) rfl
    have release := run (i := .release dt c) (effect := fun t f => t.releaseFn c f) rfl
    have restore (hdr : Bytes) (b : MigBody) (fail : Option ReadFail) : exec (.restore dt c hdr b fail) s =
      .next ((s.after dt).restore c f hdr b fail) := run (effect := fun t f => t.restore c f hdr b fail) rfl
    have fns : (s.after dt).fn = s.fn := funext same.fn
    have inApp : (s.after dt).inApp = s.inApp := by
      have size : (s.after dt).appSize = s.appSize := by
        rw [State.appSize, same.core, State.after_cfg _ dt (by decide)]
        rfl
      funext addr n
      rw [State.inApp, size, ← State.inApp]
    have qps : (s.after dt).hs.qp = s.hs.qp := congrArg HostSide.qp same.hs
    have pkts : (s.after dt).pkts = s.pkts := by simp
    have clock : (s.after dt).clock = s.clock + dt := by simp
    have ring : (s.after dt).logRing? f = s.logRing? f := same.logRing? f
    have pairs : (s.after dt).qpsOf f = s.qpsOf f := same.qpsOf f
    have vectors : (s.after dt).fnCfg Obj.FN_VECTORS f = s.fnCfg Obj.FN_VECTORS f := s.after_vectors dt f
    have image : (s.after dt).imageOk f = s.imageOk f := funext fun hdr => funext (same.imageOk f hdr)
    rw [startLog, syncLog, stopLog, hold, save, release, ← fns, ← inApp, ← qps, ← pkts, ← clock, ← ring, ← pairs, ← vectors,
      ← image]
    generalize s.after dt = t at *
    refine ⟨fun logs off pasid => ?start, fun on => ?sync, fun off => ?syncOff, ?stop, ⟨_, rfl, t.hold_effect ne⟩,
      fun runs => ?saveRuns, fun held => ⟨_, rfl, fun short => ?saveShort, fun long there count => ?save⟩,
      fun hdr b runs => ?restoreRuns, fun hdr b w held bare host => ?restoreFails, fun hdr b held bare host bad => ?restoreBad,
      fun hdr b held bare host ok => ?restore, ?release⟩
    case start =>
      obtain ⟨hon, hlarge, hfilter⟩ := t.setLogging_effect f true (bit (t.fn c).migArg0 0)
      refine ⟨_, congrArg _ (State.startLog_starts logs off pasid), ?_, ?_, State.setMig_status_zero _ _ _, hfilter⟩
      · rw [State.fn_setMig_ne _ ne, hon]
      · rw [State.fn_setMig_ne _ ne, hlarge]
    case sync =>
      refine ⟨_, congrArg _ (if_pos on), ?_, State.setMig_status_zero _ _ _, t.clearFilter_effect f⟩
      rw [State.fn_setMig_ne _ ne]
      exact on
    case syncOff => exact ⟨_, congrArg _ (if_neg (by simp [off])), State.setMig_status_zero _ _ _⟩
    case stop => exact ⟨t.setLogging f false (t.fn f).log2m, rfl, (t.setLogging_effect f _ _).1⟩
    case saveRuns =>
      refine ⟨_, congrArg _ (if_pos (by simp [runs])), State.setMig_status_zero _ _ _, rfl⟩
    case saveShort =>
      exact ⟨_, congrArg _ ((State.save_held held).trans (if_pos short)), State.setMig_status _ _ _ _⟩
    case save =>
      refine ⟨_, congrArg _ ((State.save_held held).trans ((if_neg (by omega)).trans (if_neg ?_))), image_effect count rfl⟩
      rcases there with h | h <;> simp [h]
    case restoreRuns =>
      exact ⟨_, (restore hdr b none).trans (congrArg _ (State.restore_busy runs)), State.setMig_status_zero _ _ _⟩
    case restoreFails =>
      refine ⟨_, (restore hdr b (some w)).trans (congrArg _ (State.restore_reads held bare host)),
        State.setMig_status_zero _ _ _, ?_⟩
      exact (State.readFails_qp _ c w).trans (congrArg HostSide.qp (t.imageRead_hs c hdr))
    case restoreBad =>
      have bad' := (t.imageRead_imageOk c f hdr b).trans bad
      refine ⟨_, (restore hdr b none).trans (congrArg _ ((State.restore_reads held bare host).trans
        (State.restoreImage_refused bad'))), State.setMig_status_zero _ _ _,
        (congrArg HostSide.qp (t.imageRead_hs c hdr) : (t.imageRead c hdr).hs.qp = t.hs.qp), ?_⟩
      rw [State.fn_setMig_ne _ ne, State.fn, t.imageRead_hs, ← State.fn]
    case restore =>
      have ok' := (t.imageRead_imageOk c f hdr b).trans ok
      obtain ⟨hstatus, ⟨hmsix, hpba, hpend, hsteer, hpage⟩, hheld, hqp⟩ := State.restoreImage_restores ne ok'
      refine ⟨_, (restore hdr b none).trans (congrArg _ (State.restore_reads held bare host)), hstatus, hmsix, hpba, hpend,
        hsteer, hpage, hheld.trans ?_, hqp⟩
      rw [State.fn, t.imageRead_hs, ← State.fn, held]
    case release =>
      refine ⟨t.setFn f { t.fn f with held := false, holding := none }, _, rfl, rfl, ?_, ?_, rfl⟩
      · rw [State.fn_setFn_self]
      · rw [State.fn_setFn_self]

end Sys2Proof.Machine
end

section
/-!
PROOFS. Transmit and receive rings (R327, R336 to R342).
-/

namespace Sys2Proof.Machine

/-! ### Transmit -/

section
variable {s : State} {dt f q : Nat} {given : HostRead} {x : Qp}

/-- What a fetch of a transmit pair comes to. -/
def State.txFetched (f q : Nat) (x : Qp) (given : HostRead) : Fetched → State
  | .wait t1 => t1
  | .lost t1 => (t1.txPick (arbOf f)).2.txLost f q x
  | .got b t1 => match x.txPacket given b with
    | some pk => (t1.txPick (arbOf f)).2.startTx f q x pk
    | none => t1.setQp f q { x with short := some x.prod }

theorem exec_txPacketFetch (alive : s.alive = true) (turn : ((s.tick dt).txPick (arbOf f)).1 = some f)
    (pair : (s.tick dt).txPair f = some q) (hx : s.qp? f q = some x) (may : s.mayAnswer f given = true) :
    exec (.txPacketFetch dt f q given) s = .next (State.txFetched f q x given
      ((s.after dt).fetch f q x ((s.after dt).ringAttr f x) (x.txSlots given) given)) := by
  have alive' : (s.tick dt).alive = true := alive
  have may' : (s.tick dt).mayAnswer f given = true := may
  have hx' : (s.tick dt).stir.qp? f q = some x := ((s.after_sameHosts dt).qp? f q).trans hx
  refine Eq.trans (show execTxPacketFetch .. = .next _ from work_then ?_) ?_
  · rw [alive', turn, pair, may']
    simp
  · simp only [hx']
    rfl

theorem State.chargeTx_hs (t : State) (f q len : Nat) :
    (t.chargeTx f q len).hs.works = t.hs.works ∧ (t.chargeTx f q len).hs.qp = t.hs.qp := by
  unfold State.chargeTx
  extract_lets x left t1
  split <;> exact ⟨rfl, rfl⟩

theorem State.startTx_core (t : State) (core : coreFid f = true) (ds : List Bytes) :
    (t.startTx f q x ds).qp? f q = some { x with taken := (x.taken + x.txCount ds) % 2 ^ 32, fail := false } ∧
    (t.startTx f q x ds).hs.works = t.hs.works ++ [t.txWork f q x ds] := by
  unfold State.startTx
  extract_lets bad s1 s2 s3 s4
  rw [if_pos core]
  obtain ⟨works, qps⟩ := s2.chargeTx_hs f q (if bad == 0 then x.txBytes ds else 0)
  have h4 : s4.hs = s3.hs := by
    unfold s4
    split <;> rfl
  refine ⟨?_, (congrArg HostSide.works h4).trans works⟩
  have pairs : s4.hs.qp = s2.hs.qp := (congrArg HostSide.qp h4).trans qps
  rw [State.qp?, pairs]
  exact State.qp?_setQp_self s1 f q _

theorem State.txWork_core (t : State) (core : coreFid f = true) (ds : List Bytes) : (t.txWork f q x ds).fid = f ∧
    (t.txWork f q x ds).q = q ∧ (t.txWork f q x ds).first = x.taken ∧ (t.txWork f q x ds).n = x.txCount ds ∧
    (t.txWork f q x ds).todo = [] := ⟨rfl, rfl, rfl, rfl, if_pos core⟩

end

/-! ### The end of a transmit work -/

/-- The bytes that a work has read: a virtqueue's without their header. -/
def State.txFrame (s : State) (f q : Nat) (w : Work) : Bytes :=
  if (s.qp? f q).any fun x => x.kind == 8 then (w.got.flatMap fun g => g.2).drop vnetHdr else w.got.flatMap fun g => g.2

theorem State.txFrame_ring {s : State} {f q : Nat} (w : Work) (x : Qp) (hx : s.qp? f q = some x) (kind : x.kind ≠ 8) :
    s.txFrame f q w = w.got.flatMap fun g => g.2 := by
  rw [State.txFrame, hx, if_neg (by simp [kind])]

theorem State.txFrame_virtqueue {s : State} {f q : Nat} (w : Work) (x : Qp) (hx : s.qp? f q = some x) (kind : x.kind = 8) :
    s.txFrame f q w = (w.got.flatMap fun g => g.2).drop 12 := by
  rw [State.txFrame, hx, if_pos (by simp [kind]), vnetHdr]

/-- A work is no longer held. -/
def State.endWork (s : State) (w : Work) : State :=
  { s with hs := { s.hs with works := s.hs.works.filter fun x => x.id != w.id } }

/-- The bytes of a work that succeeded leave: on the rescue port in VIGIL, and else as a packet. -/
def State.txSent (s : State) (f : Nat) (w : Work) (bytes : Bytes) : State :=
  let s3 := s.bumpFn Obj.HST_TX_PACKETS f
  if s3.mode.mode == .vigil then
    (if s3.cfg (Obj.NET_LINK_STATE + s3.rescuePort) == 4 then (s3.emit (.net s3.rescuePort bytes)).bump Obj.RESCUE_TX_FRAMES else s3)
  else s3.enterTx w bytes

/-- What a work leaves when it ends. -/
def State.txOver (s : State) (f q : Nat) (w : Work) : State :=
  if w.status != 0 then s.endWork w else (s.endWork w).txSent f w (s.txFrame f q w)

section
variable {s : State} {dt f q : Nat} {w : Work}

theorem State.txSent_works (s : State) (f : Nat) (w : Work) (bytes : Bytes) :
    (s.txSent f w bytes).hs.works = s.hs.works := by
  unfold State.txSent
  extract_lets s3
  split
  · split <;> rfl
  · rfl

theorem State.txSent_packet (s : State) (f : Nat) (w : Work) (bytes : Bytes) (mode : s.mode.mode ≠ .vigil) : ∃ p,
    (s.txSent f w bytes).pkts = s.pkts ++ [p] ∧ p.bytes = bytes ∧ p.loc = .txReady ∧ p.srcId = w.fid ∧ p.id = s.nextPkt := by
  have taken : s.txSent f w bytes = (s.bumpFn Obj.HST_TX_PACKETS f).enterTx w bytes := if_neg (by simpa using mode)
  rw [taken]
  exact ⟨_, rfl, rfl, rfl, rfl, rfl⟩

theorem State.txSent_rescue (s : State) (f : Nat) (w : Work) (bytes : Bytes) (mode : s.mode.mode = .vigil)
    (up : s.cfg (Obj.NET_LINK_STATE + s.rescuePort) = 4) :
    (s.txSent f w bytes).out = s.out ++ [(s.clock, .net s.rescuePort bytes)] ∧ (s.txSent f w bytes).pkts = s.pkts := by
  have sent : s.txSent f w bytes =
      ((s.bumpFn Obj.HST_TX_PACKETS f).emit (.net s.rescuePort bytes)).bump Obj.RESCUE_TX_FRAMES := by
    unfold State.txSent
    extract_lets s3
    have up' : s3.cfg (Obj.NET_LINK_STATE + s3.rescuePort) = 4 := up
    have mode' : s3.mode.mode = .vigil := mode
    rw [if_pos (by simp [mode']), if_pos (by simp [up'])]
    rfl
  rw [sent]
  exact ⟨rfl, rfl⟩

theorem State.txOver_works (s : State) (f q : Nat) (w : Work) :
    (s.txOver f q w).hs.works = s.hs.works.filter (fun x => x.id != w.id) := by
  unfold State.txOver
  split
  · rfl
  · exact (s.endWork w).txSent_works f w _

theorem State.txOver_failed (s : State) (f q : Nat) (w : Work) (h : w.status ≠ 0) : s.txOver f q w = s.endWork w :=
  if_pos (by simpa using h)

theorem State.txOver_done (s : State) (f q : Nat) (w : Work) (h : w.status = 0) :
    s.txOver f q w = (s.endWork w).txSent f w (s.txFrame f q w) := if_neg (by simpa using h)

theorem exec_txDataComplete (alive : s.alive = true) (runs : (s.fn f).reset ≠ 1) (runs' : (s.fn f).reset ≠ 3)
    (hw : s.work? f q = some w) (done_ : w.done = true) (room : s.stageRoom f q = true) :
    exec (.txDataComplete dt f q) s = .next (((s.after dt).txOver f q w).complete f q (w.first + w.n) (txEntry w)) := by
  have hw' : (s.tick dt).stir.work? f q = some w := by
    have same : (s.tick dt).stir.hs = s.hs := (s.after_sameHosts dt).hs
    rw [State.work?, same]
    exact hw
  refine Eq.trans (show execTxDataComplete .. = .next _ from work_then ?_) ?_
  · have alive' : (s.tick dt).alive = true := alive
    have room' : (s.tick dt).stageRoom f q = true := room
    have tickWork : (s.tick dt).work? f q = some w := hw
    have free : (((s.tick dt).fn f).reset != 1) = true := bne_iff_ne.mpr runs
    have free' : (((s.tick dt).fn f).reset != 3) = true := bne_iff_ne.mpr runs'
    rw [alive', room', free, free']
    simp only [tickWork, done_, Bool.and_self]
  · simp only [hw']
    rfl

end

/-! ### Receive and moderation -/

theorem SameHosts.mayWrite {s t : State} (h : SameHosts s t) (f : Nat) : t.mayWrite f = s.mayWrite f := by
  simp only [State.mayWrite, h.fn, h.frozen, h.linkUp, h.linkOf]

section
variable {s : State} {dt f q : Nat} {given : HostRead} {p : Pkt}

theorem exec_rxPacketDelivery (alive : s.alive = true) (hp : s.stagedFor f = some p) (may : s.mayAnswer f given = true) :
    exec (.rxPacketDelivery dt f given) s = .next ((s.after dt).deliver f p given) := by
  have hp' : (s.tick dt).stir.stagedFor f = some p := by
    have same : (s.tick dt).stir.pkts = s.pkts := State.after_pkts s dt
    rw [State.stagedFor, same]
    exact hp
  refine Eq.trans (show execRxPacketDelivery .. = .next _ from work_then ?_) ?_
  · have alive' : (s.tick dt).alive = true := alive
    have may' : (s.tick dt).mayAnswer f given = true := may
    have tickPkt : (s.tick dt).stagedFor f = some p := hp
    rw [alive', may', tickPkt]
    rfl
  · simp only [hp']
    rfl

theorem State.deliver_dropped {t : State} {c : Nat} (h : t.rxTest f p = .inl c) (mode : t.mode.mode ≠ .vigil) :
    t.deliver f p given = (t.bump (c + fnSub f)).dropPkt p.id := by
  unfold State.deliver
  simp only [h]
  rw [State.rxDrop, if_neg (by simpa using mode), State.bumpFn]

theorem State.deliver_fills {t t1 : State} {y : Nat} {x : Qp} {b : Bytes} {bufs : List (Bytes × Nat)}
    (h : t.rxTest f p = .inr (y, x)) (free : (t.fn f).stalled = false) (may : t.mayWrite f = true) (kind : x.kind ≠ 8)
    (page : x.page = none) (hb : t.fetch f y { x with fail := false } (t.ringAttr f x) (x.slots (x.rxCount (coreFid f) given))
      given = .got b t1) (hbufs : takeBuffers 0 (entries x.sqEntrySize b) p.len = some bufs)
    (plain : coreFid f = true ∨ (t1.fn f).ats = false) : t.deliver f p given = t1.fillBuffers f y x p bufs := by
  unfold State.deliver
  simp only [h]
  rw [if_neg (by simp [free, may]), if_neg (by simp [kind])]
  simp only [hb, hbufs]
  rw [if_neg (by simp [page]), State.deliverTo]
  exact if_pos (by rcases plain with h | h <;> simp [h])

theorem exec_moderationTimer {x : Qp} (alive : s.alive = true) (hx : s.qp? f q = some x) (on : bit x.ctrl 28 = true)
    (pend : x.pend ≠ 0) (us : fld x.ctrl 29 10 ≠ 0) (due : x.pendAt + fld x.ctrl 29 10 * 1000 ≤ s.clock + dt) :
    exec (.moderationTimer dt f q) s =
      .next (((s.tick dt).setQp f q { x with pend := 0, pendAt := 0 }).hostWrite f (.int x.vec (s.pasidOf f x))) := by
  have alive' : (s.tick dt).alive = true := alive
  have hx' : (s.tick dt).qp? f q = some x := hx
  have due' : x.pendAt + fld x.ctrl 29 10 * 1000 ≤ (s.tick dt).clock := due
  refine Eq.trans (show execModerationTimer .. = .next _ from cmd_then ?_) ?_
  · rw [alive']
    simp only [hx', on, bne_iff_ne.mpr pend, bne_iff_ne.mpr us, decide_eq_true due', Bool.and_self]
  · simp only [hx']
    rfl

end

/-- Settles O46: transmit, receive and moderation. -/
theorem packetRingsMovePackets : Obligations.PacketRingsMovePackets := by
  unfold Obligations.PacketRingsMovePackets
  intro dt f q given s alive
  refine ⟨fun x turn pair hx may => ?fetch, fun w runs runs' hw done_ room => ?done_, fun p hp may => ?rx,
    fun x hx on pend us due => exec_moderationTimer alive hx on pend us due⟩
  case fetch =>
    have run := exec_txPacketFetch (dt := dt) alive turn pair hx may
    refine ⟨fun t1 h => ?wait, fun b t1 h => ⟨fun none_ => ?short, fun pk some_ => ?starts⟩, fun t1 h => ?lost⟩
    case wait => rw [run, h, State.txFetched]
    case short =>
      rw [run, h]
      simp only [State.txFetched, none_]
    case starts =>
      refine ⟨_, run.trans ?_, rfl, fun core => ⟨(State.startTx_core _ core pk).1, _, (State.startTx_core _ core pk).2,
        State.txWork_core _ core pk⟩⟩
      rw [h]
      simp only [State.txFetched, some_]
    case lost =>
      refine ⟨(t1.txPick (arbOf f)).2.setQp f q { x with taken := (x.taken + 1) % 2 ^ 32, fail := false }, ?_,
        State.qp?_setQp_self _ _ _ _⟩
      rw [run, h, State.txFetched, State.txLost]
  case done_ =>
    have works : (s.after dt).hs.works = s.hs.works := congrArg HostSide.works (s.after_sameHosts dt).hs
    have own : w.fid = f := by
      have := List.find?_some hw
      simp only [Bool.and_eq_true, beq_iff_eq] at this
      exact this.1
    have pair (x : Qp) (hx : s.qp? f q = some x) : (s.after dt).qp? f q = some x := ((s.after_sameHosts dt).qp? f q).trans hx
    have pkts : ((s.after dt).endWork w).pkts = s.pkts := State.after_pkts s dt
    have out : ((s.after dt).endWork w).out = s.out := State.after_out
    refine ⟨_, exec_txDataComplete alive runs runs' hw done_ room, ?_, fun failed => ?_, fun ok =>
      ⟨(s.after dt).txFrame f q w, fun x hx => State.txFrame_ring w x (pair x hx),
        fun x hx => State.txFrame_virtqueue w x (pair x hx), fun mode => ?packet, fun mode up => ?rescue⟩⟩
    · rw [State.txOver_works, works]
    · rw [State.txOver_failed _ _ _ _ failed]
      exact ⟨pkts, out⟩
    case packet =>
      rw [State.txOver_done _ _ _ _ ok]
      have mode' : ((s.after dt).endWork w).mode.mode ≠ .vigil := fun h => mode ((s.after_mode dt).symm.trans h)
      obtain ⟨p, hp, hbytes, hloc, hsrc, hid⟩ := State.txSent_packet _ f w ((s.after dt).txFrame f q w) mode'
      exact ⟨p, hp.trans (by rw [pkts]), hbytes, hloc, hsrc.trans own, hid.trans (by simp [State.endWork, State.after, State.tick])⟩
    case rescue =>
      rw [State.txOver_done _ _ _ _ ok]
      have port : ((s.after dt).endWork w).rescuePort = s.rescuePort := State.after_rescuePort
      have up' : ((s.after dt).endWork w).cfg (Obj.NET_LINK_STATE + ((s.after dt).endWork w).rescuePort) = 4 := by
        rw [port]
        exact (s.after_cfg dt (by unfold Obj.NET_LINK_STATE Obj.MODE_POWER_STEP; omega)).trans up
      have mode' : ((s.after dt).endWork w).mode.mode = .vigil := (s.after_mode dt).trans mode
      obtain ⟨hout, hpkts⟩ := State.txSent_rescue _ f w ((s.after dt).txFrame f q w) mode' up'
      refine ⟨hout.trans ?_, hpkts.trans pkts⟩
      rw [out, port]
      simp [State.endWork]
  case rx =>
    have run := exec_rxPacketDelivery (dt := dt) alive hp may
    refine ⟨run, fun c h mode => ?_, fun y x b t1 bufs h free write kind page hb hbufs plain => ?_⟩
    · exact run.trans (congrArg _ (State.deliver_dropped h fun h => mode ((s.after_mode dt).symm.trans h)))
    · refine run.trans (congrArg _ (State.deliver_fills h ?_ (((s.after_sameHosts dt).mayWrite f).trans write) kind page hb hbufs
        plain))
      rw [State.after_fn, free]

end Sys2Proof.Machine
end

section
/-!
PROOFS. Requests and completions of the host and of peers (R292, R294, R296, R302, R307, R309, R312 to R314, R318).
-/

namespace Sys2Proof.Machine

/-! ### What an answer and a logged error change -/

section
variable (s : State)

theorem State.reply_effect (l status : Nat) (tlp : HostTlp) (data : Bytes) (h : tlp.kind ≠ 1) :
    (s.reply l status tlp data).out = s.out ++ [(s.clock, .hostCpl l status tlp.ro tlp.ido data)] ∧
    (s.reply l status tlp data).hs = s.hs ∧ (s.reply l status tlp data).pkts = s.pkts ∧
    (s.reply l status tlp data).core = s.core := by
  obtain ⟨hs, out, clock, -, pkts⟩ := s.wakeLink_frame l
  have sent : s.reply l status tlp data = (s.wakeLink l).emit (.hostCpl l status tlp.ro tlp.ido data) :=
    if_neg (by simpa using h)
  have core : (s.wakeLink l).core = s.core := by
    unfold State.wakeLink
    split <;> rfl
  rw [sent]
  refine ⟨?_, hs, pkts, core⟩
  change (s.wakeLink l).out ++ [((s.wakeLink l).clock, _)] = _
  rw [out, clock]

theorem State.reply_posted (l status : Nat) (tlp : HostTlp) (data : Bytes) (h : tlp.kind = 1) :
    s.reply l status tlp data = s := if_pos (by simp [h])

/-- What an error that a function logs leaves unchanged. -/
structure Logged (s t : State) : Prop where
  clock : t.clock = s.clock
  pkts : t.pkts = s.pkts
  core : t.core = s.core
  qp : t.hs.qp = s.hs.qp
  reqs : t.hs.reqs = s.hs.reqs
  ctr : ∀ o, t.ctr o = s.ctr o
  out : ∃ pre, t.out = s.out ++ pre

theorem Logged.refl : Logged s s := ⟨rfl, rfl, rfl, rfl, rfl, fun _ => rfl, [], (List.append_nil _).symm⟩

theorem State.sendErr_logged (f level : Nat) : Logged s (s.sendErr f level) := by
  unfold State.sendErr
  extract_lets l
  split
  · obtain ⟨hs, out, clock, ctr, pkts⟩ := s.wakeLink_frame l
    refine ⟨clock, pkts, ?_, congrArg HostSide.qp hs, congrArg HostSide.reqs hs, ctr, [((s.wakeLink l).clock, .errMsg f level)], ?_⟩
    · unfold State.wakeLink
      split <;> rfl
    · change (s.wakeLink l).out ++ _ = _
      rw [out]
  · exact .refl s

theorem State.aerPut_logged (f b : Nat) (advisory : Bool) : Logged s (s.aerPut f b advisory) := by
  unfold State.aerPut
  extract_lets x masked h p s1 fatal level
  have h1 : Logged s s1 := by
    unfold s1
    split <;> exact ⟨rfl, rfl, rfl, rfl, rfl, fun _ => rfl, [], (List.append_nil _).symm⟩
  split
  · obtain ⟨clock, pkts, core, qp, reqs, ctr, pre, out⟩ := s1.sendErr_logged f level
    obtain ⟨clock1, pkts1, core1, qp1, reqs1, ctr1, pre1, out1⟩ := h1
    exact ⟨clock.trans clock1, pkts.trans pkts1, core.trans core1, qp.trans qp1, reqs.trans reqs1,
      fun o => (ctr o).trans (ctr1 o), pre1 ++ pre, by rw [out, out1, List.append_assoc]⟩
  · exact h1

/-- A function whose configuration space answers logs a request answered with UR. -/
def State.urLogged (f : Nat) : State := if s.cfgReady (fidPort f) then s.aerLog f aerUnsupported else s

theorem State.urTlp_eq (f : Nat) (tlp : HostTlp) : s.urTlp f tlp = (s.urLogged f).reply (s.linkOf f) 1 tlp [] := rfl

theorem State.urLogged_logged (f : Nat) : Logged s (s.urLogged f) := by
  unfold State.urLogged
  split
  · exact s.aerPut_logged f _ _
  · exact .refl s

theorem State.readIsr_frame (f bar off : Nat) : (s.readIsr f bar off).out = s.out ∧ (s.readIsr f bar off).clock = s.clock ∧
    (s.readIsr f bar off).pkts = s.pkts ∧ (s.readIsr f bar off).hs.qp = s.hs.qp := by
  unfold State.readIsr
  split <;> exact ⟨rfl, rfl, rfl, rfl⟩

/-! ### Memory and configuration requests -/

theorem State.hostRead_inside {f bar off size : Nat} {tlp : HostTlp} (inside : off + size ≤ barBytes f bar) :
    s.hostRead f bar off size tlp = match s.reach f with
      | .takes => (s.readIsr f bar off).reply (s.linkOf f) 0 tlp (s.mmioRead f bar off size)
      | .fenced => s.reply (s.linkOf f) 0 tlp (List.replicate size 0xFF)
      | .ur => s.urTlp f tlp
      | .nothing => s := by
  unfold State.hostRead
  exact if_neg (by omega)

theorem State.cfgWrite_same (f off val : Nat) : SameObjects s (s.cfgWrite f off val) := by
  unfold State.cfgWrite
  extract_lets x on l pf0 put
  split
  case h_1 =>
    split
    · exact (s.setFn_hostOnly f _).sameObjects.trans (State.resumeFn_hostOnly _ f).sameObjects
    · exact .of_val rfl
  case h_2 => exact s.unmask_same f _
  all_goals
    repeat' split
    all_goals exact .of_val rfl

end

section
variable {s : State} {dt f bar off size val : Nat} {ro ido : Bool} {tlp : HostTlp}

theorem exec_mmioWrite (hbar : bar = 0 ∨ bar = 2) (posted : tlp.kind = 1) : exec (.mmioWrite dt f bar off size val tlp) s =
    .next ((s.after dt).pageWrite f fun u => u.mmio f bar off size val) := by
  refine Eq.trans (show execMmioWrite .. = .next _ from work_then rfl) (congrArg _ ?_)
  rw [if_neg (by rcases hbar with h | h <;> simp [h]), if_pos (by simp [posted])]
  rfl

theorem exec_mmioRead (hbar : bar = 0 ∨ bar = 2) (read : tlp.kind = 0) (host : coreFid f = false)
    (up : s.linkUp (s.linkOf f) = true) : exec (.mmioWrite dt f bar off size val tlp) s =
    .next ((s.after dt).hostRead f bar off size tlp) := by
  have same := s.after_sameHosts dt
  have up' : (s.tick dt).stir.linkUp ((s.tick dt).stir.linkOf f) = true :=
    (congrArg _ (same.linkOf f)).trans ((same.linkUp _).trans up)
  refine Eq.trans (show execMmioWrite .. = .next _ from work_then rfl) (congrArg _ ?_)
  rw [if_neg (by rcases hbar with h | h <;> simp [h]), if_neg (by simp [read]), if_neg (by simp [host, up']),
    if_pos (by simp [read])]
  rfl

/-- What a configuration request does in the function that takes it. -/
def State.cfgAnswer (u : State) (f off size val : Nat) (tlp : HostTlp) : State :=
  if tlp.kind == 0 then u.reply (u.linkOf f) 0 tlp (toLe size (u.cfgRead f off))
  else (u.cfgWrite f off val).reply (u.linkOf f) 0 { tlp with kind := 0 } []

theorem exec_cfgRequest : exec (.mmioWrite dt f 7 off size val tlp) s =
    .next ((s.after dt).cfgAsk f tlp fun u => u.cfgAnswer f off size val tlp) :=
  Eq.trans (show execMmioWrite .. = .next _ from work_then rfl) (congrArg Host.Outcome.next (if_pos rfl))

theorem State.cfgAsk_nothing {t : State} {act : State → State} (reach : t.cfgReach f = .nothing)
    (up : t.linkUp (t.linkOf f) = true) : t.cfgAsk f tlp act = t.reply (t.linkOf f) 1 { tlp with kind := 0 } [] := by
  rw [State.cfgAsk, reach]
  exact if_pos up

theorem State.cfgAnswer_write (u : State) (f off size val : Nat) (ro ido : Bool) : u.cfgAnswer f off size val ⟨1, ro, ido⟩ =
    (u.cfgWrite f off val).reply ((u.cfgWrite f off val).linkOf f) 0 ⟨0, ro, ido⟩ [] := by
  rw [(u.cfgWrite_same f off val).linkOf f]
  rfl

theorem State.cfgWrite_relaxed (u : State) (f val : Nat) : ((u.cfgWrite f 8 val).fn f).roEn = (val != 0) := by
  change ((u.setFn f { u.fn f with roEn := val != 0 }).fn f).roEn = _
  rw [State.fn_setFn_self]

theorem State.cfgWrite_atsOff (u : State) (f : Nat) : ((u.cfgWrite f 3 0).fn f).ats = false ∧
    (u.cfgWrite f 3 0).hs.xl = u.hs.xl.filter (fun e => e.fid != f) := by
  refine ⟨?_, rfl⟩
  change ((u.setFn f { u.fn f with ats := false }).fn f).ats = false
  rw [State.fn_setFn_self]

end

/-! ### Completions (R296, R312 to R314) -/

section
variable {s : State} {dt l tag : Nat} {r : Req}

theorem State.after_ctr (h : n ≠ Obj.PWR_STEP_ENTRIES) : (s.after dt).ctr n = s.ctr n := by
  unfold State.after State.stir
  extract_lets _ t
  split
  · unfold State.setStep
    exact (State.ctr_bump_ne _ _ _ h).trans rfl
  · rfl

theorem SameHosts.req? {s t : State} (h : SameHosts s t) (l tag : Nat) : t.req? l tag = s.req? l tag := by
  rw [State.req?, h.hs, ← State.req?]

/-- What the completion of a tag does. -/
def State.cplTaken (t : State) (l tag status : Nat) (ep : Bool) (data : Bytes) : State :=
  match t.req? l tag with
  | some r => t.takeCpl r status ep data
  | none => t.strayCpl l tag ep

theorem exec_completionArrival {status : Nat} {ep : Bool} {data : Bytes} (alive : s.alive = true) (hl : l < 4)
    (up : s.linkUp l = true) : exec (.completionArrival dt l tag status ep data) s =
      .next ((s.after dt).cplTaken l tag status ep data) := by
  have alive' : (s.tick dt).alive = true := alive
  have up' : (s.tick dt).linkUp l = true := up
  refine show execCompletionArrival .. = .next _ from work_then ?_
  rw [alive', up', decide_eq_true hl]
  rfl

theorem State.cplTaken_known {t : State} {status : Nat} {ep : Bool} {data : Bytes} (h : t.req? l tag = some r) :
    t.cplTaken l tag status ep data = t.takeCpl r status ep data := by
  simp only [State.cplTaken, h]

theorem State.cplTaken_stray {t : State} {status : Nat} {data : Bytes} (h : t.req? l tag = none) :
    t.cplTaken l tag status false data = t.strayCpl l tag false := by
  simp only [State.cplTaken, h]

theorem State.req?_tag {t : State} (h : t.req? l tag = some r) : r.link = l ∧ r.tag = tag := by
  have := List.find?_some h
  simpa using this

/-- The next bytes of a read are kept with its request. -/
def State.gotMore (t : State) (r : Req) (got : Bytes) : State :=
  { t with hs := { t.hs with
    reqs := t.hs.reqs.map fun x => if x.link == r.link && x.tag == r.tag then { x with got := got } else x } }

theorem find?_map_of_match {α : Type} {p : α → Bool} {g : α → α} {l : List α} {a : α} (h : l.find? p = some a)
    (keep : ∀ x, p (if p x then g x else x) = p x) : (l.map fun x => if p x then g x else x).find? p = some (g a) := by
  induction l with
  | nil => cases h
  | cons b l ih =>
    rw [List.map_cons, List.find?_cons, keep]
    rw [List.find?_cons] at h
    split
    next hb =>
      rw [hb] at h
      cases h
      rw [if_pos hb]
    next hb =>
      rw [hb] at h
      exact ih h

theorem State.gotMore_req? {t : State} (h : t.req? l tag = some r) (got : Bytes) :
    (t.gotMore r got).req? l tag = some { r with got := got } := by
  obtain ⟨rfl, rfl⟩ := State.req?_tag h
  refine find?_map_of_match (p := fun x : Req => x.link == r.link && x.tag == r.tag) (g := fun x => { x with got := got }) h
    fun x => ?_
  split <;> rfl

theorem State.takeCpl_more {t : State} {data : Bytes} (kind : r.kind ≠ 2) (short : (r.got ++ data).length < r.len) :
    t.takeCpl r 0 false data = (t.gotMore r (r.got ++ data)).serveLink r.link := by
  unfold State.takeCpl State.takeData
  rw [if_neg (by decide), if_neg (by decide), if_neg (by simp [kind])]
  extract_lets got
  rw [if_pos short]
  rfl

theorem State.takeCpl_dead {t : State} {status : Nat} {data : Bytes} (dead : r.dead = true) (fails : status ≠ 0) :
    t.takeCpl r status false data = ((t.dropReq r).bump (Obj.HST_CPL_ERROR + r.link / 2)).serveLink r.link := by
  unfold State.takeCpl
  extract_lets port s1
  rw [if_neg (by decide), if_pos (by simpa using fails), if_pos dead]

theorem State.strayCpl_effect (t : State) (l tag : Nat) :
    (t.strayCpl l tag false).ctr (Obj.HST_CPL_UNEXPECTED + l / 2) =
      Nat.min u64Max (t.ctr (Obj.HST_CPL_UNEXPECTED + l / 2) + 1) ∧ (t.strayCpl l tag false).hs.reqs = t.hs.reqs := by
  unfold State.strayCpl
  extract_lets f _ s1 s2
  obtain ⟨-, -, -, -, reqs, ctr, -⟩ := (s1.bump (Obj.HST_CPL_UNEXPECTED + l / 2)).aerPut_logged f aerUnexpected false
  rw [if_neg (by decide)]
  exact ⟨(ctr _).trans (State.ctr_bump_self _ _), reqs⟩

/-! ### Malformed requests and timeouts (R312, R313, R319) -/

theorem State.freeze_effect (t : State) {port cause f : Nat} (hp : port < 2) (runs : t.frozen port = false) (hc : cause = 2) :
    (t.freeze port cause f).frozen port = true ∧ (t.freeze port cause f).cfg (Obj.HST_FREEZE_CAUSE + port) = 2 := by
  subst hc
  unfold State.freeze
  rw [if_neg (by simp [runs])]
  extract_lets v s1 s2 s3
  have h1 : s1.cfg (Obj.HST_PORT_FROZEN + port) = 1 ∧ s1.cfg (Obj.HST_FREEZE_CAUSE + port) = 2 := by
    refine ⟨?_, ?_⟩
    · unfold s1
      rw [State.cfg_bump, State.cfg_latch_ne _ _ _ _ (by unfold Obj.HST_PORT_FROZEN Obj.HST_FREEZE_CAUSE; omega),
        State.cfg_latch_self]
    · unfold s1
      rw [State.cfg_bump, State.cfg_latch_self]
      rfl
  have h2 : s2.dict.val = s1.dict.val :=
    List.foldlRecOn (motive := fun a : State => a.dict.val = s1.dict.val) _ _ rfl fun _ h _ _ => h
  have h3 (o : Nat) : s3.cfg o = s1.cfg o := by
    change s2.cfg o = s1.cfg o
    rw [State.cfg, h2, ← State.cfg]
  have raised := s3.raise_told 0x0040 4 (Obj.HST_PORT_FROZEN + port) (toBe 1 port ++ [0, 0, 0] ++ toBe 4 v) none
  have plain : latchedAside (Obj.HST_PORT_FROZEN + port) = false ∧ latchedAside (Obj.HST_FREEZE_CAUSE + port) = false := by
    obtain rfl | rfl : port = 0 ∨ port = 1 := by omega
    · exact ⟨rfl, rfl⟩
    · exact ⟨rfl, rfl⟩
  refine ⟨?_, ?_⟩
  · rw [State.frozen, raised.cfg0 plain.1, h3, h1.1]
    rfl
  · rw [raised.cfg0 plain.2, h3, h1.2]

theorem exec_malformedTlp (alive : s.alive = true) (hl : l < 4) (up : s.linkUp l = true) : exec (.malformedTlp dt l) s =
    .next ((((s.after dt).bump (Obj.HST_MALFORMED_RX + l / 2)).aerLog (linkPf0 l) aerMalformed).freeze (l / 2) 2 0) := by
  have alive' : (s.tick dt).alive = true := alive
  have up' : (s.tick dt).linkUp l = true := up
  refine show execMalformedTlp .. = .next _ from work_then ?_
  rw [alive', up', decide_eq_true hl]
  rfl

theorem exec_completionTimeout {d : Nat} (alive : s.alive = true) (h : s.req? l tag = some r) (cto : (s.fn r.fid).cto = some d)
    (due : r.at_ + d ≤ s.clock + dt) : exec (.completionTimeout dt l tag) s = .next ((s.tick dt).timeoutReq r) := by
  have alive' : (s.tick dt).alive = true := alive
  have h' : (s.tick dt).req? l tag = some r := h
  have cto' : ((s.tick dt).fn r.fid).cto = some d := cto
  have due' : r.at_ + d ≤ (s.tick dt).clock := due
  refine Eq.trans (show execCompletionTimeout .. = .next _ from cmd_then ?_) ?_
  · rw [alive']
    simp only [h', cto', decide_eq_true due', Bool.and_self]
  · simp only [h']

/-- A request is given up; its completion may still come. -/
def State.lateReq (t : State) (r : Req) : State :=
  { t.dropReq r with hs := { (t.dropReq r).hs with late := (t.dropReq r).hs.late ++ [((r.link, r.tag), r.fid)] } }

theorem State.timeoutReq_dead {t : State} (dead : r.dead = true) : t.timeoutReq r =
    if ((t.lateReq r).countCto r.fid).frozen (r.link / 2) = true then (t.lateReq r).countCto r.fid
    else ((t.lateReq r).countCto r.fid).serveLink r.link := by
  unfold State.timeoutReq
  extract_lets s1 _ s2 s3
  have h3 : s3 = (t.lateReq r).countCto r.fid := congrArg (State.countCto · r.fid) (if_pos dead)
  rw [h3]

end

/-! ### Peers (R307, R309) -/

section
variable {s : State} {port op off rid n w : Nat} {ro ido : Bool} {data : Bytes}

/-- What a window that takes a request does: read, write, or an atomic operation. -/
def State.peerAccess (s : State) (port : Nat) (tlp : HostTlp) (op a n : Nat) (data : Bytes) : State :=
  match tlp.kind with
  | 0 => s.reply (2 * port) 0 tlp (memRead s.core.mem a n)
  | 1 => { s with core := { s.core with mem := memWrite s.core.mem a data } }
  | _ => ({ s with core := { s.core with
      mem := memWrite s.core.mem a (toLe n (atomicResult op n (leNat (memRead s.core.mem a n)) data)) } }).reply
        (2 * port) 0 tlp (memRead s.core.mem a n)

theorem State.peerTlp_takes {tlp : HostTlp} (hw : s.peerMatch port off n = some w) (mem : s.core.memUp = true)
    (ready : s.cfgReady port = true) (d0 : (s.fn (port * 8192)).d3 = false) (any : bit (elemWord 4 w 0) 4 = false)
    (fits : elemWord 4 w 2 + (off - elemWord 4 w 1) + n ≤ s.appSize) (len : tlp.kind = 1 → data.length = n)
    (allowed : bit (elemWord 4 w 0) (tlp.kind + 1) = true) (size : tlp.kind = 2 → n = 4 ∨ n = 8) :
    s.peerTlp port tlp op off rid n false data =
      s.peerAccess port tlp op (elemWord 4 w 2 + (off - elemWord 4 w 1)) n data := by
  have hn : (if tlp.kind == 1 then data.length else n) = n := by
    split
    next h => exact len (by simpa using h)
    · rfl
  unfold State.peerTlp
  extract_lets kind n'
  rw [show n' = n from hn, if_neg (by simp [ready, d0]), if_neg (by simp)]
  simp only [hw]
  have size' : (kind != 2 || (n == 4 || n == 8 || (op == 2 && n == 16))) = true := by
    by_cases h : tlp.kind = 2
    · rcases size h with h4 | h8
      · simp [h4]
      · simp [h8]
    · have : (kind != 2) = true := bne_iff_ne.mpr h
      rw [this, Bool.true_or]
  rw [if_neg]
  · rfl
  · have allowed' : bit (elemWord 4 w 0) (kind + 1) = true := allowed
    rw [size', allowed', mem, any, decide_eq_false (by omega)]
    simp

end

/-- Settles O42: requests and completions of hosts, and requests of peers. -/
theorem hostTlpsAreTaken : Obligations.HostTlpsAreTaken := by
  unfold Obligations.HostTlpsAreTaken
  refine ⟨fun dt f off size val ro ido s => ⟨fun bar hbar => ⟨fun reach => ?takes, fun reach host => ?fenced, fun reach => ?nothing,
      fun host up inside => ⟨fun reach => ?read, fun reach => ?ones, fun reach => ?readUr⟩, fun reach => ?ur⟩,
      fun reach => ⟨?cfgRead, ?cfgWrite, ?relaxed, ?atsOff⟩, fun reach kind => ?retry, fun reach up kind => ?absent⟩,
    fun dt l tag s alive => ⟨fun hl up => ⟨fun status ep data r hr => ?cpl, fun data r hr kind short => ?more,
      fun status data r hr dead fails => ?fails, fun status data none_ => ?stray, fun runs => ?malformed⟩,
      fun r d hr cto due => ?timeout⟩,
    fun dt port op off rid n ep ro ido kind data s hp up bar inside hk => ?peer,
    fun port op off rid n w ro ido data s hw mem ready d0 any fits => ⟨_, rfl, fun may => ?peerRead, fun may len => ?peerWrite,
      fun may size => ?peerAtomic⟩⟩
  case takes =>
    refine ⟨(exec_mmioWrite hbar rfl).trans (congrArg _ ?_), fun beyond => if_pos beyond⟩
    rw [State.pageWrite, reach]
  case fenced =>
    refine (exec_mmioWrite hbar rfl).trans (congrArg _ ?_)
    rw [State.pageWrite, reach]
    exact if_neg (by simp [host])
  case nothing =>
    refine (exec_mmioWrite hbar rfl).trans (congrArg _ ?_)
    rw [State.pageWrite, reach]
  case read =>
    have run := exec_mmioRead (dt := dt) (off := off) (size := size) (val := val) (tlp := ⟨0, ro, ido⟩) hbar rfl host up
    rw [State.hostRead_inside _ inside, reach] at run
    obtain ⟨isrOut, isrClock, isrPkts, isrQp⟩ := (s.after dt).readIsr_frame f bar off
    obtain ⟨out, hs, pkts, -⟩ := ((s.after dt).readIsr f bar off).reply_effect ((s.after dt).linkOf f) 0 ⟨0, ro, ido⟩
      ((s.after dt).mmioRead f bar off size) (by simp)
    refine ⟨_, run, ?_, pkts.trans (isrPkts.trans (State.after_pkts s dt)),
      (congrArg HostSide.qp hs).trans (isrQp.trans (congrArg HostSide.qp (s.after_sameHosts dt).hs))⟩
    rw [out, isrOut, isrClock, State.after_out, (s.after_sameHosts dt).linkOf, State.after_clock]
    rfl
  case ones =>
    have run := exec_mmioRead (dt := dt) (off := off) (size := size) (val := val) (tlp := ⟨0, ro, ido⟩) hbar rfl host up
    rw [State.hostRead_inside _ inside, reach] at run
    obtain ⟨out, hs, pkts, -⟩ := (s.after dt).reply_effect ((s.after dt).linkOf f) 0 ⟨0, ro, ido⟩
      (List.replicate size 0xFF) (by simp)
    refine ⟨_, run, ?_, pkts.trans (State.after_pkts s dt), hs.trans (s.after_sameHosts dt).hs⟩
    rw [out, State.after_out, (s.after_sameHosts dt).linkOf, State.after_clock]
    rfl
  case readUr =>
    have run := exec_mmioRead (dt := dt) (off := off) (size := size) (val := val) (tlp := ⟨0, ro, ido⟩) hbar rfl host up
    rw [State.hostRead_inside _ inside, reach] at run
    obtain ⟨lClock, lPkts, -, lQp, -, -, pre, lOut⟩ := (s.after dt).urLogged_logged f
    obtain ⟨out, hs, pkts, -⟩ := ((s.after dt).urLogged f).reply_effect ((s.after dt).linkOf f) 1 ⟨0, ro, ido⟩ [] (by simp)
    refine ⟨_, pre, run, ?_, pkts.trans (lPkts.trans (State.after_pkts s dt)),
      (congrArg HostSide.qp hs).trans (lQp.trans (congrArg HostSide.qp (s.after_sameHosts dt).hs))⟩
    rw [State.urTlp_eq, out, lOut, lClock, State.after_out, (s.after_sameHosts dt).linkOf, State.after_clock]
    rfl
  case ur =>
    obtain ⟨-, pkts, core, qp, -⟩ := (s.after dt).urLogged_logged f
    refine ⟨(s.after dt).urLogged f, (exec_mmioWrite hbar rfl).trans (congrArg _ ?_), pkts.trans (State.after_pkts s dt),
      qp.trans (congrArg HostSide.qp (s.after_sameHosts dt).hs), core.trans (s.after_sameHosts dt).core⟩
    rw [State.pageWrite, reach]
    exact State.reply_posted _ _ _ _ _ rfl
  case cfgRead =>
    obtain ⟨out, hs, pkts, -⟩ := (s.after dt).reply_effect ((s.after dt).linkOf f) 0 ⟨0, ro, ido⟩
      (toLe size ((s.after dt).cfgRead f off)) (by simp)
    refine ⟨_, exec_cfgRequest.trans (congrArg _ (State.cfgAsk_takes reach)), ?_, hs.trans (s.after_sameHosts dt).hs,
      pkts.trans (State.after_pkts s dt)⟩
    refine out.trans ?_
    rw [State.after_out, (s.after_sameHosts dt).linkOf, State.after_clock]
    rfl
  case cfgWrite =>
    exact exec_cfgRequest.trans (congrArg _ ((State.cfgAsk_takes reach).trans (State.cfgAnswer_write _ f off size val ro ido)))
  case relaxed =>
    refine ⟨_, exec_cfgRequest.trans (congrArg _ (State.cfgAsk_takes reach)), ?_⟩
    rw [State.cfgAnswer_write, State.fn, (State.reply_effect _ _ _ _ _ (by simp)).2.1]
    exact (s.after dt).cfgWrite_relaxed f val
  case atsOff =>
    refine ⟨_, exec_cfgRequest.trans (congrArg _ (State.cfgAsk_takes reach)), ?_, ?_⟩
    · rw [State.cfgAnswer_write, State.fn, (State.reply_effect _ _ _ _ _ (by simp)).2.1]
      exact ((s.after dt).cfgWrite_atsOff f).1
    · rw [State.cfgAnswer_write, (State.reply_effect _ _ _ _ _ (by simp)).2.1, ((s.after dt).cfgWrite_atsOff f).2,
        (s.after_sameHosts dt).hs]
      rfl
  case retry =>
    obtain ⟨out, hs, pkts, -⟩ := (s.after dt).reply_effect ((s.after dt).linkOf f) 2 ⟨0, ro, ido⟩ [] (by simp)
    refine ⟨_, exec_cfgRequest.trans (congrArg _ (State.cfgAsk_retry reach)), ?_, hs.trans (s.after_sameHosts dt).hs,
      pkts.trans (State.after_pkts s dt)⟩
    refine out.trans ?_
    rw [State.after_out, (s.after_sameHosts dt).linkOf, State.after_clock]
    rfl
  case absent =>
    have same := s.after_sameHosts dt
    have up' : (s.after dt).linkUp ((s.after dt).linkOf f) = true :=
      (congrArg _ (same.linkOf f)).trans ((same.linkUp _).trans up)
    obtain ⟨out, hs, pkts, -⟩ := (s.after dt).reply_effect ((s.after dt).linkOf f) 1 ⟨0, ro, ido⟩ [] (by simp)
    refine ⟨_, exec_cfgRequest.trans (congrArg _ (State.cfgAsk_nothing reach up')), ?_, hs.trans same.hs,
      pkts.trans (State.after_pkts s dt)⟩
    refine out.trans ?_
    rw [State.after_out, same.linkOf, State.after_clock]
    rfl
  case cpl =>
    have hr' : (s.after dt).req? l tag = some r := ((s.after_sameHosts dt).req? l tag).trans hr
    rw [exec_completionArrival alive hl up, State.cplTaken_known hr']
  case more =>
    have works : (s.after dt).hs.works = s.hs.works := congrArg HostSide.works (s.after_sameHosts dt).hs
    have hr' : (s.after dt).req? l tag = some r := ((s.after_sameHosts dt).req? l tag).trans hr
    refine ⟨(s.after dt).gotMore r (r.got ++ data), ?_, State.gotMore_req? hr' _, works, State.after_pkts s dt⟩
    rw [exec_completionArrival alive hl up, State.cplTaken_known hr', State.takeCpl_more kind short]
  case fails =>
    have works : (s.after dt).hs.works = s.hs.works := congrArg HostSide.works (s.after_sameHosts dt).hs
    have hr' : (s.after dt).req? l tag = some r := ((s.after_sameHosts dt).req? l tag).trans hr
    obtain ⟨link, tag_⟩ := State.req?_tag hr
    refine ⟨((s.after dt).dropReq r).bump (Obj.HST_CPL_ERROR + l / 2), ?_, ?_, works, ?_⟩
    · rw [exec_completionArrival alive hl up, State.cplTaken_known hr', State.takeCpl_dead dead fails, link]
    · change (s.after dt).hs.reqs.filter (fun x => !(x.link == r.link && x.tag == r.tag)) = _
      rw [link, tag_, (s.after_sameHosts dt).hs]
      rfl
    · have other : Obj.HST_CPL_ERROR + l / 2 ≠ Obj.PWR_STEP_ENTRIES := by
        unfold Obj.HST_CPL_ERROR Obj.PWR_STEP_ENTRIES
        omega
      have count : ((s.after dt).dropReq r).ctr (Obj.HST_CPL_ERROR + l / 2) = s.ctr (Obj.HST_CPL_ERROR + l / 2) :=
        State.after_ctr other
      rw [State.ctr_bump_self, count]
  case stray =>
    have none' : (s.after dt).req? l tag = none := ((s.after_sameHosts dt).req? l tag).trans none_
    obtain ⟨ctr, reqs⟩ := (s.after dt).strayCpl_effect l tag
    refine ⟨_, ?_, ctr, reqs.trans (congrArg HostSide.reqs (s.after_sameHosts dt).hs)⟩
    rw [exec_completionArrival alive hl up, State.cplTaken_stray none']
  case malformed =>
    have hp : l / 2 < 2 := by omega
    have logged := ((s.after dt).bump (Obj.HST_MALFORMED_RX + l / 2)).aerPut_hostOnly (linkPf0 l) aerMalformed false
    have plain : latchedAside (Obj.HST_PORT_FROZEN + l / 2) = false := by
      obtain h | h : l / 2 = 0 ∨ l / 2 = 1 := by omega
      · rw [h]
        rfl
      · rw [h]
        rfl
    have runs' : (((s.after dt).bump (Obj.HST_MALFORMED_RX + l / 2)).aerLog (linkPf0 l) aerMalformed).frozen (l / 2) = false := by
      rw [State.frozen, State.aerLog, logged.cfg _ _ plain (by decide), State.cfg_bump, ← State.frozen]
      exact ((s.after_sameHosts dt).frozen _).trans runs
    exact ⟨_, exec_malformedTlp alive hl up, State.freeze_effect _ hp runs' rfl⟩
  case timeout =>
    obtain ⟨link, tag_⟩ := State.req?_tag hr
    refine ⟨exec_completionTimeout alive hr cto due, fun dead => ⟨(s.tick dt).lateReq r, ?_, rfl, ?_, ?_⟩⟩
    · change s.hs.reqs.filter (fun x => !(x.link == r.link && x.tag == r.tag)) = _
      rw [link, tag_]
    · change s.hs.late ++ [((r.link, r.tag), r.fid)] = _
      rw [link, tag_]
    · rw [State.timeoutReq_dead dead, link]
  case peer =>
    have up' : (s.tick dt).linkUp (2 * port) = true := up
    have bar' : (s.tick dt).cfg (Obj.HST_PEER_BAR_LOG2 + port) ≠ 0 := bar
    have inside' : off + n ≤ 2 ^ (s.tick dt).cfg (Obj.HST_PEER_BAR_LOG2 + port) := inside
    refine show execPeerTlp .. = .next _ from work_then ?_
    rw [decide_eq_true hp, up', bne_iff_ne.mpr bar', decide_eq_true inside', decide_eq_true hk]
    rfl
  case peerRead =>
    rw [State.peerTlp_takes hw mem ready d0 any fits (by simp) may (by simp)]
    obtain ⟨out, hs, -, core⟩ := s.reply_effect (2 * port) 0 ⟨0, ro, ido⟩
      (memRead s.core.mem (elemWord 4 w 2 + (off - elemWord 4 w 1)) n) (by simp)
    exact ⟨_, rfl, out, core, hs⟩
  case peerWrite =>
    rw [State.peerTlp_takes hw mem ready d0 any fits (fun _ => len) may (by simp)]
    refine ⟨_, rfl, fun i hi wf => ?_, fun b hb => memGet_memWrite_out _ _ _ _ (by omega), rfl, rfl⟩
    have hi' : i < data.length := by omega
    exact (memGet_memWrite_in s.core.mem _ i data wf hi').trans (getD_of_lt hi').symm
  case peerAtomic =>
    rw [State.peerTlp_takes hw mem ready d0 any fits (by simp) may (fun _ => size)]
    obtain ⟨out, hs, -, core⟩ := State.reply_effect ({ s with core := { s.core with
      mem := memWrite s.core.mem (elemWord 4 w 2 + (off - elemWord 4 w 1)) (toLe n (atomicResult op n (leNat (memRead s.core.mem
        (elemWord 4 w 2 + (off - elemWord 4 w 1)) n)) data)) } }) (2 * port) 0 ⟨2, ro, ido⟩
      (memRead s.core.mem (elemWord 4 w 2 + (off - elemWord 4 w 1)) n) (by simp)
    refine ⟨_, rfl, fun b hb => ?_, out, hs⟩
    refine (congrArg (fun c => memGet c.mem b) core).trans (memGet_memWrite_out _ _ _ _ ?_)
    rw [length_toLe]
    exact hb

end Sys2Proof.Machine
end

section
/-!
PROOFS. Lookaside cipher operations (R357, R371, R375, R376).
-/

namespace Sys2Proof.Machine

/-! ### Reads of a core-side function (R332) -/

theorem State.inApp_congr {s t : State} (core : t.core = s.core) (size : t.cfg Obj.MEM_APP_SIZE = s.cfg Obj.MEM_APP_SIZE)
    (addr n : Nat) : t.inApp addr n = s.inApp addr n := by
  have app : t.appSize = s.appSize := by rw [State.appSize, core, size, ← State.appSize]
  rw [State.inApp, app, ← State.inApp]

theorem State.appRead_congr {s t : State} (core : t.core = s.core) (flt : t.flt = s.flt)
    (size : t.cfg Obj.MEM_APP_SIZE = s.cfg Obj.MEM_APP_SIZE) (addr n : Nat) : t.appRead addr n = s.appRead addr n := by
  have poisoned : t.poisoned = s.poisoned := by
    funext off n
    rw [State.poisoned, flt, ← State.poisoned]
  rw [State.appRead, State.inApp_congr core size, poisoned, core, ← State.appRead]

section
variable {s : State} {f q : Nat} {x : Qp} {attr : Attr} {given : HostRead}

theorem State.fetch_core (core : coreFid f = true) (ready : x.fail = false) {addr n : Nat} {b : Bytes}
    (hb : s.appRead addr n = some b) : s.fetch f q x attr [(addr, n, false)] given = .got b s := by
  have go : s.jobAccess f q x [(addr, n, false)] = .go := by
    unfold State.jobAccess
    rw [if_neg (by simp [ready]), if_pos core, if_pos]
    rw [List.all_eq_true]
    intro a ha
    obtain rfl : a = (addr, n, false) := by simpa using (List.mem_filter.mp ha).1
    simp [hb]
  unfold State.fetch
  rw [go]
  simp only [core, if_true, List.mapM_cons, List.mapM_nil, hb]
  simp

theorem State.jobFetch_core (core : coreFid f = true) (ready : x.fail = false) {d : Bytes} (hd : s.jobDesc f x given = some d) :
    s.jobFetch f q x given = .got d s := by
  unfold State.jobDesc at hd
  rw [if_pos core] at hd
  exact State.fetch_core core ready hd

end

/-! ### A descriptor that is taken up (R375) -/

section
variable (s : State) (f q : Nat)

theorem State.jobTaken_frame : (s.jobTaken f q).cry = s.cry ∧ (s.jobTaken f q).core = s.core ∧
    (s.jobTaken f q).hs.runs = s.hs.runs := by
  unfold State.jobTaken
  split <;> exact ⟨rfl, rfl, rfl⟩

theorem State.jobTaken_qp? {x : Qp} (hx : s.qp? f q = some x) :
    (s.jobTaken f q).qp? f q = some { x with taken := (x.taken + 1) % 2 ^ 32, fail := false } := by
  unfold State.jobTaken
  simp only [hx]
  exact State.qp?_setQp_self _ _ _ _

theorem State.laStart_effect (d : Bytes) (ends : Nat) (slot : Option Nat) (status : Nat) (r : LaRes) :
    (s.laStart f q d ends slot status r).hs.runs = s.hs.runs ++ [⟨f, q, d, ends, slot, status, r⟩] ∧
    (s.laStart f q d ends slot status r).cry.ring = s.cry.ring ∧ (s.laStart f q d ends slot status r).cry.sas = s.cry.sas ∧
    (s.laStart f q d ends slot status r).core = s.core := by
  unfold State.laStart
  extract_lets r1 s1
  obtain ⟨cry, core, runs⟩ := State.jobTaken_frame ({ s1 with hs := { s1.hs with runs := s1.hs.runs ++ [r1] } }) f q
  exact ⟨runs, (congrArg Crypt.ring cry).trans rfl, (congrArg Crypt.sas cry).trans rfl, core⟩

theorem State.laStart_qp? {x : Qp} (hx : s.qp? f q = some x) (d : Bytes) (ends : Nat) (slot : Option Nat) (status : Nat)
    (r : LaRes) : (s.laStart f q d ends slot status r).qp? f q =
      some { x with taken := (x.taken + 1) % 2 ^ 32, fail := false } :=
  State.jobTaken_qp? _ f q hx

/-! ### Keys and engines (R357, R365) -/

/-- What a key taken for an operation leaves unchanged. -/
structure KeyTaken (s t : State) : Prop where
  hs : t.hs = s.hs
  core : t.core = s.core
  flt : t.flt = s.flt
  clock : t.clock = s.clock
  cfg : ∀ o e, t.cfg o e = s.cfg o e
  busy : t.cry.busy = s.cry.busy
  ring : t.cry.ring = s.cry.ring

theorem State.useKdf_taken (s : State) (d : Nat) (k : KdfKey) : KeyTaken s (s.useKdf d k) := by
  unfold State.useKdf
  extract_lets l s1
  split <;> exact ⟨rfl, rfl, rfl, rfl, fun _ _ => rfl, rfl, rfl⟩

theorem State.ringKey_taken {s t : State} {ring slot alg : Nat} {label k : Bytes}
    (h : s.ringKey ring slot alg label = .key k t) : KeyTaken s t := by
  unfold State.ringKey State.workKey at h
  split at h
  · cases h
    exact ⟨rfl, rfl, rfl, rfl, fun _ _ => rfl, rfl, rfl⟩
  · split at h
    · cases h
    · split at h
      · cases h
      · split at h
        · cases h
        · split at h
          · cases h
            exact ⟨rfl, rfl, rfl, rfl, fun _ _ => rfl, rfl, rfl⟩
          · cases h
            exact s.useKdf_taken _ _

theorem State.laEngine_congr {s t : State} (level : t.cfg Obj.THERM_LEVEL = s.cfg Obj.THERM_LEVEL)
    (busy : t.cry.busy = s.cry.busy) (clock : t.clock = s.clock) : t.laEngine = s.laEngine := by
  simp only [State.laEngine, State.laEngines, level, busy, clock]

theorem State.after_flt (s : State) (dt : Nat) : (s.after dt).flt = s.flt := by simp [State.after, State.tick]

theorem State.useEngine_effect {s : State} (free : s.laEngine.isSome = true) (alg n : Nat) :
    (s.clock + 10) * engineUnits ≤ (s.useEngine alg n).1 ∧ (s.useEngine alg n).2.hs = s.hs ∧
    (s.useEngine alg n).2.core = s.core ∧ (s.useEngine alg n).2.cry.ring = s.cry.ring := by
  obtain ⟨e, he⟩ := Option.isSome_iff_exists.mp free
  unfold State.useEngine
  simp only [he]
  refine ⟨?_, rfl, rfl, rfl⟩
  have start := s.engineStart_le (16 + e)
  have time := engineTime_ge alg n
  rw [Nat.add_mul]
  omega

end

/-! ### The commands -/

/-- The row of an operation code. -/
def LaRow (op dt f q : Nat) (given param data : HostRead) (c : Instr) : Prop :=
  op = 1 ∧ c = .encrypt dt f q given param data ∨ op = 2 ∧ c = .decrypt dt f q given param data ∨
    op = 3 ∧ c = .mac dt f q given param data ∨ op = 4 ∧ c = .verify dt f q given param data ∨
    op = 5 ∧ c = .tlsSeal dt f q given param data ∨ op = 6 ∧ c = .tlsOpen dt f q given param data ∨
    op = 7 ∧ c = .xtsEnc dt f q given param data ∨ op = 8 ∧ c = .xtsDec dt f q given param data ∨
    op = 9 ∧ c = .saWrite dt f q given param data ∨ op = 10 ∧ c = .saRead dt f q given param data

section
variable {s : State} {op dt f q : Nat} {given param data : HostRead} {c : Instr} {x : Qp}

theorem LaRow.exec_eq (h : LaRow op dt f q given param data c) : exec c s = laCmd op dt f q given param data s := by
  rcases h with ⟨rfl, rfl⟩ | ⟨rfl, rfl⟩ | ⟨rfl, rfl⟩ | ⟨rfl, rfl⟩ | ⟨rfl, rfl⟩ | ⟨rfl, rfl⟩ | ⟨rfl, rfl⟩ | ⟨rfl, rfl⟩ |
    ⟨rfl, rfl⟩ | ⟨rfl, rfl⟩ <;> rfl

theorem LaRow.op_range (h : LaRow op dt f q given param data c) : 1 ≤ op ∧ op ≤ 10 := by
  unfold LaRow at h
  omega

/-- Everything that a lookaside command asks of a state beside its turn. -/
structure LaOpen (s : State) (f q : Nat) (given param data : HostRead) (x : Qp) : Prop where
  traffic : s.traffic = true
  pair : s.qp? f q = some x
  given : s.mayAnswer f given = true
  param : s.mayAnswer f param = true
  data : s.mayAnswer f data = true

theorem LaOpen.tick (h : LaOpen s f q given param data x) : LaOpen (s.tick dt) f q given param data x :=
  ⟨h.traffic, h.pair, h.given, h.param, h.data⟩

theorem SameHosts.laEnded {s t : State} (h : SameHosts s t) (f q : Nat) : t.laEnded f q = s.laEnded f q := by
  rw [State.laEnded, h.hs, h.clock, ← State.laEnded]

/-- What the fetch of the descriptor in front comes to. -/
def State.laFetched (f q : Nat) (x : Qp) (param data : HostRead) : Fetched → State
  | .wait t1 => t1
  | .lost t1 => (t1.setCry { t1.cry with ring := qpKey f q }).laFail f q [] 3
  | .got d t1 => (t1.setCry { t1.cry with ring := qpKey f q }).laTake f q x d param data

theorem laCmd_takes (h : LaOpen s f q given param data x) (ended : (s.tick dt).laEnded f q = none)
    (next : (s.tick dt).laNext f q = true) (is : laIs op (s.jobDesc f x given) = true) :
    laCmd op dt f q given param data s =
      .next (State.laFetched f q x param data ((s.after dt).jobFetch f q x given)) := by
  obtain ⟨traffic, pair, hgiven, hparam, hdata⟩ := h.tick (dt := dt)
  have is' : laIs op ((s.tick dt).jobDesc f x given) = true := is
  have ended' : (s.tick dt).stir.laEnded f q = none := ((s.after_sameHosts dt).laEnded f q).trans ended
  have pair' : (s.tick dt).stir.qp? f q = some x := ((s.after_sameHosts dt).qp? f q).trans pair
  refine (work_then ?_).trans ?_
  · rw [traffic, hgiven, hparam, hdata, ended, pair]
    simp only [next, is', Bool.and_self]
  · simp only [ended', pair']
    rfl

theorem laCmd_ends {r : LaRun} (h : LaOpen s f q given param data x) (ended : (s.tick dt).laEnded f q = some r)
    (is : laIs op (some r.desc) = true) : laCmd op dt f q given param data s = .next ((s.after dt).laFinish r x) := by
  obtain ⟨traffic, pair, hgiven, hparam, hdata⟩ := h.tick (dt := dt)
  have ended' : (s.tick dt).stir.laEnded f q = some r := ((s.after_sameHosts dt).laEnded f q).trans ended
  have pair' : (s.tick dt).stir.qp? f q = some x := ((s.after_sameHosts dt).qp? f q).trans pair
  refine (work_then ?_).trans ?_
  · rw [traffic, hgiven, hparam, hdata, ended, pair]
    simp only [is, Bool.and_self]
  · simp only [ended', pair']
    rfl

/-! ### The first use of an operation -/

theorem State.laFail_effect (s : State) (f q : Nat) (d : Bytes) (status : Nat) : ∃ r : LaRun,
    (s.laFail f q d status).hs.runs = s.hs.runs ++ [r] ∧ r.fid = f ∧ r.q = q ∧ r.desc = d ∧ r.status = status ∧
    (s.laFail f q d status).cry.ring = s.cry.ring := by
  obtain ⟨runs, ring, -⟩ := s.laStart_effect f q d 0 none status (.data [])
  exact ⟨_, runs, rfl, rfl, rfl, rfl, ring⟩

theorem State.laTake_misaligned {d : Bytes} (h : ldOp d ≠ 10) (bad : ldParam d % 64 ≠ 0) :
    s.laTake f q x d param data = s.laFail f q d 2 := by
  unfold State.laTake
  extract_lets op
  have h' : (op != 10) = true := bne_iff_ne.mpr h
  exact if_pos (by rw [h', bne_iff_ne.mpr bad]; simp)

/-- A descriptor whose checks before its parameters pass. -/
structure LaGood (d : Bytes) : Prop where
  low : 1 ≤ ldOp d
  high : ldOp d ≤ 10
  reserved : fld (leWord d 2) 28 4 = 0
  sa : 9 ≤ ldOp d → fld (leWord d 2) 19 2 = 0
  param : ldOp d ≠ 10 → ldParam d % 64 = 0

theorem State.laTake_good {d : Bytes} (h : LaGood d) : s.laTake f q x d param data =
    if ldOp d == 10 then s.laSa f q d []
    else match s.fetch f q x (s.dataAttr f x (ldAttr d)) [(ldParam d, 128, false)] param with
      | .wait s1 => s1
      | .lost s1 => s1.laFail f q d 3
      | .got p s1 => if ldOp d == 9 then s1.laSa f q d p else s1.laData f q x d p data := by
  unfold State.laTake
  extract_lets op
  refine if_neg ?_
  obtain ⟨low, high, reserved, sa, aligned⟩ := h
  simp only [reserved, Bool.or_eq_true, beq_iff_eq, decide_eq_true_eq, bne_iff_ne, Bool.and_eq_true]
  rintro ((((zero | big) | res) | ⟨is, two⟩) | ⟨ne, mis⟩)
  · exact absurd (show ldOp d = 0 from zero) (by omega)
  · exact absurd (show 10 < ldOp d from big) (by omega)
  · exact res rfl
  · exact two (sa is)
  · exact mis (aligned ne)

theorem State.laTake_param {d p : Bytes} (h : LaGood d) (core : coreFid f = true) (ready : x.fail = false)
    (hp : s.appRead (ldParam d) 128 = some p) (op : ldOp d ≠ 10) : s.laTake f q x d param data =
      if ldOp d == 9 then s.laSa f q d p else s.laData f q x d p data := by
  rw [State.laTake_good h, if_neg (by simpa using op), State.fetch_core core ready hp]

/-- A parameter block that fits its operation. -/
structure LaBlock (op : Nat) (d p : Bytes) : Prop where
  good : pbBad p = false
  alg : pbAlg p ∈ laAlgs op
  len : laLenOk op d p = true

theorem LaBlock.alg_range {op : Nat} {d p : Bytes} (h : LaBlock op d p) : 1 ≤ pbAlg p ∧ pbAlg p ≤ 9 := by
  have alg := h.alg
  unfold laAlgs at alg
  split at alg
  all_goals
    simp only [List.mem_cons, List.not_mem_nil, or_false] at alg
    omega

theorem State.laData_starts {s s1 : State} {d p src key : Bytes} (h : LaBlock (ldOp d) d p) (core : coreFid f = true)
    (ready : x.fail = false) (hkey : s.ringKey (qpKey f q) (pbSlot p) (pbAlg p) (pbLabel p) = .key key s1)
    (hsrc : s1.appRead (ldSrc d) (ldLen d) = some src) (tls : tlsBad (ldOp d) d src = false) :
    s.laData f q x d p data = (s1.useEngine (pbAlg p) (ldLen d)).2.laStart f q d (s1.useEngine (pbAlg p) (ldLen d)).1
      (some (pbSlot p)) 0 (laCompute (ldOp d) key d p src) := by
  obtain ⟨low, high⟩ := h.alg_range
  unfold State.laData
  extract_lets op
  rw [if_neg, if_neg, if_neg]
  · simp only [hkey, State.fetch_core core ready hsrc]
    exact if_neg (by rw [show tlsBad op d src = false from tls]; simp)
  · rw [show laLenOk op d p = true from h.len]
    simp
  · simpa using h.alg
  · rw [h.good]
    simp only [Bool.or_eq_true, beq_iff_eq, decide_eq_true_eq, Bool.false_eq_true, false_or]
    omega

theorem State.laSa_writes {d p : Bytes} (h : ldOp d = 9) (ok : s.saStatus f (ldSa d) p = 0) :
    s.laSa f q d p = (s.saStore (ldSa d) p (ldKeep d)).laStart f q d 0 none 0 (.data []) := by
  unfold State.laSa
  rw [if_pos (by simp [h])]
  simp only [ok]

theorem State.laSa_reads {d p : Bytes} (h : ldOp d = 10) (may : s.saWriter f (ldSa d) none = true) :
    s.laSa f q d p = s.laStart f q d 0 none 0 (.data (s.saRead (ldSa d))) := by
  unfold State.laSa
  rw [if_neg (by simp [h]), if_neg (by simp [may])]

theorem State.saStore_effect (s : State) (i : Nat) (e : Bytes) (keep : Bool) :
    (∃ y, lookup? (s.saStore i e keep).cry.sas i = some y ∧ y.ent = e) ∧ (s.saStore i e keep).hs = s.hs := by
  unfold State.saStore
  extract_lets first new
  split
  next x hx =>
    refine ⟨⟨_, lookup?_assoc_self _ _ _, ?_⟩, rfl⟩
    split <;> rfl
  · exact ⟨⟨new, lookup?_assoc_self _ _ _, rfl⟩, rfl⟩

/-! ### The second use of an operation -/

theorem State.jobOver_eq {t : State} (hx : t.qp? f q = some x) (entry : Bytes) :
    t.jobOver f q entry = t.complete f q (x.cons + 1) entry := by
  unfold State.jobOver
  simp only [hx]

theorem LaRun.place {t : State} {r : LaRun} (h : t.laEnded f q = some r) : r.fid = f ∧ r.q = q := by
  unfold State.laEnded at h
  obtain ⟨found, -⟩ := Option.filter_eq_some_iff.mp h
  have := List.find?_some found
  simpa using this

/-- An operation that failed leaves. -/
def State.laFailed (t : State) (r : LaRun) : State :=
  { t.bump Obj.CIPH_LA_BAD with hs := { (t.bump Obj.CIPH_LA_BAD).hs with runs := t.hs.runs.erase r } }

theorem State.laFinish_failed {t : State} {r : LaRun} (hr : t.laEnded f q = some r) (hx : t.qp? f q = some x)
    (failed : r.status ≠ 0) : t.laFinish r x = (t.laFailed r).complete f q (x.cons + 1) (lcEntry r.desc r.status 0 0 0) := by
  obtain ⟨rfl, rfl⟩ := LaRun.place hr
  unfold State.laFinish
  rw [if_pos (by simpa using failed)]
  exact State.jobOver_eq (t := t.laFailed r) hx _

theorem State.laFinish_writes {t : State} {r : LaRun} {tls : Nat} (ok : r.status = 0) (core : coreFid r.fid = true)
    (inside : t.inApp (ldDst r.desc) r.res.out.length = true) (type : r.res.tls = some tls) : t.laFinish r x =
      ((((t.bump Obj.CIPH_LA_OPS).bumpN Obj.CIPH_LA_AUTH_FAIL (b2n r.res.authFail)).jobWrite r.fid
        (((t.bump Obj.CIPH_LA_OPS).bumpN Obj.CIPH_LA_AUTH_FAIL (b2n r.res.authFail)).dataAttr r.fid x (ldAttr r.desc))
        (ldDst r.desc) r.res.out).laOver r (lcEntry r.desc 0 r.res.verdict tls r.res.out.length)) := by
  have bounds : appBase ≤ ldDst r.desc ∧ ldDst r.desc + r.res.out.length ≤ appBase + t.appSize := by
    simpa [State.inApp] using inside
  have room : t.writable r.fid (t.pasidOf r.fid x) (ldDst r.desc) r.res.out.length = r.res.out.length := by
    unfold State.writable
    rw [if_pos core, if_pos bounds.1]
    exact Nat.min_eq_left (by omega)
  have go : t.jobAccess r.fid r.q { x with fail := x.fail && false } [(ldDst r.desc, r.res.out.length, true)] = .go := by
    unfold State.jobAccess
    rw [Bool.and_false, if_neg Bool.false_ne_true, if_pos core, if_pos]
    rw [List.all_eq_true]
    intro a ha
    obtain rfl : a = (ldDst r.desc, r.res.out.length, true) := by simpa using (List.mem_filter.mp ha).1
    simp [inside]
  unfold State.laFinish
  extract_lets n refused typed s1
  have full : refused = false := decide_eq_false (by rw [room]; exact Nat.lt_irrefl _)
  have known : typed = (tls, t) := by
    unfold typed
    rw [type]
  rw [if_neg (by simp [ok]), full, go]
  clear_value typed
  subst known
  rfl

end

/-- Settles O48: the first and the second use of each lookaside operation. -/
theorem lookasideOperationsAreTakenInTurn : Obligations.LookasideOperationsAreTakenInTurn := by
  unfold Obligations.LookasideOperationsAreTakenInTurn
  intro dt f q op given param data x s c row traffic pair hgiven hparam hdata
  have row : LaRow op dt f q given param data c := row
  have open_ : LaOpen s f q given param data x := ⟨traffic, pair, hgiven, hparam, hdata⟩
  have same := s.after_sameHosts dt
  obtain ⟨low, high⟩ := row.op_range
  rw [row.exec_eq]
  refine ⟨fun ended next is => ?first, fun r ended is => ?second⟩
  case first =>
    rw [laCmd_takes open_ ended next is]
    have pair' : (s.after dt).qp? f q = some x := (same.qp? f q).trans pair
    have runs : (s.after dt).hs.runs = s.hs.runs := congrArg HostSide.runs same.hs
    have cry : (s.after dt).cry = s.cry := State.after_cry s dt
    have flt : (s.after dt).flt = s.flt := State.after_flt s dt
    have size : (s.after dt).cfg Obj.MEM_APP_SIZE = s.cfg Obj.MEM_APP_SIZE := s.after_cfg dt (by decide)
    have reads (addr n : Nat) : (s.after dt).appRead addr n = s.appRead addr n := State.appRead_congr same.core flt size addr n
    have fetched {d : Bytes} (core : coreFid f = true) (ready : x.fail = false) (hd : s.jobDesc f x given = some d) :
        (s.after dt).jobFetch f q x given = .got d (s.after dt) := by
      refine State.jobFetch_core core ready ?_
      rw [State.jobDesc, if_pos core] at hd ⊢
      simp only [reads]
      exact hd
    -- the state that takes the descriptor up
    let u := (s.after dt).setCry { (s.after dt).cry with ring := qpKey f q }
    have readsU (addr n : Nat) : u.appRead addr n = s.appRead addr n := reads addr n
    refine ⟨fun t1 h => ?wait, fun t1 h => ?lost, fun d t1 h => ⟨_, rfl, ?got, fun ne code mis => ?misaligned⟩,
      fun d p src key s1 core ready hd code le res aligned hp good alg len hsrc tls hkey => ?computes,
      fun d p core ready hd code hop res two aligned hp ok => ?saWrite, fun d core ready hd code hop res two may => ?saRead⟩
    case wait => rw [h, State.laFetched]
    case lost =>
      obtain ⟨r, hr, hf, hq, -, hstatus, ring⟩ := (t1.setCry { t1.cry with ring := qpKey f q }).laFail_effect f q [] 3
      exact ⟨_, r, by rw [h, State.laFetched], ring, hr, hf, hq, hstatus⟩
    case got => rw [h, State.laFetched]
    case misaligned =>
      obtain ⟨r, hr, -, -, hdesc, hstatus, -⟩ := (t1.setCry { t1.cry with ring := qpKey f q }).laFail_effect f q d 2
      refine ⟨_, r, ?_, hr, hdesc, hstatus⟩
      rw [h, State.laFetched, State.laTake_misaligned (by omega) mis]
    case computes =>
      subst code
      have wellFormed : LaGood d := ⟨low, high, res, fun h => absurd h (by omega), fun _ => aligned⟩
      have hkey' : u.ringKey (qpKey f q) (pbSlot p) (pbAlg p) (pbLabel p) = .key key s1 := by
        rw [← hkey]
        unfold u
        rw [cry]
      have taken := State.ringKey_taken hkey'
      have free : s1.laEngine.isSome = true := by
        have first : ((s.tick dt).laEngine).isSome = true := by
          unfold State.laNext at next
          exact (Bool.and_eq_true_iff.mp next).1
        have level : (s.after dt).cfg Obj.THERM_LEVEL = (s.tick dt).cfg Obj.THERM_LEVEL := s.after_cfg dt (by decide)
        have busy : s1.cry.busy = (s.tick dt).cry.busy := taken.busy.trans
          (congrArg Crypt.busy cry : (s.after dt).cry.busy = s.cry.busy)
        rw [State.laEngine_congr ((taken.cfg _ _).trans level) busy (taken.clock.trans same.clock)]
        exact first
      have hsrc' : s1.appRead (ldSrc d) (ldLen d) = some src := by
        rw [State.appRead_congr taken.core taken.flt (taken.cfg _ _), readsU, hsrc]
      obtain ⟨time, eHs, eCore, eRing⟩ := State.useEngine_effect free (pbAlg p) (ldLen d)
      have hs1 : (s1.useEngine (pbAlg p) (ldLen d)).2.hs = s.hs := eHs.trans (taken.hs.trans same.hs)
      obtain ⟨hruns, hring, -, hcore⟩ := (s1.useEngine (pbAlg p) (ldLen d)).2.laStart_effect f q d
        (s1.useEngine (pbAlg p) (ldLen d)).1 (some (pbSlot p)) 0 (laCompute (ldOp d) key d p src)
      refine ⟨_, (s1.useEngine (pbAlg p) (ldLen d)).1, ?_, hruns.trans (by rw [hs1]), ?_, ?_, State.laStart_qp? _ f q ?_ _ _ _ _ _,
        hcore.trans (eCore.trans (taken.core.trans same.core))⟩
      · rw [fetched core ready hd, State.laFetched]
        change Host.Outcome.next (u.laTake f q x d param data) = _
        rw [State.laTake_param wellFormed core ready ((readsU _ _).trans hp) (by omega), if_neg (by simp; omega),
          State.laData_starts ⟨good, alg, len⟩ core ready hkey' hsrc' tls]
      · have clock : s1.clock = s.clock + dt := taken.clock.trans (State.after_clock s dt)
        rw [← clock]
        exact time
      · exact hring.trans (eRing.trans taken.ring)
      · rw [State.qp?, hs1]
        exact pair
    case saWrite =>
      have wellFormed : LaGood d := ⟨by omega, by omega, res, fun _ => two, fun _ => aligned⟩
      have ok' : u.saStatus f (ldSa d) p = 0 := ok
      obtain ⟨⟨y, hy, ent⟩, sHs⟩ := u.saStore_effect (ldSa d) p (ldKeep d)
      obtain ⟨hruns, -, hsas, -⟩ := (u.saStore (ldSa d) p (ldKeep d)).laStart_effect f q d 0 none 0 (.data [])
      refine ⟨_, _, y, ?_, hruns.trans (congrArg (· ++ _) ((congrArg HostSide.runs sHs).trans runs)), rfl, ?_, ent⟩
      · rw [fetched core ready hd, State.laFetched]
        change Host.Outcome.next (u.laTake f q x d param data) = _
        rw [State.laTake_param wellFormed core ready ((readsU _ _).trans hp) (by omega), if_pos (by simp [code]),
          State.laSa_writes code ok']
      · rw [hsas, hy]
    case saRead =>
      have wellFormed : LaGood d := ⟨by omega, by omega, res, fun _ => two, fun h => absurd code h⟩
      have may' : u.saWriter f (ldSa d) none = true := by
        have range (i : Nat) : u.cfg Obj.CIPH_SA_WRITER i = s.cfg Obj.CIPH_SA_WRITER i := same.host _ _ (by decide)
        rw [← may]
        simp only [State.saWriter, range]
      have sas : u.cry.sas = s.cry.sas := (congrArg Crypt.sas cry : (s.after dt).cry.sas = s.cry.sas)
      obtain ⟨hruns, -, hsas, -⟩ := u.laStart_effect f q d 0 none 0 (.data (u.saRead (ldSa d)))
      refine ⟨_, _, ?_, hruns.trans (congrArg (· ++ _) runs), rfl, ?_, hsas.trans sas⟩
      · rw [fetched core ready hd, State.laFetched]
        change Host.Outcome.next (u.laTake f q x d param data) = _
        rw [State.laTake_good wellFormed, if_pos (by simp [code]), State.laSa_reads code may']
      · simp only [LaRes.data, State.saRead, sas]
  case second =>
    rw [laCmd_ends open_ ended is]
    have pair' : (s.after dt).qp? f q = some x := (same.qp? f q).trans pair
    have ended' : (s.after dt).laEnded f q = some r := (same.laEnded f q).trans ended
    have runs : (s.after dt).hs.runs = s.hs.runs := congrArg HostSide.runs same.hs
    have count {o : Nat} (h : o ≠ Obj.PWR_STEP_ENTRIES) : (s.after dt).ctr o = s.ctr o := State.after_ctr h
    refine ⟨fun failed => ?failed, fun tls ok core inside type => ?writes⟩
    case failed =>
      refine ⟨(s.after dt).laFailed r, congrArg _ (State.laFinish_failed ended' pair' failed), ?_, pair', ?_⟩
      · change (s.after dt).hs.runs.erase r = _
        rw [runs]
      · change ((s.after dt).bump Obj.CIPH_LA_BAD).ctr Obj.CIPH_LA_BAD = _
        rw [State.ctr_bump_self, count (by decide)]
    case writes =>
      obtain ⟨hf, hq⟩ := LaRun.place ended
      have size : (s.after dt).cfg Obj.MEM_APP_SIZE = s.cfg Obj.MEM_APP_SIZE := s.after_cfg dt (by decide)
      have inside' : (s.after dt).inApp (ldDst r.desc) r.res.out.length = true :=
        (State.inApp_congr same.core size _ _).trans inside
      have run := State.laFinish_writes (t := s.after dt) (x := x) ok (by rw [hf]; exact core) inside' type
      rw [hf] at run
      refine ⟨_, _, congrArg _ run, same.core, runs, ?_⟩
      rw [State.ctr_bumpN_ne _ _ _ _ (by decide), State.ctr_bump_self, count (by decide)]

end Sys2Proof.Machine
end

section
/-!
PROOFS. Storage personas: controllers, their queues, commands and the descriptors that serve them (R377 to R385).
-/

namespace Sys2Proof.Machine

/-! ### Controllers (R377) -/

section
variable {s : State} {f : Nat}

theorem State.nvme_setNvme (s : State) (f : Nat) (x : Nvme) : (s.setNvme f x).nvme f = x := lookupD_assoc_self _ _ _ _

theorem lookupD_of_lookup?_none {α : Type} {l : List (Nat × α)} {k : Nat} {d : α} (h : lookup? l k = none) : lookupD l k d = d := by
  induction l with
  | nil => rfl
  | cons x l ih =>
    rw [lookup?] at h
    rw [lookupD]
    split at h
    · cases h
    next hx =>
      rw [if_neg hx]
      exact ih h

theorem mem_of_lookup? {α : Type} {l : List (Nat × α)} {k : Nat} {v : α} (h : lookup? l k = some v) : (k, v) ∈ l := by
  induction l with
  | nil => cases h
  | cons x l ih =>
    rw [lookup?] at h
    split at h
    next hx =>
      cases h
      exact (beq_iff_eq.mp hx) ▸ List.mem_cons_self
    · exact List.mem_cons_of_mem _ (ih h)

theorem mem_assoc {α : Type} {l : List (Nat × α)} {k : Nat} {v : α} {y : Nat × α} (h : y ∈ assoc l k v) : y = (k, v) ∨ y ∈ l := by
  induction l with
  | nil => exact .inl (by simpa [assoc] using h)
  | cons x l ih =>
    unfold assoc at h
    split at h
    · rcases List.mem_cons.mp h with rfl | h
      · exact .inl rfl
      · exact .inr (List.mem_cons_of_mem _ h)
    · split at h
      · rcases List.mem_cons.mp h with rfl | h
        · exact .inl rfl
        · exact .inr h
      · rcases List.mem_cons.mp h with rfl | h
        · exact .inr List.mem_cons_self
        · exact (ih h).imp_right (List.mem_cons_of_mem _)

theorem State.nvPair_stg (s : State) (f q vec : Nat) (ien : Bool) : (s.nvPair f q vec ien).stg = s.stg := by
  unfold State.nvPair
  extract_lets c
  split <;> rfl

/-- A controller that becomes ready. -/
def State.nvmeReady (s : State) (f cc : Nat) : State :=
  let x := s.nvme f
  (((s.setNvme f { x with cc := cc % 2 ^ 32, csts := 1 }).addSq f 0 x.asq (fld x.aqa 0 12 + 1) 0).addCq f 0 x.acq
    (fld x.aqa 16 12 + 1)).nvPair f 0 0 true

theorem State.nvmeReady_effect (s : State) (f cc : Nat) : ((s.nvmeReady f cc).nvme f).cc = cc % 2 ^ 32 ∧
    ((s.nvmeReady f cc).nvme f).csts = 1 ∧
    lookup? (s.nvmeReady f cc).stg.sq (qpKey f 0) = some ⟨(s.nvme f).asq, fld (s.nvme f).aqa 0 12 + 1, 0, 0, 0⟩ ∧
    lookup? (s.nvmeReady f cc).stg.cq (qpKey f 0) = some ⟨(s.nvme f).acq, fld (s.nvme f).aqa 16 12 + 1, 0, 0, true, []⟩ := by
  unfold State.nvmeReady
  extract_lets x
  rw [State.nvme, State.nvPair_stg]
  refine ⟨?_, ?_, lookup?_assoc_self _ _ _, lookup?_assoc_self _ _ _⟩
  · exact congrArg Nvme.cc (State.nvme_setNvme s f _)
  · exact congrArg Nvme.csts (State.nvme_setNvme s f _)

theorem State.nvmeClear_csts (s : State) (f : Nat) : ((s.nvmeClear f).nvme f).csts = 0 ∧
    ∀ x ∈ (s.nvmeClear f).stg.sq, x.1 / 65536 ≠ f := by
  unfold State.nvmeClear
  extract_lets keep _ s1 x
  have queues : ∀ x ∈ s1.stg.sq, x.1 / 65536 ≠ f := fun x hx => by simpa using (List.mem_filter.mp hx).2
  split
  · refine ⟨?_, queues⟩
    rw [State.nvme_setNvme]
  next none_ =>
    refine ⟨?_, queues⟩
    have absent : lookup? s1.stg.nvme f = none := by simpa using none_
    rw [State.nvme, lookupD_of_lookup?_none absent]

theorem State.nvmeReset_effect (s : State) (f cc : Nat) : ((s.nvmeReset f cc).nvme f).cc = cc % 2 ^ 32 ∧
    ((s.nvmeReset f cc).nvme f).csts = 0 ∧ (∀ x ∈ (s.nvmeReset f cc).hs.qp, x.1 / 65536 ≠ f) ∧
    ∀ x ∈ (s.nvmeReset f cc).stg.sq, x.1 / 65536 ≠ f := by
  unfold State.nvmeReset
  extract_lets s1 _ s2
  obtain ⟨csts, queues⟩ := (s.stgSquashHost f).nvmeClear_csts f
  have own : s2.nvme f = { s1.nvme f with cc := cc % 2 ^ 32 } := State.nvme_setNvme _ _ _
  refine ⟨congrArg Nvme.cc own, (congrArg Nvme.csts own).trans csts, fun x hx => ?_, queues⟩
  simpa using (List.mem_filter.mp hx).2

theorem fld_setFld_two (x : Nat) : fld (setFld x 2 2 2) 2 2 = 2 := by
  unfold setFld fld
  simp only [Nat.shiftRight_eq_div_pow]
  omega

end

section
variable {s : State} {dt f cc : Nat}

theorem exec_controllerEnable (reach : (s.after dt).reach f = .takes) (nvme : (s.after dt).persona f = 3)
    (on : bit cc 0 = true) (off : bit ((s.after dt).nvme f).cc 0 = false) (pairs : (s.after dt).qpCount f ≠ 0) :
    exec (.controllerEnable dt f cc) s = .next ((s.after dt).nvmeReady f cc) := by
  refine (exec_page (c := .controllerEnable dt f cc) rfl reach).trans (congrArg _ ?_)
  exact if_neg (by simp [nvme, on, off, pairs])

theorem exec_controllerReset (reach : (s.after dt).reach f = .takes) (nvme : (s.after dt).persona f = 3)
    (off : bit cc 0 = false) (on : bit ((s.after dt).nvme f).cc 0 = true) :
    exec (.controllerReset dt f cc) s = .next ((s.after dt).nvmeReset f cc) := by
  refine (exec_page (c := .controllerReset dt f cc) rfl reach).trans (congrArg _ ?_)
  exact if_neg (by simp [nvme, on, off])

theorem exec_controllerShutdown (reach : (s.after dt).reach f = .takes) (nvme : (s.after dt).persona f = 3)
    (shuts : fld cc 14 2 ≠ 0) : exec (.controllerShutdown dt f cc) s = .next ((s.after dt).setNvme f
      { (s.after dt).nvme f with cc := cc % 2 ^ 32, csts := setFld ((s.after dt).nvme f).csts 2 2 2 }) := by
  refine (exec_page (c := .controllerShutdown dt f cc) rfl reach).trans (congrArg _ ?_)
  exact if_neg (by simp [nvme, shuts])

end

/-! ### What a successful fetch leaves (R296, R332) -/

section
variable {s t : State} {f q : Nat} {x : Qp} {attr : Attr} {as : List Access} {given : HostRead} {b : Bytes}

theorem State.fetchTlp_core (s : State) (f : Nat) (attr : Attr) (addr n : Nat) : (s.fetchTlp f attr addr n).core = s.core := by
  unfold State.fetchTlp
  extract_lets l
  split
  · rfl
  · refine List.foldlRecOn (motive := fun a : State => a.core = s.core) _ _ rfl fun a ha p _ => ?_
    split
    · refine Eq.trans ?_ ha
      change (a.wakeLink l).core = a.core
      unfold State.wakeLink
      split <;> rfl
    · exact ha

/-- Reads that a command makes at once leave everything but link states and what is sent. -/
structure OnlyAsked (s t : State) : Prop where
  told : HostOnly s t
  hs : t.hs = s.hs
  core : t.core = s.core

theorem OnlyAsked.refl (s : State) : OnlyAsked s s := ⟨.refl s, rfl, rfl⟩

theorem State.fetches_onlyAsked (s : State) (f : Nat) (attr : State → Attr) (as : List Access) :
    OnlyAsked s (as.foldl (fun a x => a.fetchTlp f (attr a) x.1 x.2.1) s) :=
  List.foldlRecOn (motive := OnlyAsked s) _ _ (.refl s) fun _ ha _ _ =>
    ⟨ha.told.trans (State.fetchTlp_hostOnly _ f _ _ _), (State.fetchTlp_hs _ f _ _ _).trans ha.hs,
      (State.fetchTlp_core _ f _ _ _).trans ha.core⟩

theorem State.fetch_got_onlyAsked (h : s.fetch f q x attr as given = .got b t) : OnlyAsked s t := by
  simp only [State.fetch] at h
  split at h
  · cases h
  · cases h
  · split at h
    · split at h
      · cases h
        exact .refl s
      · cases h
    · split at h
      · cases h
        exact .refl s
      · split at h
        · cases h
        · split at h
          · cases h
            exact s.fetches_onlyAsked f (fun _ => attr) as
          · cases h

theorem OnlyAsked.stg (h : OnlyAsked s t) : t.stg = s.stg := by
  obtain ⟨-, -, -, -, -, -, -, -, -, -, -, -, -, -, -, stg, -⟩ := h.told.frame
  exact stg

theorem OnlyAsked.mode (h : OnlyAsked s t) : t.mode = s.mode := by
  obtain ⟨-, -, -, -, -, -, -, -, -, -, mode, -⟩ := h.told.frame
  exact mode

theorem OnlyAsked.qpCount (h : OnlyAsked s t) (f : Nat) : t.qpCount f = s.qpCount f := h.told.sameObjects.qpCount h.mode f

theorem OnlyAsked.vectors (h : OnlyAsked s t) (f : Nat) : t.fnCfg Obj.FN_VECTORS f = s.fnCfg Obj.FN_VECTORS f :=
  h.told.sameObjects.vectors f

theorem OnlyAsked.qp? (h : OnlyAsked s t) (f q : Nat) : t.qp? f q = s.qp? f q := by rw [State.qp?, h.hs, ← State.qp?]

end

/-! ### Admin commands (R378) -/

section
variable {s t : State} {dt f q : Nat} {entry : Bytes}

theorem State.sqTake_frame (s : State) (f q : Nat) : (s.sqTake f q).hs = s.hs ∧ (s.sqTake f q).dict = s.dict ∧
    (s.sqTake f q).mode = s.mode ∧ (s.sqTake f q).stg.cq = s.stg.cq ∧ (s.sqTake f q).stg.nvme = s.stg.nvme := by
  unfold State.sqTake
  split <;> exact ⟨rfl, rfl, rfl, rfl, rfl⟩

theorem State.sqTake_other (s : State) (f : Nat) (h : q ≠ 0) :
    lookup? (s.sqTake f 0).stg.sq (qpKey f q) = lookup? s.stg.sq (qpKey f q) := by
  unfold State.sqTake
  split
  · exact lookup?_assoc_ne _ _ _ _ (by unfold qpKey; omega)
  · rfl

/-- Taking an entry moves a head only. -/
theorem State.sqTake_cqid (s : State) (f q n : Nat) {p : Nat → Prop} (h : ∀ y ∈ s.stg.sq, p y.1 → y.2.cqid ≠ n) :
    ∀ y ∈ (s.sqTake f q).stg.sq, p y.1 → y.2.cqid ≠ n := by
  unfold State.sqTake
  split
  next c hc =>
    intro y hy py
    rcases mem_assoc hy with rfl | hy
    · exact h (qpKey f q, c) (mem_of_lookup? hc) py
    · exact h y hy py
  · exact h

/-- The controller's state as an admin command meets it is that before the fetch, but for the head of the admin queue. -/
structure AdminSees (s t : State) (f : Nat) : Prop where
  sq : ∀ q, q ≠ 0 → lookup? t.stg.sq (qpKey f q) = lookup? s.stg.sq (qpKey f q)
  cq : t.stg.cq = s.stg.cq
  nvme : t.stg.nvme = s.stg.nvme
  count : t.qpCount f = s.qpCount f
  vectors : t.fnCfg Obj.FN_VECTORS f = s.fnCfg Obj.FN_VECTORS f
  cqid : ∀ n, (∀ y ∈ s.stg.sq, y.1 / 65536 = f → y.2.cqid ≠ n) → ∀ y ∈ t.stg.sq, y.1 / 65536 = f → y.2.cqid ≠ n

theorem OnlyAsked.adminSees (h : OnlyAsked s t) (f : Nat) : AdminSees s (t.sqTake f 0) f := by
  obtain ⟨-, dict, mode, cq, nvme⟩ := t.sqTake_frame f 0
  have stg := h.stg
  have vals (o e : Nat) : (t.sqTake f 0).cfg o e = t.cfg o e := by rw [State.cfg, dict, ← State.cfg]
  refine ⟨fun q hq => (t.sqTake_other f hq).trans (by rw [stg]), cq.trans (by rw [stg]), nvme.trans (by rw [stg]), ?_,
    (vals _ _).trans (h.vectors f), fun n hn => t.sqTake_cqid f 0 n (p := fun k => k / 65536 = f) (by rw [stg]; exact hn)⟩
  have count : (t.sqTake f 0).qpCount f = t.qpCount f := by
    rw [State.qpCount, mode, State.fnCfg, vals, ← State.fnCfg, ← State.qpCount]
  exact count.trans (h.qpCount f)

theorem AdminSees.page (h : AdminSees s t f) : (t.nvme f).page = (s.nvme f).page := by rw [State.nvme, h.nvme, ← State.nvme]

theorem AdminSees.freeQid (h : AdminSees s t f) (hq : q ≠ 0) (count : q < s.qpCount f) (few : q ≤ 64) :
    t.badNewQid f q false = false := by
  unfold State.badNewQid
  rw [h.count, Bool.or_false, Bool.or_eq_false_iff, Bool.or_eq_false_iff]
  exact ⟨⟨beq_eq_false_iff_ne.mpr hq, decide_eq_false (by omega)⟩, decide_eq_false (by omega)⟩

theorem AdminSees.createSq (h : AdminSees s t f) {q : Nat} (hq : q = fld (sqeDw entry 10) 0 16) (some_ : q ≠ 0)
    (count : q < s.qpCount f) (few : q ≤ 64) (new : lookup? s.stg.sq (qpKey f q) = none) (hcq : fld (sqeDw entry 11) 16 16 ≠ 0)
    (there : lookup? s.stg.cq (qpKey f (fld (sqeDw entry 11) 16 16)) ≠ none) (two : 1 ≤ fld (sqeDw entry 10) 16 16)
    (pc : bit (sqeDw entry 11) 0 = true) (aligned : sqePrp1 entry % (s.nvme f).page = 0) :
    (t.createSq f entry).1 = 0 ∧ lookup? (t.createSq f entry).2.stg.sq (qpKey f q) =
      some ⟨sqePrp1 entry, fld (sqeDw entry 10) 16 16 + 1, 0, 0, fld (sqeDw entry 11) 16 16⟩ := by
  obtain ⟨c, hc⟩ := Option.ne_none_iff_exists'.mp there
  unfold State.createSq
  extract_lets q' size cqid s1
  have same : q' = q := hq.symm
  have absent : (lookup? t.stg.sq (qpKey f q')).isSome = false := by
    rw [same, h.sq q some_, new]
    rfl
  have hc' : lookup? t.stg.cq (qpKey f cqid) = some c := by
    rw [h.cq]
    exact hc
  have stored : lookup? s1.stg.sq (qpKey f q) =
      some ⟨sqePrp1 entry, fld (sqeDw entry 10) 16 16 + 1, 0, 0, fld (sqeDw entry 11) 16 16⟩ := by
    rw [← same]
    exact lookup?_assoc_self _ _ _
  have hcqid : cqid ≠ 0 := hcq
  have hsize : ¬ size < 2 := by
    change ¬ fld (sqeDw entry 10) 16 16 + 1 < 2
    omega
  rw [if_neg (by rw [absent, same, h.freeQid some_ count few]; simpa using hcqid)]
  simp only [hc']
  rw [if_neg hsize, if_neg (by simp [pc]), if_neg (by simp [h.page, aligned])]
  refine ⟨rfl, ?_⟩
  dsimp only
  split
  · exact stored
  · rw [State.nvPair_stg]
    exact stored

theorem AdminSees.createCq (h : AdminSees s t f) {q : Nat} (hq : q = fld (sqeDw entry 10) 0 16) (some_ : q ≠ 0)
    (count : q < s.qpCount f) (few : q ≤ 64) (new : lookup? s.stg.cq (qpKey f q) = none) (two : 1 ≤ fld (sqeDw entry 10) 16 16)
    (pc : bit (sqeDw entry 11) 0 = true) (vec : fld (sqeDw entry 11) 16 16 < s.fnCfg Obj.FN_VECTORS f)
    (aligned : sqePrp1 entry % (s.nvme f).page = 0) :
    (t.createCq f entry).1 = 0 ∧ lookup? (t.createCq f entry).2.stg.cq (qpKey f q) =
      some ⟨sqePrp1 entry, fld (sqeDw entry 10) 16 16 + 1, 0, 0, true, []⟩ := by
  unfold State.createCq
  extract_lets q' size vec'
  have same : q' = q := hq.symm
  have absent : (lookup? t.stg.cq (qpKey f q')).isSome = false := by
    rw [same, h.cq, new]
    rfl
  have hsize : ¬ size < 2 := by
    change ¬ fld (sqeDw entry 10) 16 16 + 1 < 2
    omega
  have hvec : ¬ t.fnCfg Obj.FN_VECTORS f ≤ vec' := by
    rw [h.vectors]
    exact Nat.not_le.mpr vec
  rw [if_neg (by rw [absent, same, h.freeQid some_ count few]; exact Bool.false_ne_true), if_neg hsize, if_neg (by simp [pc]),
    if_neg hvec, if_neg (by simp [h.page, aligned])]
  refine ⟨rfl, ?_⟩
  rw [State.nvPair_stg, same]
  exact lookup?_assoc_self _ _ _

theorem State.nvPairDrop_stg (s : State) (f q : Nat) : (s.nvPairDrop f q).stg = s.stg := by
  unfold State.nvPairDrop
  split <;> rfl

theorem AdminSees.deleteSq (h : AdminSees s t f) {q : Nat} (hq : q = fld (sqeDw entry 10) 0 16) (some_ : q ≠ 0)
    (there : lookup? s.stg.sq (qpKey f q) ≠ none) :
    (t.deleteSq f entry).1 = 0 ∧ lookup? (t.deleteSq f entry).2.stg.sq (qpKey f q) = none := by
  unfold State.deleteSq
  extract_lets q' s1
  have same : q' = q := hq.symm
  have found : (lookup? t.stg.sq (qpKey f q')).isNone = false := by
    rw [same, h.sq q some_]
    simpa [Option.isSome_iff_ne_none] using there
  rw [if_neg (by rw [found, same]; simpa using some_)]
  refine ⟨rfl, ?_⟩
  rw [State.nvPairDrop_stg, same]
  exact lookup?_dissoc_self _ _

theorem AdminSees.deleteCq (h : AdminSees s t f) {q : Nat} (hq : q = fld (sqeDw entry 10) 0 16) (some_ : q ≠ 0)
    (there : lookup? s.stg.cq (qpKey f q) ≠ none) (unused : ∀ y ∈ s.stg.sq, y.1 / 65536 = f → y.2.cqid ≠ q) :
    (t.deleteCq f entry).1 = 0 ∧ lookup? (t.deleteCq f entry).2.stg.cq (qpKey f q) = none := by
  unfold State.deleteCq
  extract_lets q' _
  have same : q' = q := hq.symm
  have found : (lookup? t.stg.cq (qpKey f q')).isNone = false := by
    rw [same, h.cq]
    simpa [Option.isSome_iff_ne_none] using there
  have free : (t.stg.sq.any fun x => x.1 / 65536 == f && x.2.cqid == q') = false := by
    rw [List.any_eq_false]
    intro y hy
    have := h.cqid q unused y hy
    simpa [same] using this
  rw [if_neg (by rw [found, same]; simpa using some_), free, if_neg Bool.false_ne_true]
  refine ⟨rfl, ?_⟩
  rw [State.nvPairDrop_stg, same]
  exact lookup?_dissoc_self _ _

/-- The row of an admin command's opcode, and what the command does. -/
def AdminRow (dt f : Nat) (entry : Bytes) (c : Instr) (act : State → Nat × State) (op : Nat) : Prop :=
  op = 1 ∧ c = .createIoSubmissionQueue dt f entry ∧ act = (fun t => t.createSq f entry) ∨
    op = 0 ∧ c = .deleteIoSubmissionQueue dt f entry ∧ act = (fun t => t.deleteSq f entry) ∨
    op = 5 ∧ c = .createIoCompletionQueue dt f entry ∧ act = (fun t => t.createCq f entry) ∨
    op = 4 ∧ c = .deleteIoCompletionQueue dt f entry ∧ act = fun t => t.deleteCq f entry

theorem AdminRow.exec_eq {c : Instr} {act : State → Nat × State} {op : Nat} (h : AdminRow dt f entry c act op) :
    exec c s = adminCmd op dt f entry s act := by
  rcases h with ⟨rfl, rfl, rfl⟩ | ⟨rfl, rfl, rfl⟩ | ⟨rfl, rfl, rfl⟩ | ⟨rfl, rfl, rfl⟩ <;> rfl

theorem State.stgFetch_got {x : Qp} {addr n : Nat} {given : HostRead} {act : State → Bytes → State} {b : Bytes} {t1 : State}
    (hx : t.qp? f q = some x) (h : t.fetch f q x (t.ringAttr f x) [(addr, n, false)] given = .got b t1) :
    t.stgFetch f q addr n given act = act t1 b := by
  unfold State.stgFetch
  simp only [hx, h]

theorem adminCmd_runs {act : State → Nat × State} {x : Qp} {b : Bytes} {t1 : State} (alive : s.alive = true)
    (turn : (s.tick dt).nvmeFetch f 0 = true) (hx : s.qp? f 0 = some x)
    (h : (s.after dt).fetch f 0 x ((s.after dt).ringAttr f x) [((s.after dt).sqFront f 0, 64, false)] (.data entry) = .got b t1) :
    adminCmd (sqeOp entry) dt f entry s act =
      .next ((act (t1.sqTake f 0)).2.nvmeAnswer f 0 (sqeCid entry) 0 (act (t1.sqTake f 0)).1) := by
  have alive' : (s.tick dt).alive = true := alive
  have hx' : (s.after dt).qp? f 0 = some x := ((s.after_sameHosts dt).qp? f 0).trans hx
  refine (work_then ?_).trans (congrArg _ (State.stgFetch_got hx' h))
  rw [alive', turn]
  simp

end

/-! ### Commands that arrive (R378, R379) -/

section
variable {s : State} {dt f q ctx : Nat} {entry : HostRead} {b : Bytes} {chain : List (Nat × Nat × Bool)} {x : Qp} {t1 : State}

/-- What an arrival asks of a state beside its queue. -/
structure Arrivable (s : State) (f ctx : Nat) (entry : HostRead) : Prop where
  alive : s.alive = true
  range : ctx < 65536
  free : lookup? s.stg.cmds ctx = none
  answer : s.mayAnswer f entry = true

theorem Arrivable.cond (h : Arrivable s f ctx entry) : ((s.tick dt).alive && decide (ctx < 65536) &&
    (lookup? (s.tick dt).stg.cmds ctx).isNone && (s.tick dt).mayAnswer f entry) = true := by
  have free : (lookup? (s.tick dt).stg.cmds ctx).isNone = true := Option.isNone_iff_eq_none.mpr h.free
  have alive : (s.tick dt).alive = true := h.alive
  have answer : (s.tick dt).mayAnswer f entry = true := h.answer
  rw [alive, decide_eq_true h.range, free, answer]
  rfl

theorem exec_storageArrival_nvme (h : Arrivable s f ctx entry) (hx : s.qp? f q = some x) (nvme : s.persona f = 3)
    (turn : (s.tick dt).nvmeFetch f q = true) (io : q ≠ 0)
    (hb : (s.after dt).fetch f q x ((s.after dt).ringAttr f x) [((s.after dt).sqFront f q, 64, false)] entry = .got b t1) :
    exec (.storageCommandArrival dt f q ctx entry chain) s = .next ((t1.sqTake f q).stgArrive f q ctx b chain) := by
  have hx' : (s.after dt).qp? f q = some x := ((s.after_sameHosts dt).qp? f q).trans hx
  have nvme' : (s.after dt).persona f = 3 := (s.after_persona dt f).trans nvme
  refine Eq.trans (show execStorageCommandArrival .. = .next _ from work_then ?_) (congrArg _ ((if_pos ?_).trans
    (State.stgFetch_got hx' hb)))
  · rw [h.cond (dt := dt), turn]
    simp [io]
  · exact beq_iff_eq.mpr nvme'

theorem exec_storageArrival_virtio (h : Arrivable s f ctx entry) (hx : s.qp? f q = some x) (vblk : s.persona f = 2)
    (turn : (s.tick dt).vblkFetch f q = true) (some_ : chain ≠ [])
    (hb : (s.after dt).fetch f q x ((s.after dt).ringAttr f x) [((chain.headD (0, 0, false)).1, 16, false)] entry = .got b t1) :
    exec (.storageCommandArrival dt f q ctx entry chain) s =
      .next ((t1.setQp f q { x with taken := (x.taken + 1) % 2 ^ 32, cons := (x.cons + 1) % 2 ^ 32 }).stgArrive f q ctx b
        chain) := by
  have hx' : (s.after dt).qp? f q = some x := ((s.after_sameHosts dt).qp? f q).trans hx
  have vblk' : (s.after dt).persona f = 2 := (s.after_persona dt f).trans vblk
  have held : t1.qp? f q = some x := ((State.fetch_got_onlyAsked hb).qp? f q).trans hx'
  refine Eq.trans (show execStorageCommandArrival .. = .next _ from work_then ?_) (congrArg _ ((if_neg ?_).trans
    ((State.stgFetch_got hx' hb).trans ?_)))
  · rw [h.cond (dt := dt), turn]
    simp [some_]
  · exact fun three => absurd ((beq_iff_eq.mp three).symm.trans vblk') (by decide)
  · simp only [held]

/-- A new command and the state that passes it on. -/
theorem State.stgArrive_passes (u : State) {svc : Nat} (h : u.svcPair f = some svc) : ∃ (v : State) (c : StgCmd),
    u.stgArrive f q ctx b chain = v.stgPass ctx c ∧ c.fid = f ∧ c.queue = q ∧ c.svc = svc ∧ c.passed = false ∧
      v.stg.posts = u.stg.posts ∧ v.stg.waiting = u.stg.waiting := by
  unfold State.stgArrive
  extract_lets nv _ v gen body record _ _ s1
  simp only [h]
  refine ⟨s1, _, rfl, ?_⟩
  exact ⟨rfl, rfl, rfl, rfl, rfl, rfl⟩

theorem State.stgPass_waits (v : State) {c : StgCmd} (none_ : lookupD v.stg.posts c.svc [] = []) :
    lookup? (v.stgPass ctx c).stg.cmds ctx = some c ∧ (v.stgPass ctx c).stg.waiting = v.stg.waiting ++ [ctx] := by
  unfold State.stgPass
  rw [none_]
  exact ⟨lookup?_assoc_self _ _ _, rfl⟩

theorem State.appWrite_stg (s : State) (addr : Nat) (bs : Bytes) : (s.appWrite addr bs).stg = s.stg := by
  unfold State.appWrite
  split <;> rfl

/-- A command takes a POST. -/
def State.takesPost (v : State) (ctx : Nat) (c : StgCmd) (rest : List (Nat × Nat)) : State :=
  { v with stg := { v.stg with
      posts := assoc v.stg.posts c.svc rest, cmds := assoc v.stg.cmds ctx { c with passed := true },
      waiting := v.stg.waiting.filter fun w => w != ctx } }

theorem State.stgPass_posted (v : State) {c : StgCmd} {addr cookie : Nat} {rest : List (Nat × Nat)}
    (posted : lookupD v.stg.posts c.svc [] = (addr, cookie) :: rest) : v.stgPass ctx c =
      (((v.takesPost ctx c rest).appWrite addr c.record).bump Obj.STG_CMDS).svcEntry c.svc
        (pcEntry cookie 0 1 0 (stgTag ctx c) 0) := by
  unfold State.stgPass
  rw [posted]
  rfl

theorem State.takesPost_effect (v : State) (ctx : Nat) (c : StgCmd) (rest : List (Nat × Nat)) (addr : Nat) (bs : Bytes) :
    lookup? (((v.takesPost ctx c rest).appWrite addr bs).bump Obj.STG_CMDS).stg.cmds ctx = some { c with passed := true } ∧
    lookupD (((v.takesPost ctx c rest).appWrite addr bs).bump Obj.STG_CMDS).stg.posts c.svc [] = rest := by
  change lookup? ((v.takesPost ctx c rest).appWrite addr bs).stg.cmds ctx = _ ∧
    lookupD ((v.takesPost ctx c rest).appWrite addr bs).stg.posts c.svc [] = rest
  rw [State.appWrite_stg]
  exact ⟨lookup?_assoc_self _ _ _, lookupD_assoc_self _ _ _ _⟩

end

/-! ### Descriptors of service pairs (R380, R381) -/

section
variable {s t : State} {dt f q op : Nat} {x : Qp} {d : Bytes} {act : State → Qp → Bytes → State}

theorem SameHosts.mayRead (h : SameHosts s t) (f : Nat) : t.mayRead f = s.mayRead f := by
  simp only [State.mayRead, h.mayWrite, h.fnExists, h.fn, h.fnCfg (o := Obj.FN_ENABLE) (by decide), h.mode, State.coreLost, h.core]

theorem SameHosts.readPool (h : SameHosts s t) (l : Nat) : t.readPool l = s.readPool l := by
  rw [State.readPool, h.host _ _ (by unfold Obj.HST_BIFURCATE; omega), ← State.readPool]

theorem SameHosts.tagReady (h : SameHosts s t) (f : Nat) : t.tagReady f = s.tagReady f := by
  have masters (l : Nat) : t.busMasters l = s.busMasters l := by
    simp only [State.busMasters, h.hs, h.linkOf]
  have quota : t.quotaEff f = s.quotaEff f := by
    simp only [State.quotaEff, h.readPool, h.linkOf, h.fnCfg (o := Obj.HST_TAG_QUOTA) (by decide), masters]
  have held : t.heldTags f = s.heldTags f := by rw [State.heldTags, h.hs, ← State.heldTags]
  have limit (l : Nat) : t.underLimit l f = s.underLimit l f := by rw [State.underLimit, h.hs, h.fn, ← State.underLimit]
  have free (l lo n : Nat) : t.freeTag l lo n = s.freeTag l lo n := by rw [State.freeTag, h.hs, ← State.freeTag]
  simp only [State.tagReady, held, quota, limit, free, h.readPool, h.linkOf]

/-- What the descriptor in front of a service pair comes to. -/
def State.psTurn (t : State) (f q : Nat) (x : Qp) (act : State → Qp → Bytes → State) : Option Bytes → State
  | none => t.jobDone f q (pcEntry 0 3 2 0 0 0)
  | some d => if psBad d then (t.bump Obj.STG_DESC_BAD).psFail f q d 2 else act t x d

theorem State.after_jobDesc (given : HostRead) :
    (s.after dt).jobDesc f x given = s.jobDesc f x given := by
  have reads (addr n : Nat) : (s.after dt).appRead addr n = s.appRead addr n :=
    State.appRead_congr (s.after_sameHosts dt).core (State.after_flt s dt) (s.after_cfg dt (by decide)) addr n
  simp only [State.jobDesc, reads]

theorem psCmd_runs (alive : s.alive = true) (ready : s.jobReady f q 7 = true) (hx : s.qp? f q = some x)
    (is : psIs op (s.jobDesc f x (.data [])) = true) : psCmd op dt f q s act =
      .next ((s.after dt).psTurn f q x act (s.jobDesc f x (.data []))) := by
  have hx' : (s.tick dt).stir.qp? f q = some x := ((s.after_sameHosts dt).qp? f q).trans hx
  have desc : (s.tick dt).stir.jobDesc f x (.data []) = s.jobDesc f x (.data []) := State.after_jobDesc _
  have alive' : (s.tick dt).alive = true := alive
  have ready' : (s.tick dt).jobReady f q 7 = true := ready
  have held : (s.tick dt).qp? f q = some x := hx
  have is' : psIs op ((s.tick dt).jobDesc f x (.data [])) = true := is
  refine (work_then ?_).trans ?_
  · rw [alive', ready']
    simp only [held, is', Bool.and_self]
  · simp only [hx', desc]
    rfl

theorem State.psTurn_good (t : State) (good : psBad d = false) : t.psTurn f q x act (some d) = act t x d :=
  if_neg (by simp [good])

theorem psIs_self (d : Bytes) : psIs (psOp d) (some d) = true := by simp [psIs]

/-- A POST that waits for a command. -/
def State.postHeld (s : State) (f q : Nat) (x : Qp) (d : Bytes) : State :=
  let s1 := s.setQp f q { x with taken := (x.taken + 1) % 2 ^ 32, cons := (x.cons + 1) % 2 ^ 32 }
  { s1 with stg := { s1.stg with
      posts := assoc s1.stg.posts (qpKey f q) (lookupD s1.stg.posts (qpKey f q) [] ++ [(psAddr d, psCookie d)]) } }

theorem State.psPost_waits (aligned : psAddr d % 64 = 0) (inside : s.inApp (psAddr d) 128 = true)
    (none_ : ∀ w ∈ s.stg.waiting, ∀ y, lookup? s.stg.cmds w = some y → y.svc ≠ qpKey f q) :
    s.psPost f q x d = s.postHeld f q x d := by
  unfold State.psPost
  rw [if_neg (by simp [aligned]), if_neg (by simp [inside])]
  extract_lets k s1 _ s2
  have nobody : (s2.stg.waiting.findSome? fun w =>
      (lookup? s2.stg.cmds w).bind fun c => if c.svc == k then some (w, c) else none) = none := by
    rw [List.findSome?_eq_none_iff]
    intro w hw
    cases hy : lookup? s.stg.cmds w with
    | none =>
      change (lookup? s.stg.cmds w).bind _ = none
      rw [hy]
      rfl
    | some y =>
      change (lookup? s.stg.cmds w).bind _ = none
      rw [hy]
      exact if_neg (by simpa using none_ w hw y hy)
  simp only [nobody]
  rfl

theorem State.postHeld_effect (s : State) (f q : Nat) (x : Qp) (d : Bytes) : (s.postHeld f q x d).qp? f q =
      some { x with taken := (x.taken + 1) % 2 ^ 32, cons := (x.cons + 1) % 2 ^ 32 } ∧
    lookupD (s.postHeld f q x d).stg.posts (qpKey f q) [] =
      lookupD s.stg.posts (qpKey f q) [] ++ [(psAddr d, psCookie d)] :=
  ⟨State.qp?_setQp_self _ _ _ _, lookupD_assoc_self _ _ _ _⟩

/-! ### Answers to commands (R381) -/

theorem HostOnly.cmds (h : HostOnly s t) : t.stg.cmds = s.stg.cmds := by
  obtain ⟨-, -, -, -, -, -, -, -, -, -, -, -, -, -, -, stg, -⟩ := h.frame
  rw [stg]

theorem State.cqPut_cmds (s : State) (f n entry : Nat) : (s.cqPut f n entry).stg.cmds = s.stg.cmds := by
  unfold State.cqPut
  split
  · split
    · rfl
    · extract_lets tail a y s1 s2
      have h2 : s2.stg.cmds = s.stg.cmds := (State.hostWrite_hostOnly (s1.setQp f n y.1) f _).cmds
      split
      · exact (s2.hostWrite_hostOnly f _).cmds.trans h2
      · exact h2
  · rfl

theorem State.nvmeAnswer_cmds (s : State) (f n cid dw0 status : Nat) : (s.nvmeAnswer f n cid dw0 status).stg.cmds = s.stg.cmds := by
  unfold State.nvmeAnswer
  split
  · exact s.cqPut_cmds _ _ _
  · rfl

theorem State.nvCoalesce_cmds (s : State) (c : StgCmd) (status : Nat) : (s.nvCoalesce c status).stg.cmds = s.stg.cmds := by
  unfold State.nvCoalesce
  extract_lets e s1
  split
  · refine List.foldlRecOn (motive := fun a : State => a.stg.cmds = s.stg.cmds) _ _ rfl fun a ha y _ => ?_
    split
    · exact (congrArg Stg.cmds (a.nvPair_stg _ _ _ _)).trans ha
    · exact ha
  · rfl

theorem State.virtioAnswer_cmds (s : State) (f n : Nat) (chain : List (Nat × Nat × Bool)) (len status : Nat) :
    (s.virtioAnswer f n chain len status).stg.cmds = s.stg.cmds := by
  unfold State.virtioAnswer
  extract_lets a s1
  have h1 : s1.stg.cmds = s.stg.cmds := by
    unfold s1
    split
    · exact (s.hostWrite_hostOnly f _).cmds
    · rfl
  exact (s1.virtioUse_hostOnly f n len).cmds.trans h1

/-- The host's completion of a command that core software has answered. -/
def State.stgAnswered (s : State) (c : StgCmd) (d : Bytes) : State :=
  let s1 := s.stgFree (psTag d % 65536)
  if s.persona c.fid == 3 then
    (s1.nvCoalesce c (fld (leWord d 1) 32 16)).nvmeAnswer c.fid c.queue (recordCid c.record) (psAddr d) (fld (leWord d 1) 32 16)
  else s1.virtioAnswer c.fid c.queue c.chain (psAddr d) (fld (leWord d 1) 32 16)

theorem State.stgAnswered_frees (s : State) (c : StgCmd) (d : Bytes) :
    lookup? (s.stgAnswered c d).stg.cmds (psTag d % 65536) = none := by
  have freed : lookup? (s.stgFree (psTag d % 65536)).stg.cmds (psTag d % 65536) = none := lookup?_dissoc_self _ _
  unfold State.stgAnswered
  extract_lets s1
  split
  · rw [State.nvmeAnswer_cmds, State.nvCoalesce_cmds, freed]
  · rw [State.virtioAnswer_cmds, freed]

theorem State.psRespond_unknown (h : s.stgCmd? (qpKey f q) (psTag d) = none) : s.psRespond f q d = s.psFail f q d 2 := by
  unfold State.psRespond
  simp only [h]

theorem State.psRespond_answers {c : StgCmd} (h : s.stgCmd? (qpKey f q) (psTag d) = some c)
    (fits : fld (leWord d 1) 32 16 < (if s.persona c.fid = 3 then 2 ^ 15 else 2 ^ 8)) :
    s.psRespond f q d = (s.stgAnswered c d).jobDone f q (pcEntry (psCookie d) 0 4 0 (psTag d) 0) := by
  unfold State.psRespond
  simp only [h]
  refine if_neg ?_
  rw [Nat.not_le]
  simpa only [beq_iff_eq] using fits

end

/-! ### Transfers from the host (R381 to R384) -/

section
variable {s : State} {f q : Nat} {d : Bytes} {mem : List (Nat × Bytes)}

theorem State.psXfer_unknown {fail : Option ReadFail} (h : s.stgCmd? (qpKey f q) (psTag d) = none ∨ psUnits d = 0) :
    s.psXfer f q d mem fail = s.psFail f q d 2 := by
  unfold State.psXfer
  rcases h with none_ | empty
  · simp only [none_]
  · split
    · exact if_pos (by simp [empty])
    · rfl

/-- A host function whose reads may go out now. -/
structure Fetchable (s : State) (y : StgCmd) (z : Qp) : Prop where
  pair : s.qp? y.fid y.queue = some z
  page : z.page = none
  fail : z.fail = false
  mayRead : s.mayRead y.fid = true
  tag : s.tagReady y.fid = true
  ats : (s.fn y.fid).ats = false
  host : coreFid y.fid = false

theorem Fetchable.jobAccess {y : StgCmd} {z : Qp} (h : Fetchable s y z) (as : List Access) :
    s.jobAccess y.fid y.queue z as = .go := by
  unfold State.jobAccess
  extract_lets as'
  rw [if_neg (by simp [h.fail]), if_neg (by simp [h.host]), if_pos (by simp [h.ats])]

theorem OnlyAsked.startLba {t : State} (h : OnlyAsked s t) (y : StgCmd) (m : Fmt) : t.startLba y m = s.startLba y m := by
  simp only [State.startLba, h.told.sameObjects.persona]

theorem OnlyAsked.inApp {t : State} (h : OnlyAsked s t) (addr n : Nat) : t.inApp addr n = s.inApp addr n :=
  State.inApp_congr h.core (h.told.cfg _ _ rfl (by decide)) addr n

/-- What an XFER from the host reads beside its lists: the data, and a buffer of metadata of its own. -/
structure HostData (mem : List (Nat × Bytes)) (y : StgCmd) (m : Fmt) (d : Bytes) (segs : List (Nat × Nat)) (hs : List Bytes)
    (md : Bytes) : Prop where
  data : segs.mapM (fun g => hostBytes mem g.1 g.2) = some hs
  aside : hostBytes mem (sqeMptr (slice y.record 32 64) + m.hostMd * psUnitOff d)
    (if m.separate then psUnits d * m.hostMd else 0) = some md

theorem State.xferMove_toApp {u : State} {y : StgCmd} {m : Fmt} {x : Xf} {segs : List (Nat × Nat)} {hs : List Bytes} {md : Bytes}
    (hm : x.m = m) (hd : x.d = d) (fromHost : psDir d = false) (read : HostData mem y m d segs hs md)
    (inside : u.inApp (psAddr d) (psUnits d * (m.unit + m.appMd)) = true) :
    u.xferMove f q y x segs (sqeMptr (slice y.record 32 64) + m.hostMd * psUnitOff d) mem =
      ((unitsToApp (psUnits d) hs.flatten md x u).2.2.appWrite (psAddr d) (unitsToApp (psUnits d) hs.flatten md x u).2.1).xferDone
        f q (unitsToApp (psUnits d) hs.flatten md x u).1 := by
  subst hm hd
  unfold State.xferMove
  extract_lets m n mdLen appLen
  rw [if_neg (by rw [show u.inApp (psAddr x.d) appLen = true from inside]; simp), if_neg (by simp [fromHost])]
  have aside : hostBytes mem (sqeMptr (slice y.record 32 64) + x.m.hostMd * psUnitOff x.d) mdLen = some md := read.aside
  simp only [read.data, aside]
  rfl

theorem State.xferRun_toApp {y : StgCmd} {m : Fmt} {segs : List (Nat × Nat)} {lists : List Access} {z : Qp} {hs : List Bytes}
    {md : Bytes} (walk : s.walk y m d mem = .ok (segs, lists)) (open_ : Fetchable s y z) (fromHost : psDir d = false)
    (read : HostData mem y m d segs hs md) (inside : s.inApp (psAddr d) (psUnits d * (m.unit + m.appMd)) = true) :
    ∃ u : State, u.core = s.core ∧ ∃ r, r = unitsToApp (psUnits d) hs.flatten md ⟨m, d, s.startLba y m, none, none⟩ u ∧
      s.xferRun f q y m d none mem none = (r.2.2.appWrite (psAddr d) r.2.1).xferDone f q r.1 := by
  unfold State.xferRun
  simp only [walk, open_.pair, open_.jobAccess]
  rw [if_neg (by simp [open_.page, open_.mayRead, open_.tag])]
  generalize List.filter _ _ = as
  have asked := s.fetches_onlyAsked y.fid (fun a => a.ringAttr y.fid z) as
  refine ⟨_, asked.core, _, rfl, ?_⟩
  rw [asked.startLba]
  exact State.xferMove_toApp rfl rfl fromHost read ((asked.inApp _ _).trans inside)

theorem State.psXfer_plain {y : StgCmd} {m : Fmt} (hy : s.stgCmd? (qpKey f q) (psTag d) = some y)
    (hm : s.format f (psFormat d) = some m) (units : psUnits d ≠ 0) (plain : psXts d = false) (fail : Option ReadFail) :
    s.psXfer f q d mem fail = s.xferRun f q y m d none mem fail := by
  unfold State.psXfer
  simp only [hy, hm]
  rw [if_neg (by simp [units]), if_pos (by simp [plain])]

end

/-- Settles O49: controllers and their queues, arriving commands, and the descriptors of core software. -/
theorem storageControllersQueuesAndCommands : Obligations.StorageControllersQueuesAndCommands := by
  unfold Obligations.StorageControllersQueuesAndCommands
  refine ⟨fun dt f cc s reach nvme => ?controllers, fun dt f entry b x s t1 alive turn hx hb => ?admin,
    fun dt f q ctx entry b chain x s t1 alive hctx free answer hx => ?arrival,
    fun dt f q mem fail x s alive ready hx => ?service⟩
  case controllers =>
    have nvme' : (s.after dt).persona f = 3 := (s.after_persona dt f).trans nvme
    have stg : (s.after dt).stg = s.stg := s.after_stg dt
    have regs : (s.after dt).nvme f = s.nvme f := by rw [State.nvme, stg, ← State.nvme]
    refine ⟨fun on off pairs => ?enable, fun off on => ?reset, fun shuts => ?shutdown⟩
    case enable =>
      have run := exec_controllerEnable reach nvme' on (regs ▸ off) (by rw [State.after_qpCount]; exact pairs)
      refine ⟨_, run, ?_⟩
      rw [← regs]
      exact (s.after dt).nvmeReady_effect f cc
    case reset => exact ⟨_, exec_controllerReset reach nvme' off (regs ▸ on), (s.after dt).nvmeReset_effect f cc⟩
    case shutdown =>
      refine ⟨_, exec_controllerShutdown reach nvme' shuts, ?_, ?_, (s.after_sameHosts dt).hs⟩
      · rw [State.nvme_setNvme]
      · rw [State.nvme_setNvme]
        exact fld_setFld_two _
  case admin =>
    have asked := State.fetch_got_onlyAsked hb
    have run {c : Instr} {act : State → Nat × State} (row : AdminRow dt f entry c act (sqeOp entry)) :
        exec c s = .next ((act (t1.sqTake f 0)).2.nvmeAnswer f 0 (sqeCid entry) 0 (act (t1.sqTake f 0)).1) :=
      row.exec_eq.trans (adminCmd_runs alive turn hx hb)
    refine ⟨fun c act op row code => ⟨_, rfl, run (code ▸ row)⟩, fun q hq some_ => ?queues⟩
    have sees := asked.adminSees f
    have stg : (s.after dt).stg = s.stg := s.after_stg dt
    have regs : (s.after dt).nvme f = s.nvme f := by rw [State.nvme, stg, ← State.nvme]
    rw [← stg, ← regs, ← s.after_qpCount dt f, ← s.after_vectors dt f]
    refine ⟨fun code count few new hcq there two pc aligned => ?createSq, fun code there => ?deleteSq,
      fun code count few new two pc vec aligned => ?createCq, fun code there unused => ?deleteCq⟩
    case createSq =>
      obtain ⟨status, queue⟩ := sees.createSq hq some_ count few new hcq there two pc aligned
      refine ⟨_, (run (.inl ⟨code, rfl, rfl⟩)).trans ?_, queue⟩
      rw [status]
    case deleteSq =>
      obtain ⟨status, queue⟩ := sees.deleteSq hq some_ there
      refine ⟨_, (run (.inr (.inl ⟨code, rfl, rfl⟩))).trans ?_, queue⟩
      rw [status]
    case createCq =>
      obtain ⟨status, queue⟩ := sees.createCq hq some_ count few new two pc vec aligned
      refine ⟨_, (run (.inr (.inr (.inl ⟨code, rfl, rfl⟩)))).trans ?_, queue⟩
      rw [status]
    case deleteCq =>
      obtain ⟨status, queue⟩ := sees.deleteCq hq some_ there unused
      refine ⟨_, (run (.inr (.inr (.inr ⟨code, rfl, rfl⟩)))).trans ?_, queue⟩
      rw [status]
  case arrival =>
    have arrives : Arrivable s f ctx entry := ⟨alive, hctx, free, answer⟩
    refine ⟨fun nvme turn io hb => exec_storageArrival_nvme arrives hx nvme turn io hb,
      fun vblk turn some_ hb => exec_storageArrival_virtio arrives hx vblk turn some_ hb, fun u svc hsvc => ?_⟩
    obtain ⟨v, c, passes, hfid, hqueue, rfl, hpassed, posts, waiting⟩ :=
      State.stgArrive_passes (f := f) (q := q) (ctx := ctx) (b := b) (chain := chain) u hsvc
    rw [passes, ← posts, ← waiting]
    refine ⟨fun none_ => ?waits, fun addr cookie rest posted => ?posted⟩
    case waits =>
      obtain ⟨held, behind⟩ := v.stgPass_waits (ctx := ctx) none_
      exact ⟨c, held, hfid, hqueue, rfl, hpassed, behind⟩
    case posted =>
      obtain ⟨held, left⟩ := v.takesPost_effect ctx c rest addr c.record
      exact ⟨_, { c with passed := true }, v.stgPass_posted posted, held, hfid, hqueue, rfl, left⟩
  case service =>
    have same := s.after_sameHosts dt
    refine ⟨fun none_ => ?lost, fun d hd => ⟨fun bad is => ?bad, fun good => ?good⟩⟩
    case lost =>
      have run := psCmd_runs (op := 1) (dt := dt) (act := fun t x d => t.psPost f q x d) alive ready hx (by rw [none_]; rfl)
      rw [none_] at run
      exact run
    case bad =>
      have run := psCmd_runs (op := 1) (dt := dt) (act := fun t x d => t.psPost f q x d) alive ready hx (by rw [hd]; exact is)
      rw [hd] at run
      exact run.trans (congrArg _ (if_pos bad))
    case good =>
      have run {op : Nat} (act : State → Qp → Bytes → State) (code : psOp d = op) :
          psCmd op dt f q s act = .next (act (s.after dt) x d) := by
        have turn := psCmd_runs (op := op) (dt := dt) (act := act) alive ready hx (by rw [hd, ← code]; exact psIs_self d)
        rw [hd, State.psTurn_good _ good] at turn
        exact turn
      have stg : (s.after dt).stg = s.stg := s.after_stg dt
      have size : (s.after dt).cfg Obj.MEM_APP_SIZE = s.cfg Obj.MEM_APP_SIZE := s.after_cfg dt (by decide)
      have known (ring tag : Nat) : (s.after dt).stgCmd? ring tag = s.stgCmd? ring tag := by
        rw [State.stgCmd?, stg, ← State.stgCmd?]
      refine ⟨fun code aligned inside none_ => ?post, fun code none_ => ?unknown, fun y code hy fits => ?respond, fun code => ?xfer,
        fun code h => ?xferUnknown,
        fun y m segs lists z hs md code hy hm units plain fromHost walk hz page may tag noFail ats host ready_ inside data aside =>
          ?move⟩
      case post =>
        have inside' : (s.after dt).inApp (psAddr d) 128 = true := (State.inApp_congr same.core size _ _).trans inside
        have none' : ∀ w ∈ (s.after dt).stg.waiting, ∀ y, lookup? (s.after dt).stg.cmds w = some y → y.svc ≠ qpKey f q := by
          rw [stg]
          exact none_
        obtain ⟨pair, posts⟩ := (s.after dt).postHeld_effect f q x d
        refine ⟨_, (run (fun t x d => t.psPost f q x d) code).trans (congrArg _ (State.psPost_waits aligned inside' none')), pair,
          posts.trans ?_⟩
        rw [stg]
      case unknown =>
        exact (run (fun t _ d => t.psRespond f q d) code).trans (congrArg _ (State.psRespond_unknown ((known _ _).trans none_)))
      case respond =>
        refine ⟨(s.after dt).stgAnswered y d, (run (fun t _ d => t.psRespond f q d) code).trans (congrArg _
          (State.psRespond_answers ((known _ _).trans hy) ?_)), State.stgAnswered_frees _ y d⟩
        rw [State.after_persona]
        exact fits
      case xfer => exact run (fun t _ d => t.psXfer f q d mem fail) code
      case xferUnknown =>
        exact (run (fun t _ d => t.psXfer f q d mem fail) code).trans
          (congrArg _ (State.psXfer_unknown (h.imp_left (known _ _).trans)))
      case move =>
        have hm' : (s.after dt).format f (psFormat d) = some m := by
          have words : (s.after dt).fmWord = s.fmWord := by
            funext g n w
            rw [State.fmWord, State.after_fn, ← State.fmWord]
          rw [State.format, words, ← State.format, hm]
        have open_ : Fetchable (s.after dt) y z := ⟨(same.qp? _ _).trans hz, page, ready_, (same.mayRead _).trans may,
          (same.tagReady _).trans tag, by rw [same.fn]; exact ats, host⟩
        obtain ⟨u, core, r, hr, moved⟩ := State.xferRun_toApp (f := f) (q := q) walk open_ fromHost ⟨data, aside⟩
          ((State.inApp_congr same.core size _ _).trans inside)
        refine ⟨u, core.trans same.core, r, hr, (run (fun t _ d => t.psXfer f q d mem fail) code).trans (congrArg _ ?_)⟩
        rw [noFail, State.psXfer_plain ((known _ _).trans hy) hm' units plain, moved]

end Sys2Proof.Machine
end
